-- ==== Sys2Proof/Word.lean ====
section
/-! DEFINITION. The word types and the sparse table: a list of (key, value) pairs whose unlisted keys read as a default. -/

namespace Sys2Proof

/-- A byte of memory or of a frame. -/
abbrev Byte := BitVec 8

/-- A 32-bit register or engine word (00 R10). -/
abbrev Word := BitVec 32

/-- A 64-bit machine time or host address. -/
abbrev Word64 := BitVec 64

/-- A sparse table: key and value pairs, keys strictly rising, no value equal to the default of its key. -/
abbrev Sparse (α : Type) := List (Nat × α)

end Sys2Proof
end

