-- ==== Sys2Proof/Syntax.lean ====
section
/-! DEFINITION. The commands of the block: one constructor per row of spec/opcode_table.json, with the operands that
the row's rules name, and the data types of those operands. -/

namespace Sys2Proof

/-- A writable register of PCI Express configuration space beside Bus Master Enable, the power state and MSI-X: a BAR; Device
Control with the largest payload in [7:5] and the largest read request in [14:12]; Device Control 2 with the completion timeout
in [3:0]; Link Control with ASPM L1 in [1]; the words of Advanced Error Reporting, in the order status, mask and severity of
uncorrectable errors, status and mask of correctable ones (02 R43, R44; PRESUMED places, notes/assumptions/13.md). -/
inductive CfgReg where
  | bar (i : Fin 4)
  | devCtl
  | devCtl2
  | linkCtl
  | aer (k : Fin 5)
  deriving DecidableEq, Repr

/-- What a register write outside the command's own row names: a BAR0 offset, a BAR2 offset, the MSI-X control or another register
of configuration space (02 R43, R44). -/
inductive RegTarget where
  | bar0 (off : BitVec 20)
  | bar2 (off : BitVec 13)
  | msixControl
  | cfg (r : CfgReg)
  deriving DecidableEq, Repr

/-- How the redo of a schedule entry ends (01 R36, R40): the refetched descriptor and whether it meets a second
detection, a failed host read, or a redo inside the module and whether it meets a second detection. -/
inductive Redo where
  | desc (d : BitVec 256) (det2 : Bool)
  | readErr
  | inside (det2 : Bool)
  deriving DecidableEq, Repr

/-- How the refetch of a microcode word or of an instruction line ends (01 R32, R36): the word or line passes its check, it meets
a second detection, or host memory cannot be read. -/
inductive Refetch where
  | ok
  | detected
  | unread
  deriving DecidableEq, Repr

/-- One current sample of the closing detection: the current in mA and its stamp (09 R274). -/
structure KinkSample where
  i : BitVec 32
  t : BitVec 64
  deriving DecidableEq, Repr

/-- A detection in the crossing computation of a lever point at a track point, and whether the redo meets another one (01 R36). -/
structure CalcDet where
  p : Fin 256
  fails : Bool
  deriving DecidableEq, Repr

/-- A detection in a map segment of a tile at a track point, whether the redo meets another one, and whether host memory answers the
redo with an error (01 R36). -/
structure SegDet where
  key : BitVec 24
  fails : Bool
  unread : Bool
  deriving DecidableEq, Repr

/-- A CAN frame: the 29-bit identifier field with a base identifier in [28:18], IDE, RTR, FDF, BRS, ESI, DLC and data bytes
in bus order (14 CAN_n_MBm_W0, W1). -/
structure CanFrame where
  id : BitVec 29
  ide : Bool
  rtr : Bool
  fdf : Bool
  brs : Bool
  esi : Bool
  dlc : BitVec 4
  data : List (BitVec 8)
  deriving DecidableEq, Repr

/-- What fails its detection code while a received CAN frame is stored: nothing, the store itself, the words of a receive
buffer, the words of a FIFO filter (14 R426). -/
inductive CanDet where
  | none
  | store
  | buffer (m : Fin 64)
  | filter (f : Fin 16)
  deriving DecidableEq, Repr

/-- What a controller receives: an error-free frame with the MT of its SOF, what fails its code while it is stored and the
table entry that fails at the lookup of the frame's wrapping; or a recessive res bit of an FD frame (14 R412, R415, R426). -/
inductive CanRx where
  | frame (f : CanFrame) (sof : BitVec 64) (det : CanDet) (tab : Option (Bool × BitVec 12))
  | resBit
  deriving DecidableEq, Repr

/-- A bus error as the controller sees it: its code (14 CAN_n_LEC), in the data phase, in the data field, with the identifier
of the frame, whether ISO 11898-1 exempts it from counting, and whether a receiver counts 8 for it (14 R424, R425). -/
structure CanErr where
  code : Fin 7
  fdPhase : Bool
  dataField : Bool
  exempt : Bool
  heavy : Bool
  deriving DecidableEq, Repr

/-- The arrival of a frame on an Ethernet port: its first 60 bytes with the MT of the bit after the SFD and the table entry
(stream table, index) that fails at the lookup, if any; or its end: the bytes after the first 60 without the FCS, and whether
the FCS is right (13 R379, R389, R402, R404). -/
inductive Ingress where
  | head (stamp : BitVec 64) (bytes : List (BitVec 8)) (tab : Option (Bool × BitVec 12))
  | tail (bytes : List (BitVec 8)) (fcsOk : Bool)
  deriving DecidableEq, Repr

/-- How the arithmetic and the stored words of a loop sample fare: no detection, a residue failure whose recompute passes, one
whose recompute fails, a failed coefficient, limit or history word (10 R296). -/
inductive LoopDet where
  | clean
  | recomputed
  | failed
  | badWord
  deriving DecidableEq, Repr

/-- A satellite as an antenna sees it: system (0 GPS, 1 Galileo, 2 BeiDou), number, elevation in degrees, carrier-to-noise density
in dB-Hz (05 R147, R148, R166). -/
structure GnSat where
  sys : Fin 3
  id : Fin 64
  elev : BitVec 8
  cn0 : BitVec 8
  deriving DecidableEq, Repr

/-- An item of the kept data: an ephemeris, an almanac entry, the last position, the UTC offset (05 R165). -/
inductive KeptItem where
  | eph (sys : Fin 3) (id : Fin 64)
  | alm (sys : Fin 3) (id : Fin 64)
  | pos
  | utc
  deriving DecidableEq, Repr

/-- What a start of the GNSS block meets: the satellites of the sky, and whether the antenna is within 10 km of its kept position (05
R166). -/
structure GnSky where
  sats : List GnSat
  near : Bool
  deriving DecidableEq, Repr, Inhabited

/-- An item that the navigation message of a satellite has brought: an almanac entry or an ephemeris, and its data (05 R165). -/
structure NavItem where
  alm : Bool
  sys : Fin 3
  id : Fin 64
  data : List (BitVec 8)
  deriving DecidableEq, Repr

/-- What the navigation processor solves for one antenna at an epoch, which the spec leaves to the solver (05 R160, R161):
whether it has a solution, latitude, longitude, height, standard deviations, correlation, GNSS time of the epoch, time solved,
ambiguities resolved, the satellites it works on, and further systems whose time offset it estimates. -/
structure FixSol where
  valid : Bool
  lat : BitVec 64
  lon : BitVec 64
  hgt : BitVec 32
  sdE : BitVec 16
  sdN : BitVec 16
  sdU : BitVec 16
  rho : BitVec 8
  gt : BitVec 64
  sdT : BitVec 16
  timeSolved : Bool
  fixed : Bool
  used : List GnSat
  others : BitVec 8
  deriving DecidableEq, Repr

/-- What else an epoch brings: a detection in the tracker or navigation state with whether its redo fails, the sample codes of each
stream that its level is measured on, the leap second and the items of the navigation messages, the trackers that have lost lock
with the MT of the loss, and whether the host refuses the write of the fix log (05 R143, R150, R164, R165, 01 R36). -/
structure FixEnv where
  det : Option Bool
  codes : List (List (BitVec 4))
  leap : Option (BitVec 8)
  nav : List NavItem
  lost : List (Fin 256 × BitVec 64)
  logErr : Bool
  deriving DecidableEq, Repr

/-- A tracker: satellite slot, its satellite, band L5, antenna B (05 R147, R150). -/
structure GnTrk where
  slot : Fin 64
  sat : GnSat
  l5 : Bool
  antB : Bool
  deriving DecidableEq, Repr

/-- What one step of the start meets (19 R521, R523, R527, R529, R543): the size in MiB that the SFDP read gives, if it succeeds; a
read or erase failure of the flash; the places in the key table of records whose CRC fails; calibration records whose CRC
fails; the bytes that the radio returns to the reads of its profile's INIT section. -/
structure BootIn where
  sfdp : Option (BitVec 16)
  flashErr : Bool
  badRecs : List Nat
  calibBad : Bool
  radio : List (BitVec 8)
  deriving DecidableEq, Repr

/-- What the debug port does with an engine once DBG_ACCESS is in the instruction register (19 R541): nothing more, a read or a
write of a general register, of a special register, of a word of IMEM or DMEM. -/
inductive DbgAcc where
  | select
  | readG (e : Fin 16) (r : Fin 32)
  | writeG (e : Fin 16) (r : Fin 32) (v : BitVec 32)
  | readS (e : Fin 16) (k : BitVec 8)
  | writeS (e : Fin 16) (k : BitVec 8) (v : BitVec 32)
  | readI (e : Fin 16) (a : BitVec 15)
  | writeI (e : Fin 16) (a : BitVec 15) (v : BitVec 32)
  | readD (e : Fin 16) (a : BitVec 15)
  | writeD (e : Fin 16) (a : BitVec 15) (v : BitVec 32)
  deriving DecidableEq, Repr

/-! ### What the inputs of a command measure -/

/-- An IF stream and the MT of its last transition (05 R146). -/
structure QuietStream where
  n : Fin 4
  last : BitVec 64
  deriving DecidableEq, Repr

/-- A channel and its junction temperature in 0.1 °C (07 R216). -/
structure ChanTj where
  c : Fin 128
  tj : BitVec 16
  deriving DecidableEq, Repr

/-- A bank and its current in mA (07 R219). -/
structure BankMa where
  b : Fin 8
  ma : BitVec 32
  deriving DecidableEq, Repr

/-- A bank's 1 s average current in mA and its dissipation in mW (07 R219). -/
structure BankAvg where
  ma : BitVec 32
  mw : BitVec 16
  deriving DecidableEq, Repr

/-- A bank supply in mV, and the MT since which it has been back within the limit (07 R219). -/
structure VfBack where
  vf : BitVec 16
  since : BitVec 64
  deriving DecidableEq, Repr

/-- An edge as an off channel follows it: the off channel, the MT of the edge, and by how many mV the channel's voltage changed in the
edge's direction within 20 µs after it (07 R225). -/
structure FollowEdge where
  k : Fin 128
  t : BitVec 64
  mv : BitVec 16
  deriving DecidableEq, Repr

/-- A die and the MT of the last valid traffic on its link (01 R22, 07 R232). -/
structure DieQuiet where
  die : Fin 2
  last : BitVec 64
  deriving DecidableEq, Repr

/-- A channel's mean terminal voltage in mV and mean current in mA over 10 ms (09 R277). -/
structure CoilMean where
  mv : BitVec 16
  ma : BitVec 16
  deriving DecidableEq, Repr

/-- How the refetch of a microcode word ends, and the word as the host gives it (01 R32, 09 R284). -/
structure WordRefetch where
  r : Refetch
  word : BitVec 32
  deriving DecidableEq, Repr

/-- A sample of CANn_RX in Fallow (14 R428). -/
structure RxSample where
  n : Fin 4
  dominant : Bool
  deriving DecidableEq, Repr

/-- A sample of the wake sources: the RTC count, and the levels of TOK_IRQ (bit 0) and HOST_WAKE (bit 1) (16 R465). -/
structure WakeSample where
  rtc : BitVec 48
  pins : BitVec 2
  deriving DecidableEq, Repr

/-- A domain whose supply is good, and the µs since REF_EN rose (16 R453, R456). -/
structure GoodDom where
  k : Fin 14
  us : BitVec 32
  deriving DecidableEq, Repr

/-- The level of the ERR_N land and the MT since which it has had it (17 R479). -/
structure ErrnLevel where
  land : Bool
  since : BitVec 64
  deriving DecidableEq, Repr

/-- A stop input and the MT of an edge of it (08 R257). -/
structure StopEdge where
  n : Fin 4
  stamp : BitVec 64
  deriving DecidableEq, Repr

/-- What the PD0 monitor sees: a compare of the mesh pattern (differing or not, none for no compare), the levels of the lid switches,
VBAT in mV, the junction temperature in 0.1 °C (18 R499). -/
structure TampSense where
  mesh : Option Bool
  lids : BitVec 2
  vbat : BitVec 16
  tj : BitVec 16
  deriving DecidableEq, Repr

/-- A token's frame: its payload, and the bytes that the radio returns with it (18 R509). -/
structure TokFrame where
  payload : List (BitVec 8)
  radio : List (BitVec 8)
  deriving DecidableEq, Repr


/-- The commands. Each docstring cites the row's rule of spec/. -/
inductive Instr where
  /-- SQ_DOORBELL, R54: Host writes HL_SQDBn with a new tail index, which the module records or ignores with DB_ERR. -/
  | sqDoorbell (n : Fin 64) (tail : BitVec 32)
  /-- CQ_DOORBELL, R54: Host writes HL_CQDBn to release completion slots it has consumed. -/
  | cqDoorbell (n : Fin 64) (head : BitVec 32)
  /-- DESCRIPTOR_FETCH, R50: Module issues a descriptor read for an SQ whose doorbell covers unfetched slots. -/
  | descriptorFetch (n : Fin 64)
  /-- DESCRIPTOR_ACCEPT, R51: Last byte of a descriptor read arrives and the descriptor is accepted. -/
  | descriptorAccept (n : Fin 64) (ds : List (BitVec 256))
  /-- FETCH_ERR, R77: A descriptor read ends in an error and the SQ stops. -/
  | fetchErr (n : Fin 64)
  /-- HELD_COMPLETION_WRITE, R76: A held completion is written once its CQ has space and the link allows. -/
  | heldCompletionWrite (n : Fin 64)
  /-- WRITE_ERR, R78: Host refuses a completion write and the completion is discarded. -/
  | writeErr (n : Fin 64)
  /-- COALESCE_TIMEOUT, R68: TIME µs pass since the oldest unsignalled completion and the CQ vector is raised. -/
  | coalesceTimeout (n : Fin 64)
  /-- MSIX_PENDING_SEND, R84: A pending MSI-X message is sent once link, power state, bus mastering and mask allow. -/
  | msixPendingSend (v : Fin 64)
  /-- SQ_ENABLE, R79: EN of an SQ goes from 0 to 1, setting TAIL to HEAD and clearing STOPPED. -/
  | sqEnable (n : Fin 64) (cfg : BitVec 32)
  /-- SQ_DISABLE, R80: EN of an SQ goes to 0, stopping fetch and discarding in-flight reads. -/
  | sqDisable (n : Fin 64) (cfg : BitVec 32)
  /-- CQ_ENABLE, R64: EN of a CQ goes to 1, zeroing its indices and setting phase 1. -/
  | cqEnable (n : Fin 64) (cfg : BitVec 32)
  /-- CQ_DISABLE, R81: EN of a CQ goes to 0 and later completions for it are discarded. -/
  | cqDisable (n : Fin 64) (cfg : BitVec 32)
  /-- QUIESCE, R81: Write of QUIESCE in HL_RING_CTRL stops or resumes fetching from every SQ. -/
  | quiesce (v : BitVec 32)
  /-- CONVENTIONAL_RESET, R82: Conventional reset resets configuration space and the host-ring window. -/
  | conventionalReset
  /-- HOT_RESET, R82: Hot reset resets configuration space and the host-ring window. -/
  | hotReset
  /-- FLR, R82: Function-level reset resets configuration space and the host-ring window. -/
  | flr
  /-- LINK_DOWN, R84: PCIe link goes down; completions are discarded and the event is recorded. -/
  | linkDown
  /-- D3HOT_ENTRY, R84: Function enters D3hot and stops host memory accesses. -/
  | d3hotEntry
  /-- D0_RETURN, R84: Function returns to D0 and held completions are written. -/
  | d0Return
  /-- BUS_MASTER_ENABLE_CHANGE, R84: Bus Master Enable changes, stopping or resuming host memory accesses. -/
  | busMasterEnableChange (bme : Bool)
  /-- BAD_ACCESS, R45: A BAR0 access that is not 4 bytes on a 4-byte boundary is refused and counted. -/
  | badAccess (off : BitVec 20) (size : Nat) (wr : Bool)
  /-- OFF_DOMAIN_ACCESS, R24: A register access to a domain that is off reads 0, writes nothing and is counted. -/
  | offDomainAccess (off : BitVec 20) (wr : Bool)
  /-- REGISTER_WRITE, R13: A write to a register field with no row of its own acts by its access code. -/
  | registerWrite (t : RegTarget) (v : BitVec 32)
  /-- MT_CAPTURE, R88: CAPTURE write copies MT and GNSS time into the snapshot registers. -/
  | mtCapture (v : BitVec 32)
  /-- PAIR_SUBMIT, R91: A time pair from a source is submitted to the discipline unit. -/
  | pairSubmit (v : BitVec 32)
  /-- LOSS_TO_EXPIRY, R96: No good measurement for LOSS_TO moves LOCKED to HOLDOVER. -/
  | lossToExpiry
  /-- HOLD_LIMIT_EXPIRY, R96: HOLD_LIMIT passes in HOLDOVER and the state becomes FREERUN. -/
  | holdLimitExpiry
  /-- SLEW_DONE, R95: OFS comes within DEADBAND of the target and slewing ends. -/
  | slewDone
  /-- STEP_ARM, R99: Write of ARM = 1 permits an offset step. -/
  | stepArm
  /-- STEP_WITHDRAW, R99: Write of ARM = 0 while STEP_PEND withdraws the pending step. -/
  | stepWithdraw
  /-- OFS_STEP, R99: At step instant T, OFS is loaded with OFS_new and STEPPED is set. -/
  | ofsStep
  /-- PPS_PULSE, R102: A PPS leading edge is placed and recorded. -/
  | ppsPulse (n : Fin 2)
  /-- PPS_PULSE_END, R102: A PPS pulse ends after WIDTH. -/
  | ppsPulseEnd (n : Fin 2)
  /-- SYNC_PULSE_END, R106: A SYNC pulse reaches its end and the pin returns to IDLE. -/
  | syncPulseEnd (n : Fin 8)
  /-- MARKER_EDGE, R108: An edge on a marker input is time-stamped into its FIFO or dropped. -/
  | markerEdge (n : Fin 8) (tok : Bool) (t : BitVec 64) (rising : Bool)
  /-- MK_POP, R109: POP removes the oldest marker FIFO entry. -/
  | mkPop (n : Fin 8) (v : BitVec 32)
  /-- CANREF_INSERT, R111: Every PERIOD the MT block inserts a reference frame entry. -/
  | canrefInsert
  /-- RTC_SET, R115: SET loads the RTC from MT_RTC_SET at its next edge. -/
  | rtcSet (v : BitVec 32)
  /-- MT_LOAD, R114: At the first RTC edge after wake, MT is loaded from the carry-over. -/
  | mtLoad (rtc : BitVec 48)
  /-- MT_FALLOW_RECORD, R113: After the RTC measurement, MT state is written to AON memory at an RTC edge. -/
  | mtFallowRecord (rtc : BitVec 48) (cal : BitVec 32)
  /-- MT_REF, R116: REF100 found absent or off-frequency raises MT_REF. -/
  | mtRef (absent : Bool)
  /-- SCHEDULE_ACTION, R120: A schedule-action descriptor is parsed and inserted. -/
  | scheduleAction
  /-- COMMIT, R124: An entry commits 20 µs before its fire time, running its checks and leave booking. -/
  | commit (ins : BitVec 32) (det : Bool)
  /-- ENTRY_REFETCH, R40: A refetched descriptor arrives and is checked, or the redo is abandoned. -/
  | entryRefetch (ins : BitVec 32) (r : Redo)
  /-- DISPATCH, R130: A committed entry is dispatched on the action bus at fire time less its lead. -/
  | dispatch (ins : BitVec 32) (det1 det2 : Bool)
  /-- CH_SET, R204: CH_SET action acts on a channel at its placed event. -/
  | chSet (ins : BitVec 32) (ack : Bool)
  /-- CH_DUTY, R204: CH_DUTY action sets duty from the next PWM period. -/
  | chDuty (ins : BitVec 32) (ack : Bool)
  /-- CH_PULSE, R204: CH_PULSE action turns a channel on for its width. -/
  | chPulse (ins : BitVec 32) (ack : Bool)
  /-- CH_PULSE_END, R205: A channel pulse's trailing edge is placed. -/
  | chPulseEnd (c : Fin 128)
  /-- PSQ_START, R265: PSQ_START starts, replaces or releases a current profile at its placed event. -/
  | psqStart (ins : BitVec 32) (ack : Bool)
  /-- LOOP_SP, R299: LOOP_SP action is latched by its slot. -/
  | loopSp (ins : BitVec 32)
  /-- LOOP_MODE, R308: LOOP_MODE action is latched for a Headland transfer. -/
  | loopMode (ins : BitVec 32)
  /-- ADC_SNAP, R212: ADC_SNAP takes a sense snapshot at its placed event. -/
  | adcSnap (ins : BitVec 32) (ack : Bool) (cur volt : BitVec 32)
  /-- CAN_TX, R421: CAN_TX makes a buffer's frame pending at its placed event. -/
  | canTx (ins : BitVec 32) (det : Bool)
  /-- ETH_TX, R397: ETH_TX releases a held frame to its egress queue. -/
  | ethTx (ins : BitVec 32)
  /-- LT_FLIP, R441: LT_FLIP latches the back frame at its placed event. -/
  | ltFlip (ins : BitVec 32)
  /-- SYNC_LVL, R106: SYNC_LVL sets a SYNC pin level. -/
  | syncLvl (ins : BitVec 32)
  /-- SYNC_PULSE, R106: SYNC_PULSE drives a pulse on a SYNC pin. -/
  | syncPulse (ins : BitVec 32)
  /-- ENG_WAKE, R333: ENG_WAKE delivers event bits to or starts the engine holding a role. -/
  | engWake (ins : BitVec 32)
  /-- MARK, R121: MARK records its fire MT and completes. -/
  | mark (ins : BitVec 32)
  /-- SCHEDULE_CANCEL, R136: A schedule-cancel descriptor removes matching uncommitted entries. -/
  | scheduleCancel
  /-- ABORT, R139: A cancel with ABORT cuts short a fired running operation or is ignored. -/
  | abort
  /-- GROUP_CANCEL, R123: An EMIT block with ACTION 0 cancels an engine's uncommitted group entries. -/
  | groupCancel (n : Fin 16)
  /-- FLUSH_HOST, R140: Removes every uncommitted host entry. -/
  | flushHost (v : BitVec 32)
  /-- FLUSH_ENG, R140: Removes every uncommitted engine entry. -/
  | flushEng (v : BitVec 32)
  /-- FLUSH_BND, R140: Removes every uncommitted boundary entry. -/
  | flushBnd (v : BitVec 32)
  /-- GNSS_CORRECTIONS, R156: A corrections descriptor's RTCM frames are read, taken or rejected. -/
  | gnssCorrections (data : List (BitVec 8))
  /-- FIX_EPOCH, R159: At each fix epoch the block solves and posts records. -/
  | fixEpoch (a b : FixSol) (x : FixEnv)
  /-- GN_LOG_HEAD_WRITE, R164: Host moves GN_LOG_HEAD to release log slots. -/
  | gnLogHeadWrite (v : BitVec 32)
  /-- GN_LOG_ENABLE, R164: Enabling the fix log zeroes its index and sets phase 1. -/
  | gnLogEnable (v : BitVec 32)
  /-- FORAGER_BURST, R151: GNSS asks leave and powers PD11 for an acquisition burst. -/
  | foragerBurst (us : BitVec 17)
  /-- ACQ_RETRY, R152: RETRY ms after a refusal the burst leave is asked again. -/
  | acqRetry
  /-- FORAGER_BURST_END, R151: A burst ends, PD11 switches off and leave returns. -/
  | foragerBurstEnd
  /-- GN_ENABLE, R166: EN goes to 1 and tracking and fixes start. -/
  | gnEnable (v : BitVec 32) (sky : GnSky) (bad : List KeptItem)
  /-- GN_DISABLE, R165: EN goes to 0, kept data is saved and any burst stops. -/
  | gnDisable (v : BitVec 32)
  /-- SAVE, R165: SAVE writes kept data now. -/
  | save (v : BitVec 32)
  /-- KEPT_PERIODIC_SAVE, R165: Kept data is saved every 60 s while tracking. -/
  | keptPeriodicSave
  /-- DISCARD, R165: DISCARD clears kept data. -/
  | discard (v : BitVec 32)
  /-- APPLY, R163: APPLY takes the origin registers for the next epoch and advances GEN. -/
  | orgApply (v : BitVec 32)
  /-- NO_DATA, R146: An IF stream without transitions for 1 ms sets NO_DATA. -/
  | noData (x : QuietStream)
  /-- TRACKER_LOCK, R150: A tracker locks and sibling trackers start by prediction. -/
  | trackerLock (t : GnTrk)
  /-- TRACKER_RELEASE, R150: A tracker out of lock for 1 s is released. -/
  | trackerRelease (t : GnTrk)
  /-- TRACK_POINT, R169: Every 10 µs the pose unit computes a track point and the boundary unit tests. -/
  | trackPoint (calcs : List CalcDet) (segs : List SegDet)
  /-- FIX_TO_EXPIRY, R176: No record used for FIX_TO moves the pose to DEAD_RECKONING or LOST. -/
  | fixToExpiry
  /-- DR_LIMIT_EXPIRY, R176: DEAD_RECKONING beyond DR_LIMIT moves the pose to LOST. -/
  | drLimitExpiry
  /-- IMU_SUBMIT, R174: SUBMIT hands an IMU sample to the pose unit. -/
  | imuSubmit (v : BitVec 32)
  /-- POSE_CAPTURE, R177: CAPTURE copies a track point into a snapshot set. -/
  | poseCapture (n : Fin 4) (v : BitVec 32)
  /-- BOUNDARY_MAP_LOAD, R182: A map-load descriptor is checked and its entries read. -/
  | boundaryMapLoad
  /-- MAP_LOAD_END, R183: A map load finishes and the generation is staged. -/
  | mapLoadEnd (ents : List (BitVec 128))
  /-- BND_SWAP, R183: SWAP in BND_CMD schedules the staged generation's swap. -/
  | bndSwap (v : BitVec 32)
  /-- BND_DROP_STG, R184: DROP_STG discards the staged map generation. -/
  | bndDropStg (v : BitVec 32)
  /-- DEACT, R184: DEACT makes the active map inactive. -/
  | deact (v : BitVec 32)
  /-- LEVER_POINT_WRITE, R186: A write to a lever point's words is taken, ignored or refused with BAD_TPL. -/
  | leverPointWrite (p : Fin 256) (w : Fin 8) (v : BitVec 32)
  /-- CH_CMD_ON, R204: CH_CMD ON turns a channel on without placement or leave. -/
  | chCmdOn (c : Fin 128) (v : BitVec 32)
  /-- CH_CMD_OFF, R204: CH_CMD OFF turns a channel off. -/
  | chCmdOff (c : Fin 128) (v : BitVec 32)
  /-- CH_CMD_SAFE, R231: CH_CMD SAFE drives a channel to its safe state. -/
  | chCmdSafe (c : Fin 128) (v : BitVec 32)
  /-- CH_RELEASE, R233: RELEASE in CH_CMD takes a channel out of its safe state. -/
  | chRelease (c : Fin 128) (v : BitVec 32) (link : Bool)
  /-- CLR_LATCH, R218: CLR_LATCH clears LATCHED and RETRIES. -/
  | clrLatch (c : Fin 128) (v : BitVec 32)
  /-- BANK_RELEASE, R233: RELEASE in CH_BANK_CTRL releases every channel of a bank. -/
  | bankRelease (b : Fin 8) (v : BitVec 32) (link : Bool)
  /-- ELIM_LOCK, R228: ELIM_LOCK locks ELIM on every B7 channel. -/
  | elimLock (v : BitVec 32)
  /-- CH_CFG_WRITE, R201: A CH_CFG write changes mode or owner or is refused with BAD_CFG. -/
  | chCfgWrite (c : Fin 128) (v : BitVec 32)
  /-- PWM_PERIOD_START, R207: A channel PWM period starts and new duty takes effect. -/
  | pwmPeriodStart (c : Fin 128) (t : BitVec 64)
  /-- OVER_CURRENT, R214: Switch current reaches OC_TH or the hard limit and the channel turns off. -/
  | overCurrent (c : Fin 128) (ma : BitVec 32) (high : Bool)
  /-- TIME_OVER_CURRENT, R215: 10 ms above rating in 100 ms turns the channel off. -/
  | timeOverCurrent (c : Fin 128) (spans : List (BitVec 64 × BitVec 64))
  /-- OT_WARN, R216: Tj rising through 150 °C sets OT_WARN. -/
  | otWarn (c : Fin 128) (tj : BitVec 16)
  /-- OVER_TEMPERATURE, R216: Tj at 175 °C turns the channel off. -/
  | overTemperature (x : ChanTj)
  /-- RETRY, R217: After RETRY_MS the channel turns on again. -/
  | retry (c : Fin 128) (tj : BitVec 16)
  /-- RETRIES_RESET, R218: 1 s on without a trip resets RETRIES. -/
  | retriesReset (c : Fin 128)
  /-- BANK_HARD_LIMIT, R219: Bank current reaching its hard limit turns off every conducting channel. -/
  | bankHardLimit (x : BankMa)
  /-- BANK_OC, R219: Averaged bank current above its continuous limit raises CH_BANK_OC. -/
  | bankOc (b : Fin 8) (x : BankAvg)
  /-- VF_UV, R219: VF below 5.5 V turns the bank's channels off. -/
  | vfUv (b : Fin 8) (vf : BitVec 16)
  /-- VF_UV_RECOVER, R219: VF above 6.0 V for 1 ms turns commanded channels back on. -/
  | vfUvRecover (b : Fin 8) (x : VfBack)
  /-- VF_OV, R219: VF above 38 V turns the bank's channels off. -/
  | vfOv (b : Fin 8) (vf : BitVec 16)
  /-- VF_OV_RECOVER, R219: VF below 36.5 V for 1 ms returns the outputs. -/
  | vfOvRecover (b : Fin 8) (x : VfBack)
  /-- OFF_DIAGNOSIS, R222: An off channel's diagnosis source is strobed and the terminal read. -/
  | offDiagnosis (c : Fin 128) (mv vf : BitVec 16)
  /-- OPEN_ON, R223: An on channel below OL_TH long enough sets OPEN_ON. -/
  | openOn (c : Fin 128) (ua : BitVec 32)
  /-- XCON_FOLLOW, R225: An off channel following three edges of another is reported as cross-connected. -/
  | xconFollow (j : Fin 128) (x : FollowEdge)
  /-- ELIM_FAULT, R229: Limiter references disagree and the channel turns off. -/
  | elimFault (c : Fin 128) (agree : Bool)
  /-- WD_TRIP, R232: Die watchdog times out and drives every channel to safe state. -/
  | wdTrip (x : DieQuiet)
  /-- LINK_FRAME_ERROR, R238: A die-to-die frame fails its check and is dropped and counted. -/
  | linkFrameError (die : Fin 2)
  /-- CONFIG_INTEG, R238: A channel configuration word fails its code and the channel goes safe. -/
  | configInteg (c : Fin 128)
  /-- CHANNEL_CONFIGURATION, R235: A channel-configuration descriptor is checked and its records read. -/
  | channelConfiguration (recs : List (BitVec 512))
  /-- CONFIG_APPLY, R236: Configuration records apply to all named channels at one MT. -/
  | configApply
  /-- INPUT_EDGE, R245: A filtered input edge is accepted and stamped. -/
  | inputEdge (c : Fin 128) (stamp : BitVec 64) (mv : BitVec 32)
  /-- CH_IN_POP, R246: POP removes the oldest input FIFO entry. -/
  | chInPop (c : Fin 128) (v : BitVec 32)
  /-- AIN_WINDOW_END, R253: An averaging window ends and its mean is written. -/
  | ainWindowEnd (c : Fin 128) (mean : BitVec 32)
  /-- AIN_OVR, R252: AIN_I current above 25 mA or 50 mA sets AIN_OVR or opens the burden. -/
  | ainOvr (c : Fin 128) (ua : BitVec 32)
  /-- BURDEN_CLOSE, R252: 100 ms after opening, the burden closes again. -/
  | burdenClose (c : Fin 128)
  /-- WIRE_BREAK, R254: Window mean below WB_LIM for WB_T sets WIRE_BREAK. -/
  | wireBreak (c : Fin 128)
  /-- WB_CLEAR, R254: Mean at or above WB_LIM for WB_T clears WB_NOW. -/
  | wbClear (c : Fin 128)
  /-- TAG_WINDOW_END, R255: A time or distance tag window ends. -/
  | tagWindowEnd (c : Fin 128)
  /-- TAG_RECORD, R256: L + 2 µs after a window end, its tag record is written. -/
  | tagRecord (c : Fin 128)
  /-- STOP_ENTRY, R257: An enabled stop input's filtered level enters stop. -/
  | stopEntry (n : Fin 4) (stamp : BitVec 64)
  /-- WAKE_STROBE, R259: Every 50 ms the wake inputs are strobed and may wake the module. -/
  | wakeStrobe (levels : BitVec 16) (rtc : BitVec 48)
  /-- END, R266: Profile instruction END switches off and ends the profile. -/
  | psqEnd (c : Fin 128) (det : Bool)
  /-- BOOST, R266: Profile instruction BOOST drives full until current or time. -/
  | psqBoost (c : Fin 128) (ma : BitVec 32) (det : Bool)
  /-- PEAK, R266: Profile instruction PEAK regulates at I for t. -/
  | psqPeak (c : Fin 128) (det : Bool)
  /-- HOLD, R266: Profile instruction HOLD regulates at I for t or until release. -/
  | psqHold (c : Fin 128) (det : Bool)
  /-- RAMP, R266: Profile instruction RAMP moves the target to I over t. -/
  | psqRamp (c : Fin 128) (det : Bool)
  /-- DITHER, R266: Profile instruction DITHER sets the triangle dither. -/
  | psqDither (c : Fin 128) (det : Bool)
  /-- QUENCH, R266: Profile instruction QUENCH drives off until current or time. -/
  | psqQuench (c : Fin 128) (ma : BitVec 32) (det : Bool)
  /-- DECAY, R266: Profile instruction DECAY selects the off-time decay. -/
  | psqDecay (c : Fin 128) (det : Bool)
  /-- PERIOD, R266: Profile instruction PERIOD sets the regulation period. -/
  | psqPeriod (c : Fin 128) (det : Bool)
  /-- WAIT, R266: Profile instruction WAIT keeps drive and target for t. -/
  | psqWait (c : Fin 128) (det : Bool)
  /-- WKINK, R266: Profile instruction WKINK drives with closing detection. -/
  | psqWkink (c : Fin 128) (samples : List KinkSample) (det : Bool)
  /-- KSET, R266: Profile instruction KSET sets detection settings. -/
  | psqKset (c : Fin 128) (det : Bool)
  /-- LDC, R266: Profile instruction LDC loads the loop counter. -/
  | psqLdc (c : Fin 128) (det : Bool)
  /-- DJNZ, R266: Profile instruction DJNZ decrements LC and jumps if not zero. -/
  | psqDjnz (c : Fin 128) (det : Bool)
  /-- JMP, R266: Profile instruction JMP jumps. -/
  | psqJmp (c : Fin 128) (det : Bool)
  /-- PSQ_MARK, R266: Profile instruction MARK records the time cursor and TAG. -/
  | psqMark (c : Fin 128) (det : Bool)
  /-- COIL_MODEL_UPDATE, R276: Every 1 ms the winding temperature estimate is updated. -/
  | coilModelUpdate (c : Fin 128) (i2mean : BitVec 64) (x : CoilMean)
  /-- HELD_START_RELEASE, R280: A held-back group start places its first edge once the feeder is free. -/
  | heldStartRelease (c : Fin 128)
  /-- HELD_START_DROP, R280: A held-back start still waiting at its limit is dropped. -/
  | heldStartDrop (c : Fin 128)
  /-- GO, R282: GO starts a profile image load. -/
  | go (v : BitVec 32)
  /-- PSQ_LOAD_END, R282: A profile image load finishes, staging or failing. -/
  | psqLoadEnd (img : Option (List (BitVec 32)))
  /-- PSQ_SWAP, R283: SWAP in PSQ_BANK_CMD schedules the staged image. -/
  | psqSwap (b : Fin 8) (v : BitVec 32)
  /-- PSQ_SWAP_POINT, R283: At PSQ_BANK_SWAP_MT the staged image becomes active. -/
  | psqSwapPoint (b : Fin 8)
  /-- PSQ_DROP_STG, R283: DROP_STG discards the staged profile image. -/
  | psqDropStg (b : Fin 8) (v : BitVec 32)
  /-- MICROCODE_REFETCH, R284: A refetched microcode word returns, or the channel goes safe. -/
  | microcodeRefetch (c : Fin 128) (x : WordRefetch)
  /-- GRP_CFG_WRITE, R278: A valve-group register write is taken or refused with GRP_ERR. -/
  | grpCfgWrite (b : Fin 8) (g : Fin 4) (lim : Bool) (v : BitVec 32)
  /-- LOOP_SAMPLE, R292: A loop slot takes a sample and writes its output 2 µs later. -/
  | loopSample (n : Fin 160) (fbs : List (BitVec 32 × Bool)) (det : LoopDet)
  /-- CLOSE, R297: CLOSE closes an OPEN slot or is refused. -/
  | loopClose (n : Fin 160) (v : BitVec 32)
  /-- OPEN, R302: OPEN puts a slot into OPEN at its next sample. -/
  | loopOpen (n : Fin 160) (v : BitVec 32)
  /-- OPEN_ALL, R302: OPEN_ALL opens every slot. -/
  | openAll (v : BitVec 32)
  /-- XFER, R308: XFER requests a transfer to law XLAW. -/
  | loopXfer (n : Fin 160) (v : BitVec 32)
  /-- LOOP_HOLD_EXPIRY, R305: HOLD time passes and the slot enters SAFE. -/
  | loopHoldExpiry (n : Fin 160)
  /-- NOP, R362: Engine instruction NOP. -/
  | engNop (e : Fin 16)
  /-- ADD, R362: Engine instruction ADD. -/
  | engAdd (e : Fin 16)
  /-- SUB, R362: Engine instruction SUB. -/
  | engSub (e : Fin 16)
  /-- ADDC, R362: Engine instruction ADDC. -/
  | engAddc (e : Fin 16)
  /-- AND, R362: Engine instruction AND. -/
  | engAnd (e : Fin 16)
  /-- OR, R362: Engine instruction OR. -/
  | engOr (e : Fin 16)
  /-- XOR, R362: Engine instruction XOR. -/
  | engXor (e : Fin 16)
  /-- SHL, R362: Engine instruction SHL. -/
  | engShl (e : Fin 16)
  /-- SHR, R362: Engine instruction SHR. -/
  | engShr (e : Fin 16)
  /-- SAR, R362: Engine instruction SAR. -/
  | engSar (e : Fin 16)
  /-- MUL, R362: Engine instruction MUL. -/
  | engMul (e : Fin 16)
  /-- MULH, R362: Engine instruction MULH. -/
  | engMulh (e : Fin 16)
  /-- MULHU, R362: Engine instruction MULHU. -/
  | engMulhu (e : Fin 16)
  /-- DIV, R362: Engine instruction DIV. -/
  | engDiv (e : Fin 16)
  /-- DIVU, R362: Engine instruction DIVU. -/
  | engDivu (e : Fin 16)
  /-- REMU, R362: Engine instruction REMU. -/
  | engRemu (e : Fin 16)
  /-- MAC, R363: Engine instruction MAC. -/
  | engMac (e : Fin 16)
  /-- MACM, R363: Engine instruction MACM. -/
  | engMacm (e : Fin 16) (det : Option Bool)
  /-- ADDI, R362: Engine instruction ADDI. -/
  | engAddi (e : Fin 16)
  /-- CMPI, R362: Engine instruction CMPI. -/
  | engCmpi (e : Fin 16)
  /-- ANDI, R362: Engine instruction ANDI. -/
  | engAndi (e : Fin 16)
  /-- ORI, R362: Engine instruction ORI. -/
  | engOri (e : Fin 16)
  /-- XORI, R362: Engine instruction XORI. -/
  | engXori (e : Fin 16)
  /-- SHLI, R362: Engine instruction SHLI. -/
  | engShli (e : Fin 16)
  /-- SHRI, R362: Engine instruction SHRI. -/
  | engShri (e : Fin 16)
  /-- SARI, R362: Engine instruction SARI. -/
  | engSari (e : Fin 16)
  /-- LUI, R362: Engine instruction LUI. -/
  | engLui (e : Fin 16)
  /-- LW, R364: Engine instruction LW. -/
  | engLw (e : Fin 16) (det : Bool)
  /-- LH, R364: Engine instruction LH. -/
  | engLh (e : Fin 16) (det : Bool)
  /-- LHU, R364: Engine instruction LHU. -/
  | engLhu (e : Fin 16) (det : Bool)
  /-- LB, R364: Engine instruction LB. -/
  | engLb (e : Fin 16) (det : Bool)
  /-- LBU, R364: Engine instruction LBU. -/
  | engLbu (e : Fin 16) (det : Bool)
  /-- LWP, R364: Engine instruction LWP. -/
  | engLwp (e : Fin 16) (det : Bool)
  /-- SW, R364: Engine instruction SW. -/
  | engSw (e : Fin 16)
  /-- SH, R364: Engine instruction SH. -/
  | engSh (e : Fin 16)
  /-- SB, R364: Engine instruction SB. -/
  | engSb (e : Fin 16)
  /-- SWP, R364: Engine instruction SWP. -/
  | engSwp (e : Fin 16)
  /-- B, R359: Engine conditional branch B. -/
  | engB (e : Fin 16)
  /-- CALL, R366: Engine instruction CALL. -/
  | engCall (e : Fin 16)
  /-- JR, R366: Engine instruction JR. -/
  | engJr (e : Fin 16)
  /-- CALLR, R366: Engine instruction CALLR. -/
  | engCallr (e : Fin 16)
  /-- RET, R326: Engine instruction RET. -/
  | engRet (e : Fin 16)
  /-- RETI, R328: Engine instruction RETI. -/
  | engReti (e : Fin 16)
  /-- REP, R322: Engine prefix REP, uninterruptible. -/
  | engRep (e : Fin 16)
  /-- REPI, R322: Engine prefix REPI, interruptible. -/
  | engRepi (e : Fin 16)
  /-- TRAP, R368: Engine instruction TRAP raises SWTRAP. -/
  | engTrap (e : Fin 16)
  /-- MFS, R370: Engine instruction MFS reads a special register. -/
  | engMfs (e : Fin 16)
  /-- MTS, R318: Engine instruction MTS writes a special register. -/
  | engMts (e : Fin 16)
  /-- WAITMT, R332: Engine instruction WAITMT waits for a target MT. -/
  | engWaitmt (e : Fin 16)
  /-- WAITMT_EXPIRY, R332: MT reaches a waiting engine's target and it resumes. -/
  | waitmtExpiry (e : Fin 16)
  /-- EMIT, R334: Engine instruction EMIT posts a block to the schedule. -/
  | engEmit (e : Fin 16)
  /-- SEND, R337: Engine instruction SEND copies a frame into the Hive. -/
  | engSend (e : Fin 16) (tab : Option (Bool × BitVec 12))
  /-- RECV, R338: Engine instruction RECV takes a frame from the role's queue. -/
  | engRecv (e : Fin 16)
  /-- LEAVE, R339: Engine instruction LEAVE books or returns power leave. -/
  | engLeave (e : Fin 16)
  /-- INTERRUPT, R329: An enabled pending interrupt is taken at an instruction boundary. -/
  | interrupt (e : Fin 16)
  /-- LINE_REFETCH, R345: A refetched instruction line returns, or the engine stops FETCH_INTEG. -/
  | lineRefetch (e : Fin 16) (r : Refetch) (line : BitVec 256)
  /-- ENG_START, R342: START starts a STOPPED engine with a valid image. -/
  | engStart (e : Fin 16) (v : BitVec 32)
  /-- ENG_STOP, R343: STOP stops an engine at a permitted boundary. -/
  | engStop (e : Fin 16) (v : BitVec 32)
  /-- MBIN_WRITE, R329: Host write to ENG_n_MBIN sets MBOX pending. -/
  | mbinWrite (e : Fin 16) (v : BitVec 32)
  /-- ENGINE_IMAGE_LOAD, R347: An engine-image-load descriptor is checked and the load begins. -/
  | engineImageLoad
  /-- IMAGE_LOAD_END, R348: An image load finishes and the engine stops, starts or becomes SHADOW. -/
  | imageLoadEnd (e : Fin 16) (img : Option (List (BitVec 8)))
  /-- ENGINE_SWAP, R349: At SWAP_MT the shadow engine takes over the role of the old one. -/
  | engineSwap (e : Fin 16)
  /-- CLUSTER_ON, R353: ON books leave and powers an engine cluster. -/
  | clusterOn (k : Fin 2) (v : BitVec 32)
  /-- CLUSTER_OFF, R353: OFF powers a cluster down when all its engines are stopped. -/
  | clusterOff (k : Fin 2) (v : BitVec 32)
  /-- FRAME_INGRESS, R379: A frame arrives on a port and is stored and classified. -/
  | frameIngress (p : Fin 8) (ev : Ingress)
  /-- FRAME_EGRESS, R394: A queued frame is sent from a port when its gate allows. -/
  | frameEgress (p : Fin 32) (fin : Bool) (det : Bool)
  /-- GATE_EVENT, R392: A gate control list entry changes the open queues. -/
  | gateEvent (p : Fin 8)
  /-- GCL_SWAP, R393: SWAP requests the shadow gate list. -/
  | gclSwap (p : Fin 8) (v : BitVec 32)
  /-- GCL_SWAP_START, R393: The shadow list becomes active at its first cycle start. -/
  | gclSwapStart (p : Fin 8)
  /-- FRAME_TRANSMIT, R395: A frame-transmit descriptor admits a host frame. -/
  | frameTransmit (data : List (BitVec 8)) (tab : Option (Bool × BitVec 12))
  /-- FRAME_RECEIVE_BUFFER, R398: A frame-receive-buffer descriptor posts a host buffer. -/
  | frameReceiveBuffer
  /-- TABLE_UPDATE, R386: A table-update descriptor writes entries and activates a new generation. -/
  | tableUpdate (recs : List (BitVec 256))
  /-- DRAIN_BARRIER, R387: A drain-barrier descriptor waits for older generations to leave. -/
  | drainBarrier
  /-- BARRIER_MET, R387: The last older-generation frame leaves and the barrier completes. -/
  | barrierMet
  /-- AGE_OUT, R388: A frame older than AGE_MS is dropped from its queue. -/
  | ageOut (p : Fin 32) (q : Fin 16)
  /-- HOLD_EXPIRY, R397: An unnamed held frame is freed after HOLD_TO. -/
  | holdExpiry (h : BitVec 17)
  /-- HOLD_FREE, R397: FREE releases a held frame by handle. -/
  | holdFree (v : BitVec 32)
  /-- GLEANER_PASS, R405: Every AUDIT_MS the Gleaner audits and reclaims ownerless cells. -/
  | gleanerPass (orphans doubles : List (Fin 24576))
  /-- ETH_LINK_DOWN, R406: An Ethernet link goes down and its queues are dropped. -/
  | ethLinkDown (p : Fin 8)
  /-- ETH_LINK_UP, R406: An Ethernet link comes up. -/
  | ethLinkUp (p : Fin 8) (speed : Fin 4)
  /-- MDIO_GO, R375: GO starts an MDIO frame. -/
  | mdioGo (v : BitVec 32)
  /-- MDIO_DONE, R375: An MDIO frame finishes and BUSY clears. -/
  | mdioDone (data : BitVec 16)
  /-- TS_POP, R403: POP removes the oldest egress time stamp. -/
  | tsPop (p : Fin 8) (v : BitVec 32)
  /-- CAN_MODE_WRITE, R413: A MODE write to a CAN controller takes effect or pends. -/
  | canModeWrite (n : Fin 16) (v : BitVec 32) (rx : Bool)
  /-- MODE_DONE, R413: A pending CAN mode change takes effect at frame end. -/
  | modeDone (n : Fin 16)
  /-- CAN_FRAME_RECEIVE, R415: An error-free CAN frame is stored in a buffer, FIFO or the switch. -/
  | canFrameReceive (n : Fin 16) (ev : CanRx)
  /-- TXREQ, R418: TXREQ makes a MODE 2 buffer's frame pending. -/
  | txreq (n : Fin 16) (hi : Bool) (v : BitVec 32) (det : Bool)
  /-- TXCXL, R422: TXCXL cancels a register-requested frame. -/
  | txcxl (n : Fin 16) (hi : Bool) (v : BitVec 32)
  /-- CAN_TX_DONE, R419: A frame is sent without error and TXDONE is set. -/
  | canTxDone (n : Fin 16) (tdcv : BitVec 7)
  /-- ARBITRATION_LOSS, R419: A frame loses arbitration and stays pending. -/
  | arbitrationLoss (n : Fin 16)
  /-- CAN_ERROR, R424: A bus error updates counters and error state. -/
  | canError (n : Fin 16) (err : CanErr)
  /-- BUS_OFF_RECOVERY, R424: 128 × 11 recessive bits end bus-off. -/
  | busOffRecovery (n : Fin 16)
  /-- FIFO_POP, R416: POP removes the oldest CAN FIFO frame. -/
  | fifoPop (n : Fin 16) (k : Fin 2) (v : BitVec 32)
  /-- CAN_WAKE, R428: A dominant CAN RX in Fallow wakes the module. -/
  | canWake (x : RxSample) (rtc : BitVec 48)
  /-- LT_SEAL, R438: SEAL makes the lighting back frame ready and starts its shift. -/
  | ltSeal (v : BitVec 32)
  /-- LT_UNSEAL, R438: UNSEAL unseals the back frame. -/
  | ltUnseal (v : BitVec 32)
  /-- LIGHTING_FRAME, R442: A lighting-frame descriptor writes the back frame. -/
  | lightingFrame (data : List (BitVec 8))
  /-- LT_WDATA_WRITE, R438: An LT_WDATA write stores a back-frame word and advances the address. -/
  | ltWdataWrite (v : BitVec 32)
  /-- SHIFT_END, R433: A chain shift ends and the marker and status are checked. -/
  | shiftEnd (marker : BitVec 16) (opens shorts : List (Fin 1536)) (dets : List (Fin 32))
  /-- PAGE_STEP, R437: A page dwell ends and the next page is latched. -/
  | pageStep
  /-- AUTO_FLIP, R440: In FLIP_MODE 1 the back frame flips after LT_READY. -/
  | autoFlip
  /-- LSYNC_EDGE, R436: An accepted LSYNC edge restarts the period grid. -/
  | lsyncEdge (t : BitVec 64) (rising : Bool)
  /-- LT_ENABLE, R447: EN = 1 shifts and latches zeros and starts the grid. -/
  | ltEnable (v : BitVec 32)
  /-- TRIP_CLR, R446: TRIP_CLR clears a lamp function's trip. -/
  | tripClr (f : Fin 32) (v : BitVec 32)
  /-- PARK, R463: PARK starts Fallow entry. -/
  | parkWrite (v : BitVec 32)
  /-- FALLOW_CLOSE_OUT, R463: After the last committed entry fires, dies park and blocks close out. -/
  | fallowCloseOut
  /-- FALLOW_POWER_DOWN, R463: Domains switch off in order and main supplies are disabled. -/
  | fallowPowerDown
  /-- WAKE, R465: An enabled wake source ends Fallow and the wake sequence runs. -/
  | wake (source : Fin 9) (x : WakeSample)
  /-- DOMAIN_ON, R454: An ON request switches a domain on. -/
  | domainOn (v : BitVec 32)
  /-- DOMAIN_OFF_REQUEST, R455: An OFF request sets a domain's switch-off pending. -/
  | domainOffRequest (v : BitVec 32)
  /-- DOMAIN_SWITCH_OFF, R455: A pending domain switches off once its close-out is done. -/
  | domainSwitchOff (k : Fin 14)
  /-- SUPPLY_RESTART, R452: A main supply fault resets PD2 to PD13. -/
  | supplyRestart
  /-- COLD_START, R115: VAON is applied and MT starts from the RTC or zero. -/
  | coldStart (rtc : BitVec 48)
  /-- PLL_LOCK_LOSS, R456: PLL lock lost for over 1 µs raises PWR_CLK. -/
  | pllLockLoss
  /-- THERM, R468: Baseplate above TEMP_LIM for 100 ms raises PWR_THERM. -/
  | therm (temp : BitVec 16)
  /-- BOOKING_END, R460: A leave booking ends and frees its slot. -/
  | bookingEnd (id : BitVec 32)
  /-- FAULT_LINE_RISE, R475: A fault line becomes active and is latched, missed or reacted to. -/
  | faultLineRise (srcs : BitVec 96) (banks : BitVec 8) (tab : Option (Fin 12))
  /-- ACK, R476: ACK closes the handling window and relatches active sources. -/
  | ack (v : BitVec 32)
  /-- STATUS_CLEAR, R481: A W1C to FLT_STATUS clears status, hold and bank record of inactive sources. -/
  | statusClear (w : Fin 4) (v : BitVec 32)
  /-- FLT_APP_SET, R473: FLT_APP activates ENG_APP lines. -/
  | fltAppSet (v : BitVec 32)
  /-- FLT_APP_CLR, R473: FLT_APP_CLR deactivates ENG_APP lines. -/
  | fltAppClr (v : BitVec 32)
  /-- ERRN_WIDTH_END, R478: ERR_N minimum width ends and ERR_N follows SW_LEVEL. -/
  | errnWidthEnd
  /-- ERRN_MISMATCH, R479: ERR_N land differs from the driven level for 10 µs. -/
  | errnMismatch (x : ErrnLevel)
  /-- LOCK, R480: LOCK freezes the reaction table. -/
  | lock (v : BitVec 32)
  /-- STOP_REL, R482: REL clears a stop latch whose input is out of stop. -/
  | stopRel (v : BitVec 32)
  /-- STOP_ENABLE, R484: Setting EN enables a stop input and starts its filter. -/
  | stopEnable (n : Fin 4) (v : BitVec 32)
  /-- FORCE, R485: A FORCE bit makes its source line active. -/
  | force (w : Fin 4) (v : BitVec 32)
  /-- INJ_ARM, R486: ARM arms an integrity injection on the next use of an array. -/
  | injArm (v : BitVec 32)
  /-- WRITE_CLEAR, R504: Key operation WRITE_CLEAR writes a key in the clear. -/
  | writeClear (data : List (BitVec 8))
  /-- DERIVE, R491: Key operation DERIVE derives a child key. -/
  | derive (data : List (BitVec 8)) (det : Option Bool)
  /-- UNWRAP, R492: Key operation UNWRAP unwraps a key into a slot. -/
  | unwrap (data : List (BitVec 8)) (det : Option Bool)
  /-- REVOKE, R503: Key operation REVOKE revokes a slot and its descendants. -/
  | revoke
  /-- CTR_ENC, R504: Key operation CTR_ENC encrypts data. -/
  | ctrEnc (data : List (BitVec 8)) (det : Option Bool)
  /-- CTR_DEC, R504: Key operation CTR_DEC decrypts data. -/
  | ctrDec (data : List (BitVec 8)) (det : Option Bool)
  /-- CMAC_GEN, R504: Key operation CMAC_GEN computes a tag. -/
  | cmacGen (data : List (BitVec 8)) (det : Option Bool)
  /-- CMAC_VER, R504: Key operation CMAC_VER checks a tag. -/
  | cmacVer (data : List (BitVec 8)) (det : Option Bool)
  /-- HMAC_GEN, R504: Key operation HMAC_GEN computes a tag. -/
  | hmacGen (data : List (BitVec 8)) (det : Option Bool)
  /-- HMAC_VER, R504: Key operation HMAC_VER checks a tag. -/
  | hmacVer (data : List (BitVec 8)) (det : Option Bool)
  /-- SHA256, R504: Key operation SHA256 computes a digest. -/
  | sha256 (data : List (BitVec 8))
  /-- ECDSA_VER, R506: Key operation ECDSA_VER verifies a signature after booking leave. -/
  | ecdsaVer (data : List (BitVec 8)) (det : Option Bool)
  /-- RANDOM, R504: Key operation RANDOM returns random bytes. -/
  | random
  /-- ROOT_GEN, R498: Key operation ROOT_GEN generates the root. -/
  | rootGen
  /-- ENROL, R514: Key operation ENROL writes a token record. -/
  | enrol (data : List (BitVec 8)) (det : Option Bool)
  /-- TOK_REVOKE, R514: Key operation TOK_REVOKE revokes a token record. -/
  | tokRevoke
  /-- CODE_SET, R514: Key operation CODE_SET stores the code verifier. -/
  | codeSet (data : List (BitVec 8))
  /-- REMASK_PASS, R496: Every 100 ms all stored keys are re-masked. -/
  | remaskPass
  /-- TRNG_FAIL, R497: An entropy health test fails. -/
  | trngFail
  /-- TRNG_STARTUP_TEST, R497: 10 ms after a failure a new start-up test runs. -/
  | trngStartupTest (pass : Bool)
  /-- TAMPER, R500: An enabled tamper source zeroes the root and locks the vault. -/
  | tamper (x : TampSense) (rtc : BitVec 48) (inOp : Bool)
  /-- ACC_START, R509: START begins an access session with a POLL. -/
  | accStart (v : BitVec 32) (radio : List (BitVec 8))
  /-- TOK_IRQ, R509: TOK_IRQ starts a session when IRQ_START is set. -/
  | tokIrq (radio : List (BitVec 8))
  /-- RESP, R509: A token's RESP frame is received and stamped. -/
  | resp (tok : Fin 16) (x : TokFrame)
  /-- FINAL, R509: The module sends FINAL at t_f. -/
  | finalFrame (radio : List (BitVec 8))
  /-- REPORT, R509: A token's REPORT frame is received. -/
  | report (tok : Fin 16) (x : TokFrame)
  /-- SESSION_DECISION, R511: The session's answers are judged and access granted or denied. -/
  | sessionDecision
  /-- AUTH_WINDOW_EXPIRY, R512: The 60 s authorisation window closes. -/
  | authWindowExpiry
  /-- LOCKOUT_EXPIRY, R513: The 30 s lockout ends. -/
  | lockoutExpiry
  /-- CODE_CHECK, R514: CODE_CHECK compares the entered code with the verifier. -/
  | codeCheck (v : BitVec 32)
  /-- REL_STOP, R518: REL_STOP stops the release stream. -/
  | relStop (v : BitVec 32)
  /-- REL_EN_SET, R516: REL_EN going to 1 may append a counter reservation. -/
  | relEnSet (v : BitVec 32)
  /-- RELEASE_MESSAGE, R515: Every 100 ms an encrypted release frame is requested. -/
  | releaseMessage (detE detM : Option Bool)
  /-- REL_TO_EXPIRY, R518: REL_TO seconds without a grant stop the stream. -/
  | relToExpiry
  /-- BOOT, R527: PD2 power-on runs the start-up sequence. -/
  | boot (x : BootIn)
  /-- STAGING_OPEN, R532: Staging OPEN starts a session with a valid credential. -/
  | stagingOpen (cred : List (BitVec 8))
  /-- STAGING_WRITE, R534: Staging WRITE erases and programs sectors. -/
  | stagingWrite (data : List (BitVec 8)) (fail : Bool)
  /-- STAGING_COMMIT, R534: Staging COMMIT verifies and commits the staged set. -/
  | stagingCommit (flashErr : Bool)
  /-- STAGING_ABANDON, R533: Staging ABANDON ends the holder's session. -/
  | stagingAbandon
  /-- SESSION_IDLE_EXPIRY, R533: 30 min idle ends the staging session with ABANDONED. -/
  | sessionIdleExpiry
  /-- NAV_SWAP, R538: NAV_SWAP loads the committed navigation firmware live. -/
  | navSwap (v : BitVec 32)
  /-- FUSE_PKH, R540: FUSE_PKH fuses the signing key hash. -/
  | fusePkh (v : BitVec 32) (fail : Bool)
  /-- SEAL, R540: SEAL clears injection and blows the seal fuse. -/
  | sealLife (v : BitVec 32) (fail : Bool)
  /-- RETIRE, R540: RETIRE blows the retire fuse. -/
  | retireLife (v : BitVec 32) (fail : Bool)
  /-- DBG_KILL, R540: DBG_KILL blows the debug kill fuse. -/
  | dbgKill (v : BitVec 32) (fail : Bool)
  /-- BYPASS, R541: JTAG instruction BYPASS. -/
  | bypass
  /-- IDCODE, R541: JTAG instruction IDCODE returns 0x1812_8FC3. -/
  | idcode
  /-- SAMPLE_PRELOAD, R541: JTAG instruction SAMPLE/PRELOAD. -/
  | samplePreload (pins preload : List Bool)
  /-- EXTEST, R541: JTAG instruction EXTEST. -/
  | extest
  /-- DBG_ACCESS, R541: Private JTAG instruction DBG_ACCESS opens the debug port. -/
  | dbgAccess (x : DbgAcc)
  /-- DBG_HALT, R541: Debug halt stops an engine as STOP does. -/
  | dbgHalt (e : Fin 16)
  /-- DBG_STEP, R541: Debug single step runs one engine instruction. -/
  | dbgStep (e : Fin 16)
  /-- DBG_RESUME, R541: Debug resume starts the engine as START does. -/
  | dbgResume (e : Fin 16)
  /-- DBG_BAR0_ACCESS, R541: Debug port makes a BAR0 register access as the host would. -/
  | dbgBar0Access (off : BitVec 20) (wr : Option (BitVec 32))
  /-- REF100_CYCLE, R85: On each REF100 cycle MT's accumulator advances by 40 + RATE × 2⁻³² ticks and any slew moves OFS. -/
  | ref100Cycle
  /-- REF100_RETURN, R116: REF100 comes back within 500 ppm, MT advances again and the MT_REF line and the die-to-die traffic resume. -/
  | ref100Return
  /-- PCIE_LINK_UP, R84: The PCIe link trains up, HL_LINK shows UP and held completions and pending interrupts may go out. -/
  | pcieLinkUp (speed : Fin 3) (x2 : Bool)
  /-- NO_DATA_CLEAR, R146: Transitions return on an IF stream, NO_DATA clears and the block tracks on that stream again. -/
  | noDataClear (n : Fin 4)
  /-- NAV_FIRMWARE_LOADED, R166: Loading of the navigation firmware from flash after PD10 power-on ends, within 15 ms. -/
  | navFirmwareLoaded (sky : GnSky) (bad : List KeptItem)
  /-- POWER_GOOD, R453: A switched-on domain reaches power-good, its registers take reset values and it counts as on for access and checks. -/
  | powerGood (x : GoodDom)
  /-- XTAL32_START, R457: The 32.768 kHz crystal oscillator starts and takes over PD1 and the RTC from the internal oscillator. -/
  | xtal32Start
  /-- STOP_EXIT, R257: An enabled stop input's filtered level returns to 1, taking it out of stop so its latch can be released. -/
  | stopExit (x : StopEdge)
  /-- CAN_SOF, R419: At a transmission opportunity the controller drives SOF, stamps it and an attempt begins. -/
  | canSof (n : Fin 16) (sof : BitVec 64)
  /-- BUS_INTEGRATION, R413: After STB_US and 11 consecutive recessive bits the controller integrates on the bus and takes part (SYNCED). -/
  | busIntegration (n : Fin 16)
  /-- RESERVATION_WRITE_END, R516: The flash append of a CTR reservation record ends and a waiting release stream may start. -/
  | reservationWriteEnd
  /-- LEAVE_RETRY, R462: A refused signature-verification or flash-programming leave request is retried every 1 ms, and completes BUSY after 100 ms. -/
  | leaveRetry (fail : Bool)
  /-- VAON_LOSS, R115: VAON is lost, PD1 and the AON retained memory are lost and PD0 runs on VBAT. -/
  | vaonLoss
  /-- VBAT_LOSS, R498: VBAT is lost while VAON is absent, so PD0, the root and the freshness counter are lost. -/
  | vbatLoss
  deriving DecidableEq, Repr

end Sys2Proof
end

