-- ==== Sys2Proof/Decode.lean ====
section
/-! DEFINITION. The command that a word spells by the table's bits: no row of spec/opcode_table.json gives bits. -/

namespace Sys2Proof

/-- The command a word of the opcode table spells: none, since no row has an encoding (the commands come from outside as
values, not as words). -/
def decodeTableWord (_nbits _w : Nat) : Option Instr := none

end Sys2Proof
end

