-- ==== Sys2Proof/Config.lean ====
section
/-! DEFINITION. What an implementation fixes and the spec leaves open: uninterpreted constants. Nothing in Lean can evaluate
them. -/

namespace Sys2Proof

/-- A fused estimate of the pose: position of the body origin in 1/1024 mm, heading in 2⁻³² turn, pitch and roll in 2⁻¹⁶ turn,
speed in µm/s, curvature in 2⁻³² per metre, acceleration in mm/s², standard deviations in 0.1 mm and µrad, odometry scale
correction in 2⁻¹⁶ (06 R169, R177). -/
structure PoseEst where
  e : Int
  n : Int
  u : Int
  hdg : Nat
  pitch : Int
  roll : Int
  speed : Int
  curv : Int
  accel : Int
  sdPos : Nat
  sdHdg : Nat
  slip : Int
  deriving DecidableEq, Repr, Inhabited

/-- An input of the fusion: a record's position of the body origin in 1/1024 mm with SD_E, SD_N, SD_U, RHO_EN, and whether the
direction of travel gives heading with it; a heading from two antennas in 2⁻³² turn, with roll where the baseline gives it; an
odometry edge with its signed distance in 2⁻¹⁶ mm; the words of an IMU sample (06 R171 to R174). -/
inductive PoseIn where
  | fix (ant : Nat) (e n u : Int) (sdE sdN sdU : Nat) (rho : Int) (motion : Bool)
  | heading (hdg : Nat) (roll : Option Int)
  | odo (k : Nat) (fwd : Bool) (dist : Int)
  | imu (w0 w1 w2 : BitVec 32)
  deriving DecidableEq, Repr

/-- Where yaw rate comes from between fixes: the IMU, the difference of right and left odometry in 2⁻¹⁶ mm over a track width in mm,
the fixes (06 R172). -/
inductive YawFrom where
  | imu
  | odo (diff : Int) (width : Nat)
  | fixes
  deriving DecidableEq, Repr

/-- What a step of the fusion works on: the MT it comes from and the MT it goes to, where yaw rate comes from, whether speed comes from
odometry, whether position and heading were known, and the inputs of that time (06 R171 to R173). -/
structure FuseIn where
  prev : Nat
  mt : Nat
  yaw : YawFrom
  odo : Bool
  pos : Bool
  hdg : Bool
  ins : List (Nat × PoseIn)
  deriving DecidableEq, Repr

namespace Config

/-- A value the spec leaves open, by the counter of such values in the state (DESIGN CHOICE, notes/assumptions/8.md). -/
opaque freeValue : Nat → BitVec 64

/-- How far the 32.768 kHz clock runs during one REF100 cycle, by the count of cycles, in 2⁻⁶⁴ of its own cycle: its oscillator
is not the reference's (03 R113, R115; DESIGN CHOICE, notes/assumptions/21.md). -/
opaque rtcAdvance : Nat → Nat

/-- What a start of the GNSS block meets where a register write does not say it, and the kept items that fail their code then, by the
counter of open values (DESIGN CHOICE, notes/assumptions/8.md). -/
opaque freeSky : Nat → GnSky
opaque freeBad : Nat → List KeptItem

/-- The next fused estimate from the one before: 06 R171 to R173 name what enters the fusion and what it weighs, and no filter
(DESIGN CHOICE, notes/assumptions/25.md). -/
opaque fuse : PoseEst → FuseIn → PoseEst

/-- A body-frame offset (x, y, z) in mm, levelled by pitch and roll: forward, left and up in 1/1024 mm (06 R170; DESIGN CHOICE,
notes/assumptions/25.md). -/
opaque level : Int → Int → Int × Int × Int → Int × Int × Int

/-- Roll in 2⁻¹⁶ turn from the vector between the antennas in the local frame, in 1/1024 mm, and in the body frame, in mm (06 R172;
DESIGN CHOICE, notes/assumptions/25.md). -/
opaque rollFrom : Int × Int × Int → Int × Int × Int → Int

/-- The along-path standard deviation in 0.1 mm that the boundary unit predicts for a body-frame offset at so many ticks from a track
point (06 R193; DESIGN CHOICE, notes/assumptions/25.md). -/
opaque pointSd : PoseEst → Int × Int × Int → Nat → Nat

/-- East, north and up of a geodetic position from an origin, in 1/8 mm: latitude, longitude (10⁻¹¹ degree) and height (mm) of the
position, then of the origin (05 R160, R162; DESIGN CHOICE, notes/assumptions/45.md). -/
opaque localEnu : Int → Int → Int → Int → Int → Int → Int × Int × Int

/-- The mean of a channel's filtered current stream between two MTs, in µA before calibration (07 R211; DESIGN CHOICE,
notes/assumptions/8.md). -/
opaque meanCurrent : Nat → Nat → Nat → Int

/-- The mean of a channel's filtered voltage stream between two MTs, in mV before calibration (07 R211; DESIGN CHOICE,
notes/assumptions/8.md). -/
opaque meanVoltage : Nat → Nat → Nat → Int

/-- A channel's filtered current at an MT, in µA before calibration (07 R211; DESIGN CHOICE, notes/assumptions/8.md). -/
opaque current : Nat → Nat → Int

/-- The temperature of a channel die at an MT, in °C (07 CH_DIE_STAT; DESIGN CHOICE, notes/assumptions/8.md). -/
opaque dieTemp : Nat → Nat → BitVec 8

/-- How far a channel's input threshold, rising or not, lies from its nominal value, in mV: it acts within the tolerance that the
spec gives (08 R242, R249; DESIGN CHOICE, notes/assumptions/8.md). -/
opaque thrError : Nat → Bool → Int

/-- The subsystem identity that PCI Express configuration space shows, as programmed at manufacture (02 R43; DESIGN CHOICE,
notes/assumptions/13.md). -/
opaque subsystemId : BitVec 32

end Config

end Sys2Proof
end

