-- ==== Sys2Proof/Machine/Regs.lean ====
section
/-! DEFINITION. The register map: the BAR0 offset of every register the spec names, its fields as bit ranges, and one
table row per register with its reset value and its writable bits (the register map and register-field tables of the
section files 02 to 19 of spec/). -/

namespace Sys2Proof.Machine

/-- A field of a 32-bit register: the register's BAR0 offset, the field's lowest bit and its width. -/
structure Fld where
  off : Nat
  lo : Nat
  w : Nat
  deriving DecidableEq, Repr

/-- One row of a register map: the offset of the first instance, the counts and strides of its index ranges (outermost
first), the reset value by offset, the bits a write replaces (RW), the bits a write of 1 clears (W1C), and whether any
write clears it (a counter). -/
structure RegRow where
  base : Nat
  dims : List (Nat × Nat)
  rst : Nat → Nat
  rw : Nat
  w1c : Nat
  cnt : Bool

/-- Whether a distance from a row's first instance is that of one of its instances. -/
def dimsHit : List (Nat × Nat) → Nat → Bool
  | [], d => d == 0
  | (n, st) :: t, d => decide (d / st < n) && dimsHit t (d % st)

/-- Whether a row describes the register at an offset. -/
def RegRow.has (r : RegRow) (off : Nat) : Bool := decide (r.base ≤ off) && dimsHit r.dims (off - r.base)

/-- The channel base C of 07 R200. -/
def chBase (c : Nat) : Nat := 0x60000 + 0x2000 * (c / 16) + 0x100 * (c % 16)

/-- The context base K of the register map of 09, for channel c = 16b + i. -/
def psqBase (c : Nat) : Nat := 0x71100 + 0x800 * (c / 16) + 0x40 * (c % 16)

namespace R

def HL_ID : Nat := 0x0
def HL_ID_PART : Fld := ⟨HL_ID, 16, 16⟩
def HL_ID_DIE_REV : Fld := ⟨HL_ID, 8, 8⟩
def HL_ID_MOD_REV : Fld := ⟨HL_ID, 0, 8⟩
def HL_CAP_PTR : Nat := 0x4
def HL_CAP_PTR_PTR : Fld := ⟨HL_CAP_PTR, 0, 32⟩
def HL_LINK : Nat := 0x8
def HL_LINK_SPEED : Fld := ⟨HL_LINK, 0, 4⟩
def HL_LINK_WIDTH : Fld := ⟨HL_LINK, 4, 4⟩
def HL_LINK_UP : Fld := ⟨HL_LINK, 8, 1⟩
def HL_LINK_EVT : Nat := 0xC
def HL_LINK_EVT_LINK_DOWN : Fld := ⟨HL_LINK_EVT, 0, 1⟩
def HL_LINK_EVT_HOT_RESET : Fld := ⟨HL_LINK_EVT, 1, 1⟩
def HL_LINK_EVT_FLR : Fld := ⟨HL_LINK_EVT, 2, 1⟩
def HL_LINK_EVT_D3HOT : Fld := ⟨HL_LINK_EVT, 3, 1⟩
def HL_LINK_DOWN_CNT : Nat := 0x10
def HL_LINK_DOWN_CNT_COUNT : Fld := ⟨HL_LINK_DOWN_CNT, 0, 32⟩
def HL_BAD_ACCESS_CNT : Nat := 0x14
def HL_BAD_ACCESS_CNT_COUNT : Fld := ⟨HL_BAD_ACCESS_CNT, 0, 32⟩
def HL_SCRATCH : Nat := 0x18
def HL_SCRATCH_DATA : Fld := ⟨HL_SCRATCH, 0, 32⟩
def HL_SQ_BASE_LO (n : Nat) : Nat := 0x10000 + 0x20 * n
def HL_SQ_BASE_LO_ADDR (n : Nat) : Fld := ⟨(HL_SQ_BASE_LO n), 6, 26⟩
def HL_SQ_BASE_HI (n : Nat) : Nat := 0x10004 + 0x20 * n
def HL_SQ_BASE_HI_ADDR (n : Nat) : Fld := ⟨(HL_SQ_BASE_HI n), 0, 32⟩
def HL_SQ_CFG (n : Nat) : Nat := 0x10008 + 0x20 * n
def HL_SQ_CFG_EN (n : Nat) : Fld := ⟨(HL_SQ_CFG n), 0, 1⟩
def HL_SQ_CFG_URGENT (n : Nat) : Fld := ⟨(HL_SQ_CFG n), 1, 1⟩
def HL_SQ_CFG_WEIGHT (n : Nat) : Fld := ⟨(HL_SQ_CFG n), 4, 4⟩
def HL_SQ_CFG_SIZE_LOG2 (n : Nat) : Fld := ⟨(HL_SQ_CFG n), 12, 4⟩
def HL_SQ_CFG_CQ (n : Nat) : Fld := ⟨(HL_SQ_CFG n), 16, 6⟩
def HL_SQ_HEAD (n : Nat) : Nat := 0x1000C + 0x20 * n
def HL_SQ_HEAD_INDEX (n : Nat) : Fld := ⟨(HL_SQ_HEAD n), 0, 12⟩
def HL_SQ_TAIL (n : Nat) : Nat := 0x10010 + 0x20 * n
def HL_SQ_TAIL_INDEX (n : Nat) : Fld := ⟨(HL_SQ_TAIL n), 0, 12⟩
def HL_SQ_STAT (n : Nat) : Nat := 0x10014 + 0x20 * n
def HL_SQ_STAT_DB_ERR (n : Nat) : Fld := ⟨(HL_SQ_STAT n), 0, 1⟩
def HL_SQ_STAT_FETCH_ERR (n : Nat) : Fld := ⟨(HL_SQ_STAT n), 1, 1⟩
def HL_SQ_STAT_STOPPED (n : Nat) : Fld := ⟨(HL_SQ_STAT n), 2, 1⟩
def HL_SQ_STAT_SEQ_ERR (n : Nat) : Fld := ⟨(HL_SQ_STAT n), 3, 1⟩
def HL_SQ_TYPES (n : Nat) : Nat := 0x10018 + 0x20 * n
def HL_SQ_TYPES_ALLOW (n : Nat) : Fld := ⟨(HL_SQ_TYPES n), 0, 16⟩
def HL_CQ_BASE_LO (n : Nat) : Nat := 0x10800 + 0x20 * n
def HL_CQ_BASE_LO_ADDR (n : Nat) : Fld := ⟨(HL_CQ_BASE_LO n), 6, 26⟩
def HL_CQ_BASE_HI (n : Nat) : Nat := 0x10804 + 0x20 * n
def HL_CQ_BASE_HI_ADDR (n : Nat) : Fld := ⟨(HL_CQ_BASE_HI n), 0, 32⟩
def HL_CQ_CFG (n : Nat) : Nat := 0x10808 + 0x20 * n
def HL_CQ_CFG_EN (n : Nat) : Fld := ⟨(HL_CQ_CFG n), 0, 1⟩
def HL_CQ_CFG_IEN (n : Nat) : Fld := ⟨(HL_CQ_CFG n), 1, 1⟩
def HL_CQ_CFG_SIZE_LOG2 (n : Nat) : Fld := ⟨(HL_CQ_CFG n), 12, 4⟩
def HL_CQ_CFG_VECTOR (n : Nat) : Fld := ⟨(HL_CQ_CFG n), 16, 6⟩
def HL_CQ_TAIL (n : Nat) : Nat := 0x1080C + 0x20 * n
def HL_CQ_TAIL_INDEX (n : Nat) : Fld := ⟨(HL_CQ_TAIL n), 0, 12⟩
def HL_CQ_TAIL_PHASE (n : Nat) : Fld := ⟨(HL_CQ_TAIL n), 12, 1⟩
def HL_CQ_HEAD (n : Nat) : Nat := 0x10810 + 0x20 * n
def HL_CQ_HEAD_INDEX (n : Nat) : Fld := ⟨(HL_CQ_HEAD n), 0, 12⟩
def HL_CQ_STAT (n : Nat) : Nat := 0x10814 + 0x20 * n
def HL_CQ_STAT_DB_ERR (n : Nat) : Fld := ⟨(HL_CQ_STAT n), 0, 1⟩
def HL_CQ_STAT_WRITE_ERR (n : Nat) : Fld := ⟨(HL_CQ_STAT n), 1, 1⟩
def HL_CQ_STAT_FULL (n : Nat) : Fld := ⟨(HL_CQ_STAT n), 2, 1⟩
def HL_CQ_STAT_HELD_OVF (n : Nat) : Fld := ⟨(HL_CQ_STAT n), 3, 1⟩
def HL_CQ_COAL (n : Nat) : Nat := 0x10818 + 0x20 * n
def HL_CQ_COAL_COUNT (n : Nat) : Fld := ⟨(HL_CQ_COAL n), 0, 8⟩
def HL_CQ_COAL_TIME (n : Nat) : Fld := ⟨(HL_CQ_COAL n), 8, 16⟩
def HL_CQ_PEND (n : Nat) : Nat := 0x1081C + 0x20 * n
def HL_CQ_PEND_COUNT (n : Nat) : Fld := ⟨(HL_CQ_PEND n), 0, 16⟩
def HL_RING_CTRL : Nat := 0x11000
def HL_RING_CTRL_URG_CAP : Fld := ⟨HL_RING_CTRL, 0, 1⟩
def HL_RING_CTRL_QUIESCE : Fld := ⟨HL_RING_CTRL, 1, 1⟩
def HL_RING_CTRL_QUIESCED : Fld := ⟨HL_RING_CTRL, 2, 1⟩
def HL_CPL_DISCARD_CNT : Nat := 0x11004
def HL_CPL_DISCARD_CNT_COUNT : Fld := ⟨HL_CPL_DISCARD_CNT, 0, 32⟩
def HL_FETCH_ERR_CNT : Nat := 0x11008
def HL_FETCH_ERR_CNT_COUNT : Fld := ⟨HL_FETCH_ERR_CNT, 0, 32⟩
def HL_REDO_ABANDON_CNT : Nat := 0x1100C
def HL_REDO_ABANDON_CNT_COUNT : Fld := ⟨HL_REDO_ABANDON_CNT, 0, 32⟩
def HL_SQDB (n : Nat) : Nat := 0x18000 + 0x4 * n
def HL_SQDB_TAIL (n : Nat) : Fld := ⟨(HL_SQDB n), 0, 12⟩
def HL_CQDB (n : Nat) : Nat := 0x18100 + 0x4 * n
def HL_CQDB_HEAD (n : Nat) : Fld := ⟨(HL_CQDB n), 0, 12⟩
def MT_NOW_LO : Nat := 0x20000
def MT_NOW_LO_MT : Fld := ⟨MT_NOW_LO, 0, 32⟩
def MT_NOW_HI : Nat := 0x20004
def MT_NOW_HI_MT : Fld := ⟨MT_NOW_HI, 0, 32⟩
def MT_SNAP_CMD : Nat := 0x20008
def MT_SNAP_CMD_CAPTURE : Fld := ⟨MT_SNAP_CMD, 0, 1⟩
def MT_SNAP_LO : Nat := 0x2000C
def MT_SNAP_LO_VALUE : Fld := ⟨MT_SNAP_LO, 0, 32⟩
def MT_SNAP_HI : Nat := 0x20010
def MT_SNAP_HI_VALUE : Fld := ⟨MT_SNAP_HI, 0, 32⟩
def MT_SNAP_GT_LO : Nat := 0x20014
def MT_SNAP_GT_LO_VALUE : Fld := ⟨MT_SNAP_GT_LO, 0, 32⟩
def MT_SNAP_GT_HI : Nat := 0x20018
def MT_SNAP_GT_HI_VALUE : Fld := ⟨MT_SNAP_GT_HI, 0, 32⟩
def MT_RATE : Nat := 0x20020
def MT_RATE_RATE : Fld := ⟨MT_RATE, 0, 32⟩
def MT_RATE_LIM : Nat := 0x20024
def MT_RATE_LIM_LIM : Fld := ⟨MT_RATE_LIM, 0, 32⟩
def MT_DISC_CFG : Nat := 0x20028
def MT_DISC_CFG_DISC_EN : Fld := ⟨MT_DISC_CFG, 0, 1⟩
def MT_DISC_CFG_KSHIFT : Fld := ⟨MT_DISC_CFG, 4, 4⟩
def MT_OFS_LO : Nat := 0x20030
def MT_OFS_LO_OFS : Fld := ⟨MT_OFS_LO, 0, 32⟩
def MT_OFS_HI : Nat := 0x20034
def MT_OFS_HI_OFS : Fld := ⟨MT_OFS_HI, 0, 32⟩
def MT_MEAS_LO : Nat := 0x20038
def MT_MEAS_LO_M : Fld := ⟨MT_MEAS_LO, 0, 32⟩
def MT_MEAS_HI : Nat := 0x2003C
def MT_MEAS_HI_M : Fld := ⟨MT_MEAS_HI, 0, 32⟩
def MT_SLEW : Nat := 0x20040
def MT_SLEW_SLEW_PPM : Fld := ⟨MT_SLEW, 0, 8⟩
def MT_SLEW_DEADBAND : Fld := ⟨MT_SLEW, 8, 16⟩
def MT_STEP : Nat := 0x20044
def MT_STEP_ARM : Fld := ⟨MT_STEP, 0, 1⟩
def MT_STATE : Nat := 0x20048
def MT_STATE_STATE : Fld := ⟨MT_STATE, 0, 2⟩
def MT_STATE_SRC : Fld := ⟨MT_STATE, 2, 2⟩
def MT_STATE_GOOD_CNT : Fld := ⟨MT_STATE, 4, 2⟩
def MT_STATE_READY : Fld := ⟨MT_STATE, 8, 1⟩
def MT_STATE_OFS_VALID : Fld := ⟨MT_STATE, 9, 1⟩
def MT_STATE_SLEWING : Fld := ⟨MT_STATE, 10, 1⟩
def MT_STATE_RTC_VALID : Fld := ⟨MT_STATE, 11, 1⟩
def MT_STATE_STEP_PEND : Fld := ⟨MT_STATE, 12, 1⟩
def MT_EVT : Nat := 0x2004C
def MT_EVT_LOCKED_IN : Fld := ⟨MT_EVT, 0, 1⟩
def MT_EVT_HOLDOVER_IN : Fld := ⟨MT_EVT, 1, 1⟩
def MT_EVT_FREERUN_IN : Fld := ⟨MT_EVT, 2, 1⟩
def MT_EVT_STEP_NEEDED : Fld := ⟨MT_EVT, 3, 1⟩
def MT_EVT_STEPPED : Fld := ⟨MT_EVT, 4, 1⟩
def MT_EVT_SRC_CHANGE : Fld := ⟨MT_EVT, 5, 1⟩
def MT_EVT_MEAS_REJ : Fld := ⟨MT_EVT, 6, 1⟩
def MT_EVT_PPS : Fld := ⟨MT_EVT, 7, 2⟩
def MT_EVT_MK_OVF : Fld := ⟨MT_EVT, 9, 1⟩
def MT_EVT_SLEW_DONE : Fld := ⟨MT_EVT, 10, 1⟩
def MT_IEN : Nat := 0x20050
def MT_IEN_IEN : Fld := ⟨MT_IEN, 0, 11⟩
def MT_VEC : Nat := 0x20054
def MT_VEC_VECTOR : Fld := ⟨MT_VEC, 0, 6⟩
def MT_TERR : Nat := 0x20058
def MT_TERR_TERR : Fld := ⟨MT_TERR, 0, 32⟩
def MT_HO_CFG : Nat := 0x2005C
def MT_HO_CFG_HOLD_LIMIT : Fld := ⟨MT_HO_CFG, 0, 16⟩
def MT_HO_CFG_HO_DRIFT : Fld := ⟨MT_HO_CFG, 16, 16⟩
def MT_MEAS_CFG : Nat := 0x20060
def MT_MEAS_CFG_LOSS_TO : Fld := ⟨MT_MEAS_CFG, 0, 8⟩
def MT_MEAS_CFG_REJ : Fld := ⟨MT_MEAS_CFG, 8, 8⟩
def MT_MEAS_CFG_GOOD_TERR : Fld := ⟨MT_MEAS_CFG, 16, 16⟩
def MT_SRC_CFG : Nat := 0x20064
def MT_SRC_CFG_PRI0 : Fld := ⟨MT_SRC_CFG, 0, 2⟩
def MT_SRC_CFG_PRI1 : Fld := ⟨MT_SRC_CFG, 2, 2⟩
def MT_SRC_CFG_PRI2 : Fld := ⟨MT_SRC_CFG, 4, 2⟩
def MT_BIAS_LO (s : Nat) : Nat := 0x20070 + 0x8 * s
def MT_BIAS_LO_BIAS (s : Nat) : Fld := ⟨(MT_BIAS_LO s), 0, 32⟩
def MT_BIAS_HI (s : Nat) : Nat := 0x20074 + 0x8 * s
def MT_BIAS_HI_BIAS (s : Nat) : Fld := ⟨(MT_BIAS_HI s), 0, 32⟩
def MT_PAIR_ST_LO : Nat := 0x20090
def MT_PAIR_ST_LO_VALUE : Fld := ⟨MT_PAIR_ST_LO, 0, 32⟩
def MT_PAIR_ST_HI : Nat := 0x20094
def MT_PAIR_ST_HI_VALUE : Fld := ⟨MT_PAIR_ST_HI, 0, 32⟩
def MT_PAIR_MT_LO : Nat := 0x20098
def MT_PAIR_MT_LO_VALUE : Fld := ⟨MT_PAIR_MT_LO, 0, 32⟩
def MT_PAIR_MT_HI : Nat := 0x2009C
def MT_PAIR_MT_HI_VALUE : Fld := ⟨MT_PAIR_MT_HI, 0, 32⟩
def MT_PAIR_CMD : Nat := 0x200A0
def MT_PAIR_CMD_SUBMIT : Fld := ⟨MT_PAIR_CMD, 0, 1⟩
def MT_PAIR_CMD_UNC : Fld := ⟨MT_PAIR_CMD, 16, 16⟩
def MT_CANREF_CFG : Nat := 0x200B0
def MT_CANREF_CFG_MASTER_EN : Fld := ⟨MT_CANREF_CFG, 0, 1⟩
def MT_CANREF_CFG_SLAVE_EN : Fld := ⟨MT_CANREF_CFG, 1, 1⟩
def MT_CANREF_CFG_CTRL : Fld := ⟨MT_CANREF_CFG, 4, 4⟩
def MT_CANREF_CFG_PERIOD : Fld := ⟨MT_CANREF_CFG, 8, 16⟩
def MT_CANREF_ID : Nat := 0x200B4
def MT_CANREF_ID_ID : Fld := ⟨MT_CANREF_ID, 0, 29⟩
def MT_CANREF_ID_IDE : Fld := ⟨MT_CANREF_ID, 29, 1⟩
def MT_CANREF_DLY : Nat := 0x200B8
def MT_CANREF_DLY_DLY : Fld := ⟨MT_CANREF_DLY, 0, 32⟩
def MT_CANREF_CNT : Nat := 0x200BC
def MT_CANREF_CNT_SENT : Fld := ⟨MT_CANREF_CNT, 0, 16⟩
def MT_CANREF_CNT_USED : Fld := ⟨MT_CANREF_CNT, 16, 16⟩
def MT_PPS_CFG (n : Nat) : Nat := 0x20100 + 0x20 * n
def MT_PPS_CFG_EN (n : Nat) : Fld := ⟨(MT_PPS_CFG n), 0, 1⟩
def MT_PPS_CFG_POL (n : Nat) : Fld := ⟨(MT_PPS_CFG n), 1, 1⟩
def MT_PPS_CFG_BASE (n : Nat) : Fld := ⟨(MT_PPS_CFG n), 2, 1⟩
def MT_PPS_CFG_SUPP_FR (n : Nat) : Fld := ⟨(MT_PPS_CFG n), 3, 1⟩
def MT_PPS_CFG_WIDTH (n : Nat) : Fld := ⟨(MT_PPS_CFG n), 8, 24⟩
def MT_PPS_DLY (n : Nat) : Nat := 0x20104 + 0x20 * n
def MT_PPS_DLY_DLY (n : Nat) : Fld := ⟨(MT_PPS_DLY n), 0, 32⟩
def MT_PPS_LAST_LO (n : Nat) : Nat := 0x20108 + 0x20 * n
def MT_PPS_LAST_LO_MT (n : Nat) : Fld := ⟨(MT_PPS_LAST_LO n), 0, 32⟩
def MT_PPS_LAST_HI (n : Nat) : Nat := 0x2010C + 0x20 * n
def MT_PPS_LAST_HI_MT (n : Nat) : Fld := ⟨(MT_PPS_LAST_HI n), 0, 32⟩
def MT_PPS_REC (n : Nat) : Nat := 0x20110 + 0x20 * n
def MT_PPS_REC_STEPPED (n : Nat) : Fld := ⟨(MT_PPS_REC n), 0, 1⟩
def MT_PPS_REC_STATE (n : Nat) : Fld := ⟨(MT_PPS_REC n), 1, 2⟩
def MT_PPS_REC_SEQ (n : Nat) : Fld := ⟨(MT_PPS_REC n), 8, 8⟩
def MT_SYNC_CFG (n : Nat) : Nat := 0x20200 + 0x4 * n
def MT_SYNC_CFG_IDLE (n : Nat) : Fld := ⟨(MT_SYNC_CFG n), 0, 1⟩
def MT_SYNC_CFG_OE (n : Nat) : Fld := ⟨(MT_SYNC_CFG n), 1, 1⟩
def MT_SYNC_CFG_DEFW (n : Nat) : Fld := ⟨(MT_SYNC_CFG n), 8, 24⟩
def MT_SYNC_LVL : Nat := 0x20220
def MT_SYNC_LVL_LVL : Fld := ⟨MT_SYNC_LVL, 0, 8⟩
def MT_MK_CFG (n : Nat) : Nat := 0x20300 + 0x20 * n
def MT_MK_CFG_EN (n : Nat) : Fld := ⟨(MT_MK_CFG n), 0, 1⟩
def MT_MK_CFG_EDGE (n : Nat) : Fld := ⟨(MT_MK_CFG n), 1, 2⟩
def MT_MK_CFG_SRC (n : Nat) : Fld := ⟨(MT_MK_CFG n), 3, 1⟩
def MT_MK_CFG_MIN_GAP (n : Nat) : Fld := ⟨(MT_MK_CFG n), 8, 8⟩
def MT_MK_STAT (n : Nat) : Nat := 0x20304 + 0x20 * n
def MT_MK_STAT_COUNT (n : Nat) : Fld := ⟨(MT_MK_STAT n), 0, 5⟩
def MT_MK_STAT_OVF (n : Nat) : Fld := ⟨(MT_MK_STAT n), 8, 1⟩
def MT_MK_STAT_HEAD_RISE (n : Nat) : Fld := ⟨(MT_MK_STAT n), 9, 1⟩
def MT_MK_STAT_DROP (n : Nat) : Fld := ⟨(MT_MK_STAT n), 16, 16⟩
def MT_MK_TS_LO (n : Nat) : Nat := 0x20308 + 0x20 * n
def MT_MK_TS_LO_MT (n : Nat) : Fld := ⟨(MT_MK_TS_LO n), 0, 32⟩
def MT_MK_TS_HI (n : Nat) : Nat := 0x2030C + 0x20 * n
def MT_MK_TS_HI_MT (n : Nat) : Fld := ⟨(MT_MK_TS_HI n), 0, 32⟩
def MT_MK_POP (n : Nat) : Nat := 0x20310 + 0x20 * n
def MT_MK_POP_POP (n : Nat) : Fld := ⟨(MT_MK_POP n), 0, 1⟩
def MT_RTC_LO : Nat := 0x20400
def MT_RTC_LO_RTC : Fld := ⟨MT_RTC_LO, 0, 32⟩
def MT_RTC_HI : Nat := 0x20404
def MT_RTC_HI_RTC : Fld := ⟨MT_RTC_HI, 0, 16⟩
def MT_RTC_SET_LO : Nat := 0x20408
def MT_RTC_SET_LO_VALUE : Fld := ⟨MT_RTC_SET_LO, 0, 32⟩
def MT_RTC_SET_HI : Nat := 0x2040C
def MT_RTC_SET_HI_VALUE : Fld := ⟨MT_RTC_SET_HI, 0, 16⟩
def MT_RTC_CMD : Nat := 0x20410
def MT_RTC_CMD_SET : Fld := ⟨MT_RTC_CMD, 0, 1⟩
def MT_RTC_CAL : Nat := 0x20414
def MT_RTC_CAL_CAL : Fld := ⟨MT_RTC_CAL, 0, 32⟩
def MT_CARRY_CFG : Nat := 0x20418
def MT_CARRY_CFG_CARRY_PPB : Fld := ⟨MT_CARRY_CFG, 0, 16⟩
def SCH_CTRL : Nat := 0x30000
def SCH_CTRL_FLUSH_HOST : Fld := ⟨SCH_CTRL, 0, 1⟩
def SCH_CTRL_FLUSH_ENG : Fld := ⟨SCH_CTRL, 1, 1⟩
def SCH_CTRL_FLUSH_BND : Fld := ⟨SCH_CTRL, 2, 1⟩
def SCH_STAT : Nat := 0x30004
def SCH_STAT_READY : Fld := ⟨SCH_STAT, 0, 1⟩
def SCH_STAT_COUNT : Fld := ⟨SCH_STAT, 16, 15⟩
def SCH_HORIZON : Nat := 0x30008
def SCH_HORIZON_TICKS : Fld := ⟨SCH_HORIZON, 0, 32⟩
def SCH_IMM_DELAY : Nat := 0x3000C
def SCH_IMM_DELAY_TICKS : Fld := ⟨SCH_IMM_DELAY, 0, 32⟩
def SCH_QUOTA_HOST : Nat := 0x30010
def SCH_QUOTA_HOST_QUOTA : Fld := ⟨SCH_QUOTA_HOST, 0, 14⟩
def SCH_QUOTA_ENG : Nat := 0x30014
def SCH_QUOTA_ENG_QUOTA : Fld := ⟨SCH_QUOTA_ENG, 0, 14⟩
def SCH_QUOTA_BND : Nat := 0x30018
def SCH_QUOTA_BND_QUOTA : Fld := ⟨SCH_QUOTA_BND, 0, 14⟩
def SCH_OCC0 : Nat := 0x3001C
def SCH_OCC0_HOST : Fld := ⟨SCH_OCC0, 0, 16⟩
def SCH_OCC0_ENG : Fld := ⟨SCH_OCC0, 16, 16⟩
def SCH_OCC1 : Nat := 0x30020
def SCH_OCC1_BND : Fld := ⟨SCH_OCC1, 0, 16⟩
def SCH_OCC1_RSV : Fld := ⟨SCH_OCC1, 16, 7⟩
def SCH_WIN : Nat := 0x30024
def SCH_WIN_NOW : Fld := ⟨SCH_WIN, 0, 11⟩
def SCH_WIN_PEAK : Nat := 0x30028
def SCH_WIN_PEAK_PEAK : Fld := ⟨SCH_WIN_PEAK, 0, 11⟩
def SCH_NEXT_LO : Nat := 0x3002C
def SCH_NEXT_LO_MT : Fld := ⟨SCH_NEXT_LO, 0, 32⟩
def SCH_NEXT_HI : Nat := 0x30030
def SCH_NEXT_HI_MT : Fld := ⟨SCH_NEXT_HI, 0, 32⟩
def SCH_INS_NUM : Nat := 0x30034
def SCH_INS_NUM_NUM : Fld := ⟨SCH_INS_NUM, 0, 32⟩
def SCH_EVT : Nat := 0x30040
def SCH_EVT_INTEG : Fld := ⟨SCH_EVT, 0, 1⟩
def SCH_EVT_REDO_FAIL : Fld := ⟨SCH_EVT, 1, 1⟩
def SCH_EVT_LATE : Fld := ⟨SCH_EVT, 2, 1⟩
def SCH_EVT_DROP : Fld := ⟨SCH_EVT, 3, 1⟩
def SCH_EVT_DENY : Fld := ⟨SCH_EVT, 4, 1⟩
def SCH_EVT_QUOTA : Fld := ⟨SCH_EVT, 5, 1⟩
def SCH_EVT_WIN_FULL : Fld := ⟨SCH_EVT, 6, 1⟩
def SCH_EVT_BND_DISCARD : Fld := ⟨SCH_EVT, 7, 1⟩
def SCH_IEN : Nat := 0x30044
def SCH_IEN_IEN : Fld := ⟨SCH_IEN, 0, 8⟩
def SCH_VEC : Nat := 0x30048
def SCH_VEC_VECTOR : Fld := ⟨SCH_VEC, 0, 6⟩
def SCH_FIRED_CNT : Nat := 0x30080
def SCH_FIRED_CNT_COUNT : Fld := ⟨SCH_FIRED_CNT, 0, 32⟩
def SCH_LATE_CNT : Nat := 0x30084
def SCH_LATE_CNT_COUNT : Fld := ⟨SCH_LATE_CNT, 0, 32⟩
def SCH_DROP_CNT : Nat := 0x30088
def SCH_DROP_CNT_COUNT : Fld := ⟨SCH_DROP_CNT, 0, 32⟩
def SCH_DENY_CNT : Nat := 0x3008C
def SCH_DENY_CNT_COUNT : Fld := ⟨SCH_DENY_CNT, 0, 32⟩
def SCH_NOTPERM_CNT : Nat := 0x30090
def SCH_NOTPERM_CNT_COUNT : Fld := ⟨SCH_NOTPERM_CNT, 0, 32⟩
def SCH_CANCEL_CNT : Nat := 0x30094
def SCH_CANCEL_CNT_COUNT : Fld := ⟨SCH_CANCEL_CNT, 0, 32⟩
def SCH_REFETCH_CNT : Nat := 0x30098
def SCH_REFETCH_CNT_COUNT : Fld := ⟨SCH_REFETCH_CNT, 0, 32⟩
def SCH_INTEG_CNT : Nat := 0x3009C
def SCH_INTEG_CNT_COUNT : Fld := ⟨SCH_INTEG_CNT, 0, 32⟩
def SCH_QUOTA_CNT : Nat := 0x300A0
def SCH_QUOTA_CNT_COUNT : Fld := ⟨SCH_QUOTA_CNT, 0, 32⟩
def SCH_BND_DISCARD_CNT : Nat := 0x300A4
def SCH_BND_DISCARD_CNT_COUNT : Fld := ⟨SCH_BND_DISCARD_CNT, 0, 32⟩
def GN_CTRL : Nat := 0x40000
def GN_CTRL_EN : Fld := ⟨GN_CTRL, 0, 1⟩
def GN_CTRL_RTK_EN : Fld := ⟨GN_CTRL, 1, 1⟩
def GN_CTRL_FIX_RATE : Fld := ⟨GN_CTRL, 8, 8⟩
def GN_STAT : Nat := 0x40004
def GN_STAT_STATE : Fld := ⟨GN_STAT, 0, 3⟩
def GN_STAT_KEPT_VALID : Fld := ⟨GN_STAT, 3, 1⟩
def GN_STAT_HOT_START : Fld := ⟨GN_STAT, 4, 1⟩
def GN_STAT_FORAGER_ON : Fld := ⟨GN_STAT, 5, 1⟩
def GN_STAT_NSV : Fld := ⟨GN_STAT, 8, 7⟩
def GN_STAT_NTRK : Fld := ⟨GN_STAT, 16, 9⟩
def GN_IF_CFG : Nat := 0x40008
def GN_IF_CFG_IFEN : Fld := ⟨GN_IF_CFG, 0, 4⟩
def GN_IF_CFG_FS_L1 : Fld := ⟨GN_IF_CFG, 8, 2⟩
def GN_IF_CFG_FS_L5 : Fld := ⟨GN_IF_CFG, 10, 2⟩
def GN_IF_CFG_SCLK_OE : Fld := ⟨GN_IF_CFG, 12, 1⟩
def GN_IF_FC (n : Nat) : Nat := 0x40010 + 0x4 * n
def GN_IF_FC_FC (n : Nat) : Fld := ⟨(GN_IF_FC n), 0, 24⟩
def GN_IF_STAT (n : Nat) : Nat := 0x40020 + 0x4 * n
def GN_IF_STAT_LEVEL (n : Nat) : Fld := ⟨(GN_IF_STAT n), 0, 8⟩
def GN_IF_STAT_CLIP (n : Nat) : Fld := ⟨(GN_IF_STAT n), 8, 8⟩
def GN_IF_STAT_NO_DATA (n : Nat) : Fld := ⟨(GN_IF_STAT n), 16, 1⟩
def GN_IF_BIAS (n : Nat) : Nat := 0x40030 + 0x4 * n
def GN_IF_BIAS_BIAS (n : Nat) : Fld := ⟨(GN_IF_BIAS n), 0, 32⟩
def GN_SIG_EN : Nat := 0x40040
def GN_SIG_EN_SIG : Fld := ⟨GN_SIG_EN, 0, 7⟩
def GN_MASK : Nat := 0x40044
def GN_MASK_ELEV : Fld := ⟨GN_MASK, 0, 8⟩
def GN_MASK_CN0 : Fld := ⟨GN_MASK, 8, 8⟩
def GN_TRK_CFG : Nat := 0x40048
def GN_TRK_CFG_SPACING_L1 : Fld := ⟨GN_TRK_CFG, 0, 5⟩
def GN_TRK_CFG_SPACING_L5 : Fld := ⟨GN_TRK_CFG, 8, 5⟩
def GN_TRK_CFG_INT_MS : Fld := ⟨GN_TRK_CFG, 16, 5⟩
def GN_ACQ_CFG : Nat := 0x4004C
def GN_ACQ_CFG_RETRY : Fld := ⟨GN_ACQ_CFG, 0, 16⟩
def GN_ACQ_CFG_NCOH : Fld := ⟨GN_ACQ_CFG, 16, 8⟩
def GN_CORR_CFG : Nat := 0x40050
def GN_CORR_CFG_MAX_AGE : Fld := ⟨GN_CORR_CFG, 0, 8⟩
def GN_UTC : Nat := 0x40054
def GN_UTC_LEAP : Fld := ⟨GN_UTC, 0, 8⟩
def GN_UTC_VALID : Fld := ⟨GN_UTC, 8, 1⟩
def GN_NAV_VER : Nat := 0x40058
def GN_NAV_VER_VERSION : Fld := ⟨GN_NAV_VER, 0, 16⟩
def GN_NAV_VER_BUILD : Fld := ⟨GN_NAV_VER, 16, 16⟩
def GN_ORG_LAT_LO : Nat := 0x40060
def GN_ORG_LAT_LO_VALUE : Fld := ⟨GN_ORG_LAT_LO, 0, 32⟩
def GN_ORG_LAT_HI : Nat := 0x40064
def GN_ORG_LAT_HI_VALUE : Fld := ⟨GN_ORG_LAT_HI, 0, 32⟩
def GN_ORG_LON_LO : Nat := 0x40068
def GN_ORG_LON_LO_VALUE : Fld := ⟨GN_ORG_LON_LO, 0, 32⟩
def GN_ORG_LON_HI : Nat := 0x4006C
def GN_ORG_LON_HI_VALUE : Fld := ⟨GN_ORG_LON_HI, 0, 32⟩
def GN_ORG_HGT : Nat := 0x40070
def GN_ORG_HGT_HGT : Fld := ⟨GN_ORG_HGT, 0, 32⟩
def GN_ORG_CMD : Nat := 0x40074
def GN_ORG_CMD_APPLY : Fld := ⟨GN_ORG_CMD, 0, 1⟩
def GN_ORG_CMD_GEN : Fld := ⟨GN_ORG_CMD, 8, 8⟩
def GN_EVT : Nat := 0x40080
def GN_EVT_FIX : Fld := ⟨GN_EVT, 0, 1⟩
def GN_EVT_FIX_LOST : Fld := ⟨GN_EVT, 1, 1⟩
def GN_EVT_ACQ_DENIED : Fld := ⟨GN_EVT, 2, 1⟩
def GN_EVT_CORR_STALE : Fld := ⟨GN_EVT, 3, 1⟩
def GN_EVT_CORR_REJ : Fld := ⟨GN_EVT, 4, 1⟩
def GN_EVT_LOG_FULL : Fld := ⟨GN_EVT, 5, 1⟩
def GN_EVT_LOG_ERR : Fld := ⟨GN_EVT, 6, 1⟩
def GN_EVT_SWAP_DONE : Fld := ⟨GN_EVT, 7, 1⟩
def GN_EVT_KEPT_SAVED : Fld := ⟨GN_EVT, 8, 1⟩
def GN_EVT_IF_FAULT : Fld := ⟨GN_EVT, 9, 1⟩
def GN_IEN : Nat := 0x40084
def GN_IEN_IEN : Fld := ⟨GN_IEN, 0, 10⟩
def GN_VEC : Nat := 0x40088
def GN_VEC_VECTOR : Fld := ⟨GN_VEC, 0, 6⟩
def GN_KEPT_STAT : Nat := 0x40090
def GN_KEPT_STAT_VALID : Fld := ⟨GN_KEPT_STAT, 0, 1⟩
def GN_KEPT_STAT_AGE : Fld := ⟨GN_KEPT_STAT, 8, 24⟩
def GN_KEPT_CMD : Nat := 0x40094
def GN_KEPT_CMD_SAVE : Fld := ⟨GN_KEPT_CMD, 0, 1⟩
def GN_KEPT_CMD_DISCARD : Fld := ⟨GN_KEPT_CMD, 1, 1⟩
def GN_LOG_BASE_LO : Nat := 0x400A0
def GN_LOG_BASE_LO_ADDR : Fld := ⟨GN_LOG_BASE_LO, 6, 26⟩
def GN_LOG_BASE_HI : Nat := 0x400A4
def GN_LOG_BASE_HI_ADDR : Fld := ⟨GN_LOG_BASE_HI, 0, 32⟩
def GN_LOG_CFG : Nat := 0x400A8
def GN_LOG_CFG_EN : Fld := ⟨GN_LOG_CFG, 0, 1⟩
def GN_LOG_CFG_IEN : Fld := ⟨GN_LOG_CFG, 1, 1⟩
def GN_LOG_CFG_SIZE_LOG2 : Fld := ⟨GN_LOG_CFG, 12, 4⟩
def GN_LOG_CFG_VECTOR : Fld := ⟨GN_LOG_CFG, 16, 6⟩
def GN_LOG_TAIL : Nat := 0x400AC
def GN_LOG_TAIL_INDEX : Fld := ⟨GN_LOG_TAIL, 0, 12⟩
def GN_LOG_TAIL_PHASE : Fld := ⟨GN_LOG_TAIL, 12, 1⟩
def GN_LOG_HEAD : Nat := 0x400B0
def GN_LOG_HEAD_INDEX : Fld := ⟨GN_LOG_HEAD, 0, 12⟩
def GN_FIX_CNT : Nat := 0x400C0
def GN_FIX_CNT_COUNT : Fld := ⟨GN_FIX_CNT, 0, 32⟩
def GN_ACQ_BURST_CNT : Nat := 0x400C4
def GN_ACQ_BURST_CNT_COUNT : Fld := ⟨GN_ACQ_BURST_CNT, 0, 32⟩
def GN_ACQ_DENY_CNT : Nat := 0x400C8
def GN_ACQ_DENY_CNT_COUNT : Fld := ⟨GN_ACQ_DENY_CNT, 0, 32⟩
def GN_CORR_FRAME_CNT : Nat := 0x400CC
def GN_CORR_FRAME_CNT_COUNT : Fld := ⟨GN_CORR_FRAME_CNT, 0, 32⟩
def GN_CORR_REJ_CNT : Nat := 0x400D0
def GN_CORR_REJ_CNT_COUNT : Fld := ⟨GN_CORR_REJ_CNT, 0, 32⟩
def GN_CORR_IGN_CNT : Nat := 0x400D4
def GN_CORR_IGN_CNT_COUNT : Fld := ⟨GN_CORR_IGN_CNT, 0, 32⟩
def GN_LOG_DROP_CNT : Nat := 0x400D8
def GN_LOG_DROP_CNT_COUNT : Fld := ⟨GN_LOG_DROP_CNT, 0, 32⟩
def GN_INTEG_CNT : Nat := 0x400DC
def GN_INTEG_CNT_COUNT : Fld := ⟨GN_INTEG_CNT, 0, 32⟩
def GN_FIX_W (a w : Nat) : Nat := 0x40100 + 0x40 * a + 0x4 * w
def GN_FIX_W_DATA (a w : Nat) : Fld := ⟨(GN_FIX_W a w), 0, 32⟩
def POSE_CTRL : Nat := 0x50000
def POSE_CTRL_EN : Fld := ⟨POSE_CTRL, 0, 1⟩
def POSE_CTRL_IMU_EN : Fld := ⟨POSE_CTRL, 1, 1⟩
def POSE_CTRL_ODO_DIFF : Fld := ⟨POSE_CTRL, 2, 1⟩
def POSE_CTRL_CORR_SLEW : Fld := ⟨POSE_CTRL, 8, 8⟩
def POSE_CTRL_HDG_SLEW : Fld := ⟨POSE_CTRL, 16, 8⟩
def POSE_STAT : Nat := 0x50004
def POSE_STAT_STATE : Fld := ⟨POSE_STAT, 0, 3⟩
def POSE_STAT_HDG_2ANT : Fld := ⟨POSE_STAT, 3, 1⟩
def POSE_STAT_IMU_OK : Fld := ⟨POSE_STAT, 4, 1⟩
def POSE_STAT_ODO_OK : Fld := ⟨POSE_STAT, 5, 4⟩
def POSE_STAT_ORG_GEN : Fld := ⟨POSE_STAT, 16, 8⟩
def POSE_LIM : Nat := 0x50008
def POSE_LIM_JUMP_MM : Fld := ⟨POSE_LIM, 0, 16⟩
def POSE_LIM_FIX_TO : Fld := ⟨POSE_LIM, 16, 16⟩
def POSE_DR : Nat := 0x5000C
def POSE_DR_DR_LIMIT : Fld := ⟨POSE_DR, 0, 16⟩
def POSE_ANTA_XY : Nat := 0x50010
def POSE_ANTA_XY_X : Fld := ⟨POSE_ANTA_XY, 0, 16⟩
def POSE_ANTA_XY_Y : Fld := ⟨POSE_ANTA_XY, 16, 16⟩
def POSE_ANTA_Z : Nat := 0x50014
def POSE_ANTA_Z_Z : Fld := ⟨POSE_ANTA_Z, 0, 16⟩
def POSE_ANTB_XY : Nat := 0x50018
def POSE_ANTB_XY_X : Fld := ⟨POSE_ANTB_XY, 0, 16⟩
def POSE_ANTB_XY_Y : Fld := ⟨POSE_ANTB_XY, 16, 16⟩
def POSE_ANTB_Z : Nat := 0x5001C
def POSE_ANTB_Z_Z : Fld := ⟨POSE_ANTB_Z, 0, 16⟩
def POSE_ODO_CFG (k : Nat) : Nat := 0x50020 + 0x4 * k
def POSE_ODO_CFG_EN (k : Nat) : Fld := ⟨(POSE_ODO_CFG k), 0, 1⟩
def POSE_ODO_CFG_SIDE (k : Nat) : Fld := ⟨(POSE_ODO_CFG k), 1, 2⟩
def POSE_ODO_CFG_DIR_EN (k : Nat) : Fld := ⟨(POSE_ODO_CFG k), 3, 1⟩
def POSE_ODO_CFG_CH (k : Nat) : Fld := ⟨(POSE_ODO_CFG k), 8, 7⟩
def POSE_ODO_CFG_DIR_CH (k : Nat) : Fld := ⟨(POSE_ODO_CFG k), 16, 7⟩
def POSE_ODO_SCALE (k : Nat) : Nat := 0x50030 + 0x4 * k
def POSE_ODO_SCALE_SCALE (k : Nat) : Fld := ⟨(POSE_ODO_SCALE k), 0, 32⟩
def POSE_TRACK_W : Nat := 0x50040
def POSE_TRACK_W_WIDTH : Fld := ⟨POSE_TRACK_W, 0, 16⟩
def POSE_JUMP_LAST : Nat := 0x50044
def POSE_JUMP_LAST_MM : Fld := ⟨POSE_JUMP_LAST, 0, 16⟩
def POSE_IMU_W0 : Nat := 0x50050
def POSE_IMU_W0_GX : Fld := ⟨POSE_IMU_W0, 0, 16⟩
def POSE_IMU_W0_GY : Fld := ⟨POSE_IMU_W0, 16, 16⟩
def POSE_IMU_W1 : Nat := 0x50054
def POSE_IMU_W1_GZ : Fld := ⟨POSE_IMU_W1, 0, 16⟩
def POSE_IMU_W1_AX : Fld := ⟨POSE_IMU_W1, 16, 16⟩
def POSE_IMU_W2 : Nat := 0x50058
def POSE_IMU_W2_AY : Fld := ⟨POSE_IMU_W2, 0, 16⟩
def POSE_IMU_W2_AZ : Fld := ⟨POSE_IMU_W2, 16, 16⟩
def POSE_IMU_MT_LO : Nat := 0x5005C
def POSE_IMU_MT_LO_MT : Fld := ⟨POSE_IMU_MT_LO, 0, 32⟩
def POSE_IMU_MT_HI : Nat := 0x50060
def POSE_IMU_MT_HI_MT : Fld := ⟨POSE_IMU_MT_HI, 0, 32⟩
def POSE_IMU_CMD : Nat := 0x50064
def POSE_IMU_CMD_SUBMIT : Fld := ⟨POSE_IMU_CMD, 0, 1⟩
def POSE_EVT : Nat := 0x50080
def POSE_EVT_FIX_OLD : Fld := ⟨POSE_EVT, 0, 1⟩
def POSE_EVT_JUMP : Fld := ⟨POSE_EVT, 1, 1⟩
def POSE_EVT_STATE_CHG : Fld := ⟨POSE_EVT, 2, 1⟩
def POSE_EVT_FRAME_CHANGE : Fld := ⟨POSE_EVT, 3, 1⟩
def POSE_EVT_IMU_OLD : Fld := ⟨POSE_EVT, 4, 1⟩
def POSE_IEN : Nat := 0x50084
def POSE_IEN_IEN : Fld := ⟨POSE_IEN, 0, 5⟩
def POSE_VEC : Nat := 0x50088
def POSE_VEC_VECTOR : Fld := ⟨POSE_VEC, 0, 6⟩
def POSE_FIX_CNT : Nat := 0x50090
def POSE_FIX_CNT_COUNT : Fld := ⟨POSE_FIX_CNT, 0, 32⟩
def POSE_FIX_OLD_CNT : Nat := 0x50094
def POSE_FIX_OLD_CNT_COUNT : Fld := ⟨POSE_FIX_OLD_CNT, 0, 32⟩
def POSE_IMU_CNT : Nat := 0x50098
def POSE_IMU_CNT_COUNT : Fld := ⟨POSE_IMU_CNT, 0, 32⟩
def POSE_ODO_EDGE_CNT : Nat := 0x5009C
def POSE_ODO_EDGE_CNT_COUNT : Fld := ⟨POSE_ODO_EDGE_CNT, 0, 32⟩
def POSE_SNAP_CMD (s : Nat) : Nat := 0x500C0 + 0x4 * s
def POSE_SNAP_CMD_CAPTURE (s : Nat) : Fld := ⟨(POSE_SNAP_CMD s), 0, 1⟩
def POSE_SNAP_W (s w : Nat) : Nat := 0x50100 + 0x40 * s + 0x4 * w
def POSE_SNAP_W_DATA (s w : Nat) : Fld := ⟨(POSE_SNAP_W s w), 0, 32⟩
def BND_CTRL : Nat := 0x51000
def BND_CTRL_EN : Fld := ⟨BND_CTRL, 0, 1⟩
def BND_CTRL_V_MIN : Fld := ⟨BND_CTRL, 8, 8⟩
def BND_CTRL_MIN_GAP : Fld := ⟨BND_CTRL, 16, 16⟩
def BND_STAT : Nat := 0x51004
def BND_STAT_ACT_VALID : Fld := ⟨BND_STAT, 0, 1⟩
def BND_STAT_STG_VALID : Fld := ⟨BND_STAT, 1, 1⟩
def BND_STAT_ACT_HALF : Fld := ⟨BND_STAT, 2, 2⟩
def BND_STAT_LOADING : Fld := ⟨BND_STAT, 4, 1⟩
def BND_STAT_DEGR_CNT : Fld := ⟨BND_STAT, 16, 9⟩
def BND_GEN : Nat := 0x51008
def BND_GEN_ACT_GEN : Fld := ⟨BND_GEN, 0, 16⟩
def BND_GEN_STG_GEN : Fld := ⟨BND_GEN, 16, 16⟩
def BND_ORG : Nat := 0x5100C
def BND_ORG_ACT_ORG : Fld := ⟨BND_ORG, 0, 8⟩
def BND_ORG_STG_ORG : Fld := ⟨BND_ORG, 8, 8⟩
def BND_ACT_COUNT : Nat := 0x51010
def BND_ACT_COUNT_COUNT : Fld := ⟨BND_ACT_COUNT, 0, 17⟩
def BND_STG_COUNT : Nat := 0x51014
def BND_STG_COUNT_COUNT : Fld := ⟨BND_STG_COUNT, 0, 17⟩
def BND_SWAP_MT_LO : Nat := 0x51018
def BND_SWAP_MT_LO_MT : Fld := ⟨BND_SWAP_MT_LO, 0, 32⟩
def BND_SWAP_MT_HI : Nat := 0x5101C
def BND_SWAP_MT_HI_MT : Fld := ⟨BND_SWAP_MT_HI, 0, 32⟩
def BND_CMD : Nat := 0x51020
def BND_CMD_SWAP : Fld := ⟨BND_CMD, 0, 1⟩
def BND_CMD_DROP_STG : Fld := ⟨BND_CMD, 1, 1⟩
def BND_CMD_DEACT : Fld := ⟨BND_CMD, 2, 1⟩
def BND_LOAD_ERR : Nat := 0x51024
def BND_LOAD_ERR_INDEX : Fld := ⟨BND_LOAD_ERR, 0, 16⟩
def BND_LOAD_ERR_REASON : Fld := ⟨BND_LOAD_ERR, 16, 8⟩
def BND_EVT : Nat := 0x51040
def BND_EVT_SWAPPED : Fld := ⟨BND_EVT, 0, 1⟩
def BND_EVT_LOAD_ERR : Fld := ⟨BND_EVT, 1, 1⟩
def BND_EVT_DEGRADED : Fld := ⟨BND_EVT, 2, 1⟩
def BND_EVT_ORG_MISMATCH : Fld := ⟨BND_EVT, 3, 1⟩
def BND_EVT_TILE_UNUSABLE : Fld := ⟨BND_EVT, 4, 1⟩
def BND_EVT_PAIR_SKIP : Fld := ⟨BND_EVT, 5, 1⟩
def BND_EVT_BAD_TPL : Fld := ⟨BND_EVT, 6, 1⟩
def BND_IEN : Nat := 0x51044
def BND_IEN_IEN : Fld := ⟨BND_IEN, 0, 7⟩
def BND_VEC : Nat := 0x51048
def BND_VEC_VECTOR : Fld := ⟨BND_VEC, 0, 6⟩
def BND_INSERT_CNT : Nat := 0x51080
def BND_INSERT_CNT_COUNT : Fld := ⟨BND_INSERT_CNT, 0, 32⟩
def BND_REVISE_CNT : Nat := 0x51084
def BND_REVISE_CNT_COUNT : Fld := ⟨BND_REVISE_CNT, 0, 32⟩
def BND_WITHDRAW_CNT : Nat := 0x51088
def BND_WITHDRAW_CNT_COUNT : Fld := ⟨BND_WITHDRAW_CNT, 0, 32⟩
def BND_FIRED_CNT : Nat := 0x5108C
def BND_FIRED_CNT_COUNT : Fld := ⟨BND_FIRED_CNT, 0, 32⟩
def BND_FAIL_CNT : Nat := 0x51090
def BND_FAIL_CNT_COUNT : Fld := ⟨BND_FAIL_CNT, 0, 32⟩
def BND_PAIR_SKIP_CNT : Nat := 0x51094
def BND_PAIR_SKIP_CNT_COUNT : Fld := ⟨BND_PAIR_SKIP_CNT, 0, 32⟩
def BND_INTEG_CNT : Nat := 0x51098
def BND_INTEG_CNT_COUNT : Fld := ⟨BND_INTEG_CNT, 0, 32⟩
def BND_LP_W0 (p : Nat) : Nat := 0x54000 + 0x20 * p
def BND_LP_W0_X (p : Nat) : Fld := ⟨(BND_LP_W0 p), 0, 16⟩
def BND_LP_W0_Y (p : Nat) : Fld := ⟨(BND_LP_W0 p), 16, 16⟩
def BND_LP_W1 (p : Nat) : Nat := 0x54004 + 0x20 * p
def BND_LP_W1_Z (p : Nat) : Fld := ⟨(BND_LP_W1 p), 0, 16⟩
def BND_LP_W1_LAYERS (p : Nat) : Fld := ⟨(BND_LP_W1 p), 16, 16⟩
def BND_LP_W2 (p : Nat) : Nat := 0x54008 + 0x20 * p
def BND_LP_W2_ACTION (p : Nat) : Fld := ⟨(BND_LP_W2 p), 0, 8⟩
def BND_LP_W2_PRIO (p : Nat) : Fld := ⟨(BND_LP_W2 p), 8, 3⟩
def BND_LP_W2_POLICY (p : Nat) : Fld := ⟨(BND_LP_W2 p), 11, 2⟩
def BND_LP_W2_EN (p : Nat) : Fld := ⟨(BND_LP_W2 p), 15, 1⟩
def BND_LP_W2_TARGET (p : Nat) : Fld := ⟨(BND_LP_W2 p), 16, 16⟩
def BND_LP_W3 (p : Nat) : Nat := 0x5400C + 0x20 * p
def BND_LP_W3_ARG_ENTER (p : Nat) : Fld := ⟨(BND_LP_W3 p), 0, 32⟩
def BND_LP_W4 (p : Nat) : Nat := 0x54010 + 0x20 * p
def BND_LP_W4_ARG_LEAVE (p : Nat) : Fld := ⟨(BND_LP_W4 p), 0, 32⟩
def BND_LP_W5 (p : Nat) : Nat := 0x54014 + 0x20 * p
def BND_LP_W5_LEAD_ENTER (p : Nat) : Fld := ⟨(BND_LP_W5 p), 0, 28⟩
def BND_LP_W6 (p : Nat) : Nat := 0x54018 + 0x20 * p
def BND_LP_W6_LEAD_LEAVE (p : Nat) : Fld := ⟨(BND_LP_W6 p), 0, 28⟩
def BND_LP_W7 (p : Nat) : Nat := 0x5401C + 0x20 * p
def BND_LP_W7_MAX_LATE (p : Nat) : Fld := ⟨(BND_LP_W7 p), 0, 16⟩
def BND_LP_W7_ERR_LIM (p : Nat) : Fld := ⟨(BND_LP_W7 p), 16, 16⟩
def BND_LP_STAT (p : Nat) : Nat := 0x56000 + 0x8 * p
def BND_LP_STAT_FIRED (p : Nat) : Fld := ⟨(BND_LP_STAT p), 0, 8⟩
def BND_LP_STAT_FAIL (p : Nat) : Fld := ⟨(BND_LP_STAT p), 8, 8⟩
def BND_LP_STAT_LAST (p : Nat) : Fld := ⟨(BND_LP_STAT p), 16, 6⟩
def BND_LP_STAT_PEND (p : Nat) : Fld := ⟨(BND_LP_STAT p), 22, 3⟩
def BND_LP_STAT_DEGRADED (p : Nat) : Fld := ⟨(BND_LP_STAT p), 25, 1⟩
def BND_LP_STAT_DEGR_WHY (p : Nat) : Fld := ⟨(BND_LP_STAT p), 26, 2⟩
def BND_LP_NEXT (p : Nat) : Nat := 0x56004 + 0x8 * p
def BND_LP_NEXT_MT (p : Nat) : Fld := ⟨(BND_LP_NEXT p), 0, 32⟩
def CH_CFG (c : Nat) : Nat := chBase c
def CH_CFG_MODE (c : Nat) : Fld := ⟨(CH_CFG c), 0, 4⟩
def CH_CFG_OWNER (c : Nat) : Fld := ⟨(CH_CFG c), 4, 2⟩
def CH_CFG_SAFE (c : Nat) : Fld := ⟨(CH_CFG c), 6, 2⟩
def CH_CFG_SAFETY (c : Nat) : Fld := ⟨(CH_CFG c), 8, 1⟩
def CH_CFG_ELIM (c : Nat) : Fld := ⟨(CH_CFG c), 9, 1⟩
def CH_CFG_RANGE (c : Nat) : Fld := ⟨(CH_CFG c), 10, 1⟩
def CH_CFG_PWM_EN (c : Nat) : Fld := ⟨(CH_CFG c), 11, 1⟩
def CH_CFG_SLEW (c : Nat) : Fld := ⟨(CH_CFG c), 12, 2⟩
def CH_PWM_PERIOD (c : Nat) : Nat := chBase c + 0x4
def CH_PWM_PERIOD_PERIOD (c : Nat) : Fld := ⟨(CH_PWM_PERIOD c), 0, 20⟩
def CH_PWM_PHASE (c : Nat) : Nat := chBase c + 0x8
def CH_PWM_PHASE_PHASE (c : Nat) : Fld := ⟨(CH_PWM_PHASE c), 0, 20⟩
def CH_DUTY (c : Nat) : Nat := chBase c + 0xC
def CH_DUTY_DUTY (c : Nat) : Fld := ⟨(CH_DUTY c), 0, 16⟩
def CH_OC (c : Nat) : Nat := chBase c + 0x10
def CH_OC_OC_TH (c : Nat) : Fld := ⟨(CH_OC c), 0, 12⟩
def CH_OC_BLANK (c : Nat) : Fld := ⟨(CH_OC c), 16, 8⟩
def CH_PROT (c : Nat) : Nat := chBase c + 0x14
def CH_PROT_POLICY (c : Nat) : Fld := ⟨(CH_PROT c), 0, 2⟩
def CH_PROT_RETRY_N (c : Nat) : Fld := ⟨(CH_PROT c), 4, 4⟩
def CH_PROT_RETRY_MS (c : Nat) : Fld := ⟨(CH_PROT c), 8, 16⟩
def CH_LAMP (c : Nat) : Nat := chBase c + 0x18
def CH_LAMP_INRUSH_A (c : Nat) : Fld := ⟨(CH_LAMP c), 0, 12⟩
def CH_LAMP_INRUSH_MS (c : Nat) : Fld := ⟨(CH_LAMP c), 16, 8⟩
def CH_DIAG (c : Nat) : Nat := chBase c + 0x1C
def CH_DIAG_OFFDIAG_EN (c : Nat) : Fld := ⟨(CH_DIAG c), 0, 1⟩
def CH_DIAG_ONDIAG_EN (c : Nat) : Fld := ⟨(CH_DIAG c), 1, 1⟩
def CH_DIAG_XCON_EN (c : Nat) : Fld := ⟨(CH_DIAG c), 2, 1⟩
def CH_DIAG_OL_TH (c : Nat) : Fld := ⟨(CH_DIAG c), 8, 8⟩
def CH_DIAG_OFF_PERIOD (c : Nat) : Fld := ⟨(CH_DIAG c), 16, 8⟩
def CH_DT (c : Nat) : Nat := chBase c + 0x20
def CH_DT_DT (c : Nat) : Fld := ⟨(CH_DT c), 0, 8⟩
def CH_STAT (c : Nat) : Nat := chBase c + 0x30
def CH_STAT_OC (c : Nat) : Fld := ⟨(CH_STAT c), 0, 1⟩
def CH_STAT_OT (c : Nat) : Fld := ⟨(CH_STAT c), 1, 1⟩
def CH_STAT_OT_WARN (c : Nat) : Fld := ⟨(CH_STAT c), 2, 1⟩
def CH_STAT_OPEN_ON (c : Nat) : Fld := ⟨(CH_STAT c), 3, 1⟩
def CH_STAT_OPEN_OFF (c : Nat) : Fld := ⟨(CH_STAT c), 4, 1⟩
def CH_STAT_STUCK_HIGH (c : Nat) : Fld := ⟨(CH_STAT c), 5, 1⟩
def CH_STAT_XCON (c : Nat) : Fld := ⟨(CH_STAT c), 6, 1⟩
def CH_STAT_BAD_CFG (c : Nat) : Fld := ⟨(CH_STAT c), 7, 1⟩
def CH_STAT_IGN (c : Nat) : Fld := ⟨(CH_STAT c), 8, 1⟩
def CH_STAT_ELIM_FAULT (c : Nat) : Fld := ⟨(CH_STAT c), 9, 1⟩
def CH_STAT_INTEG (c : Nat) : Fld := ⟨(CH_STAT c), 10, 1⟩
def CH_STAT_CMD_ON (c : Nat) : Fld := ⟨(CH_STAT c), 16, 1⟩
def CH_STAT_DRIVEN (c : Nat) : Fld := ⟨(CH_STAT c), 17, 1⟩
def CH_STAT_SAFE (c : Nat) : Fld := ⟨(CH_STAT c), 18, 1⟩
def CH_STAT_LATCHED (c : Nat) : Fld := ⟨(CH_STAT c), 19, 1⟩
def CH_STAT_RETRY_WAIT (c : Nat) : Fld := ⟨(CH_STAT c), 20, 1⟩
def CH_STAT_PULSE (c : Nat) : Fld := ⟨(CH_STAT c), 21, 1⟩
def CH_STAT_RETRIES (c : Nat) : Fld := ⟨(CH_STAT c), 22, 4⟩
def CH_STAT_OC_CAUSE (c : Nat) : Fld := ⟨(CH_STAT c), 26, 2⟩
def CH_I (c : Nat) : Nat := chBase c + 0x34
def CH_I_I (c : Nat) : Fld := ⟨(CH_I c), 0, 32⟩
def CH_V (c : Nat) : Nat := chBase c + 0x38
def CH_V_V (c : Nat) : Fld := ⟨(CH_V c), 0, 16⟩
def CH_TJ (c : Nat) : Nat := chBase c + 0x3C
def CH_TJ_TJ (c : Nat) : Fld := ⟨(CH_TJ c), 0, 16⟩
def CH_SNAP_I (c : Nat) : Nat := chBase c + 0x40
def CH_SNAP_I_I (c : Nat) : Fld := ⟨(CH_SNAP_I c), 0, 32⟩
def CH_SNAP_V (c : Nat) : Nat := chBase c + 0x44
def CH_SNAP_V_V (c : Nat) : Fld := ⟨(CH_SNAP_V c), 0, 16⟩
def CH_SNAP_MT_LO (c : Nat) : Nat := chBase c + 0x48
def CH_SNAP_MT_LO_MT (c : Nat) : Fld := ⟨(CH_SNAP_MT_LO c), 0, 32⟩
def CH_SNAP_MT_HI (c : Nat) : Nat := chBase c + 0x4C
def CH_SNAP_MT_HI_MT (c : Nat) : Fld := ⟨(CH_SNAP_MT_HI c), 0, 32⟩
def CH_OC_CNT (c : Nat) : Nat := chBase c + 0x50
def CH_OC_CNT_COUNT (c : Nat) : Fld := ⟨(CH_OC_CNT c), 0, 32⟩
def CH_ON_CNT (c : Nat) : Nat := chBase c + 0x54
def CH_ON_CNT_COUNT (c : Nat) : Fld := ⟨(CH_ON_CNT c), 0, 32⟩
def CH_CAL_IG (c : Nat) : Nat := chBase c + 0x60
def CH_CAL_IG_GAIN (c : Nat) : Fld := ⟨(CH_CAL_IG c), 0, 32⟩
def CH_CAL_IO (c : Nat) : Nat := chBase c + 0x64
def CH_CAL_IO_OFS (c : Nat) : Fld := ⟨(CH_CAL_IO c), 0, 32⟩
def CH_CAL_VG (c : Nat) : Nat := chBase c + 0x68
def CH_CAL_VG_GAIN (c : Nat) : Fld := ⟨(CH_CAL_VG c), 0, 32⟩
def CH_CAL_VO (c : Nat) : Nat := chBase c + 0x6C
def CH_CAL_VO_OFS (c : Nat) : Fld := ⟨(CH_CAL_VO c), 0, 16⟩
def CH_CMD (c : Nat) : Nat := chBase c + 0x70
def CH_CMD_ON (c : Nat) : Fld := ⟨(CH_CMD c), 0, 1⟩
def CH_CMD_OFF (c : Nat) : Fld := ⟨(CH_CMD c), 1, 1⟩
def CH_CMD_SAFE (c : Nat) : Fld := ⟨(CH_CMD c), 2, 1⟩
def CH_CMD_RELEASE (c : Nat) : Fld := ⟨(CH_CMD c), 3, 1⟩
def CH_CMD_CLR_LATCH (c : Nat) : Fld := ⟨(CH_CMD c), 4, 1⟩
def CH_BANK_CTRL (b : Nat) : Nat := 0x61000 + 0x2000 * b
def CH_BANK_CTRL_RELEASE (b : Nat) : Fld := ⟨(CH_BANK_CTRL b), 0, 1⟩
def CH_BANK_CTRL_ELIM_LOCK (b : Nat) : Fld := ⟨(CH_BANK_CTRL b), 1, 1⟩
def CH_BANK_STAT (b : Nat) : Nat := 0x61004 + 0x2000 * b
def CH_BANK_STAT_SAFE (b : Nat) : Fld := ⟨(CH_BANK_STAT b), 0, 1⟩
def CH_BANK_STAT_VF_UV (b : Nat) : Fld := ⟨(CH_BANK_STAT b), 1, 1⟩
def CH_BANK_STAT_VF_OV (b : Nat) : Fld := ⟨(CH_BANK_STAT b), 2, 1⟩
def CH_BANK_STAT_ELIM_LOCKED (b : Nat) : Fld := ⟨(CH_BANK_STAT b), 3, 1⟩
def CH_BANK_EVT (b : Nat) : Nat := 0x61008 + 0x2000 * b
def CH_BANK_EVT_UV (b : Nat) : Fld := ⟨(CH_BANK_EVT b), 0, 1⟩
def CH_BANK_EVT_OV (b : Nat) : Fld := ⟨(CH_BANK_EVT b), 1, 1⟩
def CH_BANK_EVT_BANK_OC (b : Nat) : Fld := ⟨(CH_BANK_EVT b), 2, 1⟩
def CH_BANK_EVT_HARD_LIMIT (b : Nat) : Fld := ⟨(CH_BANK_EVT b), 3, 1⟩
def CH_BANK_EVT_WD_TRIP (b : Nat) : Fld := ⟨(CH_BANK_EVT b), 4, 1⟩
def CH_BANK_EVT_CFG_APPLIED (b : Nat) : Fld := ⟨(CH_BANK_EVT b), 5, 1⟩
def CH_BANK_EVT_CH_SUM (b : Nat) : Fld := ⟨(CH_BANK_EVT b), 16, 16⟩
def CH_BANK_IEN (b : Nat) : Nat := 0x6100C + 0x2000 * b
def CH_BANK_IEN_IEN (b : Nat) : Fld := ⟨(CH_BANK_IEN b), 0, 6⟩
def CH_BANK_IEN_CH_IEN (b : Nat) : Fld := ⟨(CH_BANK_IEN b), 16, 1⟩
def CH_BANK_VEC (b : Nat) : Nat := 0x61010 + 0x2000 * b
def CH_BANK_VEC_VECTOR (b : Nat) : Fld := ⟨(CH_BANK_VEC b), 0, 6⟩
def CH_BANK_I (b : Nat) : Nat := 0x61014 + 0x2000 * b
def CH_BANK_I_I (b : Nat) : Fld := ⟨(CH_BANK_I b), 0, 32⟩
def CH_BANK_IAVG (b : Nat) : Nat := 0x61018 + 0x2000 * b
def CH_BANK_IAVG_I (b : Nat) : Fld := ⟨(CH_BANK_IAVG b), 0, 32⟩
def CH_BANK_VF (b : Nat) : Nat := 0x6101C + 0x2000 * b
def CH_BANK_VF_VF (b : Nat) : Fld := ⟨(CH_BANK_VF b), 0, 16⟩
def CH_BANK_PWR (b : Nat) : Nat := 0x61020 + 0x2000 * b
def CH_BANK_PWR_P (b : Nat) : Fld := ⟨(CH_BANK_PWR b), 0, 16⟩
def CH_DIE_WD (d : Nat) : Nat := 0x61800 + 0x8000 * d
def CH_DIE_WD_TIMEOUT (d : Nat) : Fld := ⟨(CH_DIE_WD d), 0, 7⟩
def CH_DIE_STAT (d : Nat) : Nat := 0x61804 + 0x8000 * d
def CH_DIE_STAT_LINK_UP (d : Nat) : Fld := ⟨(CH_DIE_STAT d), 0, 1⟩
def CH_DIE_STAT_TEMP (d : Nat) : Fld := ⟨(CH_DIE_STAT d), 8, 8⟩
def CH_DIE_LINK_ERR_CNT (d : Nat) : Nat := 0x61808 + 0x8000 * d
def CH_DIE_LINK_ERR_CNT_COUNT (d : Nat) : Fld := ⟨(CH_DIE_LINK_ERR_CNT d), 0, 32⟩
def CH_XCON_LAST : Nat := 0x61C00
def CH_XCON_LAST_CH_A : Fld := ⟨CH_XCON_LAST, 0, 7⟩
def CH_XCON_LAST_CH_B : Fld := ⟨CH_XCON_LAST, 8, 7⟩
def CH_XCON_LAST_CAUSE : Fld := ⟨CH_XCON_LAST, 16, 2⟩
def CH_XCON_LAST_VALID : Fld := ⟨CH_XCON_LAST, 31, 1⟩
def CH_XCON_MT_LO : Nat := 0x61C04
def CH_XCON_MT_LO_MT : Fld := ⟨CH_XCON_MT_LO, 0, 32⟩
def CH_XCON_MT_HI : Nat := 0x61C08
def CH_XCON_MT_HI_MT : Fld := ⟨CH_XCON_MT_HI, 0, 32⟩
def CH_XCON_CNT : Nat := 0x61C0C
def CH_XCON_CNT_COUNT : Fld := ⟨CH_XCON_CNT, 0, 32⟩
def CH_CFG_ERR : Nat := 0x61C10
def CH_CFG_ERR_CH : Fld := ⟨CH_CFG_ERR, 0, 7⟩
def CH_CFG_ERR_WORD : Fld := ⟨CH_CFG_ERR, 8, 4⟩
def CH_CFG_ERR_VALID : Fld := ⟨CH_CFG_ERR, 31, 1⟩
def CH_IN_CFG (c : Nat) : Nat := chBase c + 0x80
def CH_IN_CFG_THR (c : Nat) : Fld := ⟨(CH_IN_CFG c), 0, 1⟩
def CH_IN_CFG_INV (c : Nat) : Fld := ⟨(CH_IN_CFG c), 1, 1⟩
def CH_IN_CFG_EDGE (c : Nat) : Fld := ⟨(CH_IN_CFG c), 2, 2⟩
def CH_IN_CFG_FIFO_EN (c : Nat) : Fld := ⟨(CH_IN_CFG c), 4, 1⟩
def CH_IN_CFG_WB_EN (c : Nat) : Fld := ⟨(CH_IN_CFG c), 5, 1⟩
def CH_IN_CFG_TAG_EN (c : Nat) : Fld := ⟨(CH_IN_CFG c), 6, 1⟩
def CH_IN_CFG_TAG_MODE (c : Nat) : Fld := ⟨(CH_IN_CFG c), 7, 1⟩
def CH_IN_CFG_TAG_LP (c : Nat) : Fld := ⟨(CH_IN_CFG c), 8, 8⟩
def CH_IN_CFG_TAG_USE_LP (c : Nat) : Fld := ⟨(CH_IN_CFG c), 16, 1⟩
def CH_IN_FILT (c : Nat) : Nat := chBase c + 0x84
def CH_IN_FILT_FILT (c : Nat) : Fld := ⟨(CH_IN_FILT c), 0, 16⟩
def CH_IN_FILT_FILT_UNIT (c : Nat) : Fld := ⟨(CH_IN_FILT c), 16, 1⟩
def CH_IN_PTH (c : Nat) : Nat := chBase c + 0x88
def CH_IN_PTH_PTH_RISE (c : Nat) : Fld := ⟨(CH_IN_PTH c), 0, 16⟩
def CH_IN_PTH_PTH_FALL (c : Nat) : Fld := ⟨(CH_IN_PTH c), 16, 16⟩
def CH_IN_AIN (c : Nat) : Nat := chBase c + 0x8C
def CH_IN_AIN_AIN_PERIOD (c : Nat) : Fld := ⟨(CH_IN_AIN c), 0, 16⟩
def CH_IN_WB (c : Nat) : Nat := chBase c + 0x90
def CH_IN_WB_WB_LIM (c : Nat) : Fld := ⟨(CH_IN_WB c), 0, 16⟩
def CH_IN_WB_WB_T (c : Nat) : Fld := ⟨(CH_IN_WB c), 16, 8⟩
def CH_IN_TAG (c : Nat) : Nat := chBase c + 0x94
def CH_IN_TAG_TAG_PERIOD (c : Nat) : Fld := ⟨(CH_IN_TAG c), 0, 24⟩
def CH_IN_STAT (c : Nat) : Nat := chBase c + 0xC0
def CH_IN_STAT_LEVEL (c : Nat) : Fld := ⟨(CH_IN_STAT c), 0, 1⟩
def CH_IN_STAT_WB_NOW (c : Nat) : Fld := ⟨(CH_IN_STAT c), 1, 1⟩
def CH_IN_STAT_WIRE_BREAK (c : Nat) : Fld := ⟨(CH_IN_STAT c), 8, 1⟩
def CH_IN_STAT_FIFO_OVF (c : Nat) : Fld := ⟨(CH_IN_STAT c), 9, 1⟩
def CH_IN_STAT_AIN_OVR (c : Nat) : Fld := ⟨(CH_IN_STAT c), 10, 1⟩
def CH_IN_STAT_TAG_NEW (c : Nat) : Fld := ⟨(CH_IN_STAT c), 11, 1⟩
def CH_IN_STAT_DROP (c : Nat) : Fld := ⟨(CH_IN_STAT c), 16, 16⟩
def CH_IN_VAL (c : Nat) : Nat := chBase c + 0xC4
def CH_IN_VAL_VAL (c : Nat) : Fld := ⟨(CH_IN_VAL c), 0, 32⟩
def CH_IN_VAL_MT (c : Nat) : Nat := chBase c + 0xC8
def CH_IN_VAL_MT_MT (c : Nat) : Fld := ⟨(CH_IN_VAL_MT c), 0, 32⟩
def CH_IN_CNT (c : Nat) : Nat := chBase c + 0xCC
def CH_IN_CNT_COUNT (c : Nat) : Fld := ⟨(CH_IN_CNT c), 0, 32⟩
def CH_IN_PER (c : Nat) : Nat := chBase c + 0xD0
def CH_IN_PER_PER (c : Nat) : Fld := ⟨(CH_IN_PER c), 0, 32⟩
def CH_IN_FIFO (c : Nat) : Nat := chBase c + 0xD4
def CH_IN_FIFO_COUNT (c : Nat) : Fld := ⟨(CH_IN_FIFO c), 0, 5⟩
def CH_IN_FIFO_HEAD_LEVEL (c : Nat) : Fld := ⟨(CH_IN_FIFO c), 8, 1⟩
def CH_IN_TS_LO (c : Nat) : Nat := chBase c + 0xD8
def CH_IN_TS_LO_MT (c : Nat) : Fld := ⟨(CH_IN_TS_LO c), 0, 32⟩
def CH_IN_TS_HI (c : Nat) : Nat := chBase c + 0xDC
def CH_IN_TS_HI_MT (c : Nat) : Fld := ⟨(CH_IN_TS_HI c), 0, 32⟩
def CH_IN_POP (c : Nat) : Nat := chBase c + 0xE0
def CH_IN_POP_POP (c : Nat) : Fld := ⟨(CH_IN_POP c), 0, 1⟩
def CH_IN_TAG_MT_LO (c : Nat) : Nat := chBase c + 0xE4
def CH_IN_TAG_MT_LO_MT (c : Nat) : Fld := ⟨(CH_IN_TAG_MT_LO c), 0, 32⟩
def CH_IN_TAG_MT_HI (c : Nat) : Nat := chBase c + 0xE8
def CH_IN_TAG_MT_HI_MT (c : Nat) : Fld := ⟨(CH_IN_TAG_MT_HI c), 0, 32⟩
def CH_IN_TAG_E (c : Nat) : Nat := chBase c + 0xEC
def CH_IN_TAG_E_POS (c : Nat) : Fld := ⟨(CH_IN_TAG_E c), 0, 32⟩
def CH_IN_TAG_N (c : Nat) : Nat := chBase c + 0xF0
def CH_IN_TAG_N_POS (c : Nat) : Fld := ⟨(CH_IN_TAG_N c), 0, 32⟩
def CH_IN_TAG_VAL (c : Nat) : Nat := chBase c + 0xF4
def CH_IN_TAG_VAL_VAL (c : Nat) : Fld := ⟨(CH_IN_TAG_VAL c), 0, 32⟩
def CH_IN_TAG_SEQ (c : Nat) : Nat := chBase c + 0xF8
def CH_IN_TAG_SEQ_SEQ (c : Nat) : Fld := ⟨(CH_IN_TAG_SEQ c), 0, 16⟩
def CH_IN_TAG_SEQ_STATE (c : Nat) : Fld := ⟨(CH_IN_TAG_SEQ c), 16, 3⟩
def CH_IN_TAG_SEQ_POS_OK (c : Nat) : Fld := ⟨(CH_IN_TAG_SEQ c), 19, 1⟩
def PSQ_LD_ADDR_LO : Nat := 0x70000
def PSQ_LD_ADDR_LO_ADDR : Fld := ⟨PSQ_LD_ADDR_LO, 0, 32⟩
def PSQ_LD_ADDR_HI : Nat := 0x70004
def PSQ_LD_ADDR_HI_ADDR : Fld := ⟨PSQ_LD_ADDR_HI, 0, 32⟩
def PSQ_LD_CFG : Nat := 0x70008
def PSQ_LD_CFG_BANKS : Fld := ⟨PSQ_LD_CFG, 0, 8⟩
def PSQ_LD_CFG_SRC : Fld := ⟨PSQ_LD_CFG, 8, 1⟩
def PSQ_LD_CFG_GEN : Fld := ⟨PSQ_LD_CFG, 16, 16⟩
def PSQ_LD_CMD : Nat := 0x7000C
def PSQ_LD_CMD_GO : Fld := ⟨PSQ_LD_CMD, 0, 1⟩
def PSQ_LD_STAT : Nat := 0x70010
def PSQ_LD_STAT_BUSY : Fld := ⟨PSQ_LD_STAT, 0, 1⟩
def PSQ_LD_STAT_DONE : Fld := ⟨PSQ_LD_STAT, 1, 1⟩
def PSQ_LD_STAT_ERR : Fld := ⟨PSQ_LD_STAT, 2, 1⟩
def PSQ_LD_STAT_REASON : Fld := ⟨PSQ_LD_STAT, 4, 4⟩
def PSQ_LD_STAT_WORD : Fld := ⟨PSQ_LD_STAT, 16, 9⟩
def PSQ_BANK_CTRL (b : Nat) : Nat := 0x71000 + 0x800 * b
def PSQ_BANK_CTRL_AMB_SRC (b : Nat) : Fld := ⟨(PSQ_BANK_CTRL b), 0, 1⟩
def PSQ_BANK_STAT (b : Nat) : Nat := 0x71004 + 0x800 * b
def PSQ_BANK_STAT_ACT_VALID (b : Nat) : Fld := ⟨(PSQ_BANK_STAT b), 0, 1⟩
def PSQ_BANK_STAT_STG_VALID (b : Nat) : Fld := ⟨(PSQ_BANK_STAT b), 1, 1⟩
def PSQ_BANK_STAT_OLD_BUSY (b : Nat) : Fld := ⟨(PSQ_BANK_STAT b), 2, 1⟩
def PSQ_BANK_STAT_ACT_HALF (b : Nat) : Fld := ⟨(PSQ_BANK_STAT b), 3, 1⟩
def PSQ_BANK_GEN (b : Nat) : Nat := 0x71008 + 0x800 * b
def PSQ_BANK_GEN_ACT_GEN (b : Nat) : Fld := ⟨(PSQ_BANK_GEN b), 0, 16⟩
def PSQ_BANK_GEN_STG_GEN (b : Nat) : Fld := ⟨(PSQ_BANK_GEN b), 16, 16⟩
def PSQ_BANK_AMB (b : Nat) : Nat := 0x7100C + 0x800 * b
def PSQ_BANK_AMB_AMB (b : Nat) : Fld := ⟨(PSQ_BANK_AMB b), 0, 16⟩
def PSQ_BANK_SWAP_MT_LO (b : Nat) : Nat := 0x71010 + 0x800 * b
def PSQ_BANK_SWAP_MT_LO_MT (b : Nat) : Fld := ⟨(PSQ_BANK_SWAP_MT_LO b), 0, 32⟩
def PSQ_BANK_SWAP_MT_HI (b : Nat) : Nat := 0x71014 + 0x800 * b
def PSQ_BANK_SWAP_MT_HI_MT (b : Nat) : Fld := ⟨(PSQ_BANK_SWAP_MT_HI b), 0, 32⟩
def PSQ_BANK_CMD (b : Nat) : Nat := 0x71018 + 0x800 * b
def PSQ_BANK_CMD_SWAP (b : Nat) : Fld := ⟨(PSQ_BANK_CMD b), 0, 1⟩
def PSQ_BANK_CMD_DROP_STG (b : Nat) : Fld := ⟨(PSQ_BANK_CMD b), 1, 1⟩
def PSQ_BANK_EVT (b : Nat) : Nat := 0x71020 + 0x800 * b
def PSQ_BANK_EVT_LOADED (b : Nat) : Fld := ⟨(PSQ_BANK_EVT b), 0, 1⟩
def PSQ_BANK_EVT_LOAD_ERR (b : Nat) : Fld := ⟨(PSQ_BANK_EVT b), 1, 1⟩
def PSQ_BANK_EVT_SWAPPED (b : Nat) : Fld := ⟨(PSQ_BANK_EVT b), 2, 1⟩
def PSQ_BANK_EVT_INTEG (b : Nat) : Fld := ⟨(PSQ_BANK_EVT b), 3, 1⟩
def PSQ_BANK_EVT_DROP (b : Nat) : Fld := ⟨(PSQ_BANK_EVT b), 4, 1⟩
def PSQ_BANK_EVT_GRP_ERR (b : Nat) : Fld := ⟨(PSQ_BANK_EVT b), 5, 1⟩
def PSQ_BANK_EVT_CTX_SUM (b : Nat) : Fld := ⟨(PSQ_BANK_EVT b), 16, 16⟩
def PSQ_BANK_IEN (b : Nat) : Nat := 0x71024 + 0x800 * b
def PSQ_BANK_IEN_IEN (b : Nat) : Fld := ⟨(PSQ_BANK_IEN b), 0, 6⟩
def PSQ_BANK_IEN_CTX_IEN (b : Nat) : Fld := ⟨(PSQ_BANK_IEN b), 16, 1⟩
def PSQ_BANK_VEC (b : Nat) : Nat := 0x71028 + 0x800 * b
def PSQ_BANK_VEC_VECTOR (b : Nat) : Fld := ⟨(PSQ_BANK_VEC b), 0, 6⟩
def PSQ_GRP_CFG (b g : Nat) : Nat := 0x71040 + 0x800 * b + 0x4 * g
def PSQ_GRP_CFG_FEEDER (b g : Nat) : Fld := ⟨(PSQ_GRP_CFG b g), 0, 4⟩
def PSQ_GRP_CFG_MEMBERS (b g : Nat) : Fld := ⟨(PSQ_GRP_CFG b g), 4, 16⟩
def PSQ_GRP_CFG_EN (b g : Nat) : Fld := ⟨(PSQ_GRP_CFG b g), 31, 1⟩
def PSQ_GRP_LIM (b g : Nat) : Nat := 0x71050 + 0x800 * b + 0x4 * g
def PSQ_GRP_LIM_FEED_LIM (b g : Nat) : Fld := ⟨(PSQ_GRP_LIM b g), 0, 12⟩
def PSQ_BANK_WAIT_CNT (b : Nat) : Nat := 0x71060 + 0x800 * b
def PSQ_BANK_WAIT_CNT_COUNT (b : Nat) : Fld := ⟨(PSQ_BANK_WAIT_CNT b), 0, 32⟩
def PSQ_BANK_DROP_CNT (b : Nat) : Nat := 0x71064 + 0x800 * b
def PSQ_BANK_DROP_CNT_COUNT (b : Nat) : Fld := ⟨(PSQ_BANK_DROP_CNT b), 0, 32⟩
def PSQ_BANK_INTEG_CNT (b : Nat) : Nat := 0x71068 + 0x800 * b
def PSQ_BANK_INTEG_CNT_COUNT (b : Nat) : Fld := ⟨(PSQ_BANK_INTEG_CNT b), 0, 32⟩
def PSQ_BANK_REFETCH_CNT (b : Nat) : Nat := 0x7106C + 0x800 * b
def PSQ_BANK_REFETCH_CNT_COUNT (b : Nat) : Fld := ⟨(PSQ_BANK_REFETCH_CNT b), 0, 32⟩
def PSQ_CH_CFG (c : Nat) : Nat := psqBase c
def PSQ_CH_CFG_FW_EXT (c : Nat) : Fld := ⟨(PSQ_CH_CFG c), 0, 1⟩
def PSQ_CH_STAT (c : Nat) : Nat := psqBase c + 0x4
def PSQ_CH_STAT_PC (c : Nat) : Fld := ⟨(PSQ_CH_STAT c), 0, 9⟩
def PSQ_CH_STAT_RUN (c : Nat) : Fld := ⟨(PSQ_CH_STAT c), 9, 1⟩
def PSQ_CH_STAT_WAITING (c : Nat) : Fld := ⟨(PSQ_CH_STAT c), 10, 1⟩
def PSQ_CH_STAT_PEAK_CLASS (c : Nat) : Fld := ⟨(PSQ_CH_STAT c), 11, 1⟩
def PSQ_CH_STAT_COIL_HOT (c : Nat) : Fld := ⟨(PSQ_CH_STAT c), 12, 1⟩
def PSQ_CH_STAT_OLD_IMG (c : Nat) : Fld := ⟨(PSQ_CH_STAT c), 13, 1⟩
def PSQ_CH_STAT_PROG_WHY (c : Nat) : Fld := ⟨(PSQ_CH_STAT c), 14, 2⟩
def PSQ_CH_STAT_CLOSED (c : Nat) : Fld := ⟨(PSQ_CH_STAT c), 16, 1⟩
def PSQ_CH_STAT_NO_CLOSE (c : Nat) : Fld := ⟨(PSQ_CH_STAT c), 17, 1⟩
def PSQ_CH_STAT_BOOST_TO (c : Nat) : Fld := ⟨(PSQ_CH_STAT c), 18, 1⟩
def PSQ_CH_STAT_QUENCH_TO (c : Nat) : Fld := ⟨(PSQ_CH_STAT c), 19, 1⟩
def PSQ_CH_STAT_PEAK_OVR (c : Nat) : Fld := ⟨(PSQ_CH_STAT c), 20, 1⟩
def PSQ_CH_STAT_PROG_ERR (c : Nat) : Fld := ⟨(PSQ_CH_STAT c), 21, 1⟩
def PSQ_CH_STAT_COIL_WARN (c : Nat) : Fld := ⟨(PSQ_CH_STAT c), 22, 1⟩
def PSQ_CH_STAT_MARK (c : Nat) : Fld := ⟨(PSQ_CH_STAT c), 23, 1⟩
def PSQ_CH_STAT_KILLED (c : Nat) : Fld := ⟨(PSQ_CH_STAT c), 24, 1⟩
def PSQ_CH_STAT_REDO (c : Nat) : Fld := ⟨(PSQ_CH_STAT c), 25, 1⟩
def PSQ_CH_CLOSE_LO (c : Nat) : Nat := psqBase c + 0x8
def PSQ_CH_CLOSE_LO_MT (c : Nat) : Fld := ⟨(PSQ_CH_CLOSE_LO c), 0, 32⟩
def PSQ_CH_CLOSE_HI (c : Nat) : Nat := psqBase c + 0xC
def PSQ_CH_CLOSE_HI_MT (c : Nat) : Fld := ⟨(PSQ_CH_CLOSE_HI c), 0, 32⟩
def PSQ_CH_CLOSE_T (c : Nat) : Nat := psqBase c + 0x10
def PSQ_CH_CLOSE_T_T (c : Nat) : Fld := ⟨(PSQ_CH_CLOSE_T c), 0, 32⟩
def PSQ_CH_MARK_LO (c : Nat) : Nat := psqBase c + 0x14
def PSQ_CH_MARK_LO_MT (c : Nat) : Fld := ⟨(PSQ_CH_MARK_LO c), 0, 32⟩
def PSQ_CH_MARK_HI (c : Nat) : Nat := psqBase c + 0x18
def PSQ_CH_MARK_HI_MT (c : Nat) : Fld := ⟨(PSQ_CH_MARK_HI c), 0, 24⟩
def PSQ_CH_MARK_HI_TAG (c : Nat) : Fld := ⟨(PSQ_CH_MARK_HI c), 24, 8⟩
def PSQ_CH_COIL_R (c : Nat) : Nat := psqBase c + 0x1C
def PSQ_CH_COIL_R_R20 (c : Nat) : Fld := ⟨(PSQ_CH_COIL_R c), 0, 16⟩
def PSQ_CH_COIL_TH (c : Nat) : Nat := psqBase c + 0x20
def PSQ_CH_COIL_TH_RTH (c : Nat) : Fld := ⟨(PSQ_CH_COIL_TH c), 0, 16⟩
def PSQ_CH_COIL_TH_TAU (c : Nat) : Fld := ⟨(PSQ_CH_COIL_TH c), 16, 16⟩
def PSQ_CH_COIL_LIM (c : Nat) : Nat := psqBase c + 0x24
def PSQ_CH_COIL_LIM_TW_LIM (c : Nat) : Fld := ⟨(PSQ_CH_COIL_LIM c), 0, 8⟩
def PSQ_CH_COIL_LIM_TW_WARN (c : Nat) : Fld := ⟨(PSQ_CH_COIL_LIM c), 8, 8⟩
def PSQ_CH_COIL_LIM_HOLD_MIN (c : Nat) : Fld := ⟨(PSQ_CH_COIL_LIM c), 16, 12⟩
def PSQ_CH_COIL_TW (c : Nat) : Nat := psqBase c + 0x28
def PSQ_CH_COIL_TW_TW (c : Nat) : Fld := ⟨(PSQ_CH_COIL_TW c), 0, 16⟩
def PSQ_CH_COIL_RM (c : Nat) : Nat := psqBase c + 0x2C
def PSQ_CH_COIL_RM_RM (c : Nat) : Fld := ⟨(PSQ_CH_COIL_RM c), 0, 16⟩
def PSQ_CH_START_CNT (c : Nat) : Nat := psqBase c + 0x30
def PSQ_CH_START_CNT_COUNT (c : Nat) : Fld := ⟨(PSQ_CH_START_CNT c), 0, 32⟩
def PSQ_CH_NOCLOSE_CNT (c : Nat) : Nat := psqBase c + 0x34
def PSQ_CH_NOCLOSE_CNT_COUNT (c : Nat) : Fld := ⟨(PSQ_CH_NOCLOSE_CNT c), 0, 32⟩
def LOOP_CTRL : Nat := 0x80000
def LOOP_CTRL_OPEN_ALL : Fld := ⟨LOOP_CTRL, 0, 1⟩
def LOOP_STAT : Nat := 0x80004
def LOOP_STAT_NRUN : Fld := ⟨LOOP_STAT, 0, 8⟩
def LOOP_STAT_NSAFE : Fld := ⟨LOOP_STAT, 8, 8⟩
def LOOP_IEN : Nat := 0x80010
def LOOP_IEN_SUM_IEN : Fld := ⟨LOOP_IEN, 0, 1⟩
def LOOP_VEC : Nat := 0x80014
def LOOP_VEC_VECTOR : Fld := ⟨LOOP_VEC, 0, 6⟩
def LOOP_SUM (i : Nat) : Nat := 0x80020 + 0x4 * i
def LOOP_SUM_SUM (i : Nat) : Fld := ⟨(LOOP_SUM i), 0, 32⟩
def LOOP_POS (i : Nat) : Nat := 0x80040 + 0x4 * i
def LOOP_POS_OCC0 (i : Nat) : Fld := ⟨(LOOP_POS i), 0, 4⟩
def LOOP_POS_OCC1 (i : Nat) : Fld := ⟨(LOOP_POS i), 4, 4⟩
def LOOP_POS_OCC2 (i : Nat) : Fld := ⟨(LOOP_POS i), 8, 4⟩
def LOOP_POS_OCC3 (i : Nat) : Fld := ⟨(LOOP_POS i), 12, 4⟩
def LOOP_POS_OCC4 (i : Nat) : Fld := ⟨(LOOP_POS i), 16, 4⟩
def LOOP_POS_OCC5 (i : Nat) : Fld := ⟨(LOOP_POS i), 20, 4⟩
def LOOP_POS_OCC6 (i : Nat) : Fld := ⟨(LOOP_POS i), 24, 4⟩
def LOOP_POS_OCC7 (i : Nat) : Fld := ⟨(LOOP_POS i), 28, 4⟩
def LOOP_RECOMP_CNT : Nat := 0x80080
def LOOP_RECOMP_CNT_COUNT : Fld := ⟨LOOP_RECOMP_CNT, 0, 32⟩
def LOOP_INTEG_CNT : Nat := 0x80084
def LOOP_INTEG_CNT_COUNT : Fld := ⟨LOOP_INTEG_CNT, 0, 32⟩
def LOOP_XFER_CNT : Nat := 0x80088
def LOOP_XFER_CNT_COUNT : Fld := ⟨LOOP_XFER_CNT, 0, 32⟩
def LOOP_FB_CNT : Nat := 0x8008C
def LOOP_FB_CNT_COUNT : Fld := ⟨LOOP_FB_CNT, 0, 32⟩
def LOOP_PLAUS_CNT : Nat := 0x80090
def LOOP_PLAUS_CNT_COUNT : Fld := ⟨LOOP_PLAUS_CNT, 0, 32⟩
def LOOP_S_CFG (s : Nat) : Nat := 0x81000 + 0x40 * s
def LOOP_S_CFG_LAW (s : Nat) : Fld := ⟨(LOOP_S_CFG s), 0, 2⟩
def LOOP_S_CFG_DST_KIND (s : Nat) : Fld := ⟨(LOOP_S_CFG s), 2, 2⟩
def LOOP_S_CFG_DST (s : Nat) : Fld := ⟨(LOOP_S_CFG s), 8, 8⟩
def LOOP_S_PER (s : Nat) : Nat := 0x81004 + 0x40 * s
def LOOP_S_PER_SPER (s : Nat) : Fld := ⟨(LOOP_S_PER s), 0, 20⟩
def LOOP_S_PHASE (s : Nat) : Nat := 0x81008 + 0x40 * s
def LOOP_S_PHASE_SPHASE (s : Nat) : Fld := ⟨(LOOP_S_PHASE s), 0, 20⟩
def LOOP_S_UMAN (s : Nat) : Nat := 0x8100C + 0x40 * s
def LOOP_S_UMAN_U_MAN (s : Nat) : Fld := ⟨(LOOP_S_UMAN s), 0, 32⟩
def LOOP_S_SAFE (s : Nat) : Nat := 0x81010 + 0x40 * s
def LOOP_S_SAFE_SAFE_U (s : Nat) : Fld := ⟨(LOOP_S_SAFE s), 0, 32⟩
def LOOP_S_HOLD (s : Nat) : Nat := 0x81014 + 0x40 * s
def LOOP_S_HOLD_HOLD (s : Nat) : Fld := ⟨(LOOP_S_HOLD s), 0, 16⟩
def LOOP_S_HOLD_FRZ_N (s : Nat) : Fld := ⟨(LOOP_S_HOLD s), 16, 8⟩
def LOOP_S_HOLD_ENG_TO (s : Nat) : Fld := ⟨(LOOP_S_HOLD s), 24, 8⟩
def LOOP_S_SRAMP (s : Nat) : Nat := 0x81018 + 0x40 * s
def LOOP_S_SRAMP_SAFE_RAMP (s : Nat) : Fld := ⟨(LOOP_S_SRAMP s), 0, 32⟩
def LOOP_S_XSLEW (s : Nat) : Nat := 0x8101C + 0x40 * s
def LOOP_S_XSLEW_XSLEW (s : Nat) : Fld := ⟨(LOOP_S_XSLEW s), 0, 32⟩
def LOOP_S_FRZ_DU (s : Nat) : Nat := 0x81020 + 0x40 * s
def LOOP_S_FRZ_DU_FRZ_DU (s : Nat) : Fld := ⟨(LOOP_S_FRZ_DU s), 0, 32⟩
def LOOP_S_FBIN (s : Nat) : Nat := 0x81024 + 0x40 * s
def LOOP_S_FBIN_FBIN (s : Nat) : Fld := ⟨(LOOP_S_FBIN s), 0, 32⟩
def LOOP_S_CMD (s : Nat) : Nat := 0x81028 + 0x40 * s
def LOOP_S_CMD_CLOSE (s : Nat) : Fld := ⟨(LOOP_S_CMD s), 0, 1⟩
def LOOP_S_CMD_OPEN (s : Nat) : Fld := ⟨(LOOP_S_CMD s), 1, 1⟩
def LOOP_S_CMD_XFER (s : Nat) : Fld := ⟨(LOOP_S_CMD s), 2, 1⟩
def LOOP_S_CMD_XLAW (s : Nat) : Fld := ⟨(LOOP_S_CMD s), 4, 2⟩
def LOOP_S_STAT (s : Nat) : Nat := 0x8102C + 0x40 * s
def LOOP_S_STAT_STATE (s : Nat) : Fld := ⟨(LOOP_S_STAT s), 0, 3⟩
def LOOP_S_STAT_RUN_LAW (s : Nat) : Fld := ⟨(LOOP_S_STAT s), 3, 2⟩
def LOOP_S_STAT_XFER (s : Nat) : Fld := ⟨(LOOP_S_STAT s), 5, 1⟩
def LOOP_S_STAT_SAFE_WHY (s : Nat) : Fld := ⟨(LOOP_S_STAT s), 6, 2⟩
def LOOP_S_STAT_LOST (s : Nat) : Fld := ⟨(LOOP_S_STAT s), 8, 1⟩
def LOOP_S_STAT_FROZEN (s : Nat) : Fld := ⟨(LOOP_S_STAT s), 9, 1⟩
def LOOP_S_STAT_REJ_WHY (s : Nat) : Fld := ⟨(LOOP_S_STAT s), 10, 3⟩
def LOOP_S_STAT_FB_FAULT (s : Nat) : Fld := ⟨(LOOP_S_STAT s), 16, 1⟩
def LOOP_S_STAT_RESUMED (s : Nat) : Fld := ⟨(LOOP_S_STAT s), 17, 1⟩
def LOOP_S_STAT_PLAUS (s : Nat) : Fld := ⟨(LOOP_S_STAT s), 18, 1⟩
def LOOP_S_STAT_INTEG (s : Nat) : Fld := ⟨(LOOP_S_STAT s), 19, 1⟩
def LOOP_S_STAT_RECOMP (s : Nat) : Fld := ⟨(LOOP_S_STAT s), 20, 1⟩
def LOOP_S_STAT_XFER_DONE (s : Nat) : Fld := ⟨(LOOP_S_STAT s), 21, 1⟩
def LOOP_S_STAT_XFER_REJ (s : Nat) : Fld := ⟨(LOOP_S_STAT s), 22, 1⟩
def LOOP_S_STAT_BAD_WR (s : Nat) : Fld := ⟨(LOOP_S_STAT s), 23, 1⟩
def LOOP_S_STAT_CLOSE_REJ (s : Nat) : Fld := ⟨(LOOP_S_STAT s), 24, 1⟩
def LOOP_S_STAT_SP_CLAMP (s : Nat) : Fld := ⟨(LOOP_S_STAT s), 25, 1⟩
def LOOP_S_STAT_LATCH_DROP (s : Nat) : Fld := ⟨(LOOP_S_STAT s), 26, 1⟩
def LOOP_S_OUT (s : Nat) : Nat := 0x81030 + 0x40 * s
def LOOP_S_OUT_U (s : Nat) : Fld := ⟨(LOOP_S_OUT s), 0, 32⟩
def LOOP_S_FB (s : Nat) : Nat := 0x81034 + 0x40 * s
def LOOP_S_FB_FB (s : Nat) : Fld := ⟨(LOOP_S_FB s), 0, 32⟩
def LOOP_S_W (s : Nat) : Nat := 0x81038 + 0x40 * s
def LOOP_S_W_W (s : Nat) : Fld := ⟨(LOOP_S_W s), 0, 32⟩
def LOOP_L_CFG (j : Nat) : Nat := 0x84000 + 0x60 * j
def LOOP_L_CFG_FORM (j : Nat) : Fld := ⟨(LOOP_L_CFG j), 0, 2⟩
def LOOP_L_CFG_LAW_EN (j : Nat) : Fld := ⟨(LOOP_L_CFG j), 2, 1⟩
def LOOP_L_CFG_FB_SRC (j : Nat) : Fld := ⟨(LOOP_L_CFG j), 4, 3⟩
def LOOP_L_CFG_FB_CH (j : Nat) : Fld := ⟨(LOOP_L_CFG j), 8, 7⟩
def LOOP_L_CFG_B_SHIFT (j : Nat) : Fld := ⟨(LOOP_L_CFG j), 16, 5⟩
def LOOP_L_CFG_PL_N (j : Nat) : Fld := ⟨(LOOP_L_CFG j), 24, 4⟩
def LOOP_L_CFG_PL_ACT (j : Nat) : Fld := ⟨(LOOP_L_CFG j), 28, 1⟩
def LOOP_L_CFG_PL_VF (j : Nat) : Fld := ⟨(LOOP_L_CFG j), 29, 1⟩
def LOOP_L_A1 (j : Nat) : Nat := 0x84004 + 0x60 * j
def LOOP_L_A1_A (j : Nat) : Fld := ⟨(LOOP_L_A1 j), 0, 32⟩
def LOOP_L_A2 (j : Nat) : Nat := 0x84008 + 0x60 * j
def LOOP_L_A2_A (j : Nat) : Fld := ⟨(LOOP_L_A2 j), 0, 32⟩
def LOOP_L_A3 (j : Nat) : Nat := 0x8400C + 0x60 * j
def LOOP_L_A3_A (j : Nat) : Fld := ⟨(LOOP_L_A3 j), 0, 32⟩
def LOOP_L_B0 (j : Nat) : Nat := 0x84010 + 0x60 * j
def LOOP_L_B0_B (j : Nat) : Fld := ⟨(LOOP_L_B0 j), 0, 32⟩
def LOOP_L_B1 (j : Nat) : Nat := 0x84014 + 0x60 * j
def LOOP_L_B1_B (j : Nat) : Fld := ⟨(LOOP_L_B1 j), 0, 32⟩
def LOOP_L_B2 (j : Nat) : Nat := 0x84018 + 0x60 * j
def LOOP_L_B2_B (j : Nat) : Fld := ⟨(LOOP_L_B2 j), 0, 32⟩
def LOOP_L_B3 (j : Nat) : Nat := 0x8401C + 0x60 * j
def LOOP_L_B3_B (j : Nat) : Fld := ⟨(LOOP_L_B3 j), 0, 32⟩
def LOOP_L_SP (j : Nat) : Nat := 0x84020 + 0x60 * j
def LOOP_L_SP_VALUE (j : Nat) : Fld := ⟨(LOOP_L_SP j), 0, 32⟩
def LOOP_L_SP_MIN (j : Nat) : Nat := 0x84024 + 0x60 * j
def LOOP_L_SP_MIN_VALUE (j : Nat) : Fld := ⟨(LOOP_L_SP_MIN j), 0, 32⟩
def LOOP_L_SP_MAX (j : Nat) : Nat := 0x84028 + 0x60 * j
def LOOP_L_SP_MAX_VALUE (j : Nat) : Fld := ⟨(LOOP_L_SP_MAX j), 0, 32⟩
def LOOP_L_RAMP (j : Nat) : Nat := 0x8402C + 0x60 * j
def LOOP_L_RAMP_RAMP (j : Nat) : Fld := ⟨(LOOP_L_RAMP j), 0, 32⟩
def LOOP_L_U_MIN (j : Nat) : Nat := 0x84030 + 0x60 * j
def LOOP_L_U_MIN_VALUE (j : Nat) : Fld := ⟨(LOOP_L_U_MIN j), 0, 32⟩
def LOOP_L_U_MAX (j : Nat) : Nat := 0x84034 + 0x60 * j
def LOOP_L_U_MAX_VALUE (j : Nat) : Fld := ⟨(LOOP_L_U_MAX j), 0, 32⟩
def LOOP_L_E_LIM (j : Nat) : Nat := 0x84038 + 0x60 * j
def LOOP_L_E_LIM_E_LIM (j : Nat) : Fld := ⟨(LOOP_L_E_LIM j), 0, 31⟩
def LOOP_L_FB_MIN (j : Nat) : Nat := 0x8403C + 0x60 * j
def LOOP_L_FB_MIN_VALUE (j : Nat) : Fld := ⟨(LOOP_L_FB_MIN j), 0, 32⟩
def LOOP_L_FB_MAX (j : Nat) : Nat := 0x84040 + 0x60 * j
def LOOP_L_FB_MAX_VALUE (j : Nat) : Fld := ⟨(LOOP_L_FB_MAX j), 0, 32⟩
def LOOP_L_PL_P1 (j : Nat) : Nat := 0x84044 + 0x60 * j
def LOOP_L_PL_P1_P1 (j : Nat) : Fld := ⟨(LOOP_L_PL_P1 j), 0, 32⟩
def LOOP_L_PL_P2 (j : Nat) : Nat := 0x84048 + 0x60 * j
def LOOP_L_PL_P2_P2 (j : Nat) : Fld := ⟨(LOOP_L_PL_P2 j), 0, 32⟩
def LOOP_L_PL_P3 (j : Nat) : Nat := 0x8404C + 0x60 * j
def LOOP_L_PL_P3_P3 (j : Nat) : Fld := ⟨(LOOP_L_PL_P3 j), 0, 32⟩
def LOOP_L_PL_LIM (j : Nat) : Nat := 0x84050 + 0x60 * j
def LOOP_L_PL_LIM_PL_LIM (j : Nat) : Fld := ⟨(LOOP_L_PL_LIM j), 0, 31⟩
def ENG_CTRL (n : Nat) : Nat := 0x90000 + 0x1000 * n
def ENG_CTRL_START (n : Nat) : Fld := ⟨(ENG_CTRL n), 0, 1⟩
def ENG_CTRL_STOP (n : Nat) : Fld := ⟨(ENG_CTRL n), 1, 1⟩
def ENG_CTRL_RSTK_TRAP (n : Nat) : Fld := ⟨(ENG_CTRL n), 8, 1⟩
def ENG_CTRL_WAKE_START (n : Nat) : Fld := ⟨(ENG_CTRL n), 9, 1⟩
def ENG_CTRL_AUTOLOAD (n : Nat) : Fld := ⟨(ENG_CTRL n), 10, 1⟩
def ENG_STAT (n : Nat) : Nat := 0x90004 + 0x1000 * n
def ENG_STAT_STATE (n : Nat) : Fld := ⟨(ENG_STAT n), 0, 3⟩
def ENG_STAT_IMG_VALID (n : Nat) : Fld := ⟨(ENG_STAT n), 3, 1⟩
def ENG_STAT_ROLE (n : Nat) : Fld := ⟨(ENG_STAT n), 4, 4⟩
def ENG_STAT_RSD (n : Nat) : Fld := ⟨(ENG_STAT n), 8, 4⟩
def ENG_STAT_INH (n : Nat) : Fld := ⟨(ENG_STAT n), 12, 1⟩
def ENG_STAT_STOP_WHY (n : Nat) : Fld := ⟨(ENG_STAT n), 16, 3⟩
def ENG_ENTRY (n : Nat) : Nat := 0x90008 + 0x1000 * n
def ENG_ENTRY_ADDR (n : Nat) : Fld := ⟨(ENG_ENTRY n), 2, 15⟩
def ENG_WENTRY (n : Nat) : Nat := 0x9000C + 0x1000 * n
def ENG_WENTRY_ADDR (n : Nat) : Fld := ⟨(ENG_WENTRY n), 2, 15⟩
def ENG_PC (n : Nat) : Nat := 0x90010 + 0x1000 * n
def ENG_PC_PC (n : Nat) : Fld := ⟨(ENG_PC n), 2, 15⟩
def ENG_TRAP (n : Nat) : Nat := 0x90014 + 0x1000 * n
def ENG_TRAP_CAUSE (n : Nat) : Fld := ⟨(ENG_TRAP n), 0, 8⟩
def ENG_EPC (n : Nat) : Nat := 0x90018 + 0x1000 * n
def ENG_EPC_VALUE (n : Nat) : Fld := ⟨(ENG_EPC n), 0, 32⟩
def ENG_EVAL (n : Nat) : Nat := 0x9001C + 0x1000 * n
def ENG_EVAL_VALUE (n : Nat) : Fld := ⟨(ENG_EVAL n), 0, 32⟩
def ENG_GEN (n : Nat) : Nat := 0x90020 + 0x1000 * n
def ENG_GEN_GEN (n : Nat) : Fld := ⟨(ENG_GEN n), 0, 16⟩
def ENG_OUTST (n : Nat) : Nat := 0x90024 + 0x1000 * n
def ENG_OUTST_EMITS (n : Nat) : Fld := ⟨(ENG_OUTST n), 0, 7⟩
def ENG_OUTST_NOTES (n : Nat) : Fld := ⟨(ENG_OUTST n), 16, 7⟩
def ENG_FEAT (n i : Nat) : Nat := 0x90030 + 0x1000 * n + 0x4 * i
def ENG_FEAT_FEAT (n i : Nat) : Fld := ⟨(ENG_FEAT n i), 0, 32⟩
def ENG_MBIN (n : Nat) : Nat := 0x90040 + 0x1000 * n
def ENG_MBIN_DATA (n : Nat) : Fld := ⟨(ENG_MBIN n), 0, 32⟩
def ENG_MBOUT (n : Nat) : Nat := 0x90044 + 0x1000 * n
def ENG_MBOUT_DATA (n : Nat) : Fld := ⟨(ENG_MBOUT n), 0, 32⟩
def ENG_DADDR (n : Nat) : Nat := 0x90048 + 0x1000 * n
def ENG_DADDR_ADDR (n : Nat) : Fld := ⟨(ENG_DADDR n), 2, 15⟩
def ENG_DDATA (n : Nat) : Nat := 0x9004C + 0x1000 * n
def ENG_DDATA_DATA (n : Nat) : Fld := ⟨(ENG_DDATA n), 0, 32⟩
def ENG_EVT (n : Nat) : Nat := 0x90050 + 0x1000 * n
def ENG_EVT_STOPPED (n : Nat) : Fld := ⟨(ENG_EVT n), 0, 1⟩
def ENG_EVT_TRAP (n : Nat) : Fld := ⟨(ENG_EVT n), 1, 1⟩
def ENG_EVT_MBOUT (n : Nat) : Fld := ⟨(ENG_EVT n), 2, 1⟩
def ENG_EVT_LOADED (n : Nat) : Fld := ⟨(ENG_EVT n), 3, 1⟩
def ENG_EVT_LOAD_ERR (n : Nat) : Fld := ⟨(ENG_EVT n), 4, 1⟩
def ENG_EVT_SWAPPED (n : Nat) : Fld := ⟨(ENG_EVT n), 5, 1⟩
def ENG_EVT_REFETCH (n : Nat) : Fld := ⟨(ENG_EVT n), 6, 1⟩
def ENG_EVT_RETIRED (n : Nat) : Fld := ⟨(ENG_EVT n), 7, 1⟩
def ENG_IEN (n : Nat) : Nat := 0x90054 + 0x1000 * n
def ENG_IEN_IEN (n : Nat) : Fld := ⟨(ENG_IEN n), 0, 8⟩
def ENG_VEC (n : Nat) : Nat := 0x90058 + 0x1000 * n
def ENG_VEC_VECTOR (n : Nat) : Fld := ⟨(ENG_VEC n), 0, 6⟩
def ENG_LOAD_ERR (n : Nat) : Nat := 0x9005C + 0x1000 * n
def ENG_LOAD_ERR_REASON (n : Nat) : Fld := ⟨(ENG_LOAD_ERR n), 0, 8⟩
def ENG_LOAD_ERR_OFFSET (n : Nat) : Fld := ⟨(ENG_LOAD_ERR n), 8, 24⟩
def ENG_TRAP_CNT (n : Nat) : Nat := 0x90080 + 0x1000 * n
def ENG_TRAP_CNT_COUNT (n : Nat) : Fld := ⟨(ENG_TRAP_CNT n), 0, 32⟩
def ENG_REFETCH_CNT (n : Nat) : Nat := 0x90084 + 0x1000 * n
def ENG_REFETCH_CNT_COUNT (n : Nat) : Fld := ⟨(ENG_REFETCH_CNT n), 0, 32⟩
def ENG_EMIT_CNT (n : Nat) : Nat := 0x90088 + 0x1000 * n
def ENG_EMIT_CNT_COUNT (n : Nat) : Fld := ⟨(ENG_EMIT_CNT n), 0, 32⟩
def ENG_WRAP_CNT (n : Nat) : Nat := 0x9008C + 0x1000 * n
def ENG_WRAP_CNT_COUNT (n : Nat) : Fld := ⟨(ENG_WRAP_CNT n), 0, 32⟩
def ENG_SEND_FAIL_CNT (n : Nat) : Nat := 0x90090 + 0x1000 * n
def ENG_SEND_FAIL_CNT_COUNT (n : Nat) : Fld := ⟨(ENG_SEND_FAIL_CNT n), 0, 32⟩
def ENG_CL_CTRL (k : Nat) : Nat := 0x90800 + 0x8000 * k
def ENG_CL_CTRL_OFF (k : Nat) : Fld := ⟨(ENG_CL_CTRL k), 0, 1⟩
def ENG_CL_CTRL_ON (k : Nat) : Fld := ⟨(ENG_CL_CTRL k), 1, 1⟩
def ENG_CL_STAT (k : Nat) : Nat := 0x90804 + 0x8000 * k
def ENG_CL_STAT_POWERED (k : Nat) : Fld := ⟨(ENG_CL_STAT k), 0, 1⟩
def ENG_CL_STAT_LEAVE_DENIED (k : Nat) : Fld := ⟨(ENG_CL_STAT k), 1, 1⟩
def ENG_CL_STAT_RUN_MASK (k : Nat) : Fld := ⟨(ENG_CL_STAT k), 8, 8⟩
def SW_CTRL : Nat := 0xA0000
def SW_CTRL_EN : Fld := ⟨SW_CTRL, 0, 1⟩
def SW_CTRL_GLEAN_EN : Fld := ⟨SW_CTRL, 8, 1⟩
def SW_STAT : Nat := 0xA0004
def SW_STAT_FREE : Fld := ⟨SW_STAT, 0, 15⟩
def SW_STAT_GEN : Fld := ⟨SW_STAT, 16, 16⟩
def SW_GLEAN_CFG : Nat := 0xA0008
def SW_GLEAN_CFG_AUDIT_MS : Fld := ⟨SW_GLEAN_CFG, 0, 16⟩
def SW_AGE : Nat := 0xA000C
def SW_AGE_AGE_MS : Fld := ⟨SW_AGE, 0, 16⟩
def SW_MGMT : Nat := 0xA0010
def SW_MGMT_DEST : Fld := ⟨SW_MGMT, 0, 1⟩
def SW_MGMT_HP_Q : Fld := ⟨SW_MGMT, 4, 3⟩
def SW_MGMT_EP_ROLE : Fld := ⟨SW_MGMT, 8, 4⟩
def SW_CAN_MAC_LO : Nat := 0xA0014
def SW_CAN_MAC_LO_MAC : Fld := ⟨SW_CAN_MAC_LO, 0, 32⟩
def SW_CAN_MAC_HI : Nat := 0xA0018
def SW_CAN_MAC_HI_MAC : Fld := ⟨SW_CAN_MAC_HI, 0, 16⟩
def SW_ACF_CFG : Nat := 0xA001C
def SW_ACF_CFG_TS_SRC : Fld := ⟨SW_ACF_CFG, 0, 1⟩
def SW_ACF_CFG_MTV : Fld := ⟨SW_ACF_CFG, 1, 1⟩
def SW_INTEG_TH : Nat := 0xA0020
def SW_INTEG_TH_TH : Fld := ⟨SW_INTEG_TH, 0, 16⟩
def SW_TBL_RD_IDX : Nat := 0xA0030
def SW_TBL_RD_IDX_INDEX : Fld := ⟨SW_TBL_RD_IDX, 0, 12⟩
def SW_TBL_RD_IDX_TABLE : Fld := ⟨SW_TBL_RD_IDX, 12, 1⟩
def SW_TBL_RD_W (w : Nat) : Nat := 0xA0034 + 0x4 * w
def SW_TBL_RD_W_DATA (w : Nat) : Fld := ⟨(SW_TBL_RD_W w), 0, 32⟩
def SW_TBL_ERR : Nat := 0xA0044
def SW_TBL_ERR_INDEX : Fld := ⟨SW_TBL_ERR, 0, 12⟩
def SW_TBL_ERR_TABLE : Fld := ⟨SW_TBL_ERR, 12, 1⟩
def SW_TBL_ERR_VALID : Fld := ⟨SW_TBL_ERR, 31, 1⟩
def SW_GEN_HIST : Nat := 0xA0048
def SW_GEN_HIST_GEN_INSIDE : Fld := ⟨SW_GEN_HIST, 0, 4⟩
def SW_HOLD_CMD : Nat := 0xA0050
def SW_HOLD_CMD_HANDLE : Fld := ⟨SW_HOLD_CMD, 0, 17⟩
def SW_HOLD_CMD_FREE : Fld := ⟨SW_HOLD_CMD, 31, 1⟩
def SW_HOLD_STAT : Nat := 0xA0054
def SW_HOLD_STAT_HELD : Fld := ⟨SW_HOLD_STAT, 0, 9⟩
def SW_HOLD_TO : Nat := 0xA0058
def SW_HOLD_TO_HOLD_TO : Fld := ⟨SW_HOLD_TO, 0, 16⟩
def SW_MDIO_CMD : Nat := 0xA0060
def SW_MDIO_CMD_PHYAD : Fld := ⟨SW_MDIO_CMD, 0, 5⟩
def SW_MDIO_CMD_REGAD : Fld := ⟨SW_MDIO_CMD, 5, 5⟩
def SW_MDIO_CMD_OP : Fld := ⟨SW_MDIO_CMD, 10, 2⟩
def SW_MDIO_CMD_C45 : Fld := ⟨SW_MDIO_CMD, 12, 1⟩
def SW_MDIO_CMD_BUSY : Fld := ⟨SW_MDIO_CMD, 30, 1⟩
def SW_MDIO_CMD_GO : Fld := ⟨SW_MDIO_CMD, 31, 1⟩
def SW_MDIO_DATA : Nat := 0xA0064
def SW_MDIO_DATA_DATA : Fld := ⟨SW_MDIO_DATA, 0, 16⟩
def SW_STR_IDX : Nat := 0xA0070
def SW_STR_IDX_STREAM : Fld := ⟨SW_STR_IDX, 0, 10⟩
def SW_STR_PASS_CNT : Nat := 0xA0074
def SW_STR_PASS_CNT_COUNT : Fld := ⟨SW_STR_PASS_CNT, 0, 32⟩
def SW_STR_DROP_CNT : Nat := 0xA0078
def SW_STR_DROP_CNT_COUNT : Fld := ⟨SW_STR_DROP_CNT, 0, 32⟩
def SW_EVT : Nat := 0xA0080
def SW_EVT_INTEG : Fld := ⟨SW_EVT, 0, 1⟩
def SW_EVT_GLEANED : Fld := ⟨SW_EVT, 1, 1⟩
def SW_EVT_LINK_CHG : Fld := ⟨SW_EVT, 2, 1⟩
def SW_EVT_TS : Fld := ⟨SW_EVT, 3, 1⟩
def SW_EVT_TBL_POISON : Fld := ⟨SW_EVT, 4, 1⟩
def SW_EVT_HOLD_EXPIRED : Fld := ⟨SW_EVT, 5, 1⟩
def SW_EVT_CT_BAD : Fld := ⟨SW_EVT, 6, 1⟩
def SW_IEN : Nat := 0xA0084
def SW_IEN_IEN : Fld := ⟨SW_IEN, 0, 7⟩
def SW_VEC : Nat := 0xA0088
def SW_VEC_VECTOR : Fld := ⟨SW_VEC, 0, 6⟩
def SW_GLEAN_CNT : Nat := 0xA0090
def SW_GLEAN_CNT_COUNT : Fld := ⟨SW_GLEAN_CNT, 0, 32⟩
def SW_GLEAN_PASS_CNT : Nat := 0xA0094
def SW_GLEAN_PASS_CNT_COUNT : Fld := ⟨SW_GLEAN_PASS_CNT, 0, 32⟩
def SW_HOLD_EXP_CNT : Nat := 0xA0098
def SW_HOLD_EXP_CNT_COUNT : Fld := ⟨SW_HOLD_EXP_CNT, 0, 32⟩
def SW_HP_TOOBIG_CNT : Nat := 0xA009C
def SW_HP_TOOBIG_CNT_COUNT : Fld := ⟨SW_HP_TOOBIG_CNT, 0, 32⟩
def SW_ACF_IGN_CNT : Nat := 0xA00A0
def SW_ACF_IGN_CNT_COUNT : Fld := ⟨SW_ACF_IGN_CNT, 0, 32⟩
def SW_P_CFG (p : Nat) : Nat := 0xA1000 + 0x100 * p
def SW_P_CFG_EN (p : Nat) : Fld := ⟨(SW_P_CFG p), 0, 1⟩
def SW_P_CFG_IF (p : Nat) : Fld := ⟨(SW_P_CFG p), 1, 2⟩
def SW_P_CFG_SPEED (p : Nat) : Fld := ⟨(SW_P_CFG p), 3, 3⟩
def SW_P_CFG_AN_EN (p : Nat) : Fld := ⟨(SW_P_CFG p), 6, 1⟩
def SW_P_CFG_CT_EN (p : Nat) : Fld := ⟨(SW_P_CFG p), 7, 1⟩
def SW_P_CFG_EGR_TAG (p : Nat) : Fld := ⟨(SW_P_CFG p), 8, 1⟩
def SW_P_CFG_DEF_PCP (p : Nat) : Fld := ⟨(SW_P_CFG p), 9, 3⟩
def SW_P_CFG_PVID (p : Nat) : Fld := ⟨(SW_P_CFG p), 16, 12⟩
def SW_P_STAT (p : Nat) : Nat := 0xA1004 + 0x100 * p
def SW_P_STAT_LINK (p : Nat) : Fld := ⟨(SW_P_STAT p), 0, 1⟩
def SW_P_STAT_SPEED_NOW (p : Nat) : Fld := ⟨(SW_P_STAT p), 1, 3⟩
def SW_P_STAT_GCL_ACTIVE (p : Nat) : Fld := ⟨(SW_P_STAT p), 4, 1⟩
def SW_P_STAT_LIST (p : Nat) : Fld := ⟨(SW_P_STAT p), 5, 1⟩
def SW_P_STAT_SWAP_PEND (p : Nat) : Fld := ⟨(SW_P_STAT p), 6, 1⟩
def SW_P_FLOOD (p : Nat) : Nat := 0xA1008 + 0x100 * p
def SW_P_FLOOD_MASK (p : Nat) : Fld := ⟨(SW_P_FLOOD p), 0, 32⟩
def SW_P_PCPMAP (p : Nat) : Nat := 0xA100C + 0x100 * p
def SW_P_PCPMAP_QUEUE0 (p : Nat) : Fld := ⟨(SW_P_PCPMAP p), 0, 3⟩
def SW_P_PCPMAP_QUEUE1 (p : Nat) : Fld := ⟨(SW_P_PCPMAP p), 3, 3⟩
def SW_P_PCPMAP_QUEUE2 (p : Nat) : Fld := ⟨(SW_P_PCPMAP p), 6, 3⟩
def SW_P_PCPMAP_QUEUE3 (p : Nat) : Fld := ⟨(SW_P_PCPMAP p), 9, 3⟩
def SW_P_PCPMAP_QUEUE4 (p : Nat) : Fld := ⟨(SW_P_PCPMAP p), 12, 3⟩
def SW_P_PCPMAP_QUEUE5 (p : Nat) : Fld := ⟨(SW_P_PCPMAP p), 15, 3⟩
def SW_P_PCPMAP_QUEUE6 (p : Nat) : Fld := ⟨(SW_P_PCPMAP p), 18, 3⟩
def SW_P_PCPMAP_QUEUE7 (p : Nat) : Fld := ⟨(SW_P_PCPMAP p), 21, 3⟩
def SW_P_CELLS (p : Nat) : Nat := 0xA1010 + 0x100 * p
def SW_P_CELLS_MIN (p : Nat) : Fld := ⟨(SW_P_CELLS p), 0, 16⟩
def SW_P_CELLS_MAX (p : Nat) : Fld := ⟨(SW_P_CELLS p), 16, 16⟩
def SW_P_ECN (p : Nat) : Nat := 0xA1014 + 0x100 * p
def SW_P_ECN_MARK_TH (p : Nat) : Fld := ⟨(SW_P_ECN p), 0, 16⟩
def SW_P_TS_DLY (p : Nat) : Nat := 0xA1018 + 0x100 * p
def SW_P_TS_DLY_IN_DLY (p : Nat) : Fld := ⟨(SW_P_TS_DLY p), 0, 16⟩
def SW_P_TS_DLY_OUT_DLY (p : Nat) : Fld := ⟨(SW_P_TS_DLY p), 16, 16⟩
def SW_P_TS_STAT (p : Nat) : Nat := 0xA101C + 0x100 * p
def SW_P_TS_STAT_COUNT (p : Nat) : Fld := ⟨(SW_P_TS_STAT p), 0, 5⟩
def SW_P_TS_LO (p : Nat) : Nat := 0xA1020 + 0x100 * p
def SW_P_TS_LO_MT (p : Nat) : Fld := ⟨(SW_P_TS_LO p), 0, 32⟩
def SW_P_TS_HI (p : Nat) : Nat := 0xA1024 + 0x100 * p
def SW_P_TS_HI_MT (p : Nat) : Fld := ⟨(SW_P_TS_HI p), 0, 32⟩
def SW_P_TS_INFO (p : Nat) : Nat := 0xA1028 + 0x100 * p
def SW_P_TS_INFO_SEQID (p : Nat) : Fld := ⟨(SW_P_TS_INFO p), 0, 16⟩
def SW_P_TS_INFO_MSGTYPE (p : Nat) : Fld := ⟨(SW_P_TS_INFO p), 16, 4⟩
def SW_P_TS_INFO_DOMAIN (p : Nat) : Fld := ⟨(SW_P_TS_INFO p), 20, 8⟩
def SW_P_TS_POP (p : Nat) : Nat := 0xA102C + 0x100 * p
def SW_P_TS_POP_POP (p : Nat) : Fld := ⟨(SW_P_TS_POP p), 0, 1⟩
def SW_P_GCL_CTRL (p : Nat) : Nat := 0xA1030 + 0x100 * p
def SW_P_GCL_CTRL_GCL_EN (p : Nat) : Fld := ⟨(SW_P_GCL_CTRL p), 0, 1⟩
def SW_P_GCL_CTRL_SWAP (p : Nat) : Fld := ⟨(SW_P_GCL_CTRL p), 1, 1⟩
def SW_P_GCL_CTRL_LEN (p : Nat) : Fld := ⟨(SW_P_GCL_CTRL p), 8, 7⟩
def SW_P_GCL_CYCLE (p : Nat) : Nat := 0xA1034 + 0x100 * p
def SW_P_GCL_CYCLE_CYCLE (p : Nat) : Fld := ⟨(SW_P_GCL_CYCLE p), 0, 32⟩
def SW_P_GCL_BASE_LO (p : Nat) : Nat := 0xA1038 + 0x100 * p
def SW_P_GCL_BASE_LO_BASE (p : Nat) : Fld := ⟨(SW_P_GCL_BASE_LO p), 0, 32⟩
def SW_P_GCL_BASE_HI (p : Nat) : Nat := 0xA103C + 0x100 * p
def SW_P_GCL_BASE_HI_BASE (p : Nat) : Fld := ⟨(SW_P_GCL_BASE_HI p), 0, 32⟩
def SW_P_EVT (p : Nat) : Nat := 0xA1040 + 0x100 * p
def SW_P_EVT_LINK_DOWN (p : Nat) : Fld := ⟨(SW_P_EVT p), 0, 1⟩
def SW_P_EVT_LINK_UP (p : Nat) : Fld := ⟨(SW_P_EVT p), 1, 1⟩
def SW_P_EVT_TS_OVF (p : Nat) : Fld := ⟨(SW_P_EVT p), 2, 1⟩
def SW_P_EVT_GCL_SWAPPED (p : Nat) : Fld := ⟨(SW_P_EVT p), 3, 1⟩
def SW_P_EVT_CT_BAD (p : Nat) : Fld := ⟨(SW_P_EVT p), 4, 1⟩
def SW_P_RX_CNT (p : Nat) : Nat := 0xA1080 + 0x100 * p
def SW_P_RX_CNT_COUNT (p : Nat) : Fld := ⟨(SW_P_RX_CNT p), 0, 32⟩
def SW_P_TX_CNT (p : Nat) : Nat := 0xA1084 + 0x100 * p
def SW_P_TX_CNT_COUNT (p : Nat) : Fld := ⟨(SW_P_TX_CNT p), 0, 32⟩
def SW_P_FCS_ERR_CNT (p : Nat) : Nat := 0xA1088 + 0x100 * p
def SW_P_FCS_ERR_CNT_COUNT (p : Nat) : Fld := ⟨(SW_P_FCS_ERR_CNT p), 0, 32⟩
def SW_P_DROP_CELL_CNT (p : Nat) : Nat := 0xA108C + 0x100 * p
def SW_P_DROP_CELL_CNT_COUNT (p : Nat) : Fld := ⟨(SW_P_DROP_CELL_CNT p), 0, 32⟩
def SW_P_DROP_TAIL_CNT (p : Nat) : Nat := 0xA1090 + 0x100 * p
def SW_P_DROP_TAIL_CNT_COUNT (p : Nat) : Fld := ⟨(SW_P_DROP_TAIL_CNT p), 0, 32⟩
def SW_P_CE_CNT (p : Nat) : Nat := 0xA1094 + 0x100 * p
def SW_P_CE_CNT_COUNT (p : Nat) : Fld := ⟨(SW_P_CE_CNT p), 0, 32⟩
def SW_P_AGE_CNT (p : Nat) : Nat := 0xA1098 + 0x100 * p
def SW_P_AGE_CNT_COUNT (p : Nat) : Fld := ⟨(SW_P_AGE_CNT p), 0, 32⟩
def SW_P_INTEG_CNT (p : Nat) : Nat := 0xA109C + 0x100 * p
def SW_P_INTEG_CNT_COUNT (p : Nat) : Fld := ⟨(SW_P_INTEG_CNT p), 0, 32⟩
def SW_P_CT_BAD_CNT (p : Nat) : Nat := 0xA10A0 + 0x100 * p
def SW_P_CT_BAD_CNT_COUNT (p : Nat) : Fld := ⟨(SW_P_CT_BAD_CNT p), 0, 32⟩
def SW_P_MACCTL_CNT (p : Nat) : Nat := 0xA10A4 + 0x100 * p
def SW_P_MACCTL_CNT_COUNT (p : Nat) : Fld := ⟨(SW_P_MACCTL_CNT p), 0, 32⟩
def SW_P_QDEPTH (p q : Nat) : Nat := 0xA10C0 + 0x100 * p + 0x4 * q
def SW_P_QDEPTH_CELLS (p q : Nat) : Fld := ⟨(SW_P_QDEPTH p q), 0, 15⟩
def SW_CAN_CFG (k : Nat) : Nat := 0xA2000 + 0x40 * k
def SW_CAN_CFG_WRAP_EN (k : Nat) : Fld := ⟨(SW_CAN_CFG k), 0, 1⟩
def SW_CAN_CFG_PCP (k : Nat) : Fld := ⟨(SW_CAN_CFG k), 1, 3⟩
def SW_CAN_CFG_VID (k : Nat) : Fld := ⟨(SW_CAN_CFG k), 16, 12⟩
def SW_CAN_DMAC_LO (k : Nat) : Nat := 0xA2004 + 0x40 * k
def SW_CAN_DMAC_LO_MAC (k : Nat) : Fld := ⟨(SW_CAN_DMAC_LO k), 0, 32⟩
def SW_CAN_DMAC_HI (k : Nat) : Nat := 0xA2008 + 0x40 * k
def SW_CAN_DMAC_HI_MAC (k : Nat) : Fld := ⟨(SW_CAN_DMAC_HI k), 0, 16⟩
def SW_CAN_SID_LO (k : Nat) : Nat := 0xA200C + 0x40 * k
def SW_CAN_SID_LO_SID (k : Nat) : Fld := ⟨(SW_CAN_SID_LO k), 0, 32⟩
def SW_CAN_SID_HI (k : Nat) : Nat := 0xA2010 + 0x40 * k
def SW_CAN_SID_HI_SID (k : Nat) : Fld := ⟨(SW_CAN_SID_HI k), 0, 32⟩
def SW_CAN_QDEPTH (k : Nat) : Nat := 0xA2014 + 0x40 * k
def SW_CAN_QDEPTH_CELLS0 (k : Nat) : Fld := ⟨(SW_CAN_QDEPTH k), 0, 8⟩
def SW_CAN_QDEPTH_CELLS1 (k : Nat) : Fld := ⟨(SW_CAN_QDEPTH k), 8, 8⟩
def SW_CAN_QDEPTH_CELLS2 (k : Nat) : Fld := ⟨(SW_CAN_QDEPTH k), 16, 8⟩
def SW_CAN_QDEPTH_CELLS3 (k : Nat) : Fld := ⟨(SW_CAN_QDEPTH k), 24, 8⟩
def SW_CAN_CELLS (k : Nat) : Nat := 0xA2018 + 0x40 * k
def SW_CAN_CELLS_MIN (k : Nat) : Fld := ⟨(SW_CAN_CELLS k), 0, 16⟩
def SW_CAN_CELLS_MAX (k : Nat) : Fld := ⟨(SW_CAN_CELLS k), 16, 16⟩
def SW_CAN_RX_CNT (k : Nat) : Nat := 0xA201C + 0x40 * k
def SW_CAN_RX_CNT_COUNT (k : Nat) : Fld := ⟨(SW_CAN_RX_CNT k), 0, 32⟩
def SW_CAN_TX_CNT (k : Nat) : Nat := 0xA2020 + 0x40 * k
def SW_CAN_TX_CNT_COUNT (k : Nat) : Fld := ⟨(SW_CAN_TX_CNT k), 0, 32⟩
def SW_CAN_DROP_CNT (k : Nat) : Nat := 0xA2024 + 0x40 * k
def SW_CAN_DROP_CNT_COUNT (k : Nat) : Fld := ⟨(SW_CAN_DROP_CNT k), 0, 32⟩
def SW_P_GCL_E (p l e : Nat) : Nat := 0xA8000 + 0x200 * p + 0x100 * l + 0x4 * e
def SW_P_GCL_E_GATES (p l e : Nat) : Fld := ⟨(SW_P_GCL_E p l e), 0, 8⟩
def SW_P_GCL_E_INTERVAL (p l e : Nat) : Fld := ⟨(SW_P_GCL_E p l e), 8, 24⟩
def CAN_CTRL (n : Nat) : Nat := 0xB0000 + 0x1000 * n
def CAN_CTRL_MODE (n : Nat) : Fld := ⟨(CAN_CTRL n), 0, 2⟩
def CAN_CTRL_FD_EN (n : Nat) : Fld := ⟨(CAN_CTRL n), 4, 1⟩
def CAN_CTRL_TDC_EN (n : Nat) : Fld := ⟨(CAN_CTRL n), 5, 1⟩
def CAN_CTRL_PEX (n : Nat) : Fld := ⟨(CAN_CTRL n), 6, 1⟩
def CAN_CTRL_AUTO_REC (n : Nat) : Fld := ⟨(CAN_CTRL n), 7, 1⟩
def CAN_CTRL_RETRY (n : Nat) : Fld := ⟨(CAN_CTRL n), 8, 4⟩
def CAN_CTRL_STB_US (n : Nat) : Fld := ⟨(CAN_CTRL n), 16, 8⟩
def CAN_STAT (n : Nat) : Nat := 0xB0004 + 0x1000 * n
def CAN_STAT_MODE_NOW (n : Nat) : Fld := ⟨(CAN_STAT n), 0, 2⟩
def CAN_STAT_ERR_STATE (n : Nat) : Fld := ⟨(CAN_STAT n), 2, 2⟩
def CAN_STAT_SYNCED (n : Nat) : Fld := ⟨(CAN_STAT n), 4, 1⟩
def CAN_STAT_TX_ACTIVE (n : Nat) : Fld := ⟨(CAN_STAT n), 5, 1⟩
def CAN_STAT_RX_ACTIVE (n : Nat) : Fld := ⟨(CAN_STAT n), 6, 1⟩
def CAN_STAT_MODE_PEND (n : Nat) : Fld := ⟨(CAN_STAT n), 7, 1⟩
def CAN_NBT (n : Nat) : Nat := 0xB0008 + 0x1000 * n
def CAN_NBT_BRP (n : Nat) : Fld := ⟨(CAN_NBT n), 0, 8⟩
def CAN_NBT_TSEG1 (n : Nat) : Fld := ⟨(CAN_NBT n), 8, 8⟩
def CAN_NBT_TSEG2 (n : Nat) : Fld := ⟨(CAN_NBT n), 16, 7⟩
def CAN_NBT_SJW (n : Nat) : Fld := ⟨(CAN_NBT n), 24, 7⟩
def CAN_DBT (n : Nat) : Nat := 0xB000C + 0x1000 * n
def CAN_DBT_BRP (n : Nat) : Fld := ⟨(CAN_DBT n), 0, 5⟩
def CAN_DBT_TSEG1 (n : Nat) : Fld := ⟨(CAN_DBT n), 8, 5⟩
def CAN_DBT_TSEG2 (n : Nat) : Fld := ⟨(CAN_DBT n), 16, 4⟩
def CAN_DBT_SJW (n : Nat) : Fld := ⟨(CAN_DBT n), 24, 4⟩
def CAN_TDC (n : Nat) : Nat := 0xB0010 + 0x1000 * n
def CAN_TDC_TDCO (n : Nat) : Fld := ⟨(CAN_TDC n), 0, 7⟩
def CAN_TDC_TDCV (n : Nat) : Fld := ⟨(CAN_TDC n), 8, 7⟩
def CAN_ERRCNT (n : Nat) : Nat := 0xB0014 + 0x1000 * n
def CAN_ERRCNT_TEC (n : Nat) : Fld := ⟨(CAN_ERRCNT n), 0, 9⟩
def CAN_ERRCNT_REC (n : Nat) : Fld := ⟨(CAN_ERRCNT n), 16, 8⟩
def CAN_LEC (n : Nat) : Nat := 0xB0018 + 0x1000 * n
def CAN_LEC_LEC (n : Nat) : Fld := ⟨(CAN_LEC n), 0, 3⟩
def CAN_LEC_DLEC (n : Nat) : Fld := ⟨(CAN_LEC n), 4, 3⟩
def CAN_ERR_MT (n : Nat) : Nat := 0xB001C + 0x1000 * n
def CAN_ERR_MT_MT (n : Nat) : Fld := ⟨(CAN_ERR_MT n), 0, 32⟩
def CAN_CLASH_CFG (n : Nat) : Nat := 0xB0020 + 0x1000 * n
def CAN_CLASH_CFG_CLASH_N (n : Nat) : Fld := ⟨(CAN_CLASH_CFG n), 0, 4⟩
def CAN_CLASH_CFG_WIN_MS (n : Nat) : Fld := ⟨(CAN_CLASH_CFG n), 8, 16⟩
def CAN_CLASH (n : Nat) : Nat := 0xB0024 + 0x1000 * n
def CAN_CLASH_ID (n : Nat) : Fld := ⟨(CAN_CLASH n), 0, 29⟩
def CAN_CLASH_IDE (n : Nat) : Fld := ⟨(CAN_CLASH n), 29, 1⟩
def CAN_CLASH_VALID (n : Nat) : Fld := ⟨(CAN_CLASH n), 31, 1⟩
def CAN_EVT (n : Nat) : Nat := 0xB0028 + 0x1000 * n
def CAN_EVT_RX0 (n : Nat) : Fld := ⟨(CAN_EVT n), 0, 1⟩
def CAN_EVT_RX1 (n : Nat) : Fld := ⟨(CAN_EVT n), 1, 1⟩
def CAN_EVT_NEWDAT (n : Nat) : Fld := ⟨(CAN_EVT n), 2, 1⟩
def CAN_EVT_TXDONE (n : Nat) : Fld := ⟨(CAN_EVT n), 3, 1⟩
def CAN_EVT_TXFAIL (n : Nat) : Fld := ⟨(CAN_EVT n), 4, 1⟩
def CAN_EVT_CXL (n : Nat) : Fld := ⟨(CAN_EVT n), 5, 1⟩
def CAN_EVT_ERR_PASSIVE (n : Nat) : Fld := ⟨(CAN_EVT n), 6, 1⟩
def CAN_EVT_BUS_OFF (n : Nat) : Fld := ⟨(CAN_EVT n), 7, 1⟩
def CAN_EVT_BUS_ON (n : Nat) : Fld := ⟨(CAN_EVT n), 8, 1⟩
def CAN_EVT_IDCLASH (n : Nat) : Fld := ⟨(CAN_EVT n), 9, 1⟩
def CAN_EVT_FIFO_OVF (n : Nat) : Fld := ⟨(CAN_EVT n), 10, 1⟩
def CAN_EVT_MSGLOST (n : Nat) : Fld := ⟨(CAN_EVT n), 11, 1⟩
def CAN_EVT_INTEG (n : Nat) : Fld := ⟨(CAN_EVT n), 12, 1⟩
def CAN_EVT_REF_FAIL (n : Nat) : Fld := ⟨(CAN_EVT n), 13, 1⟩
def CAN_EVT_PEX (n : Nat) : Fld := ⟨(CAN_EVT n), 14, 1⟩
def CAN_EVT_MODE_DONE (n : Nat) : Fld := ⟨(CAN_EVT n), 15, 1⟩
def CAN_EVT_BAD_TIMING (n : Nat) : Fld := ⟨(CAN_EVT n), 16, 1⟩
def CAN_IEN (n : Nat) : Nat := 0xB002C + 0x1000 * n
def CAN_IEN_IEN (n : Nat) : Fld := ⟨(CAN_IEN n), 0, 17⟩
def CAN_VEC (n : Nat) : Nat := 0xB0030 + 0x1000 * n
def CAN_VEC_VECTOR (n : Nat) : Fld := ⟨(CAN_VEC n), 0, 6⟩
def CAN_FLT_DEF (n : Nat) : Nat := 0xB0034 + 0x1000 * n
def CAN_FLT_DEF_DEF_DEST (n : Nat) : Fld := ⟨(CAN_FLT_DEF n), 0, 2⟩
def CAN_FLT_DEF_DEF_SW (n : Nat) : Fld := ⟨(CAN_FLT_DEF n), 2, 1⟩
def CAN_NEWDAT_LO (n : Nat) : Nat := 0xB0038 + 0x1000 * n
def CAN_NEWDAT_LO_NEW (n : Nat) : Fld := ⟨(CAN_NEWDAT_LO n), 0, 32⟩
def CAN_NEWDAT_HI (n : Nat) : Nat := 0xB003C + 0x1000 * n
def CAN_NEWDAT_HI_NEW (n : Nat) : Fld := ⟨(CAN_NEWDAT_HI n), 0, 32⟩
def CAN_TXREQ_LO (n : Nat) : Nat := 0xB0040 + 0x1000 * n
def CAN_TXREQ_LO_REQ (n : Nat) : Fld := ⟨(CAN_TXREQ_LO n), 0, 32⟩
def CAN_TXREQ_HI (n : Nat) : Nat := 0xB0044 + 0x1000 * n
def CAN_TXREQ_HI_REQ (n : Nat) : Fld := ⟨(CAN_TXREQ_HI n), 0, 32⟩
def CAN_TXCXL_LO (n : Nat) : Nat := 0xB0048 + 0x1000 * n
def CAN_TXCXL_LO_CXL (n : Nat) : Fld := ⟨(CAN_TXCXL_LO n), 0, 32⟩
def CAN_TXCXL_HI (n : Nat) : Nat := 0xB004C + 0x1000 * n
def CAN_TXCXL_HI_CXL (n : Nat) : Fld := ⟨(CAN_TXCXL_HI n), 0, 32⟩
def CAN_TXDONE_LO (n : Nat) : Nat := 0xB0050 + 0x1000 * n
def CAN_TXDONE_LO_DONE (n : Nat) : Fld := ⟨(CAN_TXDONE_LO n), 0, 32⟩
def CAN_TXDONE_HI (n : Nat) : Nat := 0xB0054 + 0x1000 * n
def CAN_TXDONE_HI_DONE (n : Nat) : Fld := ⟨(CAN_TXDONE_HI n), 0, 32⟩
def CAN_FIFO_STAT (n k : Nat) : Nat := 0xB0058 + 0x1000 * n + 0x4 * k
def CAN_FIFO_STAT_COUNT (n k : Nat) : Fld := ⟨(CAN_FIFO_STAT n k), 0, 6⟩
def CAN_FIFO_STAT_OVF (n k : Nat) : Fld := ⟨(CAN_FIFO_STAT n k), 8, 1⟩
def CAN_FIFO_STAT_DROP (n k : Nat) : Fld := ⟨(CAN_FIFO_STAT n k), 16, 16⟩
def CAN_FIFO_POP (n k : Nat) : Nat := 0xB0060 + 0x1000 * n + 0x4 * k
def CAN_FIFO_POP_POP (n k : Nat) : Fld := ⟨(CAN_FIFO_POP n k), 0, 1⟩
def CAN_RX_CNT (n : Nat) : Nat := 0xB0068 + 0x1000 * n
def CAN_RX_CNT_COUNT (n : Nat) : Fld := ⟨(CAN_RX_CNT n), 0, 32⟩
def CAN_TX_CNT (n : Nat) : Nat := 0xB006C + 0x1000 * n
def CAN_TX_CNT_COUNT (n : Nat) : Fld := ⟨(CAN_TX_CNT n), 0, 32⟩
def CAN_ERRFRM_CNT (n : Nat) : Nat := 0xB0070 + 0x1000 * n
def CAN_ERRFRM_CNT_COUNT (n : Nat) : Fld := ⟨(CAN_ERRFRM_CNT n), 0, 32⟩
def CAN_BUSOFF_CNT (n : Nat) : Nat := 0xB0074 + 0x1000 * n
def CAN_BUSOFF_CNT_COUNT (n : Nat) : Fld := ⟨(CAN_BUSOFF_CNT n), 0, 32⟩
def CAN_INTEG_CNT (n : Nat) : Nat := 0xB0078 + 0x1000 * n
def CAN_INTEG_CNT_COUNT (n : Nat) : Fld := ⟨(CAN_INTEG_CNT n), 0, 32⟩
def CAN_FLT_ID (n f : Nat) : Nat := 0xB0080 + 0x1000 * n + 0x8 * f
def CAN_FLT_ID_ID (n f : Nat) : Fld := ⟨(CAN_FLT_ID n f), 0, 29⟩
def CAN_FLT_ID_IDE (n f : Nat) : Fld := ⟨(CAN_FLT_ID n f), 29, 1⟩
def CAN_FLT_ID_DEST (n f : Nat) : Fld := ⟨(CAN_FLT_ID n f), 30, 2⟩
def CAN_FLT_MASK (n f : Nat) : Nat := 0xB0084 + 0x1000 * n + 0x8 * f
def CAN_FLT_MASK_MASK (n f : Nat) : Fld := ⟨(CAN_FLT_MASK n f), 0, 29⟩
def CAN_FLT_MASK_MIDE (n f : Nat) : Fld := ⟨(CAN_FLT_MASK n f), 29, 1⟩
def CAN_FLT_MASK_SW (n f : Nat) : Fld := ⟨(CAN_FLT_MASK n f), 30, 1⟩
def CAN_FIFO_W (n k w : Nat) : Nat := 0xB0100 + 0x1000 * n + 0x80 * k + 0x4 * w
def CAN_FIFO_W_DATA (n k w : Nat) : Fld := ⟨(CAN_FIFO_W n k w), 0, 32⟩
def CAN_MB_W0 (n m : Nat) : Nat := 0xB0200 + 0x1000 * n + 0x50 * m
def CAN_MB_W0_ID (n m : Nat) : Fld := ⟨(CAN_MB_W0 n m), 0, 29⟩
def CAN_MB_W0_IDE (n m : Nat) : Fld := ⟨(CAN_MB_W0 n m), 29, 1⟩
def CAN_MB_W0_RTR (n m : Nat) : Fld := ⟨(CAN_MB_W0 n m), 30, 1⟩
def CAN_MB_W1 (n m : Nat) : Nat := 0xB0204 + 0x1000 * n + 0x50 * m
def CAN_MB_W1_MODE (n m : Nat) : Fld := ⟨(CAN_MB_W1 n m), 0, 2⟩
def CAN_MB_W1_FDF (n m : Nat) : Fld := ⟨(CAN_MB_W1 n m), 2, 1⟩
def CAN_MB_W1_BRS (n m : Nat) : Fld := ⟨(CAN_MB_W1 n m), 3, 1⟩
def CAN_MB_W1_ESI (n m : Nat) : Fld := ⟨(CAN_MB_W1 n m), 4, 1⟩
def CAN_MB_W1_SW (n m : Nat) : Fld := ⟨(CAN_MB_W1 n m), 5, 1⟩
def CAN_MB_W1_DLC (n m : Nat) : Fld := ⟨(CAN_MB_W1 n m), 8, 4⟩
def CAN_MB_W1_NEW (n m : Nat) : Fld := ⟨(CAN_MB_W1 n m), 16, 1⟩
def CAN_MB_W1_MSGLOST (n m : Nat) : Fld := ⟨(CAN_MB_W1 n m), 17, 1⟩
def CAN_MB_W1_PEND (n m : Nat) : Fld := ⟨(CAN_MB_W1 n m), 18, 1⟩
def CAN_MB_W2 (n m : Nat) : Nat := 0xB0208 + 0x1000 * n + 0x50 * m
def CAN_MB_W2_MASK (n m : Nat) : Fld := ⟨(CAN_MB_W2 n m), 0, 29⟩
def CAN_MB_W2_MIDE (n m : Nat) : Fld := ⟨(CAN_MB_W2 n m), 29, 1⟩
def CAN_MB_W3 (n m : Nat) : Nat := 0xB020C + 0x1000 * n + 0x50 * m
def CAN_MB_W3_TS (n m : Nat) : Fld := ⟨(CAN_MB_W3 n m), 0, 32⟩
def CAN_MB_DATA (n m w : Nat) : Nat := 0xB0210 + 0x1000 * n + 0x50 * m + 0x4 * w
def CAN_MB_DATA_DATA (n m w : Nat) : Fld := ⟨(CAN_MB_DATA n m w), 0, 32⟩
def CAN_MBH_W0 (n m : Nat) : Nat := 0xB0C00 + 0x1000 * n + 0x20 * m
def CAN_MBH_W0_ID (n m : Nat) : Fld := ⟨(CAN_MBH_W0 n m), 0, 29⟩
def CAN_MBH_W0_IDE (n m : Nat) : Fld := ⟨(CAN_MBH_W0 n m), 29, 1⟩
def CAN_MBH_W0_RTR (n m : Nat) : Fld := ⟨(CAN_MBH_W0 n m), 30, 1⟩
def CAN_MBH_W1 (n m : Nat) : Nat := 0xB0C04 + 0x1000 * n + 0x20 * m
def CAN_MBH_W1_MODE (n m : Nat) : Fld := ⟨(CAN_MBH_W1 n m), 0, 2⟩
def CAN_MBH_W1_FDF (n m : Nat) : Fld := ⟨(CAN_MBH_W1 n m), 2, 1⟩
def CAN_MBH_W1_BRS (n m : Nat) : Fld := ⟨(CAN_MBH_W1 n m), 3, 1⟩
def CAN_MBH_W1_ESI (n m : Nat) : Fld := ⟨(CAN_MBH_W1 n m), 4, 1⟩
def CAN_MBH_W1_SW (n m : Nat) : Fld := ⟨(CAN_MBH_W1 n m), 5, 1⟩
def CAN_MBH_W1_DLC (n m : Nat) : Fld := ⟨(CAN_MBH_W1 n m), 8, 4⟩
def CAN_MBH_W1_NEW (n m : Nat) : Fld := ⟨(CAN_MBH_W1 n m), 16, 1⟩
def CAN_MBH_W1_MSGLOST (n m : Nat) : Fld := ⟨(CAN_MBH_W1 n m), 17, 1⟩
def CAN_MBH_W1_PEND (n m : Nat) : Fld := ⟨(CAN_MBH_W1 n m), 18, 1⟩
def CAN_MBH_W2 (n m : Nat) : Nat := 0xB0C08 + 0x1000 * n + 0x20 * m
def CAN_MBH_W2_MASK (n m : Nat) : Fld := ⟨(CAN_MBH_W2 n m), 0, 29⟩
def CAN_MBH_W2_MIDE (n m : Nat) : Fld := ⟨(CAN_MBH_W2 n m), 29, 1⟩
def CAN_MBH_W3 (n m : Nat) : Nat := 0xB0C0C + 0x1000 * n + 0x20 * m
def CAN_MBH_W3_TS (n m : Nat) : Fld := ⟨(CAN_MBH_W3 n m), 0, 32⟩
def CAN_MBH_DATA (n m w : Nat) : Nat := 0xB0C10 + 0x1000 * n + 0x20 * m + 0x4 * w
def CAN_MBH_DATA_DATA (n m w : Nat) : Fld := ⟨(CAN_MBH_DATA n m w), 0, 32⟩
def LT_CTRL : Nat := 0xC0000
def LT_CTRL_EN : Fld := ⟨LT_CTRL, 0, 1⟩
def LT_CTRL_FLIP_MODE : Fld := ⟨LT_CTRL, 1, 1⟩
def LT_CTRL_LOWDIAG : Fld := ⟨LT_CTRL, 2, 1⟩
def LT_CTRL_LSYNC_EN : Fld := ⟨LT_CTRL, 3, 1⟩
def LT_CTRL_LSYNC_EDGE : Fld := ⟨LT_CTRL, 4, 2⟩
def LT_CTRL_SCLK_DIV : Fld := ⟨LT_CTRL, 8, 8⟩
def LT_CHAIN : Nat := 0xC0004
def LT_CHAIN_NDRV : Fld := ⟨LT_CHAIN, 0, 6⟩
def LT_CHAIN_DRV_CH : Fld := ⟨LT_CHAIN, 8, 6⟩
def LT_CHAIN_GS_BITS : Fld := ⟨LT_CHAIN, 16, 1⟩
def LT_PWM : Nat := 0xC0008
def LT_PWM_GSDIV : Fld := ⟨LT_PWM, 0, 8⟩
def LT_PWM_SLICES : Fld := ⟨LT_PWM, 8, 3⟩
def LT_DIAG : Nat := 0xC000C
def LT_DIAG_V_DET : Fld := ⟨LT_DIAG, 0, 16⟩
def LT_DIAG_DIAG_STEPS : Fld := ⟨LT_DIAG, 16, 8⟩
def LT_DIAG_FLT_N : Fld := ⟨LT_DIAG, 24, 4⟩
def LT_LSYNC_DLY : Nat := 0xC0010
def LT_LSYNC_DLY_DLY : Fld := ⟨LT_LSYNC_DLY, 0, 32⟩
def LT_LEAVE : Nat := 0xC0014
def LT_LEAVE_AMOUNT : Fld := ⟨LT_LEAVE, 0, 16⟩
def LT_LEAVE_MS : Fld := ⟨LT_LEAVE, 16, 8⟩
def LT_STAT : Nat := 0xC0018
def LT_STAT_SEALED : Fld := ⟨LT_STAT, 0, 1⟩
def LT_STAT_SHIFTING : Fld := ⟨LT_STAT, 1, 1⟩
def LT_STAT_SUSPENDED : Fld := ⟨LT_STAT, 2, 1⟩
def LT_STAT_PAGE : Fld := ⟨LT_STAT, 8, 6⟩
def LT_FRAME : Nat := 0xC001C
def LT_FRAME_PAGES : Fld := ⟨LT_FRAME, 0, 7⟩
def LT_FRAME_PAGE_PER : Fld := ⟨LT_FRAME, 16, 16⟩
def LT_CMD : Nat := 0xC0020
def LT_CMD_SEAL : Fld := ⟨LT_CMD, 0, 1⟩
def LT_CMD_UNSEAL : Fld := ⟨LT_CMD, 1, 1⟩
def LT_WADDR : Nat := 0xC0024
def LT_WADDR_ADDR : Fld := ⟨LT_WADDR, 0, 16⟩
def LT_WADDR_FRONT : Fld := ⟨LT_WADDR, 16, 1⟩
def LT_WDATA : Nat := 0xC0028
def LT_WDATA_DATA : Fld := ⟨LT_WDATA, 0, 32⟩
def LT_EVT : Nat := 0xC0030
def LT_EVT_FLIPPED : Fld := ⟨LT_EVT, 0, 1⟩
def LT_EVT_CHAIN : Fld := ⟨LT_EVT, 1, 1⟩
def LT_EVT_LAMP : Fld := ⟨LT_EVT, 2, 1⟩
def LT_EVT_TRIP : Fld := ⟨LT_EVT, 3, 1⟩
def LT_EVT_INTEG : Fld := ⟨LT_EVT, 4, 1⟩
def LT_EVT_SEAL_ERR : Fld := ⟨LT_EVT, 5, 1⟩
def LT_EVT_WR_IGN : Fld := ⟨LT_EVT, 6, 1⟩
def LT_IEN : Nat := 0xC0034
def LT_IEN_IEN : Fld := ⟨LT_IEN, 0, 7⟩
def LT_VEC : Nat := 0xC0038
def LT_VEC_VECTOR : Fld := ⟨LT_VEC, 0, 6⟩
def LT_READY_LO : Nat := 0xC0040
def LT_READY_LO_MT : Fld := ⟨LT_READY_LO, 0, 32⟩
def LT_READY_HI : Nat := 0xC0044
def LT_READY_HI_MT : Fld := ⟨LT_READY_HI, 0, 32⟩
def LT_LAST_LATCH_LO : Nat := 0xC0048
def LT_LAST_LATCH_LO_MT : Fld := ⟨LT_LAST_LATCH_LO, 0, 32⟩
def LT_LAST_LATCH_HI : Nat := 0xC004C
def LT_LAST_LATCH_HI_MT : Fld := ⟨LT_LAST_LATCH_HI, 0, 32⟩
def LT_LSYNC_LO : Nat := 0xC0050
def LT_LSYNC_LO_MT : Fld := ⟨LT_LSYNC_LO, 0, 32⟩
def LT_LSYNC_HI : Nat := 0xC0054
def LT_LSYNC_HI_MT : Fld := ⟨LT_LSYNC_HI, 0, 32⟩
def LT_STEP_CNT : Nat := 0xC0060
def LT_STEP_CNT_COUNT : Fld := ⟨LT_STEP_CNT, 0, 32⟩
def LT_CHAIN_ERR_CNT : Nat := 0xC0064
def LT_CHAIN_ERR_CNT_COUNT : Fld := ⟨LT_CHAIN_ERR_CNT, 0, 32⟩
def LT_INTEG_CNT : Nat := 0xC0068
def LT_INTEG_CNT_COUNT : Fld := ⟨LT_INTEG_CNT, 0, 32⟩
def LT_LSYNC_IGN_CNT : Nat := 0xC006C
def LT_LSYNC_IGN_CNT_COUNT : Fld := ⟨LT_LSYNC_IGN_CNT, 0, 32⟩
def LT_OPEN (i : Nat) : Nat := 0xC0100 + 0x4 * i
def LT_OPEN_FLAG (i : Nat) : Fld := ⟨(LT_OPEN i), 0, 32⟩
def LT_SHORT (i : Nat) : Nat := 0xC0200 + 0x4 * i
def LT_SHORT_FLAG (i : Nat) : Fld := ⟨(LT_SHORT i), 0, 32⟩
def LT_FN_CFG (f : Nat) : Nat := 0xC0400 + 0x10 * f
def LT_FN_CFG_EN (f : Nat) : Fld := ⟨(LT_FN_CFG f), 0, 1⟩
def LT_FN_CFG_SINGLE_OFF (f : Nat) : Fld := ⟨(LT_FN_CFG f), 1, 1⟩
def LT_FN_CFG_TRIP_CLR (f : Nat) : Fld := ⟨(LT_FN_CFG f), 2, 1⟩
def LT_FN_CHAIN (f : Nat) : Nat := 0xC0404 + 0x10 * f
def LT_FN_CHAIN_FIRST (f : Nat) : Fld := ⟨(LT_FN_CHAIN f), 0, 11⟩
def LT_FN_CHAIN_COUNT (f : Nat) : Fld := ⟨(LT_FN_CHAIN f), 16, 11⟩
def LT_FN_FIELD (f : Nat) : Nat := 0xC0408 + 0x10 * f
def LT_FN_FIELD_CH0 (f : Nat) : Fld := ⟨(LT_FN_FIELD f), 0, 7⟩
def LT_FN_FIELD_CH1 (f : Nat) : Fld := ⟨(LT_FN_FIELD f), 8, 7⟩
def LT_FN_FIELD_CH2 (f : Nat) : Fld := ⟨(LT_FN_FIELD f), 16, 7⟩
def LT_FN_FIELD_CH3 (f : Nat) : Fld := ⟨(LT_FN_FIELD f), 24, 7⟩
def LT_FN_FIELD_VALID0 (f : Nat) : Fld := ⟨(LT_FN_FIELD f), 7, 1⟩
def LT_FN_FIELD_VALID1 (f : Nat) : Fld := ⟨(LT_FN_FIELD f), 15, 1⟩
def LT_FN_FIELD_VALID2 (f : Nat) : Fld := ⟨(LT_FN_FIELD f), 23, 1⟩
def LT_FN_FIELD_VALID3 (f : Nat) : Fld := ⟨(LT_FN_FIELD f), 31, 1⟩
def LT_FN_STAT (f : Nat) : Nat := 0xC040C + 0x10 * f
def LT_FN_STAT_TRIPPED (f : Nat) : Fld := ⟨(LT_FN_STAT f), 0, 1⟩
def LT_FN_STAT_WHO (f : Nat) : Fld := ⟨(LT_FN_STAT f), 1, 1⟩
def LT_FN_STAT_SHORT (f : Nat) : Fld := ⟨(LT_FN_STAT f), 2, 1⟩
def LT_FN_STAT_CH (f : Nat) : Fld := ⟨(LT_FN_STAT f), 16, 11⟩
def PWR_STAT : Nat := 0xD0000
def PWR_STAT_PARKING : Fld := ⟨PWR_STAT, 0, 1⟩
def PWR_STAT_MAIN_OK : Fld := ⟨PWR_STAT, 1, 1⟩
def PWR_CMD : Nat := 0xD0004
def PWR_CMD_PARK : Fld := ⟨PWR_CMD, 0, 1⟩
def PWR_DOM_ON : Nat := 0xD0008
def PWR_DOM_ON_ON : Fld := ⟨PWR_DOM_ON, 0, 14⟩
def PWR_DOM_CTRL : Nat := 0xD000C
def PWR_DOM_CTRL_ON : Fld := ⟨PWR_DOM_CTRL, 0, 14⟩
def PWR_DOM_CTRL_OFF : Fld := ⟨PWR_DOM_CTRL, 16, 14⟩
def PWR_DOM_PEND : Nat := 0xD0010
def PWR_DOM_PEND_PEND : Fld := ⟨PWR_DOM_PEND, 0, 14⟩
def PWR_CLK_CFG : Nat := 0xD0014
def PWR_CLK_CFG_REF_SETTLE : Fld := ⟨PWR_CLK_CFG, 0, 16⟩
def PWR_CLK_CFG_PLL_LOCK : Fld := ⟨PWR_CLK_CFG, 16, 1⟩
def PWR_WAKE_EN : Nat := 0xD0018
def PWR_WAKE_EN_WK_IN : Fld := ⟨PWR_WAKE_EN, 0, 16⟩
def PWR_WAKE_EN_WK_CAN : Fld := ⟨PWR_WAKE_EN, 16, 4⟩
def PWR_WAKE_EN_WK_TOK : Fld := ⟨PWR_WAKE_EN, 20, 1⟩
def PWR_WAKE_EN_WK_HOST : Fld := ⟨PWR_WAKE_EN, 21, 1⟩
def PWR_WAKE_EN_WK_ALARM : Fld := ⟨PWR_WAKE_EN, 22, 1⟩
def PWR_WAKE_EN_WK_TAMPER : Fld := ⟨PWR_WAKE_EN, 23, 1⟩
def PWR_WAKE_LVL : Nat := 0xD001C
def PWR_WAKE_LVL_LVL : Fld := ⟨PWR_WAKE_LVL, 0, 16⟩
def PWR_WAKE_LVL_TOK_POL : Fld := ⟨PWR_WAKE_LVL, 16, 1⟩
def PWR_WAKE_REC : Nat := 0xD0020
def PWR_WAKE_REC_SOURCE : Fld := ⟨PWR_WAKE_REC, 0, 4⟩
def PWR_WAKE_REC_INDEX : Fld := ⟨PWR_WAKE_REC, 8, 4⟩
def PWR_WAKE_REC_OTHERS : Fld := ⟨PWR_WAKE_REC, 16, 8⟩
def PWR_WAKE_RTC_LO : Nat := 0xD0024
def PWR_WAKE_RTC_LO_RTC : Fld := ⟨PWR_WAKE_RTC_LO, 0, 32⟩
def PWR_WAKE_RTC_HI : Nat := 0xD0028
def PWR_WAKE_RTC_HI_RTC : Fld := ⟨PWR_WAKE_RTC_HI, 0, 16⟩
def PWR_PARK_RTC_LO : Nat := 0xD002C
def PWR_PARK_RTC_LO_RTC : Fld := ⟨PWR_PARK_RTC_LO, 0, 32⟩
def PWR_PARK_RTC_HI : Nat := 0xD0030
def PWR_PARK_RTC_HI_RTC : Fld := ⟨PWR_PARK_RTC_HI, 0, 16⟩
def PWR_ALARM_LO : Nat := 0xD0034
def PWR_ALARM_LO_RTC : Fld := ⟨PWR_ALARM_LO, 0, 32⟩
def PWR_ALARM_HI : Nat := 0xD0038
def PWR_ALARM_HI_RTC : Fld := ⟨PWR_ALARM_HI, 0, 16⟩
def PWR_OFFACC_CNT : Nat := 0xD003C
def PWR_OFFACC_CNT_COUNT : Fld := ⟨PWR_OFFACC_CNT, 0, 32⟩
def PWR_EVT : Nat := 0xD0040
def PWR_EVT_WOKE : Fld := ⟨PWR_EVT, 0, 1⟩
def PWR_EVT_SUPPLY : Fld := ⟨PWR_EVT, 1, 1⟩
def PWR_EVT_CLK : Fld := ⟨PWR_EVT, 2, 1⟩
def PWR_EVT_THERM : Fld := ⟨PWR_EVT, 3, 1⟩
def PWR_EVT_DOM_DONE : Fld := ⟨PWR_EVT, 4, 1⟩
def PWR_EVT_DENY : Fld := ⟨PWR_EVT, 5, 1⟩
def PWR_IEN : Nat := 0xD0044
def PWR_IEN_IEN : Fld := ⟨PWR_IEN, 0, 6⟩
def PWR_VEC : Nat := 0xD0048
def PWR_VEC_VECTOR : Fld := ⟨PWR_VEC, 0, 6⟩
def PWR_TEMP : Nat := 0xD004C
def PWR_TEMP_TEMP : Fld := ⟨PWR_TEMP, 0, 16⟩
def PWR_THERM_CFG : Nat := 0xD0050
def PWR_THERM_CFG_TEMP_LIM : Fld := ⟨PWR_THERM_CFG, 0, 8⟩
def PWR_LIM_MOD : Nat := 0xD0100
def PWR_LIM_MOD_LIM : Fld := ⟨PWR_LIM_MOD, 0, 16⟩
def PWR_LIM_MOD_RSV : Fld := ⟨PWR_LIM_MOD, 16, 16⟩
def PWR_LIM_CHAN : Nat := 0xD0104
def PWR_LIM_CHAN_LIM : Fld := ⟨PWR_LIM_CHAN, 0, 16⟩
def PWR_LIM_CHAN_RSV : Fld := ⟨PWR_LIM_CHAN, 16, 16⟩
def PWR_BANK_LIM (b : Nat) : Nat := 0xD0108 + 0x4 * b
def PWR_BANK_LIM_LIM (b : Nat) : Fld := ⟨(PWR_BANK_LIM b), 0, 16⟩
def PWR_BANK_LIM_RSV (b : Nat) : Fld := ⟨(PWR_BANK_LIM b), 16, 16⟩
def PWR_STAND_MOD : Nat := 0xD0130
def PWR_STAND_MOD_P : Fld := ⟨PWR_STAND_MOD, 0, 16⟩
def PWR_STAND_CHAN : Nat := 0xD0134
def PWR_STAND_CHAN_P : Fld := ⟨PWR_STAND_CHAN, 0, 16⟩
def PWR_BOOK_MOD : Nat := 0xD0138
def PWR_BOOK_MOD_P : Fld := ⟨PWR_BOOK_MOD, 0, 16⟩
def PWR_BOOK_CHAN : Nat := 0xD013C
def PWR_BOOK_CHAN_P : Fld := ⟨PWR_BOOK_CHAN, 0, 16⟩
def PWR_BANK_BOOK (b : Nat) : Nat := 0xD0140 + 0x4 * b
def PWR_BANK_BOOK_BOOK (b : Nat) : Fld := ⟨(PWR_BANK_BOOK b), 0, 16⟩
def PWR_BANK_BOOK_STAND (b : Nat) : Fld := ⟨(PWR_BANK_BOOK b), 16, 16⟩
def PWR_SLOTS : Nat := 0xD0160
def PWR_SLOTS_USED : Fld := ⟨PWR_SLOTS, 0, 11⟩
def PWR_DENY_LAST : Nat := 0xD0164
def PWR_DENY_LAST_CODE : Fld := ⟨PWR_DENY_LAST, 0, 8⟩
def PWR_DENY_LAST_REQ : Fld := ⟨PWR_DENY_LAST, 8, 4⟩
def PWR_DENY_LAST_VALID : Fld := ⟨PWR_DENY_LAST, 31, 1⟩
def PWR_GRANT_CNT : Nat := 0xD0170
def PWR_GRANT_CNT_COUNT : Fld := ⟨PWR_GRANT_CNT, 0, 32⟩
def PWR_DENY_CNT : Nat := 0xD0174
def PWR_DENY_CNT_COUNT : Fld := ⟨PWR_DENY_CNT, 0, 32⟩
def PWR_RSV_USE_CNT : Nat := 0xD0178
def PWR_RSV_USE_CNT_COUNT : Fld := ⟨PWR_RSV_USE_CNT, 0, 32⟩
def FLT_STATUS (w : Nat) : Nat := 0xE0000 + 0x4 * w
def FLT_STATUS_STATUS (w : Nat) : Fld := ⟨(FLT_STATUS w), 0, 32⟩
def FLT_FORCE (w : Nat) : Nat := 0xE0010 + 0x4 * w
def FLT_FORCE_FORCE (w : Nat) : Fld := ⟨(FLT_FORCE w), 0, 32⟩
def FLT_RAW (w : Nat) : Nat := 0xE0020 + 0x4 * w
def FLT_RAW_RAW (w : Nat) : Fld := ⟨(FLT_RAW w), 0, 32⟩
def FLT_HOLD (w : Nat) : Nat := 0xE0030 + 0x4 * w
def FLT_HOLD_HOLD (w : Nat) : Fld := ⟨(FLT_HOLD w), 0, 32⟩
def FLT_CTRL : Nat := 0xE0040
def FLT_CTRL_IEN : Fld := ⟨FLT_CTRL, 0, 1⟩
def FLT_CTRL_LOCK : Fld := ⟨FLT_CTRL, 1, 1⟩
def FLT_ACK : Nat := 0xE0044
def FLT_ACK_ACK : Fld := ⟨FLT_ACK, 0, 1⟩
def FLT_STATE : Nat := 0xE0048
def FLT_STATE_WINDOW : Fld := ⟨FLT_STATE, 0, 1⟩
def FLT_STATE_FAULT : Fld := ⟨FLT_STATE, 1, 1⟩
def FLT_STATE_STOP_ACTIVE : Fld := ⟨FLT_STATE, 2, 1⟩
def FLT_STATE_ERRN_LOW : Fld := ⟨FLT_STATE, 3, 1⟩
def FLT_STATE_ERRN_MIN : Fld := ⟨FLT_STATE, 4, 1⟩
def FLT_STATE_MISSED : Fld := ⟨FLT_STATE, 8, 1⟩
def FLT_VEC : Nat := 0xE004C
def FLT_VEC_VECTOR : Fld := ⟨FLT_VEC, 0, 6⟩
def FLT_FIRST : Nat := 0xE0050
def FLT_FIRST_SRC : Fld := ⟨FLT_FIRST, 0, 7⟩
def FLT_FIRST_VALID : Fld := ⟨FLT_FIRST, 31, 1⟩
def FLT_FIRST_MT_LO : Nat := 0xE0054
def FLT_FIRST_MT_LO_MT : Fld := ⟨FLT_FIRST_MT_LO, 0, 32⟩
def FLT_FIRST_MT_HI : Nat := 0xE0058
def FLT_FIRST_MT_HI_MT : Fld := ⟨FLT_FIRST_MT_HI, 0, 32⟩
def FLT_ERRN_CFG : Nat := 0xE005C
def FLT_ERRN_CFG_MIN_W : Fld := ⟨FLT_ERRN_CFG, 0, 16⟩
def FLT_ERRN_CFG_SW_LEVEL : Fld := ⟨FLT_ERRN_CFG, 16, 1⟩
def FLT_SAFE_BANKS : Nat := 0xE0060
def FLT_SAFE_BANKS_BANKS : Fld := ⟨FLT_SAFE_BANKS, 0, 8⟩
def FLT_APP : Nat := 0xE0064
def FLT_APP_SET : Fld := ⟨FLT_APP, 0, 16⟩
def FLT_APP_CLR : Nat := 0xE0068
def FLT_APP_CLR_CLR : Fld := ⟨FLT_APP_CLR, 0, 16⟩
def FLT_LATCH_CNT : Nat := 0xE006C
def FLT_LATCH_CNT_COUNT : Fld := ⟨FLT_LATCH_CNT, 0, 32⟩
def FLT_MISSED_CNT : Nat := 0xE0070
def FLT_MISSED_CNT_COUNT : Fld := ⟨FLT_MISSED_CNT, 0, 32⟩
def FLT_STOPn_CFG (n : Nat) : Nat := 0xE0080 + 0x4 * n
def FLT_STOPn_CFG_FILT (n : Nat) : Fld := ⟨(FLT_STOPn_CFG n), 0, 16⟩
def FLT_STOPn_CFG_FILT_UNIT (n : Nat) : Fld := ⟨(FLT_STOPn_CFG n), 16, 1⟩
def FLT_STOPn_CFG_EN (n : Nat) : Fld := ⟨(FLT_STOPn_CFG n), 31, 1⟩
def FLT_STOP_CMD : Nat := 0xE0090
def FLT_STOP_CMD_REL : Fld := ⟨FLT_STOP_CMD, 0, 4⟩
def FLT_STOP_STAT : Nat := 0xE0094
def FLT_STOP_STAT_IN_STOP : Fld := ⟨FLT_STOP_STAT, 0, 4⟩
def FLT_STOP_STAT_LATCH : Fld := ⟨FLT_STOP_STAT, 8, 4⟩
def FLT_STOP_MT_LO (n : Nat) : Nat := 0xE00A0 + 0x8 * n
def FLT_STOP_MT_LO_MT (n : Nat) : Fld := ⟨(FLT_STOP_MT_LO n), 0, 32⟩
def FLT_STOP_MT_HI (n : Nat) : Nat := 0xE00A4 + 0x8 * n
def FLT_STOP_MT_HI_MT (n : Nat) : Fld := ⟨(FLT_STOP_MT_HI n), 0, 32⟩
def FLT_RCT0 : Nat := 0xE00C0
def FLT_RCT0_REACT0 : Fld := ⟨FLT_RCT0, 0, 2⟩
def FLT_RCT0_REACT1 : Fld := ⟨FLT_RCT0, 4, 2⟩
def FLT_RCT0_REACT2 : Fld := ⟨FLT_RCT0, 8, 2⟩
def FLT_RCT0_REACT3 : Fld := ⟨FLT_RCT0, 12, 2⟩
def FLT_RCT0_REACT4 : Fld := ⟨FLT_RCT0, 16, 2⟩
def FLT_RCT0_REACT5 : Fld := ⟨FLT_RCT0, 20, 2⟩
def FLT_RCT0_REACT6 : Fld := ⟨FLT_RCT0, 24, 2⟩
def FLT_RCT0_REACT7 : Fld := ⟨FLT_RCT0, 28, 2⟩
def FLT_RCT0_ERRN0 : Fld := ⟨FLT_RCT0, 2, 1⟩
def FLT_RCT0_ERRN1 : Fld := ⟨FLT_RCT0, 6, 1⟩
def FLT_RCT0_ERRN2 : Fld := ⟨FLT_RCT0, 10, 1⟩
def FLT_RCT0_ERRN3 : Fld := ⟨FLT_RCT0, 14, 1⟩
def FLT_RCT0_ERRN4 : Fld := ⟨FLT_RCT0, 18, 1⟩
def FLT_RCT0_ERRN5 : Fld := ⟨FLT_RCT0, 22, 1⟩
def FLT_RCT0_ERRN6 : Fld := ⟨FLT_RCT0, 26, 1⟩
def FLT_RCT0_ERRN7 : Fld := ⟨FLT_RCT0, 30, 1⟩
def FLT_RCT (r : Nat) : Nat := 0xE00C4 + 0x4 * r
def FLT_RCT_REACT0 (r : Nat) : Fld := ⟨(FLT_RCT r), 0, 2⟩
def FLT_RCT_REACT1 (r : Nat) : Fld := ⟨(FLT_RCT r), 4, 2⟩
def FLT_RCT_REACT2 (r : Nat) : Fld := ⟨(FLT_RCT r), 8, 2⟩
def FLT_RCT_REACT3 (r : Nat) : Fld := ⟨(FLT_RCT r), 12, 2⟩
def FLT_RCT_REACT4 (r : Nat) : Fld := ⟨(FLT_RCT r), 16, 2⟩
def FLT_RCT_REACT5 (r : Nat) : Fld := ⟨(FLT_RCT r), 20, 2⟩
def FLT_RCT_REACT6 (r : Nat) : Fld := ⟨(FLT_RCT r), 24, 2⟩
def FLT_RCT_REACT7 (r : Nat) : Fld := ⟨(FLT_RCT r), 28, 2⟩
def FLT_RCT_ERRN0 (r : Nat) : Fld := ⟨(FLT_RCT r), 2, 1⟩
def FLT_RCT_ERRN1 (r : Nat) : Fld := ⟨(FLT_RCT r), 6, 1⟩
def FLT_RCT_ERRN2 (r : Nat) : Fld := ⟨(FLT_RCT r), 10, 1⟩
def FLT_RCT_ERRN3 (r : Nat) : Fld := ⟨(FLT_RCT r), 14, 1⟩
def FLT_RCT_ERRN4 (r : Nat) : Fld := ⟨(FLT_RCT r), 18, 1⟩
def FLT_RCT_ERRN5 (r : Nat) : Fld := ⟨(FLT_RCT r), 22, 1⟩
def FLT_RCT_ERRN6 (r : Nat) : Fld := ⟨(FLT_RCT r), 26, 1⟩
def FLT_RCT_ERRN7 (r : Nat) : Fld := ⟨(FLT_RCT r), 30, 1⟩
def FLT_BANKREC (i : Nat) : Nat := 0xE0100 + 0x4 * i
def FLT_BANKREC_BANKS0 (i : Nat) : Fld := ⟨(FLT_BANKREC i), 0, 8⟩
def FLT_BANKREC_BANKS1 (i : Nat) : Fld := ⟨(FLT_BANKREC i), 8, 8⟩
def FLT_BANKREC_BANKS2 (i : Nat) : Fld := ⟨(FLT_BANKREC i), 16, 8⟩
def FLT_BANKREC_BANKS3 (i : Nat) : Fld := ⟨(FLT_BANKREC i), 24, 8⟩
def FLT_INJ_CFG : Nat := 0xE0120
def FLT_INJ_CFG_ARRAY : Fld := ⟨FLT_INJ_CFG, 0, 4⟩
def FLT_INJ_CFG_DOUBLE : Fld := ⟨FLT_INJ_CFG, 4, 1⟩
def FLT_INJ_CFG_SEL : Fld := ⟨FLT_INJ_CFG, 8, 8⟩
def FLT_INJ_CFG_ARM : Fld := ⟨FLT_INJ_CFG, 31, 1⟩
def FLT_INJ_STAT : Nat := 0xE0124
def FLT_INJ_STAT_DONE : Fld := ⟨FLT_INJ_STAT, 0, 1⟩
def FLT_INJ_MT : Nat := 0xE0128
def FLT_INJ_MT_MT : Fld := ⟨FLT_INJ_MT, 0, 32⟩
def KEY_STAT : Nat := 0xF0000
def KEY_STAT_READY : Fld := ⟨KEY_STAT, 0, 1⟩
def KEY_STAT_TAMPER_LOCKED : Fld := ⟨KEY_STAT, 1, 1⟩
def KEY_STAT_ROOT_VALID : Fld := ⟨KEY_STAT, 2, 1⟩
def KEY_STAT_TRNG_OK : Fld := ⟨KEY_STAT, 3, 1⟩
def KEY_STAT_LIFE : Fld := ⟨KEY_STAT, 4, 2⟩
def KEY_STAT_NVALID : Fld := ⟨KEY_STAT, 16, 8⟩
def KEY_EVT : Nat := 0xF0004
def KEY_EVT_TAMPER : Fld := ⟨KEY_EVT, 0, 1⟩
def KEY_EVT_INTEG : Fld := ⟨KEY_EVT, 1, 1⟩
def KEY_EVT_TRNG_FAIL : Fld := ⟨KEY_EVT, 2, 1⟩
def KEY_EVT_REVOKED : Fld := ⟨KEY_EVT, 3, 1⟩
def KEY_EVT_REMASK_SKIP : Fld := ⟨KEY_EVT, 4, 1⟩
def KEY_IEN : Nat := 0xF0008
def KEY_IEN_IEN : Fld := ⟨KEY_IEN, 0, 5⟩
def KEY_VEC : Nat := 0xF000C
def KEY_VEC_VECTOR : Fld := ⟨KEY_VEC, 0, 6⟩
def KEY_TAMP_CFG : Nat := 0xF0010
def KEY_TAMP_CFG_EN : Fld := ⟨KEY_TAMP_CFG, 0, 5⟩
def KEY_TAMP_CFG_LID0_POL : Fld := ⟨KEY_TAMP_CFG, 5, 1⟩
def KEY_TAMP_CFG_LID1_POL : Fld := ⟨KEY_TAMP_CFG, 6, 1⟩
def KEY_TAMP_STAT : Nat := 0xF0014
def KEY_TAMP_STAT_NOW : Fld := ⟨KEY_TAMP_STAT, 0, 5⟩
def KEY_TAMP_REC : Nat := 0xF0018
def KEY_TAMP_REC_SRC : Fld := ⟨KEY_TAMP_REC, 0, 5⟩
def KEY_TAMP_REC_VALID : Fld := ⟨KEY_TAMP_REC, 8, 1⟩
def KEY_TAMP_RTC_LO : Nat := 0xF001C
def KEY_TAMP_RTC_LO_RTC : Fld := ⟨KEY_TAMP_RTC_LO, 0, 32⟩
def KEY_TAMP_RTC_HI : Nat := 0xF0020
def KEY_TAMP_RTC_HI_RTC : Fld := ⟨KEY_TAMP_RTC_HI, 0, 16⟩
def KEY_QUEUE : Nat := 0xF0024
def KEY_QUEUE_HELD : Fld := ⟨KEY_QUEUE, 0, 5⟩
def KEY_QUEUE_BUSY : Fld := ⟨KEY_QUEUE, 8, 1⟩
def KEY_OP_CNT : Nat := 0xF0040
def KEY_OP_CNT_COUNT : Fld := ⟨KEY_OP_CNT, 0, 32⟩
def KEY_INTEG_CNT : Nat := 0xF0044
def KEY_INTEG_CNT_COUNT : Fld := ⟨KEY_INTEG_CNT, 0, 32⟩
def KEY_TRNG_FAIL_CNT : Nat := 0xF0048
def KEY_TRNG_FAIL_CNT_COUNT : Fld := ⟨KEY_TRNG_FAIL_CNT, 0, 32⟩
def KEY_REMASK_CNT : Nat := 0xF004C
def KEY_REMASK_CNT_COUNT : Fld := ⟨KEY_REMASK_CNT, 0, 32⟩
def KEY_SLOT (s : Nat) : Nat := 0xF1000 + 0x4 * s
def KEY_SLOT_KIND (s : Nat) : Fld := ⟨(KEY_SLOT s), 0, 3⟩
def KEY_SLOT_ORIGIN (s : Nat) : Fld := ⟨(KEY_SLOT s), 3, 2⟩
def KEY_SLOT_USAGE (s : Nat) : Fld := ⟨(KEY_SLOT s), 8, 7⟩
def KEY_SLOT_PARENT (s : Nat) : Fld := ⟨(KEY_SLOT s), 16, 7⟩
def KEY_SLOT_PARENT_ROOT (s : Nat) : Fld := ⟨(KEY_SLOT s), 23, 1⟩
def KEY_SLOT_VALID (s : Nat) : Fld := ⟨(KEY_SLOT s), 24, 1⟩
def KEY_SLOT_REVOKED (s : Nat) : Fld := ⟨(KEY_SLOT s), 25, 1⟩
def KEY_SLOT_FUSED (s : Nat) : Fld := ⟨(KEY_SLOT s), 26, 1⟩
def KEY_SLOT_INTEG (s : Nat) : Fld := ⟨(KEY_SLOT s), 27, 1⟩
def ACC_CTRL : Nat := 0xF2000
def ACC_CTRL_EN : Fld := ⟨ACC_CTRL, 0, 1⟩
def ACC_CTRL_IRQ_START : Fld := ⟨ACC_CTRL, 1, 1⟩
def ACC_CMD : Nat := 0xF2004
def ACC_CMD_START : Fld := ⟨ACC_CMD, 0, 1⟩
def ACC_CMD_REL_STOP : Fld := ⟨ACC_CMD, 1, 1⟩
def ACC_CMD_CODE_CHECK : Fld := ⟨ACC_CMD, 2, 1⟩
def ACC_STAT : Nat := 0xF2008
def ACC_STAT_SESSION : Fld := ⟨ACC_STAT, 0, 3⟩
def ACC_STAT_LOCKOUT : Fld := ⟨ACC_STAT, 3, 1⟩
def ACC_STAT_STREAM : Fld := ⟨ACC_STAT, 4, 1⟩
def ACC_STAT_AUTH : Fld := ⟨ACC_STAT, 5, 1⟩
def ACC_STAT_STOP_WHY : Fld := ⟨ACC_STAT, 8, 4⟩
def ACC_STAT_ENROLLED : Fld := ⟨ACC_STAT, 16, 16⟩
def ACC_TIMING : Nat := 0xF200C
def ACC_TIMING_SLOT : Fld := ⟨ACC_TIMING, 0, 16⟩
def ACC_TIMING_REPLY : Fld := ⟨ACC_TIMING, 16, 16⟩
def ACC_DIST : Nat := 0xF2010
def ACC_DIST_DIST_MAX : Fld := ⟨ACC_DIST, 0, 16⟩
def ACC_RADIO_DLY : Nat := 0xF2014
def ACC_RADIO_DLY_TX_DLY : Fld := ⟨ACC_RADIO_DLY, 0, 16⟩
def ACC_RADIO_DLY_RX_DLY : Fld := ⟨ACC_RADIO_DLY, 16, 16⟩
def ACC_GRANT : Nat := 0xF2018
def ACC_GRANT_TOKEN : Fld := ⟨ACC_GRANT, 0, 4⟩
def ACC_GRANT_VALID : Fld := ⟨ACC_GRANT, 15, 1⟩
def ACC_GRANT_DIST : Fld := ⟨ACC_GRANT, 16, 16⟩
def ACC_GRANT_MT_LO : Nat := 0xF201C
def ACC_GRANT_MT_LO_MT : Fld := ⟨ACC_GRANT_MT_LO, 0, 32⟩
def ACC_GRANT_MT_HI : Nat := 0xF2020
def ACC_GRANT_MT_HI_MT : Fld := ⟨ACC_GRANT_MT_HI, 0, 32⟩
def ACC_LAST : Nat := 0xF2024
def ACC_LAST_VALID : Fld := ⟨ACC_LAST, 0, 16⟩
def ACC_LAST_INVALID : Fld := ⟨ACC_LAST, 16, 16⟩
def ACC_FAR : Nat := 0xF2028
def ACC_FAR_FAR : Fld := ⟨ACC_FAR, 0, 16⟩
def ACC_CODE_LO : Nat := 0xF202C
def ACC_CODE_LO_DIGITS : Fld := ⟨ACC_CODE_LO, 0, 32⟩
def ACC_CODE_HI : Nat := 0xF2030
def ACC_CODE_HI_DIGITS : Fld := ⟨ACC_CODE_HI, 0, 16⟩
def ACC_REL_CFG : Nat := 0xF2034
def ACC_REL_CFG_REL_EN : Fld := ⟨ACC_REL_CFG, 0, 1⟩
def ACC_REL_CFG_BRS : Fld := ⟨ACC_REL_CFG, 1, 1⟩
def ACC_REL_CFG_CAN : Fld := ⟨ACC_REL_CFG, 4, 4⟩
def ACC_REL_CFG_MB : Fld := ⟨ACC_REL_CFG, 8, 5⟩
def ACC_REL_CFG_REL_TO : Fld := ⟨ACC_REL_CFG, 16, 8⟩
def ACC_REL_ID : Nat := 0xF2038
def ACC_REL_ID_ID : Fld := ⟨ACC_REL_ID, 0, 29⟩
def ACC_REL_ID_IDE : Fld := ⟨ACC_REL_ID, 29, 1⟩
def ACC_REL_DATA : Nat := 0xF203C
def ACC_REL_DATA_DATA : Fld := ⟨ACC_REL_DATA, 0, 24⟩
def ACC_KEYS : Nat := 0xF2040
def ACC_KEYS_KEYE : Fld := ⟨ACC_KEYS, 0, 7⟩
def ACC_KEYS_KEYM : Fld := ⟨ACC_KEYS, 8, 7⟩
def ACC_KEYS_CODE_KEY : Fld := ⟨ACC_KEYS, 16, 7⟩
def ACC_REL_CTR : Nat := 0xF2044
def ACC_REL_CTR_CTR : Fld := ⟨ACC_REL_CTR, 0, 32⟩
def ACC_EVT : Nat := 0xF2048
def ACC_EVT_GRANTED : Fld := ⟨ACC_EVT, 0, 1⟩
def ACC_EVT_DENIED : Fld := ⟨ACC_EVT, 1, 1⟩
def ACC_EVT_INVALID : Fld := ⟨ACC_EVT, 2, 1⟩
def ACC_EVT_LOCKOUT : Fld := ⟨ACC_EVT, 3, 1⟩
def ACC_EVT_STREAM_STOP : Fld := ⟨ACC_EVT, 4, 1⟩
def ACC_EVT_ENROLLED : Fld := ⟨ACC_EVT, 5, 1⟩
def ACC_EVT_CODE_OK : Fld := ⟨ACC_EVT, 6, 1⟩
def ACC_EVT_CODE_BAD : Fld := ⟨ACC_EVT, 7, 1⟩
def ACC_IEN : Nat := 0xF204C
def ACC_IEN_IEN : Fld := ⟨ACC_IEN, 0, 8⟩
def ACC_VEC : Nat := 0xF2050
def ACC_VEC_VECTOR : Fld := ⟨ACC_VEC, 0, 6⟩
def ACC_SESS_CNT : Nat := 0xF2080
def ACC_SESS_CNT_COUNT : Fld := ⟨ACC_SESS_CNT, 0, 32⟩
def ACC_GRANT_CNT : Nat := 0xF2084
def ACC_GRANT_CNT_COUNT : Fld := ⟨ACC_GRANT_CNT, 0, 32⟩
def ACC_INVALID_CNT : Nat := 0xF2088
def ACC_INVALID_CNT_COUNT : Fld := ⟨ACC_INVALID_CNT, 0, 32⟩
def ACC_FAR_CNT : Nat := 0xF208C
def ACC_FAR_CNT_COUNT : Fld := ⟨ACC_FAR_CNT, 0, 32⟩
def ACC_REL_SENT_CNT : Nat := 0xF2090
def ACC_REL_SENT_CNT_COUNT : Fld := ⟨ACC_REL_SENT_CNT, 0, 32⟩
def ACC_REL_SKIP_CNT : Nat := 0xF2094
def ACC_REL_SKIP_CNT_COUNT : Fld := ⟨ACC_REL_SKIP_CNT, 0, 32⟩
def ACC_TOK_ID_LO (i : Nat) : Nat := 0xF2100 + 0x10 * i
def ACC_TOK_ID_LO_ID (i : Nat) : Fld := ⟨(ACC_TOK_ID_LO i), 0, 32⟩
def ACC_TOK_ID_HI (i : Nat) : Nat := 0xF2104 + 0x10 * i
def ACC_TOK_ID_HI_ID (i : Nat) : Fld := ⟨(ACC_TOK_ID_HI i), 0, 32⟩
def ACC_TOK_STAT (i : Nat) : Nat := 0xF2108 + 0x10 * i
def ACC_TOK_STAT_ENROLLED (i : Nat) : Fld := ⟨(ACC_TOK_STAT i), 0, 1⟩
def ACC_TOK_STAT_REVOKED (i : Nat) : Fld := ⟨(ACC_TOK_STAT i), 1, 1⟩
def ACC_TOK_STAT_DIST (i : Nat) : Fld := ⟨(ACC_TOK_STAT i), 16, 16⟩
def ACC_TOK_MT (i : Nat) : Nat := 0xF210C + 0x10 * i
def ACC_TOK_MT_MT (i : Nat) : Fld := ⟨(ACC_TOK_MT i), 0, 32⟩
def UPD_STAT : Nat := 0xF8000
def UPD_STAT_STAGE : Fld := ⟨UPD_STAT, 0, 4⟩
def UPD_STAT_RECOVERY : Fld := ⟨UPD_STAT, 4, 1⟩
def UPD_STAT_SESSION : Fld := ⟨UPD_STAT, 5, 1⟩
def UPD_STAT_COMMITTED : Fld := ⟨UPD_STAT, 6, 1⟩
def UPD_STAT_UNANCHORED : Fld := ⟨UPD_STAT, 7, 1⟩
def UPD_STAT_PKH_FUSED : Fld := ⟨UPD_STAT, 8, 1⟩
def UPD_STAT_DBG_KILLED : Fld := ⟨UPD_STAT, 9, 1⟩
def UPD_STAT_NAV_SWAP : Fld := ⟨UPD_STAT, 10, 1⟩
def UPD_CMD : Nat := 0xF8004
def UPD_CMD_NAV_SWAP : Fld := ⟨UPD_CMD, 0, 1⟩
def UPD_LIFE_CMD : Nat := 0xF8008
def UPD_LIFE_CMD_CMD : Fld := ⟨UPD_LIFE_CMD, 0, 3⟩
def UPD_LIFE_CMD_CONFIRM : Fld := ⟨UPD_LIFE_CMD, 16, 16⟩
def UPD_EVT : Nat := 0xF800C
def UPD_EVT_BOOT_DONE : Fld := ⟨UPD_EVT, 0, 1⟩
def UPD_EVT_VERIFY_FAIL : Fld := ⟨UPD_EVT, 1, 1⟩
def UPD_EVT_FLASH_ERR : Fld := ⟨UPD_EVT, 2, 1⟩
def UPD_EVT_COMMITTED : Fld := ⟨UPD_EVT, 3, 1⟩
def UPD_EVT_ABANDONED : Fld := ⟨UPD_EVT, 4, 1⟩
def UPD_EVT_ACTIVATED : Fld := ⟨UPD_EVT, 5, 1⟩
def UPD_EVT_LIVE_ERR : Fld := ⟨UPD_EVT, 6, 1⟩
def UPD_EVT_CODE_REFUSED : Fld := ⟨UPD_EVT, 7, 1⟩
def UPD_EVT_LIFE_DONE : Fld := ⟨UPD_EVT, 8, 1⟩
def UPD_EVT_LIFE_ERR : Fld := ⟨UPD_EVT, 9, 1⟩
def UPD_EVT_COMMIT_DROPPED : Fld := ⟨UPD_EVT, 10, 1⟩
def UPD_IEN : Nat := 0xF8010
def UPD_IEN_IEN : Fld := ⟨UPD_IEN, 0, 11⟩
def UPD_VEC : Nat := 0xF8014
def UPD_VEC_VECTOR : Fld := ⟨UPD_VEC, 0, 6⟩
def UPD_ERR : Nat := 0xF8018
def UPD_ERR_REASON : Fld := ⟨UPD_ERR, 0, 8⟩
def UPD_ERR_PART : Fld := ⟨UPD_ERR, 8, 8⟩
def UPD_ERR_WHERE : Fld := ⟨UPD_ERR, 16, 2⟩
def UPD_NONCE (i : Nat) : Nat := 0xF801C + 0x4 * i
def UPD_NONCE_NONCE (i : Nat) : Fld := ⟨(UPD_NONCE i), 0, 32⟩
def UPD_IDLE : Nat := 0xF802C
def UPD_IDLE_SECONDS : Fld := ⟨UPD_IDLE, 0, 16⟩
def UPD_ACT_BUILD_LO : Nat := 0xF8030
def UPD_ACT_BUILD_LO_BUILD : Fld := ⟨UPD_ACT_BUILD_LO, 0, 32⟩
def UPD_ACT_BUILD_HI : Nat := 0xF8034
def UPD_ACT_BUILD_HI_BUILD : Fld := ⟨UPD_ACT_BUILD_HI, 0, 32⟩
def UPD_STG_BUILD_LO : Nat := 0xF8038
def UPD_STG_BUILD_LO_BUILD : Fld := ⟨UPD_STG_BUILD_LO, 0, 32⟩
def UPD_STG_BUILD_HI : Nat := 0xF803C
def UPD_STG_BUILD_HI_BUILD : Fld := ⟨UPD_STG_BUILD_HI, 0, 32⟩
def UPD_VER : Nat := 0xF8040
def UPD_VER_FUSED : Fld := ⟨UPD_VER, 0, 8⟩
def UPD_VER_ACT_SVN : Fld := ⟨UPD_VER, 8, 8⟩
def UPD_VER_STG_SVN : Fld := ⟨UPD_VER, 16, 8⟩
def UPD_FLASH : Nat := 0xF8044
def UPD_FLASH_SIZE_MIB : Fld := ⟨UPD_FLASH, 0, 16⟩
def UPD_FLASH_PRESENT : Fld := ⟨UPD_FLASH, 16, 1⟩
def UPD_POLICY : Nat := 0xF8048
def UPD_POLICY_HOST_CODE : Fld := ⟨UPD_POLICY, 0, 1⟩
def UPD_PKH (i : Nat) : Nat := 0xF8060 + 0x4 * i
def UPD_PKH_HASH (i : Nat) : Fld := ⟨(UPD_PKH i), 0, 32⟩
def UPD_FLASH_ERR_CNT : Nat := 0xF8080
def UPD_FLASH_ERR_CNT_COUNT : Fld := ⟨UPD_FLASH_ERR_CNT, 0, 32⟩
def UPD_VERIFY_FAIL_CNT : Nat := 0xF8084
def UPD_VERIFY_FAIL_CNT_COUNT : Fld := ⟨UPD_VERIFY_FAIL_CNT, 0, 32⟩
def UPD_BUSY_CNT : Nat := 0xF8088
def UPD_BUSY_CNT_COUNT : Fld := ⟨UPD_BUSY_CNT, 0, 32⟩

end R

/-- The reset values of the feature registers (11 R319). -/
def engFeatReset : Nat → Nat
  | 0 => 0x0008FF01
  | 1 => 0x00800080
  | 2 => 0x02581040
  | _ => 0

def regRows0_0 : List RegRow := [
  ⟨0x0, [], fun _ => 0x81280101, 0x0, 0x0, false⟩,
  ⟨0x4, [], fun _ => 0x100, 0x0, 0x0, false⟩,
  ⟨0x8, [], fun _ => 0x0, 0x0, 0x0, false⟩,
  ⟨0xC, [], fun _ => 0x0, 0x0, 0xF, false⟩,
  ⟨0x10, [], fun _ => 0x0, 0xFFFFFFFF, 0x0, true⟩,
  ⟨0x14, [], fun _ => 0x0, 0xFFFFFFFF, 0x0, true⟩,
  ⟨0x18, [], fun _ => 0x0, 0xFFFFFFFF, 0x0, false⟩]

/-- The register rows of window 0x0_0000 (01 R23). -/
def regRows0 : List RegRow := regRows0_0

def regRows1_0 : List RegRow := [
  ⟨0x10000, [(64, 0x20)], fun _ => 0x0, 0xFFFFFFC0, 0x0, false⟩,
  ⟨0x10004, [(64, 0x20)], fun _ => 0x0, 0xFFFFFFFF, 0x0, false⟩,
  ⟨0x10008, [(64, 0x20)], fun _ => 0x4010, 0x3FF0F3, 0x0, false⟩,
  ⟨0x1000C, [(64, 0x20)], fun _ => 0x0, 0xFFF, 0x0, false⟩,
  ⟨0x10010, [(64, 0x20)], fun _ => 0x0, 0x0, 0x0, false⟩,
  ⟨0x10014, [(64, 0x20)], fun _ => 0x0, 0x0, 0xB, false⟩,
  ⟨0x10018, [(64, 0x20)], fun _ => 0xFFFF, 0xFFFF, 0x0, false⟩,
  ⟨0x10800, [(64, 0x20)], fun _ => 0x0, 0xFFFFFFC0, 0x0, false⟩,
  ⟨0x10804, [(64, 0x20)], fun _ => 0x0, 0xFFFFFFFF, 0x0, false⟩,
  ⟨0x10808, [(64, 0x20)], fun _ => 0x4000, 0x3FF003, 0x0, false⟩,
  ⟨0x1080C, [(64, 0x20)], fun _ => 0x1000, 0x0, 0x0, false⟩,
  ⟨0x10810, [(64, 0x20)], fun _ => 0x0, 0x0, 0x0, false⟩,
  ⟨0x10814, [(64, 0x20)], fun _ => 0x0, 0x0, 0xB, false⟩,
  ⟨0x10818, [(64, 0x20)], fun _ => 0x0, 0xFFFFFF, 0x0, false⟩,
  ⟨0x1081C, [(64, 0x20)], fun _ => 0x0, 0x0, 0x0, false⟩,
  ⟨0x11000, [], fun _ => 0x1, 0x3, 0x0, false⟩,
  ⟨0x11004, [], fun _ => 0x0, 0xFFFFFFFF, 0x0, true⟩,
  ⟨0x11008, [], fun _ => 0x0, 0xFFFFFFFF, 0x0, true⟩,
  ⟨0x1100C, [], fun _ => 0x0, 0xFFFFFFFF, 0x0, true⟩,
  ⟨0x18000, [(64, 0x4)], fun _ => 0x0, 0x0, 0x0, false⟩,
  ⟨0x18100, [(64, 0x4)], fun _ => 0x0, 0x0, 0x0, false⟩]

/-- The register rows of window 0x1_0000 (01 R23). -/
def regRows1 : List RegRow := regRows1_0

def regRows2_0 : List RegRow := [
  ⟨0x20000, [], fun _ => 0, 0x0, 0x0, false⟩,
  ⟨0x20004, [], fun _ => 0, 0x0, 0x0, false⟩,
  ⟨0x20008, [], fun _ => 0x0, 0x0, 0x0, false⟩,
  ⟨0x2000C, [], fun _ => 0x0, 0x0, 0x0, false⟩,
  ⟨0x20010, [], fun _ => 0x0, 0x0, 0x0, false⟩,
  ⟨0x20014, [], fun _ => 0x0, 0x0, 0x0, false⟩,
  ⟨0x20018, [], fun _ => 0x0, 0x0, 0x0, false⟩,
  ⟨0x20020, [], fun _ => 0x0, 0xFFFFFFFF, 0x0, false⟩,
  ⟨0x20024, [], fun _ => 0x10624DD, 0xFFFFFFFF, 0x0, false⟩,
  ⟨0x20028, [], fun _ => 0x31, 0xF1, 0x0, false⟩,
  ⟨0x20030, [], fun _ => 0x0, 0x0, 0x0, false⟩,
  ⟨0x20034, [], fun _ => 0x0, 0x0, 0x0, false⟩,
  ⟨0x20038, [], fun _ => 0x0, 0x0, 0x0, false⟩,
  ⟨0x2003C, [], fun _ => 0x0, 0x0, 0x0, false⟩,
  ⟨0x20040, [], fun _ => 0x414, 0xFFFFFF, 0x0, false⟩,
  ⟨0x20044, [], fun _ => 0x0, 0x1, 0x0, false⟩,
  ⟨0x20048, [], fun _ => 0x0, 0x0, 0x0, false⟩,
  ⟨0x2004C, [], fun _ => 0x0, 0x0, 0x7FF, false⟩,
  ⟨0x20050, [], fun _ => 0x0, 0x7FF, 0x0, false⟩,
  ⟨0x20054, [], fun _ => 0x0, 0x3F, 0x0, false⟩,
  ⟨0x20058, [], fun _ => 0xFFFFFFFF, 0x0, 0x0, false⟩,
  ⟨0x2005C, [], fun _ => 0x640258, 0xFFFFFFFF, 0x0, false⟩,
  ⟨0x20060, [], fun _ => 0x320A0A, 0xFFFFFFFF, 0x0, false⟩,
  ⟨0x20064, [], fun _ => 0x1, 0x3F, 0x0, false⟩]

def regRows2_1 : List RegRow := [
  ⟨0x20070, [(3, 0x8)], fun _ => 0x0, 0xFFFFFFFF, 0x0, false⟩,
  ⟨0x20074, [(3, 0x8)], fun _ => 0x0, 0xFFFFFFFF, 0x0, false⟩,
  ⟨0x20090, [], fun _ => 0x0, 0xFFFFFFFF, 0x0, false⟩,
  ⟨0x20094, [], fun _ => 0x0, 0xFFFFFFFF, 0x0, false⟩,
  ⟨0x20098, [], fun _ => 0x0, 0xFFFFFFFF, 0x0, false⟩,
  ⟨0x2009C, [], fun _ => 0x0, 0xFFFFFFFF, 0x0, false⟩,
  ⟨0x200A0, [], fun _ => 0x0, 0x0, 0x0, false⟩,
  ⟨0x200B0, [], fun _ => 0x6400, 0xFFFFF3, 0x0, false⟩,
  ⟨0x200B4, [], fun _ => 0x0, 0x3FFFFFFF, 0x0, false⟩,
  ⟨0x200B8, [], fun _ => 0x0, 0xFFFFFFFF, 0x0, false⟩,
  ⟨0x200BC, [], fun _ => 0x0, 0xFFFFFFFF, 0x0, true⟩,
  ⟨0x20100, [(2, 0x20)], fun _ => 0x186A000, 0xFFFFFF0F, 0x0, false⟩,
  ⟨0x20104, [(2, 0x20)], fun _ => 0x0, 0xFFFFFFFF, 0x0, false⟩,
  ⟨0x20108, [(2, 0x20)], fun _ => 0x0, 0x0, 0x0, false⟩,
  ⟨0x2010C, [(2, 0x20)], fun _ => 0x0, 0x0, 0x0, false⟩,
  ⟨0x20110, [(2, 0x20)], fun _ => 0x0, 0x0, 0x0, false⟩,
  ⟨0x20200, [(8, 0x4)], fun _ => 0x6400, 0xFFFFFF03, 0x0, false⟩,
  ⟨0x20220, [], fun _ => 0x0, 0x0, 0x0, false⟩,
  ⟨0x20300, [(8, 0x20)], fun _ => 0x202, 0xFF0F, 0x0, false⟩,
  ⟨0x20304, [(8, 0x20)], fun _ => 0x0, 0x0, 0x100, false⟩,
  ⟨0x20308, [(8, 0x20)], fun _ => 0x0, 0x0, 0x0, false⟩,
  ⟨0x2030C, [(8, 0x20)], fun _ => 0x0, 0x0, 0x0, false⟩,
  ⟨0x20310, [(8, 0x20)], fun _ => 0x0, 0x0, 0x0, false⟩,
  ⟨0x20400, [], fun _ => 0, 0x0, 0x0, false⟩]

def regRows2_2 : List RegRow := [
  ⟨0x20404, [], fun _ => 0, 0x0, 0x0, false⟩,
  ⟨0x20408, [], fun _ => 0x0, 0xFFFFFFFF, 0x0, false⟩,
  ⟨0x2040C, [], fun _ => 0x0, 0xFFFF, 0x0, false⟩,
  ⟨0x20410, [], fun _ => 0x0, 0x0, 0x0, false⟩,
  ⟨0x20414, [], fun _ => 0x0, 0x0, 0x0, false⟩,
  ⟨0x20418, [], fun _ => 0xBB8, 0xFFFF, 0x0, false⟩]

/-- The register rows of window 0x2_0000 (01 R23). -/
def regRows2 : List RegRow := regRows2_0 ++ regRows2_1 ++ regRows2_2

def regRows3_0 : List RegRow := [
  ⟨0x30000, [], fun _ => 0x0, 0x0, 0x0, false⟩,
  ⟨0x30004, [], fun _ => 0x0, 0x0, 0x0, false⟩,
  ⟨0x30008, [], fun _ => 0x13880, 0x0, 0x0, false⟩,
  ⟨0x3000C, [], fun _ => 0x3908, 0x0, 0x0, false⟩,
  ⟨0x30010, [], fun _ => 0x2000, 0x3FFF, 0x0, false⟩,
  ⟨0x30014, [], fun _ => 0x1800, 0x3FFF, 0x0, false⟩,
  ⟨0x30018, [], fun _ => 0x7C0, 0x3FFF, 0x0, false⟩,
  ⟨0x3001C, [], fun _ => 0x0, 0x0, 0x0, false⟩,
  ⟨0x30020, [], fun _ => 0x0, 0x0, 0x0, false⟩,
  ⟨0x30024, [], fun _ => 0x0, 0x0, 0x0, false⟩,
  ⟨0x30028, [], fun _ => 0x0, 0x7FF, 0x0, false⟩,
  ⟨0x3002C, [], fun _ => 0xFFFFFFFF, 0x0, 0x0, false⟩,
  ⟨0x30030, [], fun _ => 0xFFFFFFFF, 0x0, 0x0, false⟩,
  ⟨0x30034, [], fun _ => 0x0, 0x0, 0x0, false⟩,
  ⟨0x30040, [], fun _ => 0x0, 0x0, 0xFF, false⟩,
  ⟨0x30044, [], fun _ => 0x0, 0xFF, 0x0, false⟩,
  ⟨0x30048, [], fun _ => 0x0, 0x3F, 0x0, false⟩,
  ⟨0x30080, [], fun _ => 0x0, 0xFFFFFFFF, 0x0, true⟩,
  ⟨0x30084, [], fun _ => 0x0, 0xFFFFFFFF, 0x0, true⟩,
  ⟨0x30088, [], fun _ => 0x0, 0xFFFFFFFF, 0x0, true⟩,
  ⟨0x3008C, [], fun _ => 0x0, 0xFFFFFFFF, 0x0, true⟩,
  ⟨0x30090, [], fun _ => 0x0, 0xFFFFFFFF, 0x0, true⟩,
  ⟨0x30094, [], fun _ => 0x0, 0xFFFFFFFF, 0x0, true⟩,
  ⟨0x30098, [], fun _ => 0x0, 0xFFFFFFFF, 0x0, true⟩]

def regRows3_1 : List RegRow := [
  ⟨0x3009C, [], fun _ => 0x0, 0xFFFFFFFF, 0x0, true⟩,
  ⟨0x300A0, [], fun _ => 0x0, 0xFFFFFFFF, 0x0, true⟩,
  ⟨0x300A4, [], fun _ => 0x0, 0xFFFFFFFF, 0x0, true⟩]

/-- The register rows of window 0x3_0000 (01 R23). -/
def regRows3 : List RegRow := regRows3_0 ++ regRows3_1

def regRows4_0 : List RegRow := [
  ⟨0x40000, [], fun _ => 0x1400, 0xFF03, 0x0, false⟩,
  ⟨0x40004, [], fun _ => 0x0, 0x0, 0x0, false⟩,
  ⟨0x40008, [], fun _ => 0x600, 0x1F0F, 0x0, false⟩,
  ⟨0x40010, [(4, 0x4)], fun _ => 0x0, 0xFFFFFF, 0x0, false⟩,
  ⟨0x40020, [(4, 0x4)], fun _ => 0x0, 0x0, 0x0, false⟩,
  ⟨0x40030, [(4, 0x4)], fun _ => 0x0, 0xFFFFFFFF, 0x0, false⟩,
  ⟨0x40040, [], fun _ => 0x7F, 0x7F, 0x0, false⟩,
  ⟨0x40044, [], fun _ => 0x1E0A, 0xFFFF, 0x0, false⟩,
  ⟨0x40048, [], fun _ => 0xA0A02, 0x1F1F1F, 0x0, false⟩,
  ⟨0x4004C, [], fun _ => 0xA01F4, 0xFFFFFF, 0x0, false⟩,
  ⟨0x40050, [], fun _ => 0xA, 0xFF, 0x0, false⟩,
  ⟨0x40054, [], fun _ => 0x0, 0x0, 0x0, false⟩,
  ⟨0x40058, [], fun _ => 0x0, 0x0, 0x0, false⟩,
  ⟨0x40060, [], fun _ => 0x0, 0xFFFFFFFF, 0x0, false⟩,
  ⟨0x40064, [], fun _ => 0x0, 0xFFFFFFFF, 0x0, false⟩,
  ⟨0x40068, [], fun _ => 0x0, 0xFFFFFFFF, 0x0, false⟩,
  ⟨0x4006C, [], fun _ => 0x0, 0xFFFFFFFF, 0x0, false⟩,
  ⟨0x40070, [], fun _ => 0x0, 0xFFFFFFFF, 0x0, false⟩,
  ⟨0x40074, [], fun _ => 0x0, 0x0, 0x0, false⟩,
  ⟨0x40080, [], fun _ => 0x0, 0x0, 0x3FF, false⟩,
  ⟨0x40084, [], fun _ => 0x0, 0x3FF, 0x0, false⟩,
  ⟨0x40088, [], fun _ => 0x0, 0x3F, 0x0, false⟩,
  ⟨0x40090, [], fun _ => 0x0, 0x0, 0x0, false⟩,
  ⟨0x40094, [], fun _ => 0x0, 0x0, 0x0, false⟩]

def regRows4_1 : List RegRow := [
  ⟨0x400A0, [], fun _ => 0x0, 0xFFFFFFC0, 0x0, false⟩,
  ⟨0x400A4, [], fun _ => 0x0, 0xFFFFFFFF, 0x0, false⟩,
  ⟨0x400A8, [], fun _ => 0x4000, 0x3FF003, 0x0, false⟩,
  ⟨0x400AC, [], fun _ => 0x1000, 0x0, 0x0, false⟩,
  ⟨0x400B0, [], fun _ => 0x0, 0xFFF, 0x0, false⟩,
  ⟨0x400C0, [], fun _ => 0x0, 0xFFFFFFFF, 0x0, true⟩,
  ⟨0x400C4, [], fun _ => 0x0, 0xFFFFFFFF, 0x0, true⟩,
  ⟨0x400C8, [], fun _ => 0x0, 0xFFFFFFFF, 0x0, true⟩,
  ⟨0x400CC, [], fun _ => 0x0, 0xFFFFFFFF, 0x0, true⟩,
  ⟨0x400D0, [], fun _ => 0x0, 0xFFFFFFFF, 0x0, true⟩,
  ⟨0x400D4, [], fun _ => 0x0, 0xFFFFFFFF, 0x0, true⟩,
  ⟨0x400D8, [], fun _ => 0x0, 0xFFFFFFFF, 0x0, true⟩,
  ⟨0x400DC, [], fun _ => 0x0, 0xFFFFFFFF, 0x0, true⟩,
  ⟨0x40100, [(2, 0x40), (16, 0x4)], fun _ => 0x0, 0x0, 0x0, false⟩]

/-- The register rows of window 0x4_0000 (01 R23). -/
def regRows4 : List RegRow := regRows4_0 ++ regRows4_1

def regRows5_0 : List RegRow := [
  ⟨0x50000, [], fun _ => 0x20500, 0xFFFF07, 0x0, false⟩,
  ⟨0x50004, [], fun _ => 0x0, 0x0, 0x0, false⟩,
  ⟨0x50008, [], fun _ => 0x1F40032, 0xFFFFFFFF, 0x0, false⟩,
  ⟨0x5000C, [], fun _ => 0x1E, 0xFFFF, 0x0, false⟩,
  ⟨0x50010, [], fun _ => 0x0, 0xFFFFFFFF, 0x0, false⟩,
  ⟨0x50014, [], fun _ => 0x0, 0xFFFF, 0x0, false⟩,
  ⟨0x50018, [], fun _ => 0x0, 0xFFFFFFFF, 0x0, false⟩,
  ⟨0x5001C, [], fun _ => 0x0, 0xFFFF, 0x0, false⟩,
  ⟨0x50020, [(4, 0x4)], fun _ => 0x0, 0x7F7F0F, 0x0, false⟩,
  ⟨0x50030, [(4, 0x4)], fun _ => 0x0, 0xFFFFFFFF, 0x0, false⟩,
  ⟨0x50040, [], fun _ => 0x0, 0xFFFF, 0x0, false⟩,
  ⟨0x50044, [], fun _ => 0x0, 0x0, 0x0, false⟩,
  ⟨0x50050, [], fun _ => 0x0, 0xFFFFFFFF, 0x0, false⟩,
  ⟨0x50054, [], fun _ => 0x0, 0xFFFFFFFF, 0x0, false⟩,
  ⟨0x50058, [], fun _ => 0x0, 0xFFFFFFFF, 0x0, false⟩,
  ⟨0x5005C, [], fun _ => 0x0, 0xFFFFFFFF, 0x0, false⟩,
  ⟨0x50060, [], fun _ => 0x0, 0xFFFFFFFF, 0x0, false⟩,
  ⟨0x50064, [], fun _ => 0x0, 0x0, 0x0, false⟩,
  ⟨0x50080, [], fun _ => 0x0, 0x0, 0x1F, false⟩,
  ⟨0x50084, [], fun _ => 0x0, 0x1F, 0x0, false⟩,
  ⟨0x50088, [], fun _ => 0x0, 0x3F, 0x0, false⟩,
  ⟨0x50090, [], fun _ => 0x0, 0xFFFFFFFF, 0x0, true⟩,
  ⟨0x50094, [], fun _ => 0x0, 0xFFFFFFFF, 0x0, true⟩,
  ⟨0x50098, [], fun _ => 0x0, 0xFFFFFFFF, 0x0, true⟩]

def regRows5_1 : List RegRow := [
  ⟨0x5009C, [], fun _ => 0x0, 0xFFFFFFFF, 0x0, true⟩,
  ⟨0x500C0, [(4, 0x4)], fun _ => 0x0, 0x0, 0x0, false⟩,
  ⟨0x50100, [(4, 0x40), (16, 0x4)], fun _ => 0x0, 0x0, 0x0, false⟩,
  ⟨0x51000, [], fun _ => 0xC80A00, 0xFFFFFF01, 0x0, false⟩,
  ⟨0x51004, [], fun _ => 0x0, 0x0, 0x0, false⟩,
  ⟨0x51008, [], fun _ => 0x0, 0x0, 0x0, false⟩,
  ⟨0x5100C, [], fun _ => 0x0, 0x0, 0x0, false⟩,
  ⟨0x51010, [], fun _ => 0x0, 0x0, 0x0, false⟩,
  ⟨0x51014, [], fun _ => 0x0, 0x0, 0x0, false⟩,
  ⟨0x51018, [], fun _ => 0x0, 0xFFFFFFFF, 0x0, false⟩,
  ⟨0x5101C, [], fun _ => 0x0, 0xFFFFFFFF, 0x0, false⟩,
  ⟨0x51020, [], fun _ => 0x0, 0x0, 0x0, false⟩,
  ⟨0x51024, [], fun _ => 0x0, 0x0, 0x0, false⟩,
  ⟨0x51040, [], fun _ => 0x0, 0x0, 0x7F, false⟩,
  ⟨0x51044, [], fun _ => 0x0, 0x7F, 0x0, false⟩,
  ⟨0x51048, [], fun _ => 0x0, 0x3F, 0x0, false⟩,
  ⟨0x51080, [], fun _ => 0x0, 0xFFFFFFFF, 0x0, true⟩,
  ⟨0x51084, [], fun _ => 0x0, 0xFFFFFFFF, 0x0, true⟩,
  ⟨0x51088, [], fun _ => 0x0, 0xFFFFFFFF, 0x0, true⟩,
  ⟨0x5108C, [], fun _ => 0x0, 0xFFFFFFFF, 0x0, true⟩,
  ⟨0x51090, [], fun _ => 0x0, 0xFFFFFFFF, 0x0, true⟩,
  ⟨0x51094, [], fun _ => 0x0, 0xFFFFFFFF, 0x0, true⟩,
  ⟨0x51098, [], fun _ => 0x0, 0xFFFFFFFF, 0x0, true⟩,
  ⟨0x54000, [(256, 0x20)], fun _ => 0x0, 0xFFFFFFFF, 0x0, false⟩]

def regRows5_2 : List RegRow := [
  ⟨0x54004, [(256, 0x20)], fun _ => 0x0, 0xFFFFFFFF, 0x0, false⟩,
  ⟨0x54008, [(256, 0x20)], fun _ => 0x0, 0xFFFF9FFF, 0x0, false⟩,
  ⟨0x5400C, [(256, 0x20)], fun _ => 0x0, 0xFFFFFFFF, 0x0, false⟩,
  ⟨0x54010, [(256, 0x20)], fun _ => 0x0, 0xFFFFFFFF, 0x0, false⟩,
  ⟨0x54014, [(256, 0x20)], fun _ => 0x0, 0xFFFFFFF, 0x0, false⟩,
  ⟨0x54018, [(256, 0x20)], fun _ => 0x0, 0xFFFFFFF, 0x0, false⟩,
  ⟨0x5401C, [(256, 0x20)], fun _ => 0x0, 0xFFFFFFFF, 0x0, false⟩,
  ⟨0x56000, [(256, 0x8)], fun _ => 0x0, 0x0, 0x0, false⟩,
  ⟨0x56004, [(256, 0x8)], fun _ => 0xFFFFFFFF, 0x0, 0x0, false⟩]

/-- The register rows of window 0x5_0000 (01 R23). -/
def regRows5 : List RegRow := regRows5_0 ++ regRows5_1 ++ regRows5_2

def regRows6_0 : List RegRow := [
  ⟨0x60000, [(8, 0x2000), (16, 0x100)], fun _ => 0x1000, 0x3FFF, 0x0, false⟩,
  ⟨0x60004, [(8, 0x2000), (16, 0x100)], fun _ => 0x2710, 0xFFFFF, 0x0, false⟩,
  ⟨0x60008, [(8, 0x2000), (16, 0x100)], fun _ => 0x0, 0xFFFFF, 0x0, false⟩,
  ⟨0x6000C, [(8, 0x2000), (16, 0x100)], fun _ => 0x0, 0xFFFF, 0x0, false⟩,
  ⟨0x60010, [(8, 0x2000), (16, 0x100)], fun o => if o < 0x64000 then 0x140320 else 0x14012C, 0xFF0FFF, 0x0, false⟩,
  ⟨0x60014, [(8, 0x2000), (16, 0x100)], fun _ => 0x6430, 0xFFFFF3, 0x0, false⟩,
  ⟨0x60018, [(8, 0x2000), (16, 0x100)], fun _ => 0x0, 0xFF0FFF, 0x0, false⟩,
  ⟨0x6001C, [(8, 0x2000), (16, 0x100)], fun _ => 0xA0507, 0xFFFF07, 0x0, false⟩,
  ⟨0x60020, [(8, 0x2000), (16, 0x100)], fun _ => 0x14, 0xFF, 0x0, false⟩,
  ⟨0x60030, [(8, 0x2000), (16, 0x100)], fun _ => 0x40000, 0x0, 0x7FF, false⟩,
  ⟨0x60034, [(8, 0x2000), (16, 0x100)], fun _ => 0x0, 0x0, 0x0, false⟩,
  ⟨0x60038, [(8, 0x2000), (16, 0x100)], fun _ => 0x0, 0x0, 0x0, false⟩,
  ⟨0x6003C, [(8, 0x2000), (16, 0x100)], fun _ => 0x0, 0x0, 0x0, false⟩,
  ⟨0x60040, [(8, 0x2000), (16, 0x100)], fun _ => 0x0, 0x0, 0x0, false⟩,
  ⟨0x60044, [(8, 0x2000), (16, 0x100)], fun _ => 0x0, 0x0, 0x0, false⟩,
  ⟨0x60048, [(8, 0x2000), (16, 0x100)], fun _ => 0x0, 0x0, 0x0, false⟩,
  ⟨0x6004C, [(8, 0x2000), (16, 0x100)], fun _ => 0x0, 0x0, 0x0, false⟩,
  ⟨0x60050, [(8, 0x2000), (16, 0x100)], fun _ => 0x0, 0xFFFFFFFF, 0x0, true⟩,
  ⟨0x60054, [(8, 0x2000), (16, 0x100)], fun _ => 0x0, 0xFFFFFFFF, 0x0, true⟩,
  ⟨0x60060, [(8, 0x2000), (16, 0x100)], fun _ => 0x40000000, 0xFFFFFFFF, 0x0, false⟩,
  ⟨0x60064, [(8, 0x2000), (16, 0x100)], fun _ => 0x0, 0xFFFFFFFF, 0x0, false⟩,
  ⟨0x60068, [(8, 0x2000), (16, 0x100)], fun _ => 0x40000000, 0xFFFFFFFF, 0x0, false⟩,
  ⟨0x6006C, [(8, 0x2000), (16, 0x100)], fun _ => 0x0, 0xFFFF, 0x0, false⟩,
  ⟨0x60070, [(8, 0x2000), (16, 0x100)], fun _ => 0x0, 0x0, 0x0, false⟩]

def regRows6_1 : List RegRow := [
  ⟨0x61000, [(8, 0x2000)], fun _ => 0x0, 0x0, 0x0, false⟩,
  ⟨0x61004, [(8, 0x2000)], fun _ => 0x1, 0x0, 0x0, false⟩,
  ⟨0x61008, [(8, 0x2000)], fun _ => 0x0, 0x0, 0x3F, false⟩,
  ⟨0x6100C, [(8, 0x2000)], fun _ => 0x0, 0x1003F, 0x0, false⟩,
  ⟨0x61010, [(8, 0x2000)], fun _ => 0x0, 0x3F, 0x0, false⟩,
  ⟨0x61014, [(8, 0x2000)], fun _ => 0x0, 0x0, 0x0, false⟩,
  ⟨0x61018, [(8, 0x2000)], fun _ => 0x0, 0x0, 0x0, false⟩,
  ⟨0x6101C, [(8, 0x2000)], fun _ => 0x0, 0x0, 0x0, false⟩,
  ⟨0x61020, [(8, 0x2000)], fun _ => 0x0, 0x0, 0x0, false⟩,
  ⟨0x61800, [(2, 0x8000)], fun _ => 0xA, 0x7F, 0x0, false⟩,
  ⟨0x61804, [(2, 0x8000)], fun _ => 0x0, 0x0, 0x0, false⟩,
  ⟨0x61808, [(2, 0x8000)], fun _ => 0x0, 0xFFFFFFFF, 0x0, true⟩,
  ⟨0x61C00, [], fun _ => 0x0, 0x0, 0x80000000, false⟩,
  ⟨0x61C04, [], fun _ => 0x0, 0x0, 0x0, false⟩,
  ⟨0x61C08, [], fun _ => 0x0, 0x0, 0x0, false⟩,
  ⟨0x61C0C, [], fun _ => 0x0, 0xFFFFFFFF, 0x0, true⟩,
  ⟨0x61C10, [], fun _ => 0x0, 0x0, 0x80000000, false⟩,
  ⟨0x60080, [(8, 0x2000), (16, 0x100)], fun _ => 0x4, 0x1FFFF, 0x0, false⟩,
  ⟨0x60084, [(8, 0x2000), (16, 0x100)], fun _ => 0x64, 0x1FFFF, 0x0, false⟩,
  ⟨0x60088, [(8, 0x2000), (16, 0x100)], fun _ => 0x7D00BB8, 0xFFFFFFFF, 0x0, false⟩,
  ⟨0x6008C, [(8, 0x2000), (16, 0x100)], fun _ => 0x64, 0xFFFF, 0x0, false⟩,
  ⟨0x60090, [(8, 0x2000), (16, 0x100)], fun _ => 0x1403E8, 0xFFFFFF, 0x0, false⟩,
  ⟨0x60094, [(8, 0x2000), (16, 0x100)], fun _ => 0x3E8, 0xFFFFFF, 0x0, false⟩,
  ⟨0x600C0, [(8, 0x2000), (16, 0x100)], fun _ => 0x0, 0x0, 0xF00, false⟩]

def regRows6_2 : List RegRow := [
  ⟨0x600C4, [(8, 0x2000), (16, 0x100)], fun _ => 0x0, 0x0, 0x0, false⟩,
  ⟨0x600C8, [(8, 0x2000), (16, 0x100)], fun _ => 0x0, 0x0, 0x0, false⟩,
  ⟨0x600CC, [(8, 0x2000), (16, 0x100)], fun _ => 0x0, 0xFFFFFFFF, 0x0, true⟩,
  ⟨0x600D0, [(8, 0x2000), (16, 0x100)], fun _ => 0x0, 0x0, 0x0, false⟩,
  ⟨0x600D4, [(8, 0x2000), (16, 0x100)], fun _ => 0x0, 0x0, 0x0, false⟩,
  ⟨0x600D8, [(8, 0x2000), (16, 0x100)], fun _ => 0x0, 0x0, 0x0, false⟩,
  ⟨0x600DC, [(8, 0x2000), (16, 0x100)], fun _ => 0x0, 0x0, 0x0, false⟩,
  ⟨0x600E0, [(8, 0x2000), (16, 0x100)], fun _ => 0x0, 0x0, 0x0, false⟩,
  ⟨0x600E4, [(8, 0x2000), (16, 0x100)], fun _ => 0x0, 0x0, 0x0, false⟩,
  ⟨0x600E8, [(8, 0x2000), (16, 0x100)], fun _ => 0x0, 0x0, 0x0, false⟩,
  ⟨0x600EC, [(8, 0x2000), (16, 0x100)], fun _ => 0x0, 0x0, 0x0, false⟩,
  ⟨0x600F0, [(8, 0x2000), (16, 0x100)], fun _ => 0x0, 0x0, 0x0, false⟩,
  ⟨0x600F4, [(8, 0x2000), (16, 0x100)], fun _ => 0x0, 0x0, 0x0, false⟩,
  ⟨0x600F8, [(8, 0x2000), (16, 0x100)], fun _ => 0x0, 0x0, 0x0, false⟩]

/-- The register rows of window 0x6_0000 (01 R23). -/
def regRows6 : List RegRow := regRows6_0 ++ regRows6_1 ++ regRows6_2

def regRows7_0 : List RegRow := [
  ⟨0x70000, [], fun _ => 0x0, 0xFFFFFFFF, 0x0, false⟩,
  ⟨0x70004, [], fun _ => 0x0, 0xFFFFFFFF, 0x0, false⟩,
  ⟨0x70008, [], fun _ => 0x0, 0xFFFF01FF, 0x0, false⟩,
  ⟨0x7000C, [], fun _ => 0x0, 0x0, 0x0, false⟩,
  ⟨0x70010, [], fun _ => 0x0, 0x0, 0x6, false⟩,
  ⟨0x71000, [(8, 0x800)], fun _ => 0x0, 0x1, 0x0, false⟩,
  ⟨0x71004, [(8, 0x800)], fun _ => 0x0, 0x0, 0x0, false⟩,
  ⟨0x71008, [(8, 0x800)], fun _ => 0x0, 0x0, 0x0, false⟩,
  ⟨0x7100C, [(8, 0x800)], fun _ => 0xC8, 0xFFFF, 0x0, false⟩,
  ⟨0x71010, [(8, 0x800)], fun _ => 0x0, 0xFFFFFFFF, 0x0, false⟩,
  ⟨0x71014, [(8, 0x800)], fun _ => 0x0, 0xFFFFFFFF, 0x0, false⟩,
  ⟨0x71018, [(8, 0x800)], fun _ => 0x0, 0x0, 0x0, false⟩,
  ⟨0x71020, [(8, 0x800)], fun _ => 0x0, 0x0, 0x3F, false⟩,
  ⟨0x71024, [(8, 0x800)], fun _ => 0x0, 0x1003F, 0x0, false⟩,
  ⟨0x71028, [(8, 0x800)], fun _ => 0x0, 0x3F, 0x0, false⟩,
  ⟨0x71040, [(8, 0x800), (4, 0x4)], fun _ => 0x0, 0x800FFFFF, 0x0, false⟩,
  ⟨0x71050, [(8, 0x800), (4, 0x4)], fun _ => 0x0, 0xFFF, 0x0, false⟩,
  ⟨0x71060, [(8, 0x800)], fun _ => 0x0, 0xFFFFFFFF, 0x0, true⟩,
  ⟨0x71064, [(8, 0x800)], fun _ => 0x0, 0xFFFFFFFF, 0x0, true⟩,
  ⟨0x71068, [(8, 0x800)], fun _ => 0x0, 0xFFFFFFFF, 0x0, true⟩,
  ⟨0x7106C, [(8, 0x800)], fun _ => 0x0, 0xFFFFFFFF, 0x0, true⟩,
  ⟨0x71100, [(8, 0x800), (16, 0x40)], fun _ => 0x0, 0x1, 0x0, false⟩,
  ⟨0x71104, [(8, 0x800), (16, 0x40)], fun _ => 0x0, 0x0, 0x3FF0000, false⟩,
  ⟨0x71108, [(8, 0x800), (16, 0x40)], fun _ => 0x0, 0x0, 0x0, false⟩]

def regRows7_1 : List RegRow := [
  ⟨0x7110C, [(8, 0x800), (16, 0x40)], fun _ => 0x0, 0x0, 0x0, false⟩,
  ⟨0x71110, [(8, 0x800), (16, 0x40)], fun _ => 0x0, 0x0, 0x0, false⟩,
  ⟨0x71114, [(8, 0x800), (16, 0x40)], fun _ => 0x0, 0x0, 0x0, false⟩,
  ⟨0x71118, [(8, 0x800), (16, 0x40)], fun _ => 0x0, 0x0, 0x0, false⟩,
  ⟨0x7111C, [(8, 0x800), (16, 0x40)], fun _ => 0x0, 0xFFFF, 0x0, false⟩,
  ⟨0x71120, [(8, 0x800), (16, 0x40)], fun _ => 0x640320, 0xFFFFFFFF, 0x0, false⟩,
  ⟨0x71124, [(8, 0x800), (16, 0x40)], fun _ => 0xB4A0, 0xFFFFFFF, 0x0, false⟩,
  ⟨0x71128, [(8, 0x800), (16, 0x40)], fun _ => 0x0, 0x0, 0x0, false⟩,
  ⟨0x7112C, [(8, 0x800), (16, 0x40)], fun _ => 0x0, 0x0, 0x0, false⟩,
  ⟨0x71130, [(8, 0x800), (16, 0x40)], fun _ => 0x0, 0xFFFFFFFF, 0x0, true⟩,
  ⟨0x71134, [(8, 0x800), (16, 0x40)], fun _ => 0x0, 0xFFFFFFFF, 0x0, true⟩]

/-- The register rows of window 0x7_0000 (01 R23). -/
def regRows7 : List RegRow := regRows7_0 ++ regRows7_1

def regRows8_0 : List RegRow := [
  ⟨0x80000, [], fun _ => 0x0, 0x0, 0x0, false⟩,
  ⟨0x80004, [], fun _ => 0x0, 0x0, 0x0, false⟩,
  ⟨0x80010, [], fun _ => 0x0, 0x1, 0x0, false⟩,
  ⟨0x80014, [], fun _ => 0x0, 0x3F, 0x0, false⟩,
  ⟨0x80020, [(5, 0x4)], fun _ => 0x0, 0x0, 0x0, false⟩,
  ⟨0x80040, [(5, 0x4)], fun _ => 0x0, 0x0, 0x0, false⟩,
  ⟨0x80080, [], fun _ => 0x0, 0xFFFFFFFF, 0x0, true⟩,
  ⟨0x80084, [], fun _ => 0x0, 0xFFFFFFFF, 0x0, true⟩,
  ⟨0x80088, [], fun _ => 0x0, 0xFFFFFFFF, 0x0, true⟩,
  ⟨0x8008C, [], fun _ => 0x0, 0xFFFFFFFF, 0x0, true⟩,
  ⟨0x80090, [], fun _ => 0x0, 0xFFFFFFFF, 0x0, true⟩,
  ⟨0x81000, [(160, 0x40)], fun _ => 0x0, 0xFF0F, 0x0, false⟩,
  ⟨0x81004, [(160, 0x40)], fun o => if o < 0x83000 then 0x7D0 else 0x186A0, 0xFFFFF, 0x0, false⟩,
  ⟨0x81008, [(160, 0x40)], fun _ => 0x0, 0xFFFFF, 0x0, false⟩,
  ⟨0x8100C, [(160, 0x40)], fun _ => 0x0, 0xFFFFFFFF, 0x0, false⟩,
  ⟨0x81010, [(160, 0x40)], fun _ => 0x0, 0xFFFFFFFF, 0x0, false⟩,
  ⟨0x81014, [(160, 0x40)], fun _ => 0xA320064, 0xFFFFFFFF, 0x0, false⟩,
  ⟨0x81018, [(160, 0x40)], fun _ => 0x0, 0xFFFFFFFF, 0x0, false⟩,
  ⟨0x8101C, [(160, 0x40)], fun _ => 0x400, 0xFFFFFFFF, 0x0, false⟩,
  ⟨0x81020, [(160, 0x40)], fun _ => 0x400, 0xFFFFFFFF, 0x0, false⟩,
  ⟨0x81024, [(160, 0x40)], fun _ => 0x0, 0xFFFFFFFF, 0x0, false⟩,
  ⟨0x81028, [(160, 0x40)], fun _ => 0x0, 0x0, 0x0, false⟩,
  ⟨0x8102C, [(160, 0x40)], fun _ => 0x0, 0x0, 0x7FF0000, false⟩,
  ⟨0x81030, [(160, 0x40)], fun _ => 0x0, 0x0, 0x0, false⟩]

def regRows8_1 : List RegRow := [
  ⟨0x81034, [(160, 0x40)], fun _ => 0x0, 0x0, 0x0, false⟩,
  ⟨0x81038, [(160, 0x40)], fun _ => 0x0, 0x0, 0x0, false⟩,
  ⟨0x84000, [(256, 0x60)], fun o => if o < 0x87000 then 0x1100004 + 0x100 * ((o - 0x84000) / 0x60) else 0x1100000, 0x3F1F7F77, 0x0, false⟩,
  ⟨0x84004, [(256, 0x60)], fun _ => 0x0, 0xFFFFFFFF, 0x0, false⟩,
  ⟨0x84008, [(256, 0x60)], fun _ => 0x0, 0xFFFFFFFF, 0x0, false⟩,
  ⟨0x8400C, [(256, 0x60)], fun _ => 0x0, 0xFFFFFFFF, 0x0, false⟩,
  ⟨0x84010, [(256, 0x60)], fun _ => 0x0, 0xFFFFFFFF, 0x0, false⟩,
  ⟨0x84014, [(256, 0x60)], fun _ => 0x0, 0xFFFFFFFF, 0x0, false⟩,
  ⟨0x84018, [(256, 0x60)], fun _ => 0x0, 0xFFFFFFFF, 0x0, false⟩,
  ⟨0x8401C, [(256, 0x60)], fun _ => 0x0, 0xFFFFFFFF, 0x0, false⟩,
  ⟨0x84020, [(256, 0x60)], fun _ => 0x0, 0xFFFFFFFF, 0x0, false⟩,
  ⟨0x84024, [(256, 0x60)], fun _ => 0x80000000, 0xFFFFFFFF, 0x0, false⟩,
  ⟨0x84028, [(256, 0x60)], fun _ => 0x7FFFFFFF, 0xFFFFFFFF, 0x0, false⟩,
  ⟨0x8402C, [(256, 0x60)], fun _ => 0x0, 0xFFFFFFFF, 0x0, false⟩,
  ⟨0x84030, [(256, 0x60)], fun _ => 0x0, 0xFFFFFFFF, 0x0, false⟩,
  ⟨0x84034, [(256, 0x60)], fun o => if o < 0x87000 then 0xFFFF else 0x7FFFFFFF, 0xFFFFFFFF, 0x0, false⟩,
  ⟨0x84038, [(256, 0x60)], fun _ => 0x7FFFFFFF, 0x7FFFFFFF, 0x0, false⟩,
  ⟨0x8403C, [(256, 0x60)], fun _ => 0x80000000, 0xFFFFFFFF, 0x0, false⟩,
  ⟨0x84040, [(256, 0x60)], fun _ => 0x7FFFFFFF, 0xFFFFFFFF, 0x0, false⟩,
  ⟨0x84044, [(256, 0x60)], fun _ => 0x0, 0xFFFFFFFF, 0x0, false⟩,
  ⟨0x84048, [(256, 0x60)], fun _ => 0x0, 0xFFFFFFFF, 0x0, false⟩,
  ⟨0x8404C, [(256, 0x60)], fun _ => 0x0, 0xFFFFFFFF, 0x0, false⟩,
  ⟨0x84050, [(256, 0x60)], fun _ => 0x0, 0x7FFFFFFF, 0x0, false⟩]

/-- The register rows of window 0x8_0000 (01 R23). -/
def regRows8 : List RegRow := regRows8_0 ++ regRows8_1

def regRows9_0 : List RegRow := [
  ⟨0x90000, [(16, 0x1000)], fun _ => 0x0, 0x700, 0x0, false⟩,
  ⟨0x90004, [(16, 0x1000)], fun o => 0x10 * ((o - 0x90000) / 0x1000), 0x0, 0x0, false⟩,
  ⟨0x90008, [(16, 0x1000)], fun _ => 0x0, 0x1FFFC, 0x0, false⟩,
  ⟨0x9000C, [(16, 0x1000)], fun _ => 0x0, 0x1FFFC, 0x0, false⟩,
  ⟨0x90010, [(16, 0x1000)], fun _ => 0x0, 0x0, 0x0, false⟩,
  ⟨0x90014, [(16, 0x1000)], fun _ => 0x0, 0x0, 0x0, false⟩,
  ⟨0x90018, [(16, 0x1000)], fun _ => 0x0, 0x0, 0x0, false⟩,
  ⟨0x9001C, [(16, 0x1000)], fun _ => 0x0, 0x0, 0x0, false⟩,
  ⟨0x90020, [(16, 0x1000)], fun _ => 0x0, 0x0, 0x0, false⟩,
  ⟨0x90024, [(16, 0x1000)], fun _ => 0x0, 0x0, 0x0, false⟩,
  ⟨0x90030, [(16, 0x1000), (4, 0x4)], fun o => engFeatReset ((o / 4) % 4), 0x0, 0x0, false⟩,
  ⟨0x90040, [(16, 0x1000)], fun _ => 0x0, 0xFFFFFFFF, 0x0, false⟩,
  ⟨0x90044, [(16, 0x1000)], fun _ => 0x0, 0x0, 0x0, false⟩,
  ⟨0x90048, [(16, 0x1000)], fun _ => 0x0, 0x1FFFC, 0x0, false⟩,
  ⟨0x9004C, [(16, 0x1000)], fun _ => 0x0, 0xFFFFFFFF, 0x0, false⟩,
  ⟨0x90050, [(16, 0x1000)], fun _ => 0x0, 0x0, 0xFF, false⟩,
  ⟨0x90054, [(16, 0x1000)], fun _ => 0x0, 0xFF, 0x0, false⟩,
  ⟨0x90058, [(16, 0x1000)], fun _ => 0x0, 0x3F, 0x0, false⟩,
  ⟨0x9005C, [(16, 0x1000)], fun _ => 0x0, 0x0, 0x0, false⟩,
  ⟨0x90080, [(16, 0x1000)], fun _ => 0x0, 0xFFFFFFFF, 0x0, true⟩,
  ⟨0x90084, [(16, 0x1000)], fun _ => 0x0, 0xFFFFFFFF, 0x0, true⟩,
  ⟨0x90088, [(16, 0x1000)], fun _ => 0x0, 0xFFFFFFFF, 0x0, true⟩,
  ⟨0x9008C, [(16, 0x1000)], fun _ => 0x0, 0xFFFFFFFF, 0x0, true⟩,
  ⟨0x90090, [(16, 0x1000)], fun _ => 0x0, 0xFFFFFFFF, 0x0, true⟩]

def regRows9_1 : List RegRow := [
  ⟨0x90800, [(2, 0x8000)], fun _ => 0x0, 0x0, 0x0, false⟩,
  ⟨0x90804, [(2, 0x8000)], fun _ => 0x0, 0x0, 0x2, false⟩]

/-- The register rows of window 0x9_0000 (01 R23). -/
def regRows9 : List RegRow := regRows9_0 ++ regRows9_1

def regRowsA_0 : List RegRow := [
  ⟨0xA0000, [], fun _ => 0x100, 0x101, 0x0, false⟩,
  ⟨0xA0004, [], fun _ => 0x0, 0x0, 0x0, false⟩,
  ⟨0xA0008, [], fun _ => 0x64, 0xFFFF, 0x0, false⟩,
  ⟨0xA000C, [], fun _ => 0x64, 0xFFFF, 0x0, false⟩,
  ⟨0xA0010, [], fun _ => 0x0, 0xF71, 0x0, false⟩,
  ⟨0xA0014, [], fun _ => 0x0, 0xFFFFFFFF, 0x0, false⟩,
  ⟨0xA0018, [], fun _ => 0x0, 0xFFFF, 0x0, false⟩,
  ⟨0xA001C, [], fun _ => 0x2, 0x3, 0x0, false⟩,
  ⟨0xA0020, [], fun _ => 0x10, 0xFFFF, 0x0, false⟩,
  ⟨0xA0030, [], fun _ => 0x0, 0x1FFF, 0x0, false⟩,
  ⟨0xA0034, [(4, 0x4)], fun _ => 0x0, 0x0, 0x0, false⟩,
  ⟨0xA0044, [], fun _ => 0x0, 0x0, 0x80000000, false⟩,
  ⟨0xA0048, [], fun _ => 0x0, 0x0, 0x0, false⟩,
  ⟨0xA0050, [], fun _ => 0x0, 0x0, 0x0, false⟩,
  ⟨0xA0054, [], fun _ => 0x0, 0x0, 0x0, false⟩,
  ⟨0xA0058, [], fun _ => 0xA, 0xFFFF, 0x0, false⟩,
  ⟨0xA0060, [], fun _ => 0x0, 0x1FFF, 0x0, false⟩,
  ⟨0xA0064, [], fun _ => 0x0, 0xFFFF, 0x0, false⟩,
  ⟨0xA0070, [], fun _ => 0x0, 0x3FF, 0x0, false⟩,
  ⟨0xA0074, [], fun _ => 0x0, 0x0, 0x0, false⟩,
  ⟨0xA0078, [], fun _ => 0x0, 0x0, 0x0, false⟩,
  ⟨0xA0080, [], fun _ => 0x0, 0x0, 0x7F, false⟩,
  ⟨0xA0084, [], fun _ => 0x0, 0x7F, 0x0, false⟩,
  ⟨0xA0088, [], fun _ => 0x0, 0x3F, 0x0, false⟩]

def regRowsA_1 : List RegRow := [
  ⟨0xA0090, [], fun _ => 0x0, 0xFFFFFFFF, 0x0, true⟩,
  ⟨0xA0094, [], fun _ => 0x0, 0xFFFFFFFF, 0x0, true⟩,
  ⟨0xA0098, [], fun _ => 0x0, 0xFFFFFFFF, 0x0, true⟩,
  ⟨0xA009C, [], fun _ => 0x0, 0xFFFFFFFF, 0x0, true⟩,
  ⟨0xA00A0, [], fun _ => 0x0, 0xFFFFFFFF, 0x0, true⟩,
  ⟨0xA1000, [(10, 0x100)], fun _ => 0x10, 0xFFF0FFF, 0x0, false⟩,
  ⟨0xA1004, [(10, 0x100)], fun _ => 0x0, 0x0, 0x0, false⟩,
  ⟨0xA1008, [(10, 0x100)], fun _ => 0x0, 0xFFFF03FF, 0x0, false⟩,
  ⟨0xA100C, [(10, 0x100)], fun _ => 0xFAC688, 0xFFFFFF, 0x0, false⟩,
  ⟨0xA1010, [(10, 0x100)], fun _ => 0x10000040, 0xFFFFFFFF, 0x0, false⟩,
  ⟨0xA1014, [(10, 0x100)], fun _ => 0x200, 0xFFFF, 0x0, false⟩,
  ⟨0xA1018, [(10, 0x100)], fun _ => 0x0, 0xFFFFFFFF, 0x0, false⟩,
  ⟨0xA101C, [(10, 0x100)], fun _ => 0x0, 0x0, 0x0, false⟩,
  ⟨0xA1020, [(10, 0x100)], fun _ => 0x0, 0x0, 0x0, false⟩,
  ⟨0xA1024, [(10, 0x100)], fun _ => 0x0, 0x0, 0x0, false⟩,
  ⟨0xA1028, [(10, 0x100)], fun _ => 0x0, 0x0, 0x0, false⟩,
  ⟨0xA102C, [(10, 0x100)], fun _ => 0x0, 0x0, 0x0, false⟩,
  ⟨0xA1030, [(10, 0x100)], fun _ => 0x100, 0x7F01, 0x0, false⟩,
  ⟨0xA1034, [(10, 0x100)], fun _ => 0x0, 0xFFFFFFFF, 0x0, false⟩,
  ⟨0xA1038, [(10, 0x100)], fun _ => 0x0, 0xFFFFFFFF, 0x0, false⟩,
  ⟨0xA103C, [(10, 0x100)], fun _ => 0x0, 0xFFFFFFFF, 0x0, false⟩,
  ⟨0xA1040, [(10, 0x100)], fun _ => 0x0, 0x0, 0x1F, false⟩,
  ⟨0xA1080, [(10, 0x100)], fun _ => 0x0, 0xFFFFFFFF, 0x0, true⟩,
  ⟨0xA1084, [(10, 0x100)], fun _ => 0x0, 0xFFFFFFFF, 0x0, true⟩]

def regRowsA_2 : List RegRow := [
  ⟨0xA1088, [(10, 0x100)], fun _ => 0x0, 0xFFFFFFFF, 0x0, true⟩,
  ⟨0xA108C, [(10, 0x100)], fun _ => 0x0, 0xFFFFFFFF, 0x0, true⟩,
  ⟨0xA1090, [(10, 0x100)], fun _ => 0x0, 0xFFFFFFFF, 0x0, true⟩,
  ⟨0xA1094, [(10, 0x100)], fun _ => 0x0, 0xFFFFFFFF, 0x0, true⟩,
  ⟨0xA1098, [(10, 0x100)], fun _ => 0x0, 0xFFFFFFFF, 0x0, true⟩,
  ⟨0xA109C, [(10, 0x100)], fun _ => 0x0, 0xFFFFFFFF, 0x0, true⟩,
  ⟨0xA10A0, [(10, 0x100)], fun _ => 0x0, 0xFFFFFFFF, 0x0, true⟩,
  ⟨0xA10A4, [(10, 0x100)], fun _ => 0x0, 0xFFFFFFFF, 0x0, true⟩,
  ⟨0xA10C0, [(10, 0x100), (8, 0x4)], fun _ => 0x0, 0x0, 0x0, false⟩,
  ⟨0xA2000, [(16, 0x40)], fun _ => 0x0, 0xFFF000F, 0x0, false⟩,
  ⟨0xA2004, [(16, 0x40)], fun _ => 0x0, 0xFFFFFFFF, 0x0, false⟩,
  ⟨0xA2008, [(16, 0x40)], fun _ => 0x0, 0xFFFF, 0x0, false⟩,
  ⟨0xA200C, [(16, 0x40)], fun _ => 0x0, 0xFFFFFFFF, 0x0, false⟩,
  ⟨0xA2010, [(16, 0x40)], fun _ => 0x0, 0xFFFFFFFF, 0x0, false⟩,
  ⟨0xA2014, [(16, 0x40)], fun _ => 0x0, 0x0, 0x0, false⟩,
  ⟨0xA2018, [(16, 0x40)], fun _ => 0x1000008, 0xFFFFFFFF, 0x0, false⟩,
  ⟨0xA201C, [(16, 0x40)], fun _ => 0x0, 0xFFFFFFFF, 0x0, true⟩,
  ⟨0xA2020, [(16, 0x40)], fun _ => 0x0, 0xFFFFFFFF, 0x0, true⟩,
  ⟨0xA2024, [(16, 0x40)], fun _ => 0x0, 0xFFFFFFFF, 0x0, true⟩,
  ⟨0xA8000, [(8, 0x200), (2, 0x100), (64, 0x4)], fun _ => 0x0, 0xFFFFFFFF, 0x0, false⟩]

/-- The register rows of window 0xA_0000 (01 R23). -/
def regRowsA : List RegRow := regRowsA_0 ++ regRowsA_1 ++ regRowsA_2

def regRowsB_0 : List RegRow := [
  ⟨0xB0000, [(16, 0x1000)], fun _ => 0x320000, 0xFF0FF3, 0x0, false⟩,
  ⟨0xB0004, [(16, 0x1000)], fun _ => 0x0, 0x0, 0x0, false⟩,
  ⟨0xB0008, [(16, 0x1000)], fun _ => 0x1F1F7E00, 0x7F7FFFFF, 0x0, false⟩,
  ⟨0xB000C, [(16, 0x1000)], fun _ => 0x7071E00, 0xF0F1F1F, 0x0, false⟩,
  ⟨0xB0010, [(16, 0x1000)], fun _ => 0x20, 0x7F, 0x0, false⟩,
  ⟨0xB0014, [(16, 0x1000)], fun _ => 0x0, 0x0, 0x0, false⟩,
  ⟨0xB0018, [(16, 0x1000)], fun _ => 0x0, 0x0, 0x0, false⟩,
  ⟨0xB001C, [(16, 0x1000)], fun _ => 0x0, 0x0, 0x0, false⟩,
  ⟨0xB0020, [(16, 0x1000)], fun _ => 0x3E803, 0xFFFF0F, 0x0, false⟩,
  ⟨0xB0024, [(16, 0x1000)], fun _ => 0x0, 0x0, 0x80000000, false⟩,
  ⟨0xB0028, [(16, 0x1000)], fun _ => 0x0, 0x0, 0x1FFFF, false⟩,
  ⟨0xB002C, [(16, 0x1000)], fun _ => 0x0, 0x1FFFF, 0x0, false⟩,
  ⟨0xB0030, [(16, 0x1000)], fun _ => 0x0, 0x3F, 0x0, false⟩,
  ⟨0xB0034, [(16, 0x1000)], fun _ => 0x0, 0x7, 0x0, false⟩,
  ⟨0xB0038, [(16, 0x1000)], fun _ => 0x0, 0x0, 0xFFFFFFFF, false⟩,
  ⟨0xB003C, [(16, 0x1000)], fun _ => 0x0, 0x0, 0xFFFFFFFF, false⟩,
  ⟨0xB0040, [(16, 0x1000)], fun _ => 0x0, 0x0, 0x0, false⟩,
  ⟨0xB0044, [(16, 0x1000)], fun _ => 0x0, 0x0, 0x0, false⟩,
  ⟨0xB0048, [(16, 0x1000)], fun _ => 0x0, 0x0, 0x0, false⟩,
  ⟨0xB004C, [(16, 0x1000)], fun _ => 0x0, 0x0, 0x0, false⟩,
  ⟨0xB0050, [(16, 0x1000)], fun _ => 0x0, 0x0, 0xFFFFFFFF, false⟩,
  ⟨0xB0054, [(16, 0x1000)], fun _ => 0x0, 0x0, 0xFFFFFFFF, false⟩,
  ⟨0xB0058, [(16, 0x1000), (2, 0x4)], fun _ => 0x0, 0x0, 0x100, false⟩,
  ⟨0xB0060, [(16, 0x1000), (2, 0x4)], fun _ => 0x0, 0x0, 0x0, false⟩]

def regRowsB_1 : List RegRow := [
  ⟨0xB0068, [(16, 0x1000)], fun _ => 0x0, 0xFFFFFFFF, 0x0, true⟩,
  ⟨0xB006C, [(16, 0x1000)], fun _ => 0x0, 0xFFFFFFFF, 0x0, true⟩,
  ⟨0xB0070, [(16, 0x1000)], fun _ => 0x0, 0xFFFFFFFF, 0x0, true⟩,
  ⟨0xB0074, [(16, 0x1000)], fun _ => 0x0, 0xFFFFFFFF, 0x0, true⟩,
  ⟨0xB0078, [(16, 0x1000)], fun _ => 0x0, 0xFFFFFFFF, 0x0, true⟩,
  ⟨0xB0080, [(16, 0x1000), (16, 0x8)], fun _ => 0x0, 0xFFFFFFFF, 0x0, false⟩,
  ⟨0xB0084, [(16, 0x1000), (16, 0x8)], fun _ => 0x0, 0x7FFFFFFF, 0x0, false⟩,
  ⟨0xB0100, [(16, 0x1000), (2, 0x80), (20, 0x4)], fun _ => 0x0, 0x0, 0x0, false⟩,
  ⟨0xB0200, [(16, 0x1000), (32, 0x50)], fun _ => 0x0, 0x7FFFFFFF, 0x0, false⟩,
  ⟨0xB0204, [(16, 0x1000), (32, 0x50)], fun _ => 0x0, 0xF2F, 0x20000, false⟩,
  ⟨0xB0208, [(16, 0x1000), (32, 0x50)], fun _ => 0x0, 0x3FFFFFFF, 0x0, false⟩,
  ⟨0xB020C, [(16, 0x1000), (32, 0x50)], fun _ => 0x0, 0x0, 0x0, false⟩,
  ⟨0xB0210, [(16, 0x1000), (32, 0x50), (16, 0x4)], fun _ => 0x0, 0xFFFFFFFF, 0x0, false⟩,
  ⟨0xB0C00, [(16, 0x1000), (32, 0x20)], fun _ => 0x0, 0x7FFFFFFF, 0x0, false⟩,
  ⟨0xB0C04, [(16, 0x1000), (32, 0x20)], fun _ => 0x0, 0xF2F, 0x20000, false⟩,
  ⟨0xB0C08, [(16, 0x1000), (32, 0x20)], fun _ => 0x0, 0x3FFFFFFF, 0x0, false⟩,
  ⟨0xB0C0C, [(16, 0x1000), (32, 0x20)], fun _ => 0x0, 0x0, 0x0, false⟩,
  ⟨0xB0C10, [(16, 0x1000), (32, 0x20), (2, 0x4)], fun _ => 0x0, 0xFFFFFFFF, 0x0, false⟩]

/-- The register rows of window 0xB_0000 (01 R23). -/
def regRowsB : List RegRow := regRowsB_0 ++ regRowsB_1

def regRowsC_0 : List RegRow := [
  ⟨0xC0000, [], fun _ => 0x400, 0xFF3F, 0x0, false⟩,
  ⟨0xC0004, [], fun _ => 0x11001, 0x13F3F, 0x0, false⟩,
  ⟨0xC0008, [], fun _ => 0x403, 0x7FF, 0x0, false⟩,
  ⟨0xC000C, [], fun _ => 0x3100040, 0xFFFFFFF, 0x0, false⟩,
  ⟨0xC0010, [], fun _ => 0xFA0, 0xFFFFFFFF, 0x0, false⟩,
  ⟨0xC0014, [], fun _ => 0x0, 0xFFFFFF, 0x0, false⟩,
  ⟨0xC0018, [], fun _ => 0x0, 0x0, 0x0, false⟩,
  ⟨0xC001C, [], fun _ => 0x0, 0xFFFF007F, 0x0, false⟩,
  ⟨0xC0020, [], fun _ => 0x0, 0x0, 0x0, false⟩,
  ⟨0xC0024, [], fun _ => 0x0, 0x1FFFF, 0x0, false⟩,
  ⟨0xC0028, [], fun _ => 0x0, 0xFFFFFFFF, 0x0, false⟩,
  ⟨0xC0030, [], fun _ => 0x0, 0x0, 0x7F, false⟩,
  ⟨0xC0034, [], fun _ => 0x0, 0x7F, 0x0, false⟩,
  ⟨0xC0038, [], fun _ => 0x0, 0x3F, 0x0, false⟩,
  ⟨0xC0040, [], fun _ => 0xFFFFFFFF, 0x0, 0x0, false⟩,
  ⟨0xC0044, [], fun _ => 0xFFFFFFFF, 0x0, 0x0, false⟩,
  ⟨0xC0048, [], fun _ => 0x0, 0x0, 0x0, false⟩,
  ⟨0xC004C, [], fun _ => 0x0, 0x0, 0x0, false⟩,
  ⟨0xC0050, [], fun _ => 0x0, 0x0, 0x0, false⟩,
  ⟨0xC0054, [], fun _ => 0x0, 0x0, 0x0, false⟩,
  ⟨0xC0060, [], fun _ => 0x0, 0xFFFFFFFF, 0x0, true⟩,
  ⟨0xC0064, [], fun _ => 0x0, 0xFFFFFFFF, 0x0, true⟩,
  ⟨0xC0068, [], fun _ => 0x0, 0xFFFFFFFF, 0x0, true⟩,
  ⟨0xC006C, [], fun _ => 0x0, 0xFFFFFFFF, 0x0, true⟩]

def regRowsC_1 : List RegRow := [
  ⟨0xC0100, [(48, 0x4)], fun _ => 0x0, 0x0, 0xFFFFFFFF, false⟩,
  ⟨0xC0200, [(48, 0x4)], fun _ => 0x0, 0x0, 0xFFFFFFFF, false⟩,
  ⟨0xC0400, [(32, 0x10)], fun _ => 0x0, 0x3, 0x0, false⟩,
  ⟨0xC0404, [(32, 0x10)], fun _ => 0x0, 0x7FF07FF, 0x0, false⟩,
  ⟨0xC0408, [(32, 0x10)], fun _ => 0x0, 0xFFFFFFFF, 0x0, false⟩,
  ⟨0xC040C, [(32, 0x10)], fun _ => 0x0, 0x0, 0x0, false⟩]

/-- The register rows of window 0xC_0000 (01 R23). -/
def regRowsC : List RegRow := regRowsC_0 ++ regRowsC_1

def regRowsD_0 : List RegRow := [
  ⟨0xD0000, [], fun _ => 0x0, 0x0, 0x0, false⟩,
  ⟨0xD0004, [], fun _ => 0x0, 0x0, 0x0, false⟩,
  ⟨0xD0008, [], fun _ => 0x3, 0x0, 0x0, false⟩,
  ⟨0xD000C, [], fun _ => 0x0, 0x0, 0x0, false⟩,
  ⟨0xD0010, [], fun _ => 0x0, 0x0, 0x0, false⟩,
  ⟨0xD0014, [], fun _ => 0x7D0, 0xFFFF, 0x0, false⟩,
  ⟨0xD0018, [], fun _ => 0x200000, 0xFFFFFF, 0x0, false⟩,
  ⟨0xD001C, [], fun _ => 0xFFFF, 0x1FFFF, 0x0, false⟩,
  ⟨0xD0020, [], fun _ => 0x7, 0x0, 0x0, false⟩,
  ⟨0xD0024, [], fun _ => 0x0, 0x0, 0x0, false⟩,
  ⟨0xD0028, [], fun _ => 0x0, 0x0, 0x0, false⟩,
  ⟨0xD002C, [], fun _ => 0x0, 0x0, 0x0, false⟩,
  ⟨0xD0030, [], fun _ => 0x0, 0x0, 0x0, false⟩,
  ⟨0xD0034, [], fun _ => 0xFFFFFFFF, 0xFFFFFFFF, 0x0, false⟩,
  ⟨0xD0038, [], fun _ => 0xFFFF, 0xFFFF, 0x0, false⟩,
  ⟨0xD003C, [], fun _ => 0x0, 0xFFFFFFFF, 0x0, true⟩,
  ⟨0xD0040, [], fun _ => 0x0, 0x0, 0x3F, false⟩,
  ⟨0xD0044, [], fun _ => 0x0, 0x3F, 0x0, false⟩,
  ⟨0xD0048, [], fun _ => 0x0, 0x3F, 0x0, false⟩,
  ⟨0xD004C, [], fun _ => 0x0, 0x0, 0x0, false⟩,
  ⟨0xD0050, [], fun _ => 0x69, 0xFF, 0x0, false⟩,
  ⟨0xD0100, [], fun _ => 0x7D09C40, 0xFFFFFFFF, 0x0, false⟩,
  ⟨0xD0104, [], fun _ => 0x7D07D00, 0xFFFFFFFF, 0x0, false⟩,
  ⟨0xD0108, [(8, 0x4)], fun o => if o < 0xD0110 then 0x7D02710 else 0x3E81388, 0xFFFFFFFF, 0x0, false⟩]

def regRowsD_1 : List RegRow := [
  ⟨0xD0130, [], fun _ => 0x0, 0x0, 0x0, false⟩,
  ⟨0xD0134, [], fun _ => 0x0, 0x0, 0x0, false⟩,
  ⟨0xD0138, [], fun _ => 0x0, 0x0, 0x0, false⟩,
  ⟨0xD013C, [], fun _ => 0x0, 0x0, 0x0, false⟩,
  ⟨0xD0140, [(8, 0x4)], fun _ => 0x0, 0x0, 0x0, false⟩,
  ⟨0xD0160, [], fun _ => 0x0, 0x0, 0x0, false⟩,
  ⟨0xD0164, [], fun _ => 0x0, 0x0, 0x80000000, false⟩,
  ⟨0xD0170, [], fun _ => 0x0, 0xFFFFFFFF, 0x0, true⟩,
  ⟨0xD0174, [], fun _ => 0x0, 0xFFFFFFFF, 0x0, true⟩,
  ⟨0xD0178, [], fun _ => 0x0, 0xFFFFFFFF, 0x0, true⟩]

/-- The register rows of window 0xD_0000 (01 R23). -/
def regRowsD : List RegRow := regRowsD_0 ++ regRowsD_1

def regRowsE_0 : List RegRow := [
  ⟨0xE0000, [(4, 0x4)], fun _ => 0x0, 0x0, 0xFFFFFFFF, false⟩,
  ⟨0xE0010, [(4, 0x4)], fun _ => 0x0, 0xFFFFFFFF, 0x0, false⟩,
  ⟨0xE0020, [(4, 0x4)], fun _ => 0x0, 0x0, 0x0, false⟩,
  ⟨0xE0030, [(4, 0x4)], fun _ => 0x0, 0x0, 0x0, false⟩,
  ⟨0xE0040, [], fun _ => 0x0, 0x1, 0x0, false⟩,
  ⟨0xE0044, [], fun _ => 0x0, 0x0, 0x0, false⟩,
  ⟨0xE0048, [], fun _ => 0x0, 0x0, 0x100, false⟩,
  ⟨0xE004C, [], fun _ => 0x0, 0x3F, 0x0, false⟩,
  ⟨0xE0050, [], fun _ => 0x0, 0x0, 0x80000000, false⟩,
  ⟨0xE0054, [], fun _ => 0x0, 0x0, 0x0, false⟩,
  ⟨0xE0058, [], fun _ => 0x0, 0x0, 0x0, false⟩,
  ⟨0xE005C, [], fun _ => 0x103E8, 0x1FFFF, 0x0, false⟩,
  ⟨0xE0060, [], fun _ => 0xFF, 0xFF, 0x0, false⟩,
  ⟨0xE0064, [], fun _ => 0x0, 0x0, 0x0, false⟩,
  ⟨0xE0068, [], fun _ => 0x0, 0x0, 0x0, false⟩,
  ⟨0xE006C, [], fun _ => 0x0, 0xFFFFFFFF, 0x0, true⟩,
  ⟨0xE0070, [], fun _ => 0x0, 0xFFFFFFFF, 0x0, true⟩,
  ⟨0xE0080, [(4, 0x4)], fun _ => 0xC8, 0x1FFFF, 0x0, false⟩,
  ⟨0xE0090, [], fun _ => 0x0, 0x0, 0x0, false⟩,
  ⟨0xE0094, [], fun _ => 0x0, 0x0, 0x0, false⟩,
  ⟨0xE00A0, [(4, 0x8)], fun _ => 0x0, 0x0, 0x0, false⟩,
  ⟨0xE00A4, [(4, 0x8)], fun _ => 0x0, 0x0, 0x0, false⟩,
  ⟨0xE00C0, [], fun _ => 0x11177777, 0x77777777, 0x0, false⟩,
  ⟨0xE00C4, [(11, 0x4)], fun _ => 0x11111111, 0x77777777, 0x0, false⟩]

def regRowsE_1 : List RegRow := [
  ⟨0xE0100, [(5, 0x4)], fun _ => 0x0, 0x0, 0x0, false⟩,
  ⟨0xE0120, [], fun _ => 0x0, 0x8000FF1F, 0x0, false⟩,
  ⟨0xE0124, [], fun _ => 0x0, 0x0, 0x1, false⟩,
  ⟨0xE0128, [], fun _ => 0x0, 0x0, 0x0, false⟩]

/-- The register rows of window 0xE_0000 (01 R23). -/
def regRowsE : List RegRow := regRowsE_0 ++ regRowsE_1

def regRowsF_0 : List RegRow := [
  ⟨0xF0000, [], fun _ => 0x0, 0x0, 0x0, false⟩,
  ⟨0xF0004, [], fun _ => 0x0, 0x0, 0x1F, false⟩,
  ⟨0xF0008, [], fun _ => 0x0, 0x1F, 0x0, false⟩,
  ⟨0xF000C, [], fun _ => 0x0, 0x3F, 0x0, false⟩,
  ⟨0xF0010, [], fun _ => 0x0, 0x7F, 0x0, false⟩,
  ⟨0xF0014, [], fun _ => 0x0, 0x0, 0x0, false⟩,
  ⟨0xF0018, [], fun _ => 0x0, 0x0, 0x0, false⟩,
  ⟨0xF001C, [], fun _ => 0x0, 0x0, 0x0, false⟩,
  ⟨0xF0020, [], fun _ => 0x0, 0x0, 0x0, false⟩,
  ⟨0xF0024, [], fun _ => 0x0, 0x0, 0x0, false⟩,
  ⟨0xF0040, [], fun _ => 0x0, 0xFFFFFFFF, 0x0, true⟩,
  ⟨0xF0044, [], fun _ => 0x0, 0xFFFFFFFF, 0x0, true⟩,
  ⟨0xF0048, [], fun _ => 0x0, 0xFFFFFFFF, 0x0, true⟩,
  ⟨0xF004C, [], fun _ => 0x0, 0xFFFFFFFF, 0x0, true⟩,
  ⟨0xF1000, [(128, 0x4)], fun _ => 0x0, 0x0, 0x8000000, false⟩,
  ⟨0xF2000, [], fun _ => 0x0, 0x3, 0x0, false⟩,
  ⟨0xF2004, [], fun _ => 0x0, 0x0, 0x0, false⟩,
  ⟨0xF2008, [], fun _ => 0x0, 0x0, 0x0, false⟩,
  ⟨0xF200C, [], fun _ => 0x3E801F4, 0xFFFFFFFF, 0x0, false⟩,
  ⟨0xF2010, [], fun _ => 0x12C, 0xFFFF, 0x0, false⟩,
  ⟨0xF2014, [], fun _ => 0x0, 0xFFFFFFFF, 0x0, false⟩,
  ⟨0xF2018, [], fun _ => 0x0, 0x0, 0x8000, false⟩,
  ⟨0xF201C, [], fun _ => 0x0, 0x0, 0x0, false⟩,
  ⟨0xF2020, [], fun _ => 0x0, 0x0, 0x0, false⟩]

def regRowsF_1 : List RegRow := [
  ⟨0xF2024, [], fun _ => 0x0, 0x0, 0x0, false⟩,
  ⟨0xF2028, [], fun _ => 0x0, 0x0, 0x0, false⟩,
  ⟨0xF202C, [], fun _ => 0x0, 0x0, 0x0, false⟩,
  ⟨0xF2030, [], fun _ => 0x0, 0x0, 0x0, false⟩,
  ⟨0xF2034, [], fun _ => 0x0, 0xFF1FF3, 0x0, false⟩,
  ⟨0xF2038, [], fun _ => 0x0, 0x3FFFFFFF, 0x0, false⟩,
  ⟨0xF203C, [], fun _ => 0x0, 0xFFFFFF, 0x0, false⟩,
  ⟨0xF2040, [], fun _ => 0x0, 0x7F7F7F, 0x0, false⟩,
  ⟨0xF2044, [], fun _ => 0x0, 0x0, 0x0, false⟩,
  ⟨0xF2048, [], fun _ => 0x0, 0x0, 0xFF, false⟩,
  ⟨0xF204C, [], fun _ => 0x0, 0xFF, 0x0, false⟩,
  ⟨0xF2050, [], fun _ => 0x0, 0x3F, 0x0, false⟩,
  ⟨0xF2080, [], fun _ => 0x0, 0xFFFFFFFF, 0x0, true⟩,
  ⟨0xF2084, [], fun _ => 0x0, 0xFFFFFFFF, 0x0, true⟩,
  ⟨0xF2088, [], fun _ => 0x0, 0xFFFFFFFF, 0x0, true⟩,
  ⟨0xF208C, [], fun _ => 0x0, 0xFFFFFFFF, 0x0, true⟩,
  ⟨0xF2090, [], fun _ => 0x0, 0xFFFFFFFF, 0x0, true⟩,
  ⟨0xF2094, [], fun _ => 0x0, 0xFFFFFFFF, 0x0, true⟩,
  ⟨0xF2100, [(16, 0x10)], fun _ => 0x0, 0x0, 0x0, false⟩,
  ⟨0xF2104, [(16, 0x10)], fun _ => 0x0, 0x0, 0x0, false⟩,
  ⟨0xF2108, [(16, 0x10)], fun _ => 0x0, 0x0, 0x0, false⟩,
  ⟨0xF210C, [(16, 0x10)], fun _ => 0x0, 0x0, 0x0, false⟩,
  ⟨0xF8000, [], fun _ => 0x0, 0x0, 0x0, false⟩,
  ⟨0xF8004, [], fun _ => 0x0, 0x0, 0x0, false⟩]

def regRowsF_2 : List RegRow := [
  ⟨0xF8008, [], fun _ => 0x0, 0x0, 0x0, false⟩,
  ⟨0xF800C, [], fun _ => 0x0, 0x0, 0x7FF, false⟩,
  ⟨0xF8010, [], fun _ => 0x0, 0x7FF, 0x0, false⟩,
  ⟨0xF8014, [], fun _ => 0x0, 0x3F, 0x0, false⟩,
  ⟨0xF8018, [], fun _ => 0x0, 0x0, 0x0, false⟩,
  ⟨0xF801C, [(4, 0x4)], fun _ => 0, 0x0, 0x0, false⟩,
  ⟨0xF802C, [], fun _ => 0x0, 0x0, 0x0, false⟩,
  ⟨0xF8030, [], fun _ => 0x0, 0x0, 0x0, false⟩,
  ⟨0xF8034, [], fun _ => 0x0, 0x0, 0x0, false⟩,
  ⟨0xF8038, [], fun _ => 0x0, 0x0, 0x0, false⟩,
  ⟨0xF803C, [], fun _ => 0x0, 0x0, 0x0, false⟩,
  ⟨0xF8040, [], fun _ => 0x0, 0x0, 0x0, false⟩,
  ⟨0xF8044, [], fun _ => 0x0, 0x0, 0x0, false⟩,
  ⟨0xF8048, [], fun _ => 0x0, 0x1, 0x0, false⟩,
  ⟨0xF8060, [(8, 0x4)], fun _ => 0, 0xFFFFFFFF, 0x0, false⟩,
  ⟨0xF8080, [], fun _ => 0x0, 0xFFFFFFFF, 0x0, true⟩,
  ⟨0xF8084, [], fun _ => 0x0, 0xFFFFFFFF, 0x0, true⟩,
  ⟨0xF8088, [], fun _ => 0x0, 0xFFFFFFFF, 0x0, true⟩]

/-- The register rows of window 0xF_0000 (01 R23). -/
def regRowsF : List RegRow := regRowsF_0 ++ regRowsF_1 ++ regRowsF_2

/-- The register rows of a BAR0 window. -/
def regRowsOf : Nat → List RegRow
  | 0x0 => regRows0
  | 0x1 => regRows1
  | 0x2 => regRows2
  | 0x3 => regRows3
  | 0x4 => regRows4
  | 0x5 => regRows5
  | 0x6 => regRows6
  | 0x7 => regRows7
  | 0x8 => regRows8
  | 0x9 => regRows9
  | 0xA => regRowsA
  | 0xB => regRowsB
  | 0xC => regRowsC
  | 0xD => regRowsD
  | 0xE => regRowsE
  | 0xF => regRowsF
  | _ => []

/-- The register row of an offset, if the spec names a register there. -/
def regRow (off : Nat) : Option RegRow := (regRowsOf (off / 0x10000)).find? (·.has off)

/-- The reset value of the register at an offset; 0 where no register is named. -/
def regReset (off : Nat) : BitVec 32 :=
  match regRow off with
  | some r => BitVec.ofNat 32 (r.rst off)
  | none => 0

end Sys2Proof.Machine
end

