-- ==== Sys2Proof/Machine/State.lean ====
section
/-! DEFINITION. The state of the block as plain data, the faults and refusals, and the state right after VAON is applied.
Every register the spec names has its one home in `Dev.regs`, a sparse table by BAR0 offset whose unlisted entries read
their reset values (Machine/Regs.lean); the structures below hold what the rules need beside the registers. -/

namespace Sys2Proof.Machine

/-- Why a command stops with a fault. No command of this model does: every row has an effect (safe). -/
inductive Fault where
  /-- Raised by no command: kept so that the type is inhabited (safe). -/
  | none
  deriving DecidableEq, Repr

/-- Why a command has no meaning. -/
inductive Refusal where
  /-- A row whose meaning is not written yet, by its mnemonic; only arms of `exec` answer it (safe). -/
  | notModelled (mnemonic : String)
  deriving DecidableEq, Repr

/-! ### Host link (02) -/

/-- A completion owed for an accepted descriptor: the number of its acceptance, its SQ, the CQ recorded at its acceptance,
the count of R82 resets at that time, NOTIFY and the cookie (02 R51, R61, R83). -/
structure CplRef where
  id : Nat
  sq : Nat
  cq : Nat
  epoch : Nat
  notify : Bool
  cookie : BitVec 64
  deriving DecidableEq, Repr

/-- A descriptor that passed the checks of 02 R59 and waits for its block, with its host address. -/
structure AccDesc where
  ref : CplRef
  word : BitVec 256
  addr : Nat
  deriving DecidableEq, Repr

/-- The hidden state of an SQ: no descriptor fetched since enable, E and L of 02 R60, whether the last descriptor failed
the SEQ check, and the descriptor counts of the reads in flight, oldest first. -/
structure SqHid where
  first : Bool
  exp : BitVec 16
  last : BitVec 16
  failed : Bool
  reads : List Nat
  deriving DecidableEq, Repr

/-- The hidden state of a CQ: written but unsignalled completions and the MT of the oldest (02 R68); the slot of the last
completion write with the 16 bytes the model's host memory held there before it (02 R78). -/
structure CqHid where
  unsig : Nat
  oldest : Nat
  last : Option (Nat × List (BitVec 8))
  deriving DecidableEq, Repr

/-- A completion in the holding store of 02 R76. -/
structure HeldCpl where
  ref : CplRef
  status : Nat
  detail : Nat
  cflags : Nat
  source : Nat
  deriving DecidableEq, Repr

/-- The writable PCI Express configuration of the function beside Bus Master Enable, the power state and MSI-X: BAR0 to BAR3, the
codes of the largest payload, of the largest read request and of the completion timeout, ASPM L1 enabled, and the words of
Advanced Error Reporting: status, mask and severity of uncorrectable errors, status and mask of correctable ones (02 R43, R44). -/
structure PcieCfg where
  bar0 : BitVec 32
  bar1 : BitVec 32
  bar2 : BitVec 32
  bar3 : BitVec 32
  mps : Nat
  mrrs : Nat
  cto : Nat
  aspm : Bool
  uncStat : BitVec 32
  uncMask : BitVec 32
  uncSev : BitVec 32
  corStat : BitVec 32
  corMask : BitVec 32
  deriving DecidableEq, Repr

/-- The configuration after a reset of 02 R82, as PCI Express gives it (PRESUMED, notes/assumptions/13.md): 64-bit memory BARs
without an address, 128 B payloads, 512 B read requests, the default timeout range. -/
def PcieCfg.init : PcieCfg where
  bar0 := 4
  bar1 := 0
  bar2 := 4
  bar3 := 0
  mps := 0
  mrrs := 2
  cto := 0
  aspm := false
  uncStat := 0
  uncMask := 0
  uncSev := 0x00462030
  corStat := 0
  corMask := 0x2000

/-- The host link: the count of R82 resets, the next acceptance number, the SQs and CQs, the SQ served last in the round
robin, the descriptors handed to blocks, those not yet completed (SQ and number), the holding store, MSI-X (pending bits,
table words, enable, function mask), Bus Master Enable, D3hot and the rest of configuration space. -/
structure HlState where
  epoch : Nat
  nextId : Nat
  sq : Sparse SqHid
  cq : Sparse CqHid
  rr : Nat
  handed : List AccDesc
  outst : List (Nat × Nat)
  held : List HeldCpl
  msixPend : BitVec 64
  msixTab : Sparse (BitVec 32)
  msixEn : Bool
  msixMask : Bool
  bme : Bool
  d3 : Bool
  cfg : PcieCfg
  deriving DecidableEq, Repr

/-! ### Machine Time (03) -/

/-- A good measurement: source, measured offset m and the MT t of the instant (03 R94). -/
structure Meas where
  src : Nat
  m : Int
  t : Nat
  deriving DecidableEq, Repr

/-- A pending offset step: T and OFS_new in ticks (03 R99). -/
structure StepPend where
  t : Nat
  ofs : Int
  deriving DecidableEq, Repr

/-- A SYNC pin: the level driven and a running pulse with its end and its operation (03 R106). -/
structure SyncPin where
  lvl : Bool
  pulse : Option (Nat × Nat)
  deriving DecidableEq, Repr

/-- A marker input: FIFO of MT and rising flag, oldest first, and the last recorded edge (03 R108, R109). -/
structure MkHid where
  fifo : List (Nat × Bool)
  last : Option Nat
  deriving DecidableEq, Repr

/-- The reference receiver's previous frame: SEQ, SOF stamp, received without error (03 R112). -/
structure RefRx where
  seq : Nat
  sof : Nat
  deriving DecidableEq, Repr

/-- The MT carry-over written at Fallow entry (03 R113). -/
structure Carry where
  mt : Nat
  rtc : Nat
  ofs : Int
  rate : BitVec 32
  terr : Nat
  state : Nat
  ofsValid : Bool
  goodT : Option Nat
  hoEntry : Nat
  cal : BitVec 32
  deriving DecidableEq, Repr

/-- The MT block: MT and the invisible fraction in 2⁻³² ticks (R85), MT before the last REF100 cycle, the count of cycles,
whether MT is loaded, REF100 present; OFS in 2⁻³² ticks (R89), target and uncertainty; good measurements newest first, the
m each source is compared with, runs of good measurements, when the active source last delivered a good one, the MT of the last
good one of any source; pending step, T of the last step, excursion flag, the last measured frequency error as a fraction, the t of the last measurement;
reference instant and E of R98; HOLDOVER entry; PPS pulse ends, and of each output's last pulse BASE, the second it stands for
and T when it is a step's; SYNC pins; markers; CAN reference master and receiver. -/
structure MtState where
  now : Nat
  frac : Nat
  prev : Nat
  cyc : Nat
  loaded : Bool
  refOk : Bool
  ofs : Int
  target : Int
  unc : Nat
  hist : List Meas
  cmp : Sparse (Option Int)
  runs : Sparse Nat
  lastGood : Nat
  goodT : Option Nat
  step : Option StepPend
  stepT : Option Nat
  exc : Bool
  fNum : Int
  fDen : Nat
  measT : Nat
  terrT : Nat
  terrE : Nat
  hoEntry : Nat
  ppsEnd : Sparse (Option Nat)
  ppsSec : Sparse (Option (Bool × Int × Option Nat))
  sync : Sparse SyncPin
  marker : Sparse MkHid
  refSeq : Nat
  refSof : Option Nat
  refNext : Option Nat
  rx : Option RefRx
  deriving DecidableEq, Repr

/-- What the PD0 keep domain holds for time: the RTC count, RTC_VALID, how far the present RTC cycle has run in 2⁻⁶⁴ of a cycle,
and a value that waits to be loaded at the next edge (03 R115). -/
structure Rtc where
  cnt : Nat
  valid : Bool
  phase : Nat
  load : Option Nat
  deriving DecidableEq, Repr

/-- The RTC when VBAT is applied (03 R115). -/
def Rtc.init : Rtc := { cnt := 0, valid := false, phase := 0, load := none }

/-! ### The sowing schedule (04) -/

/-- Where an entry came from (04 R117): a host descriptor with its SEQ, an engine with the address of its EMIT block, a
lever point, or the MT block. -/
inductive EntSrc where
  | host (ref : CplRef) (seq : BitVec 16)
  | eng (n : Nat) (addr : Nat)
  | bnd (p : Nat)
  | mt
  deriving DecidableEq, Repr

/-- How far an entry is: uncommitted, in a redo of its commit check, committed, dispatched. -/
inductive EntSt where
  | waiting
  | redo
  | committed
  | dispatched
  deriving DecidableEq, Repr

/-- A schedule entry (04 R117): insertion number, requested and final fire time, action, target, argument, priority,
policy, MAX_LATE, group, source, IMM, reserve holder, progress, holds a window place, refetched, whether its redo is bound to
fail (17 R486), whether it is an ENG_WAKE that waits for its cluster (11 R353), and lateness in ticks. -/
structure Entry where
  ins : Nat
  fire : Nat
  final : Nat
  action : Nat
  target : Nat
  arg : BitVec 32
  prio : Nat
  policy : Nat
  maxLate : Nat
  group : Nat
  src : EntSrc
  imm : Bool
  rsv : Bool
  st : EntSt
  win : Bool
  refetched : Bool
  doomed : Bool
  clu : Bool
  late : Nat
  deriving DecidableEq, Repr

/-- A fired operation an abort can reach (04 R139): its number, the owed completion that names its cookie, its action and
target, and the MT of its end once committed. -/
structure RunOp where
  id : Nat
  ref : Option CplRef
  action : Nat
  target : Nat
  fin : Option Nat
  deriving DecidableEq, Repr

/-- A cancel that waits for CAN frames to be decided (04 R138): its completion, MODE, entries removed, entries found
committed, and the CAN frames (controller, buffer) still undecided. -/
structure WaitCancel where
  ref : CplRef
  mode : Nat
  removed : Nat
  left : Nat
  frames : List (Nat × Nat)
  sof : Option Nat
  deriving DecidableEq, Repr

/-- The schedule: its entries in insertion order, the REF100 cycle of the last commit, the operations an abort can name,
the next operation number, the waiting cancels. -/
structure SchState where
  ents : List Entry
  lastCommit : Option Nat
  ops : List RunOp
  nextOp : Nat
  cancels : List WaitCancel
  deriving DecidableEq, Repr

/-! ### GNSS (05) -/

/-- An origin taken by APPLY: its generation, the MT from which an epoch uses it, latitude, longitude, height (05 R163). -/
structure GnOrg where
  gen : Nat
  from_ : Nat
  lat : Int
  lon : Int
  hgt : Int
  deriving DecidableEq, Repr

/-- The GNSS block beside its registers: navigation firmware loaded, MT of EN, MT of the last epoch and its point on the
GNSS-time grid, the solved offset of GNSS time from MT once the epochs follow that grid, the rate in force, the rates that wait
with the MT of their writes, epoch count, trackers started and locked (4·slot + 2·antenna + band), those out of lock with the MT of
the loss, the satellite in each slot (64·system + number), the acquisition list, the booking of the burst with its end, the MT of a
retry with the burst's length in µs, origins newest first, the newest base observations' epoch in ms of GNSS time, the base's
position in 0.1 mm and its antenna descriptor, ephemerides and almanac by satellite, corrections stale, MT of the last save
while tracking, navigation swap running with the MT of the last record before it, MT of the last record, last position with the
MT of its epoch (05 R150 to R167). -/
structure GnState where
  loaded : Bool
  since : Nat
  last : Option Nat
  lastGt : Option Int
  grid : Option Int
  rate : Nat
  ratePend : List (Nat × Nat)
  seq : Nat
  runs : List Nat
  locks : List Nat
  out : List (Nat × Nat)
  slots : List (Nat × Nat)
  acq : List Nat
  burst : Option (Nat × Nat)
  retry : Option (Nat × Nat)
  orgs : List GnOrg
  base : Option Int
  basePos : Option (Int × Int × Int)
  baseAnt : List (BitVec 8)
  eph : Sparse (List (BitVec 8))
  alm : Sparse (List (BitVec 8))
  stale : Bool
  saveAt : Nat
  swap : Option (Option Nat)
  lastRec : Option Nat
  pos : Option (BitVec 64 × BitVec 64 × BitVec 32 × Nat)
  deriving DecidableEq, Repr

/-- The GNSS block at the power-on of PD10. -/
def GnState.init : GnState where
  loaded := false
  since := 0
  last := none
  lastGt := none
  grid := none
  rate := 20
  ratePend := []
  seq := 0
  runs := []
  locks := []
  out := []
  slots := []
  acq := []
  burst := none
  retry := none
  orgs := []
  base := none
  basePos := none
  baseAnt := []
  eph := []
  alm := []
  stale := false
  saveAt := 0
  swap := none
  lastRec := none
  pos := none

/-- Kept data in AON retained memory: MT of the save, last position with the MT of its epoch, the UTC word, ephemerides and almanac
by satellite (05 R165). -/
structure GnKept where
  at_ : Nat
  pos : Option (BitVec 64 × BitVec 64 × BitVec 32 × Nat)
  utc : BitVec 32
  eph : Sparse (List (BitVec 8))
  alm : Sparse (List (BitVec 8))
  deriving DecidableEq, Repr

/-! ### Pose and boundary units (06) -/

/-- A track point of the history: its MT, count, state and origin generation; the fused estimate, and the track that moves towards
it; whether pitch and roll were held, whether the last heading update came from two antennas, whether the IMU was used; the body's path
length since EN rose, in 10⁻⁵ µm (06 R169 to R177, 08 R255). -/
structure PosePt where
  mt : Nat
  seq : Nat
  state : Nat
  org : Nat
  est : PoseEst
  trk : PoseEst
  att : Bool
  hdg2 : Bool
  imu : Bool
  way : Nat
  deriving DecidableEq, Repr

/-- Antenna A's record of an epoch, till antenna B's comes: MT_EPOCH, FIX_TYPE, east, north, up in 1/1024 mm (06 R172). -/
structure AntRec where
  mt : Nat
  ty : Nat
  e : Int
  n : Int
  u : Int
  deriving DecidableEq, Repr

/-- The pose unit: MT at which EN rose; its last 1,024 track points, newest first, and their count; the inputs of that time by their
MT; MT of the first position and of the first heading since ALIGNING was entered, pitch and roll held, the last heading update from
two antennas; the correction still to come in 1/(1024 × 10⁵) mm and in 10⁻¹⁰ of 2⁻³² turn, and whether the track jumps at its next
point; antenna A's record of the epoch; MT of the last record and of the last IMU sample used; MT at which DEAD_RECKONING was
entered, and whether LOST came by DR_LIMIT; the distance of each odometry input in 2⁻¹⁶ mm
(06 R171 to R176, 08 R250). -/
structure PoseState where
  enAt : Nat
  hist : List PosePt
  seq : Nat
  ins : List (Nat × PoseIn)
  posAt : Option Nat
  hdgAt : Option Nat
  pitchOk : Bool
  rollOk : Bool
  hdg2 : Bool
  lagE : Int
  lagN : Int
  lagU : Int
  lagH : Int
  jump : Bool
  antA : Option AntRec
  lastUse : Option Nat
  lastImu : Option Nat
  drEntry : Nat
  drOver : Bool
  odo : Sparse Int
  deriving DecidableEq, Repr

/-- A boundary segment in the local frame: its endpoints in mm, LAYER, SIDE (06 R179). -/
structure BndSeg where
  e0 : Int
  n0 : Int
  e1 : Int
  n1 : Int
  layer : Nat
  side : Nat
  deriving DecidableEq, Repr

/-- A crossing that the boundary unit knows: lever point, segment, direction, MT, the body's way to it in 10⁻¹⁴ µm, the key of its
tile; the insertion number of its entry, and whether R191 skips it (06 R187 to R191). -/
structure BndCross where
  p : Nat
  seg : BndSeg
  enter : Bool
  c : Nat
  s : Int
  tile : Option Nat
  ins : Option Nat
  skip : Bool
  deriving DecidableEq, Repr

/-- A generation of the boundary map: GEN, origin generation, half (0, 1, 2 both), entries (06 R179, R181). -/
structure BndMap where
  gen : Nat
  org : Nat
  half : Nat
  ents : List (BitVec 128)
  deriving DecidableEq, Repr

/-- A map load in progress: its completion, SWAP, GEN, ORG_GEN, COUNT, half and host address (06 R181). -/
structure BndLoad where
  ref : CplRef
  swap : Nat
  gen : Nat
  org : Nat
  count : Nat
  half : Nat
  addr : Nat
  deriving DecidableEq, Repr

/-- The boundary unit: the active generation, the staged one with its owed completion and the MT from which it swaps, the
load in progress, the keys of unusable tiles (06 R182 to R184, 01 R36); the crossings it knows, the tile each lever point scanned
last, the lever points whose last insertion was refused, and whether a swap calls for a recomputation (06 R185, R187, R193). -/
structure BndState where
  act : Option BndMap
  stg : Option (BndMap × Option CplRef × Option Nat)
  load : Option BndLoad
  bad : List Nat
  cross : List BndCross
  scan : Sparse (Option Nat)
  refused : List Nat
  recalc : Bool
  deriving DecidableEq, Repr

/-- The pose unit as reset leaves it. -/
def PoseState.init : PoseState where
  enAt := 0
  hist := []
  seq := 0
  ins := []
  posAt := none
  hdgAt := none
  pitchOk := false
  rollOk := false
  hdg2 := false
  lagE := 0
  lagN := 0
  lagU := 0
  lagH := 0
  jump := false
  antA := none
  lastUse := none
  lastImu := none
  drEntry := 0
  drOver := false
  odo := []

/-- The boundary unit as reset leaves it. -/
def BndState.init : BndState where
  act := none
  stg := none
  load := none
  bad := []
  cross := []
  scan := []
  refused := []
  recalc := false

/-! ### Field channels (07, 08) -/

/-- A closed tag window whose record is not written yet: end MT, position, pose STATE, counted edges, sum and number of the
analog windows (08 R256). -/
structure TagWin where
  fin : Nat
  e : BitVec 32
  n : BitVec 32
  state : Nat
  cnt : Nat
  sum : Int
  num : Nat
  deriving DecidableEq, Repr

/-- The hidden state of a channel: output stage on, switched off by a protection, PAIR direction reverse, duty in force,
running pulse (end, operation), retry instant, retry waits for temperature, on and off since, OT_WARN may set again, last
trip and whether its high switch conducted, limiter disagreement and the hold-off that follows it, last off-diagnosis result and the MT
of its reading, PWM periods below OL_TH in a row, on-windows below it in a row and the MT of the last lengthened one (15 R445), the
channels it follows (edges in a row, MT of the last), its cross-connection partners; the PWM period in force (07 R207, R208): its start,
its off-edge if it has one, the turn-on from which its edges fall; the switch last turned off (MT, whether it is the high one; R209);
the switch driven through Fallow (R239); and of its input: raw filtered level, MT of the filter's last restart, FIFO of stamp and level,
last counted stamp, burden open until, end of the last analog window, wire-break low and high since, open tag window (start, edges, sum,
number), closed ones, and the accepted edges of the last 10.24 ms, newest first, each with its stamp and the level after it (08 R250). -/
structure Chan where
  on : Bool
  prot : Bool
  rev : Bool
  duty : Nat
  pulse : Option (Nat × Nat)
  retry : Option Nat
  otWait : Bool
  onSince : Option Nat
  offSince : Option Nat
  otArm : Bool
  trip : Option (Nat × Bool)
  elimBad : Bool
  elimHold : Bool
  offRead : Option Nat
  offAt : Option Nat
  olCnt : Nat
  lampCnt : Nat
  lampAt : Nat
  follow : Sparse (Nat × Nat)
  partners : List Nat
  perAt : Nat
  offEdge : Option Nat
  pwmFrom : Nat
  lastOff : Option (Nat × Bool)
  hold : Option Bool
  raw : Bool
  filtAt : Nat
  fifo : List (Nat × Bool)
  lastCnt : Option Nat
  burden : Option Nat
  ainAt : Nat
  wbLow : Option Nat
  wbHigh : Option Nat
  tag : TagWin
  tags : List TagWin
  edges : List (Nat × Bool)
  deriving DecidableEq, Repr

/-- A channel-configuration descriptor that was read and waits for its apply MT (07 R236). -/
structure CfgPend where
  ref : CplRef
  first : Nat
  kind : Nat
  recs : List (BitVec 512)
  apply : Nat
  deriving DecidableEq, Repr

/-- A channel die: watchdog armed, MTs of recent link frame errors (07 R232, R238). -/
structure Die where
  armed : Bool
  errs : List Nat
  deriving DecidableEq, Repr

/-- The field channels: channels, dies, pending configurations. -/
structure ChState where
  chan : Sparse Chan
  die : Sparse Die
  cfgs : List CfgPend
  deriving DecidableEq, Repr

/-! ### Profile sequencers (09) -/

/-- The class of a context's present phase (09 R266, R268). -/
inductive PhClass where
  | none
  | peak
  | hold
  | quench
  deriving DecidableEq, Repr

/-- How a context drives its channel: switches off with SLOW or FAST decay, full drive, or regulated (09 R266, R269). -/
inductive Drive where
  | off (fast : Bool)
  | full
  | reg
  deriving DecidableEq, Repr

/-- A profile context (09 R262): image half, program counter, start MT of the present instruction, phase class, drive,
target, ramp start target, the target of the present regulation period with its dither, dither in force since an MT, dither that begins
with the next period, regulation decay, regulation period, the one that begins with the next period, LC, closing-detection settings, the profile's
first edge, end of the leave window, PEAK_A, HOLD_A, the booking, has left its peak class, untimed instructions in a row,
position in the abort sequence, operation, the start of a stall for a refetch and whether that
redo is bound to fail, drive, target and class before the present phase, the winding estimate in 10⁻⁶ °C once it was updated, the MTs
of its last update and of the end of the last measurement of resistance. -/
structure Ctx where
  half : Nat
  pc : Nat
  cur : Nat
  cls : PhClass
  drive : Drive
  tgt : Nat
  rampT0 : Nat
  aim : Nat
  ditA : Nat
  ditP : Nat
  ditAt : Nat
  ditNext : Option (Nat × Nat)
  fast : Bool
  period : Nat
  perNext : Option Nat
  lc : Nat
  kblank : Nat
  krise : Nat
  kdrop : Nat
  start : Nat
  winEnd : Nat
  peakA : Nat
  holdA : Nat
  booking : Option Nat
  leftPeak : Bool
  untimed : Nat
  abort : Option Nat
  op : Nat
  stall : Option (Nat × Bool)
  hDrive : Drive
  hTgt : Nat
  hCls : PhClass
  tw : Option Int
  coilAt : Nat
  rmAt : Nat
  deriving DecidableEq, Repr

/-- A start held back under 09 R280: channel, the schedule entry, its profile's HOLD_A and the MT from which it may begin. -/
structure HeldStart where
  chan : Nat
  ent : Entry
  holdA : Nat
  free : Option Nat
  deriving DecidableEq, Repr

/-- A profile sequencer: its image store (512·half + word), the load source of each half (a flash offset, none for the host), an
accepted SWAP's instant, held-back starts in schedule order. -/
structure PsqBank where
  store : Sparse (BitVec 32)
  src : Sparse (Option Nat)
  swapAt : Option Nat
  held : List HeldStart
  deriving DecidableEq, Repr

/-- The profile sequencers, with the MT at which PD6 came on. -/
structure PsqState where
  onAt : Nat
  ctx : Sparse Ctx
  bank : Sparse PsqBank
  deriving DecidableEq, Repr

/-! ### Loop array (10) -/

/-- A command written to a slot and the MT from which it acts (10 R297, R302, R308). -/
inductive LoopCmd where
  | closing (from_ : Nat)
  | opening
  | xfer (law : Nat) (from_ : Nat)
  deriving DecidableEq, Repr

/-- A latched schedule action of a slot with its fire time: a set-point or a mode (10 R299, R308). -/
inductive LoopAct where
  | sp (v : Int) (fire : Nat)
  | mode (law : Nat) (fire : Nat)
  deriving DecidableEq, Repr

/-- A loop slot: state (0 OPEN, 1 CLOSED, 2 SUSPENDED, 3 HOLD, 4 SAFE), running law, SAFE_WHY, output in force, an output that
is written at a later MT, u1 to u3, e1 to e3, W, last feedback, a previous feedback exists for the model of R307, no sample since
the preset, catch-up in progress, feedback and output of the last samples (newest first), residual samples in a row, the last
sample's recompute failed, MT of the HOLD, held for LOST, valid samples in a row, MT since which a suspended channel is ready,
last sample instant, samples since FBIN was written, latched actions, waiting commands (10 R292 to R308). -/
structure LoopSlot where
  st : Nat
  law : Nat
  why : Nat
  out : Int
  next : Option (Int × Nat)
  u1 : Int
  u2 : Int
  u3 : Int
  e1 : Int
  e2 : Int
  e3 : Int
  w : Int
  fb : Int
  prev : Bool
  fresh : Bool
  catching : Bool
  hist : List (Int × Int)
  resid : Nat
  failed : Bool
  holdAt : Nat
  lost : Bool
  good : Nat
  okSince : Option Nat
  lastS : Option Nat
  fbAge : Nat
  acts : List LoopAct
  cmds : List LoopCmd
  deriving DecidableEq, Repr

/-! ### Tchitis engines (11, 12) -/

/-- A running repeat (11 R322, R325): iterations left, under REPI, address of the prefix, no iteration begun yet. -/
structure Repeat where
  left : Nat
  intr : Bool
  pfx : Nat
  fresh : Bool
  deriving DecidableEq, Repr

/-- A load whose delay slot has not ended (11 R320, R321): register, value, address of the load, and the base register and
its value before the post-increment of LWP. -/
structure PendLoad where
  rd : Nat
  val : BitVec 32
  pc : Nat
  undo : Option (Nat × BitVec 32)
  deriving DecidableEq, Repr

/-- A notice (11 R335): address of the EMIT block, status, FAILED_EMIT, DETAIL. -/
structure Notice where
  addr : Nat
  status : Nat
  failed : Bool
  detail : BitVec 32
  deriving DecidableEq, Repr

/-- An image load or a staged shadow (11 R346, R348): its completion (none for an automatic load), MODE, from flash,
CANCEL_OLD, image address, engine to replace, GEN and SWAP_MT. -/
structure ImgLoad where
  ref : Option CplRef
  mode : Nat
  flash : Bool
  cancelOld : Bool
  addr : Nat
  old : Nat
  gen : Nat
  swapMt : Nat
  deriving DecidableEq, Repr

/-- An engine: general registers, PC, the special registers of 11 R318 (FLAGS to TVEC and IVEC, IEN, EVB, return stack
slots, pointer and depth, captured high MT, TCMP, receive MT), the notice FIFO and outstanding EMITs, MBOX pending, running
repeat, pending load, WAITMT target, the MT before which the first instruction does not issue, IMEM and DMEM, header values
TVEC, IVEC, HO_BASE, HO_LEN, whether the image came from flash and its address, the load in progress or the staged shadow,
and a STOP that waits for the end of a REP. -/
structure Eng where
  g : Sparse (BitVec 32)
  pc : Nat
  flags : BitVec 32
  rc : BitVec 32
  epc : BitVec 32
  ecause : BitVec 32
  eval : BitVec 32
  erc : BitVec 32
  eflags : BitVec 32
  tvec : BitVec 32
  ivec : BitVec 32
  ien : BitVec 32
  evb : BitVec 32
  stk : Sparse (BitVec 32)
  sp : Nat
  rsd : Nat
  mthi : BitVec 32
  tcmp : BitVec 64
  rxmt : BitVec 64
  notes : List Notice
  outst : Nat
  mbox : Bool
  rep : Option Repeat
  ld : Option PendLoad
  wait : Option Nat
  notBefore : Nat
  imem : Sparse (BitVec 32)
  dmem : Sparse (BitVec 8)
  htvec : BitVec 32
  hivec : BitVec 32
  hoBase : Nat
  hoLen : Nat
  fromFlash : Bool
  imgAddr : Nat
  load : Option ImgLoad
  stopReq : Bool
  deriving DecidableEq, Repr

/-- The engines: each engine, the role each holds (11 R317), and the flash address of the image of an engine with AUTOLOAD
(11 R353, R354). -/
structure EngState where
  eng : Sparse Eng
  roles : Sparse Nat
  auto : Sparse (Option Nat)
  deriving DecidableEq, Repr

/-! ### Frame switch and Hive (13) -/

/-- A stored frame: its number, ingress port, cells, bytes as received or read without FCS, ingress MT, its VID and PCP,
tagged on ingress, management frame, generation it was classified under (by the count of activations), matched entry, the
completion it owes, and the ports that sent it with the MT of each (13 R377, R384, R396, R398). -/
structure SwFrame where
  id : Nat
  port : Nat
  cells : Nat
  data : List (BitVec 8)
  mt : Nat
  vid : Nat
  pcp : Nat
  tagged : Bool
  mgmt : Bool
  gen : Option Nat
  entry : Option Nat
  desc : Option CplRef
  sent : List (Nat × Nat)
  deriving DecidableEq, Repr

/-- A frame in an egress queue: the frame, MT at which it was queued, marked under ECN, its CAN message on a CAN port, and
whether its cells have passed their detection code (EP) (13 R388, R391, R399, R401). -/
structure SwElem where
  fid : Nat
  since : Nat
  mark : Bool
  can : Option CanFrame
  passed : Bool
  deriving DecidableEq, Repr

/-- A frame being received on an Ethernet port: the first bytes and what classification gave: targets with their queues, those
it is cut through to, its stream, and whether it is dropped already (13 R379, R382, R389). -/
structure SwRx where
  frame : SwFrame
  targets : List (Nat × Nat)
  cut : List Nat
  stream : Option Nat
  drop : Bool
  deriving DecidableEq, Repr

/-- A frame an Ethernet port is sending: frame, start and end MT (none until a cut-through frame's length is known),
marked, cut-through, ends with an inverted FCS (13 R390, R394). -/
structure SwTx where
  fid : Nat
  start : Nat
  fin : Option Nat
  mark : Bool
  cut : Bool
  bad : Bool
  deriving DecidableEq, Repr

/-- An Ethernet port: reception and transmission in progress, MT before which the gap after the last frame runs, open gates,
LEN, CYCLE and BASE of the active gate list, start MT of a pending swap, egress stamps (MT, INFO word) oldest first
(13 R392, R393, R403). -/
structure SwPort where
  rx : Option SwRx
  tx : Option SwTx
  idleAt : Nat
  gates : Nat
  len : Nat
  cycle : Nat
  base : Nat
  swap : Option Nat
  ts : List (Nat × Nat)
  deriving DecidableEq, Repr

/-- A held frame: handle, frame, queue for its launch, MT of its storing (13 R397). -/
structure SwHeld where
  handle : Nat
  fid : Nat
  prio : Nat
  since : Nat
  deriving DecidableEq, Repr

/-- A posted receive buffer: completion, host address, length, queue (13 R398). -/
structure SwBuf where
  ref : CplRef
  addr : Nat
  len : Nat
  queue : Nat
  deriving DecidableEq, Repr

/-- A waiting drain barrier: completion, the activation before which frames must have left, and the MT at which the last such
frame left (13 R387). -/
structure SwBarrier where
  ref : CplRef
  act : Nat
  met : Option Nat
  deriving DecidableEq, Repr

/-- A stream's token bucket: level in 1/32,000,000 byte and the MT of that level; frames passed and dropped (13 R382). -/
structure SwStream where
  level : Nat
  at_ : Nat
  pass : Nat
  drop : Nat
  deriving DecidableEq, Repr

/-- The switch: forwarding and stream tables, entries that failed (stream entries from 4,096), stream meters, stored frames,
the next frame number, queues by 16·port + queue, ports, held frames, SEQ of each handle index, receive buffers, barriers,
the generations made active, newest first, and how many before the present one, sequence numbers of the CAN ports, MTs of
recent cell failures, cells the Gleaner marked, MT of its last pass (13 R376 to R405). -/
structure SwState where
  fwd : Sparse (BitVec 128)
  str : Sparse (BitVec 128)
  poison : List Nat
  meters : Sparse SwStream
  frames : List SwFrame
  nextId : Nat
  queues : Sparse (List SwElem)
  ports : Sparse SwPort
  held : List SwHeld
  seqs : Sparse Nat
  bufs : List SwBuf
  barriers : List SwBarrier
  gens : List Nat
  acts : Nat
  canSeq : Sparse Nat
  fails : List Nat
  marks : List Nat
  gleanAt : Nat
  deriving DecidableEq, Repr

/-- The switch at the power-on of PD7 (13 R406). -/
def SwState.init : SwState where
  fwd := []
  str := []
  poison := []
  meters := []
  frames := []
  nextId := 0
  queues := []
  ports := []
  held := []
  seqs := []
  bufs := []
  barriers := []
  gens := [0]
  acts := 0
  canSeq := []
  fails := []
  marks := []
  gleanAt := 0

/-! ### CAN controllers (14) -/

/-- Where a pending CAN frame came from: a buffer by register request, a buffer by a schedule entry, the reference frame by
its entry, or the switch port: the queue and the stored frame (14 R418). -/
inductive CanSrc where
  | req (m : Nat)
  | sched (m : Nat) (e : Entry)
  | ref (e : Entry)
  | sw (q : Nat) (fid : Nat)
  deriving DecidableEq, Repr

/-- A pending frame: source, the copied frame, attempts that ended in an error (14 R418, R420). -/
structure CanPend where
  src : CanSrc
  frame : CanFrame
  fails : Nat
  deriving DecidableEq, Repr

/-- A frame in a receive FIFO: the frame, its SOF MT and the matching filter (14 R416). -/
structure CanStored where
  frame : CanFrame
  sof : Nat
  filter : Nat
  deriving DecidableEq, Repr

/-- A controller beside its registers: pending frames, the attempt running (source, SOF stamp, a cancel held), errors of the
switch frame at the head, the FIFOs, the clash tracker (identifier, IDE, count, first MT), buffers and filters whose words
failed (filters from 64), MT at which it began to integrate, MT at which a bus-off recovery began, the mode that
waits, the last switch frame that met errors with their count (14 R413 to R426). -/
structure CanHid where
  pend : List CanPend
  att : Option (CanPend × Nat × Bool)
  fifo0 : List CanStored
  fifo1 : List CanStored
  clash : Option (Nat × Bool × Nat × Nat)
  bad : List Nat
  integAt : Nat
  recover : Option Nat
  modePend : Option Nat
  swFail : Nat × Nat
  deriving DecidableEq, Repr

/-! ### Lighting port (15) -/

/-- What a shift carries: zeros at enable, page 0 of the back frame, a page of the front frame, or the page latched again
with tripped members dark (15 R437, R439, R446, R447). -/
inductive LtKind where
  | zero
  | back
  | page (p : Nat)
  | extra
  deriving DecidableEq, Repr

/-- The lighting port: LT_BLANK held high, the two frames of the Comb as 32-bit words, PAGES and PAGE_PER of the front frame,
the shift running (kind, first and last MT), what the chain holds for the next latch with the end of its shift, grayscale values in the chain and
latched, the grid's last restart with the periods counted up to it, restarts to come, the period count at the last page latch,
page steps since enable, an extra shift owed, the last accepted LSYNC edge, consecutive open and short readings per chain
channel (15 R436 to R446). -/
structure LtState where
  dark : Bool
  front : Sparse (BitVec 32)
  back : Sparse (BitVec 32)
  pages : Nat
  per : Nat
  shift : Option (LtKind × Nat × Nat)
  loaded : Option LtKind
  loadAt : Nat
  chain : Sparse Nat
  lat : Sparse Nat
  grid : Option Nat
  perBase : Nat
  restarts : List Nat
  pageAt : Nat
  steps : Nat
  extra : Bool
  lsync : Option Nat
  openRun : Sparse Nat
  shortRun : Sparse Nat
  deriving DecidableEq, Repr

/-- The lighting port at the power-on of PD9 (15 R447). -/
def LtState.init : LtState where
  dark := true
  front := []
  back := []
  pages := 0
  per := 0
  shift := none
  loaded := none
  loadAt := 0
  chain := []
  lat := []
  grid := none
  perBase := 0
  restarts := []
  pageAt := 0
  steps := 0
  extra := false
  lsync := none
  openRun := []
  shortRun := []

/-! ### Power (16) -/

/-- A leave booking (16 R458 to R460): its number, the bank whose current it holds with the amount in 10 mA units, the
module-power amount in mW, the dissipation figure in mW, its interval [start, fin), and the REQ code of its requester with
the requester's own index. -/
structure Booking where
  id : Nat
  bank : Option Nat
  amount : Nat
  mw : Nat
  diss : Nat
  start : Nat
  fin : Nat
  req : Nat
  owner : Nat
  deriving DecidableEq, Repr

/-- How far Fallow entry is (16 R463). -/
inductive Park where
  | run
  | closing
  | closed
  | fallow
  deriving DecidableEq, Repr

/-- A record of the key table in flash: TYPE, TARGET, SOURCE, SEQ, INPUT (19 R523). -/
structure KeyRec where
  type : Nat
  target : Nat
  source : Nat
  seq : Nat
  input : List (BitVec 8)
  deriving DecidableEq, Repr

/-- An operation that waits for leave (16 R462): a signature verification with its input, an append to the key table, a CTR
reservation to be appended, the sectors of a staging WRITE that are still to be programmed, a fuse command. -/
inductive LeaveJob where
  | verify (a : AccDesc) (input : List (BitVec 8))
  | append (r : KeyRec)
  | reserve
  | stage (a : AccDesc) (off : Nat) (data : List (BitVec 8))
  | life (cmd : Nat)
  deriving DecidableEq, Repr

/-- Power: domains on for the arbiter and domains power-good (bit k: PDk), bookings and the next booking number, Fallow
progress, MT of the PARK write, PLL locked, 32.768 kHz crystal running, MT's Fallow record written, VAON present, VBAT
present, PWR_EN_MAIN and REF_EN high, consecutive active strobes of the wake inputs, a wake recorded during entry (source,
index), a supply restart not yet reported to the collector, operations that wait for leave with the MT of their first request
and of their next, the lands of wake sources that the last sample of the RTC clock found active (source 3 or 4, or 16 + k for CANk, with the
count of that sample plus 2), the last strobe of the wake inputs (key 1), and PD0's mesh compare and lid samples (keys 8 to 10), and the MT since which the baseplate is above TEMP_LIM (16 R451
to R468). -/
structure PwrState where
  on : BitVec 14
  good : BitVec 14
  books : List Booking
  nextBook : Nat
  park : Park
  parkAt : Nat
  pll : Bool
  xtal : Bool
  mtRec : Bool
  vaon : Bool
  vbat : Bool
  mainEn : Bool
  strobe : BitVec 16
  wakePend : Option (Nat × Nat)
  supply : Bool
  jobs : List (LeaveJob × Nat × Nat)
  samp : Sparse Nat
  hotSince : Option Nat
  deriving DecidableEq, Repr

/-! ### Fault collector (17) -/

/-- The collector beside its registers: level lines held active by their cause, the end of the running ERR_N minimum
width, reaction-table words of which both copies failed, the banks each held source covers, the MT until which a source's last event
holds its line active, the MT at which the level that drives ERR_N last changed, and for each stop input the MT before which its filter
takes no crossing: its enable or its last accepted edge (17 R472, R477 to R484). -/
structure FltState where
  lines : BitVec 96
  errnEnd : Option Nat
  rctBad : BitVec 12
  cover : Sparse Nat
  pulse : Sparse Nat
  errnAt : Nat
  stopAt : Sparse Nat
  deriving DecidableEq, Repr

/-! ### Keys and access (18) -/

/-- The vault beside its registers: the key of each slot, the recorded input from which a slot can be rebuilt, slots filled
since PD2 came on, token keys, the code verifier, operations held in order of arrival, a
start-up test due, the last boundary of 100 ms at which a re-masking pass was due (18 R489 to R514). -/
structure KeyState where
  keys : Sparse (List (BitVec 8))
  src : Sparse (Option KeyRec)
  filled : List Nat
  tokKeys : Sparse (List (BitVec 8))
  verifier : Option (List (BitVec 8))
  held : List AccDesc
  trngAt : Option Nat
  maskAt : Nat
  deriving DecidableEq, Repr

/-- The vault at the power-on of PD2. -/
def KeyState.init : KeyState where
  keys := []
  src := []
  filled := []
  tokKeys := []
  verifier := none
  held := []
  trngAt := none
  maskAt := 0

/-- What token i has sent in a session: the stamp and payload of its RESP, the payload of its REPORT (18 R509). -/
structure TokAns where
  resp : Option (Nat × List (BitVec 8))
  report : Option (List (BitVec 8))
  deriving DecidableEq, Repr

/-- An access session: nonce, t_p and t_f once stamped, FINAL sent, the tokens' answers (18 R509). -/
structure AccSess where
  nonce : List (BitVec 8)
  tp : Option Nat
  tf : Option Nat
  sent : Bool
  ans : Sparse TokAns
  deriving DecidableEq, Repr

/-- The access block: session, end of the authorisation window, end of the lockout, MTs of the last failures, the running
release stream (MT of its next message, MT at which REL_TO began to count) with its token, a granted stream that waits for a
reservation, RES, a reservation being written (18 R512 to R516). -/
structure AccState where
  sess : Option AccSess
  auth : Option Nat
  lock : Option Nat
  bads : List Nat
  next : Option Nat
  relFrom : Nat
  token : Nat
  wait : Bool
  res : Nat
  resNew : Option Nat
  deriving DecidableEq, Repr

/-- The access block at the power-on of PD2. -/
def AccState.init : AccState where
  sess := none
  auth := none
  lock := none
  bads := []
  next := none
  relFrom := 0
  token := 0
  wait := false
  res := 0
  resNew := none

/-- What PD0 keeps beside the registers of 18: the root, and a record that PD0 lost its contents since the last start. -/
structure RootState where
  root : Option (BitVec 256)
  lost : Bool
  deriving DecidableEq, Repr

/-! ### Update, fuses, flash and debug (19) -/

/-- The update block beside its registers: how far the start is (phases of 19 R527), whether an
activation was made at this start. -/
structure UpdState where
  phase : Nat
  activated : Bool
  deriving DecidableEq, Repr

/-- The staging session in AON retained memory: its number and the MT of the holder's last accepted descriptor (19 R532,
R533). -/
structure StgSess where
  num : Nat
  last : Nat
  deriving DecidableEq, Repr

/-- The TAP: instruction register, the 32-bit data register last loaded, the boundary register, debug port open (19 R541). -/
structure TapState where
  ir : Nat
  dr : BitVec 32
  bsr : List Bool
  dbg : Bool
  deriving DecidableEq, Repr

/-- The one-time and non-volatile stores (18 R493, 19 R522 to R537, R540): seal, retire and DBG_KILL fuses, the fused key hash,
the security count F, the fused ATTR word of each slot whose WRITTEN fuse is blown, the slots whose REVOKE fuse is blown;
the journal (0 empty, 1 COMMITTED, 2 ACTIVATING, 3 ACTIVE, 4 REJECTED), the calibration records as words, the key table
with its half in use and append count, the active and the staging area. -/
structure Nv where
  sealFuse : Bool
  retireFuse : Bool
  dbgKill : Bool
  pkh : Option (BitVec 256)
  svn : Nat
  written : Sparse (Option (BitVec 32))
  revoked : BitVec 128
  journal : Nat
  calib : Sparse (BitVec 32)
  keyTab : List KeyRec
  keyHalf : Nat
  keySeq : Nat
  active : Sparse (BitVec 8)
  staging : Sparse (BitVec 8)
  deriving DecidableEq, Repr

/-- A factory part: no fuse blown, flash erased but for calibration records of unity gain and no offset. -/
def Nv.blank : Nv where
  sealFuse := false
  retireFuse := false
  dbgKill := false
  pkh := none
  svn := 0
  written := []
  revoked := 0
  journal := 0
  calib := []
  keyTab := []
  keyHalf := 0
  keySeq := 0
  active := []
  staging := []

/-- The lifecycle state: 0 OPEN, 1 SEALED, 2 RETIRED (00 R6). -/
def Nv.life (n : Nv) : Nat := if n.retireFuse then 2 else if n.sealFuse then 1 else 0

/-- The Machine Time block as it is before MT is loaded (03 R96, R115). -/
def MtState.cold : MtState where
  now := 0
  frac := 0
  prev := 0
  cyc := 0
  loaded := false
  refOk := true
  ofs := 0
  target := 0
  unc := 0
  hist := []
  cmp := []
  runs := []
  lastGood := 0
  goodT := none
  step := none
  stepT := none
  exc := false
  fNum := 0
  fDen := 1
  measT := 0
  terrT := 0
  terrE := 0
  hoEntry := 0
  ppsEnd := []
  ppsSec := []
  sync := []
  marker := []
  refSeq := 0
  refSof := none
  refNext := none
  rx := none

/-! ### The whole device -/

/-- Everything the part holds but its one-time and non-volatile stores: the register file (`regs`), the bytes the module
has written to host memory (`mem`), the blocks, and the count of open values drawn so far (`free`, the model's own). -/
structure Dev where
  regs : Sparse (BitVec 32)
  mem : List Host.Cell
  hl : HlState
  mt : MtState
  rtc : Rtc
  carry : Option Carry
  sch : SchState
  ch : ChState
  eng : EngState
  pose : PoseState
  bnd : BndState
  psq : PsqState
  pwr : PwrState
  flt : FltState
  free : Nat
  lt : LtState
  sw : SwState
  can : Sparse CanHid
  loop : Sparse LoopSlot
  gn : GnState
  kept : Option GnKept
  key : KeyState
  acc : AccState
  root : RootState
  tampLock : Bool
  upd : UpdState
  stg : Option StgSess
  tap : TapState
  deriving DecidableEq, Repr

/-- The device right after VAON is applied: PD0 and PD1 on, every other domain off, every register at its reset value. -/
def Dev.reset : Dev where
  regs := []
  mem := []
  hl := { epoch := 0, nextId := 0, sq := [], cq := [], rr := 63, handed := [], outst := [], held := [], msixPend := 0, msixTab := [], msixEn := false, msixMask := false, bme := false, d3 := false, cfg := PcieCfg.init }
  mt := MtState.cold
  rtc := Rtc.init
  carry := none
  sch := { ents := [], lastCommit := none, ops := [], nextOp := 0, cancels := [] }
  ch := { chan := [], die := [], cfgs := [] }
  eng := { eng := [], roles := [], auto := [] }
  pose := PoseState.init
  bnd := BndState.init
  psq := { onAt := 0, ctx := [], bank := [] }
  pwr := { on := 3, good := 3, books := [], nextBook := 0, park := .fallow, parkAt := 0, pll := false, xtal := false, mtRec := false, vaon := true, vbat := true, mainEn := false, strobe := 0, wakePend := some (7, 0), supply := false, jobs := [], samp := [], hotSince := none }
  flt := { lines := 0, errnEnd := none, rctBad := 0, cover := [], pulse := [], errnAt := 0, stopAt := [] }
  free := 0
  lt := LtState.init
  sw := SwState.init
  can := []
  loop := []
  gn := GnState.init
  kept := none
  key := KeyState.init
  acc := AccState.init
  root := { root := none, lost := true }
  tampLock := false
  upd := { phase := 0, activated := false }
  stg := none
  tap := { ir := 2, dr := 0x18128FC3, bsr := [], dbg := false }

/-- The state: the device, the fuses and flash, and the queue of waiting commands, first in, first out. -/
structure State where
  dev : Dev
  nv : Nv
  pending : List Instr
  deriving DecidableEq, Repr

/-- The state right after reset: a part in the factory's OPEN state (00 R6) with blank flash, VAON just applied. -/
def State.reset : State where
  dev := Dev.reset
  nv := Nv.blank
  pending := []

end Sys2Proof.Machine
end

