-- ==== Sys2Proof/Machine/Ops.lean ====
section
/-! DEFINITION. The named operations on the state: sparse tables, host memory, the register file, register fields, counters,
machine time, power domains, and the defaults of the hidden tables. -/

namespace Sys2Proof.Machine

/-! ### Sparse tables -/

/-- The value of a key: the listed one, else the default. -/
def sparseGet {α : Type} (dflt : Nat → α) : Sparse α → Nat → α
  | [], k => dflt k
  | (a, v) :: t, k => if a = k then v else sparseGet dflt t k

/-- Sets a key, keeping the keys rising and listing no default. -/
def sparsePut {α : Type} [DecidableEq α] (dflt : Nat → α) : Sparse α → Nat → α → Sparse α
  | [], k, v => if v = dflt k then [] else [(k, v)]
  | (a, w) :: t, k, v =>
    if v = dflt k then ((a, w) :: t).filter fun p => decide (p.1 ≠ k)
    else if k < a then (k, v) :: (a, w) :: t
    else if a = k then (k, v) :: t
    else (a, w) :: sparsePut dflt t k v

/-- The canonical form: keys strictly rising and no value equal to its key's default. -/
def sparseWf {α : Type} [DecidableEq α] (dflt : Nat → α) (l : Sparse α) : Bool :=
  decide (l.Pairwise (fun a b => a.1 < b.1)) && l.all (fun p => decide (p.2 ≠ dflt p.1))

/-! ### Host memory: the bytes the module has written there -/

/-- What a byte of host memory that the module has not written reads as (DESIGN CHOICE, notes/assumptions/6.md). -/
def memDefault : Nat → Byte := fun _ => 0

/-- The canonical form of host memory. -/
def Memory.wf (m : List Host.Cell) : Bool := sparseWf memDefault m

/-- One byte of host memory. -/
def Dev.memByte (d : Dev) (a : Nat) : Byte := sparseGet memDefault d.mem a

/-- Writes one byte of host memory; addresses wrap at 64 bits. -/
def Dev.memPut (d : Dev) (a : Nat) (b : Byte) : Dev := { d with mem := sparsePut memDefault d.mem (a % 2 ^ 64) b }

/-- Writes bytes of host memory from an address upwards. -/
def Dev.memWrite (d : Dev) (a : Nat) : List Byte → Dev
  | [] => d
  | b :: t => (d.memPut a b).memWrite (a + 1) t

/-- The n low bytes of a number, least significant first (00 R10). -/
def leBytes : Nat → Nat → List Byte
  | 0, _ => []
  | n + 1, x => BitVec.ofNat 8 x :: leBytes n (x / 256)

/-- The number that bytes, least significant first, spell. -/
def ofBytes : List Byte → Nat
  | [] => 0
  | b :: t => b.toNat + 256 * ofBytes t

/-! ### The register file -/

/-- A register's value. -/
def Dev.reg (d : Dev) (off : Nat) : Word := sparseGet regReset d.regs off

/-- Sets a register. -/
def Dev.setReg (d : Dev) (off : Nat) (v : Word) : Dev := { d with regs := sparsePut regReset d.regs off v }

/-- The value of a field within a register's value. -/
def Fld.ext (f : Fld) (v : Word) : Nat := v.toNat / 2 ^ f.lo % 2 ^ f.w

/-- A register's value with a field replaced; the value is cut to the field's width. -/
def Fld.ins (f : Fld) (v : Word) (x : Nat) : Word :=
  BitVec.ofNat 32 (v.toNat - f.ext v * 2 ^ f.lo + x % 2 ^ f.w * 2 ^ f.lo)

/-- A field's value. -/
def Dev.fld (d : Dev) (f : Fld) : Nat := f.ext (d.reg f.off)

/-- Sets a field. -/
def Dev.setFld (d : Dev) (f : Fld) (x : Nat) : Dev := d.setReg f.off (f.ins (d.reg f.off) x)

/-- Whether a field is not 0. -/
def Dev.flag (d : Dev) (f : Fld) : Bool := decide (d.fld f ≠ 0)

/-- Sets a one-bit field. -/
def Dev.setFlag (d : Dev) (f : Fld) (b : Bool) : Dev := d.setFld f b.toNat

/-- A number of w bits read as two's complement. -/
def toInt (w : Nat) (x : Nat) : Int := if 2 * x < 2 ^ w then (x : Int) else (x : Int) - 2 ^ w

/-- An integer as a number of w bits, modulo 2^w. -/
def ofInt (w : Nat) (x : Int) : Nat := (x % 2 ^ w).toNat

/-- A field read as a signed number. -/
def Dev.fldInt (d : Dev) (f : Fld) : Int := toInt f.w (d.fld f)

/-- Adds to a field, saturating at its largest value (00 R13). -/
def Dev.addFld (d : Dev) (f : Fld) (k : Nat) : Dev := d.setFld f (min (d.fld f + k) (2 ^ f.w - 1))

/-- Counts once in a 32-bit counter register, saturating at 0xFFFF_FFFF. -/
def Dev.count (d : Dev) (off : Nat) : Dev := d.addFld ⟨off, 0, 32⟩ 1

/-- A 64-bit value held in a low and a high register. -/
def Dev.reg64 (d : Dev) (lo hi : Nat) : Nat := (d.reg lo).toNat + (d.reg hi).toNat * 2 ^ 32

/-- Sets a low and a high register from a 64-bit value. -/
def Dev.setReg64 (d : Dev) (lo hi : Nat) (x : Nat) : Dev :=
  (d.setReg lo (BitVec.ofNat 32 x)).setReg hi (BitVec.ofNat 32 (x / 2 ^ 32))

/-- Returns every register that satisfies p to its reset value. -/
def Dev.resetRegs (d : Dev) (p : Nat → Bool) : Dev := { d with regs := d.regs.filter (fun r => !p r.1) }

/-- A copy of a register that any write clears or a W1C bit clears: the value after a write by the access codes of 00 R13. -/
def RegRow.write (r : RegRow) (old v : Word) : Word :=
  if r.cnt then 0
  else
    let rw := BitVec.ofNat 32 r.rw
    let w1c := BitVec.ofNat 32 r.w1c
    ((old &&& ~~~rw) ||| (v &&& rw)) &&& ~~~(v &&& w1c)

/-- A write by access code alone: RW bits take the value, W1C bits written 1 clear, a counter clears, every other bit and
every offset without a register ignores the write (00 R11, R13). -/
def Dev.writeByCode (d : Dev) (off : Nat) (v : Word) : Dev :=
  match regRow off with
  | some r => d.setReg off (r.write (d.reg off) v)
  | none => d

/-! ### Power domains -/

/-- The power domain of a BAR0 offset (01 R23, R565). -/
def domOf (off : Nat) : Nat :=
  match off / 0x10000 with
  | 0x0 => 2
  | 0x1 => 8
  | 0x2 => 3
  | 0x3 => 3
  | 0x4 => 10
  | 0x5 => 3
  | 0x6 => if off < 0x68000 then 12 else 13
  | 0x7 => 6
  | 0x8 => 6
  | 0x9 => if off % 0x8000 / 8 = 0x100 then 2 else if off < 0x98000 then 4 else 5
  | 0xA => 7
  | 0xB => 9
  | 0xC => 9
  | 0xD => if off < 0xD0100 then 1 else 2
  | 0xE => 2
  | _ => 2

/-- Whether a domain counts as on for register access and for the checks of the blocks (16 R453). -/
def Dev.domOn (d : Dev) (k : Nat) : Bool := d.pwr.good.getLsbD k

/-- A register access that takes effect: in a domain that is off it has no effect and is counted (01 R24). -/
def Dev.access (d : Dev) (off : Nat) (f : Dev → Dev) : Dev :=
  if d.domOn (domOf off) then f d else d.count R.PWR_OFFACC_CNT

/-! ### Machine time -/

/-- MT in ticks of 0.25 ns (00 R15). -/
def Dev.now (d : Dev) : Nat := d.mt.now

/-- Rounds to the nearest multiple of a step, ties upwards (04 R131). -/
def roundTo (st x : Nat) : Nat := (x + st / 2) / st * st

/-- Ticks of a number of microseconds. -/
def usTicks (n : Nat) : Nat := n * 4000

/-- Ticks of a number of milliseconds. -/
def msTicks (n : Nat) : Nat := n * 4000000

/-- One GNSS or MT second in ticks (00 R15). -/
def secTicks : Nat := 4000000000

/-! ### Open values -/

/-- The next value the spec leaves open, and the device with the count of such values advanced. -/
def Dev.draw (d : Dev) : BitVec 64 × Dev := (Config.freeValue d.free, { d with free := d.free + 1 })

/-! ### Defaults of the hidden tables -/

/-- An SQ right after a reset of 02 R82. -/
def SqHid.init : SqHid := { first := true, exp := 0, last := 0, failed := false, reads := [] }

/-- A CQ with nothing unsignalled. -/
def CqHid.init : CqHid := { unsig := 0, oldest := 0, last := none }

/-- An empty tag window. -/
def TagWin.init : TagWin := { fin := 0, e := 0, n := 0, state := 0, cnt := 0, sum := 0, num := 0 }

/-- A channel at the power-on of its die (07 R239). -/
def Chan.init : Chan where
  on := false
  prot := false
  rev := false
  duty := 0
  pulse := none
  retry := none
  otWait := false
  onSince := none
  offSince := none
  otArm := true
  trip := none
  elimBad := false
  elimHold := false
  offRead := none
  offAt := none
  olCnt := 0
  lampCnt := 0
  lampAt := 0
  follow := []
  partners := []
  perAt := 0
  offEdge := none
  pwmFrom := 0
  lastOff := none
  hold := none
  raw := false
  filtAt := 0
  fifo := []
  lastCnt := none
  burden := none
  ainAt := 0
  wbLow := none
  wbHigh := none
  tag := TagWin.init
  tags := []
  edges := []

/-- A channel die at its power-on. -/
def Die.init : Die := { armed := true, errs := [] }

/-- A profile context that has not run since PD6 came on (09 R266, R276). -/
def Ctx.init : Ctx where
  half := 0
  pc := 0
  cur := 0
  cls := .none
  drive := .off false
  tgt := 0
  rampT0 := 0
  aim := 0
  ditA := 0
  ditP := 0
  ditAt := 0
  ditNext := none
  fast := false
  period := 0
  perNext := none
  lc := 0
  kblank := 5
  krise := 50
  kdrop := 5
  start := 0
  winEnd := 0
  peakA := 0
  holdA := 0
  booking := none
  leftPeak := false
  untimed := 0
  abort := none
  op := 0
  stall := none
  hDrive := .off false
  hTgt := 0
  hCls := .none
  tw := none
  coilAt := 0
  rmAt := 0

/-- A profile sequencer at the power-on of PD6. -/
def PsqBank.init : PsqBank := { store := [], src := [], swapAt := none, held := [] }

/-- A SYNC pin at reset. -/
def SyncPin.init : SyncPin := { lvl := false, pulse := none }

/-- A marker input at reset. -/
def MkHid.init : MkHid := { fifo := [], last := none }

/-- An SQ's hidden state. -/
def Dev.sq (d : Dev) (n : Nat) : SqHid := sparseGet (fun _ => SqHid.init) d.hl.sq n

/-- Sets an SQ's hidden state. -/
def Dev.setSq (d : Dev) (n : Nat) (x : SqHid) : Dev :=
  { d with hl := { d.hl with sq := sparsePut (fun _ => SqHid.init) d.hl.sq n x } }

/-- A CQ's hidden state. -/
def Dev.cq (d : Dev) (n : Nat) : CqHid := sparseGet (fun _ => CqHid.init) d.hl.cq n

/-- Sets a CQ's hidden state. -/
def Dev.setCq (d : Dev) (n : Nat) (x : CqHid) : Dev :=
  { d with hl := { d.hl with cq := sparsePut (fun _ => CqHid.init) d.hl.cq n x } }

/-- A channel's hidden state. -/
def Dev.chan (d : Dev) (c : Nat) : Chan := sparseGet (fun _ => Chan.init) d.ch.chan c

/-- Sets a channel's hidden state. -/
def Dev.setChan (d : Dev) (c : Nat) (x : Chan) : Dev :=
  { d with ch := { d.ch with chan := sparsePut (fun _ => Chan.init) d.ch.chan c x } }

/-- A channel die's hidden state. -/
def Dev.die (d : Dev) (k : Nat) : Die := sparseGet (fun _ => Die.init) d.ch.die k

/-- Sets a channel die's hidden state. -/
def Dev.setDie (d : Dev) (k : Nat) (x : Die) : Dev :=
  { d with ch := { d.ch with die := sparsePut (fun _ => Die.init) d.ch.die k x } }

/-- A channel's profile context. -/
def Dev.ctx (d : Dev) (c : Nat) : Ctx := sparseGet (fun _ => Ctx.init) d.psq.ctx c

/-- Sets a channel's profile context. -/
def Dev.setCtx (d : Dev) (c : Nat) (x : Ctx) : Dev :=
  { d with psq := { d.psq with ctx := sparsePut (fun _ => Ctx.init) d.psq.ctx c x } }

/-- A bank's profile sequencer. -/
def Dev.psqBank (d : Dev) (b : Nat) : PsqBank := sparseGet (fun _ => PsqBank.init) d.psq.bank b

/-- Sets a bank's profile sequencer. -/
def Dev.setPsqBank (d : Dev) (b : Nat) (x : PsqBank) : Dev :=
  { d with psq := { d.psq with bank := sparsePut (fun _ => PsqBank.init) d.psq.bank b x } }

/-- A SYNC pin. -/
def Dev.sync (d : Dev) (n : Nat) : SyncPin := sparseGet (fun _ => SyncPin.init) d.mt.sync n

/-- Sets a SYNC pin. -/
def Dev.setSync (d : Dev) (n : Nat) (x : SyncPin) : Dev :=
  { d with mt := { d.mt with sync := sparsePut (fun _ => SyncPin.init) d.mt.sync n x } }

/-- A marker input. -/
def Dev.marker (d : Dev) (n : Nat) : MkHid := sparseGet (fun _ => MkHid.init) d.mt.marker n

/-- Sets a marker input. -/
def Dev.setMarker (d : Dev) (n : Nat) (x : MkHid) : Dev :=
  { d with mt := { d.mt with marker := sparsePut (fun _ => MkHid.init) d.mt.marker n x } }

/-- The end of the running pulse of a PPS output. -/
def Dev.ppsEnd (d : Dev) (n : Nat) : Option Nat := sparseGet (fun _ => none) d.mt.ppsEnd n

/-- Sets the end of the running pulse of a PPS output. -/
def Dev.setPpsEnd (d : Dev) (n : Nat) (x : Option Nat) : Dev :=
  { d with mt := { d.mt with ppsEnd := sparsePut (fun _ => none) d.mt.ppsEnd n x } }

/-- Applies a device update for every number of a list, in order. -/
def Dev.forAll (d : Dev) (l : List Nat) (f : Nat → Dev → Dev) : Dev := l.foldl (fun d k => f k d) d

/-- A command's next state: an update of the device that leaves the fuses, the flash and the queue alone. -/
def onDev (s : State) (f : Dev → Dev) : Host.Outcome State Fault Refusal := .next { s with dev := f s.dev }

end Sys2Proof.Machine
end

