-- ==== Sys2Proof/Machine/Flags.lean ====
section
/-! DEFINITION. The flag computations: event bits with their interrupt enables, the MSI-X vectors they raise, and the
condition flags of the Tchitis engines. -/

namespace Sys2Proof.Machine

/-- The reset content of the MSI-X table: every vector masked (02 R44; PRESUMED, notes/assumptions/12.md). -/
def msixDefault : Nat → Word := fun k => if k % 4 = 3 then 1 else 0

/-- A word of the MSI-X table: address low, address high, data, vector control. -/
def Dev.msixWord (d : Dev) (v w : Nat) : Word := sparseGet msixDefault d.hl.msixTab (4 * v + w)

/-- Whether the module may read and write host memory: link up, D0, Bus Master Enable (02 R84). -/
def Dev.canMaster (d : Dev) : Bool := d.flag R.HL_LINK_UP && !d.hl.d3 && d.hl.bme

/-- Whether a vector's message may be sent now (02 R84). -/
def Dev.canSend (d : Dev) (v : Nat) : Bool :=
  d.canMaster && d.hl.msixEn && !d.hl.msixMask && !(d.msixWord v 3).getLsbD 0

/-- Writes a vector's message to host memory: its data word at its address. -/
def Dev.sendVector (d : Dev) (v : Nat) : Dev :=
  d.memWrite ((d.msixWord v 0).toNat + (d.msixWord v 1).toNat * 2 ^ 32) (leBytes 4 (d.msixWord v 2).toNat)

/-- Raises an MSI-X vector: the message is sent, or its pending bit is set (02 R68, R69, R84). -/
def Dev.raiseVector (d : Dev) (v : Nat) : Dev :=
  if d.canSend v then d.sendVector v
  else { d with hl := { d.hl with msixPend := d.hl.msixPend ||| BitVec.ofNat 64 (2 ^ (v % 64)) } }

/-- Sets an event bit and, when its enable bit is 1, raises the block's vector: the event register, the bit, the enable
register and the vector register. -/
def Dev.event (d : Dev) (evt bit ien vec : Nat) : Dev :=
  let d := d.setFlag ⟨evt, bit, 1⟩ true
  if (d.reg ien).getLsbD bit then d.raiseVector (d.fld ⟨vec, 0, 6⟩) else d

/-- An event of the MT block. -/
def Dev.mtEvent (d : Dev) (f : Fld) : Dev := d.event R.MT_EVT f.lo R.MT_IEN R.MT_VEC

/-- An event of the schedule. -/
def Dev.schEvent (d : Dev) (f : Fld) : Dev := d.event R.SCH_EVT f.lo R.SCH_IEN R.SCH_VEC

/-- An event of a channel bank. -/
def Dev.bankEvent (d : Dev) (b : Nat) (f : Fld) : Dev :=
  d.event (R.CH_BANK_EVT b) f.lo (R.CH_BANK_IEN b) (R.CH_BANK_VEC b)

/-- Sets a W1C bit of a channel's CH_STAT or CH_IN_STAT; CH_IEN of its bank lets it raise the bank's vector (07 register
fields, CH_SUM). -/
def Dev.chEvent (d : Dev) (c : Nat) (f : Fld) : Dev :=
  let d := d.setFlag f true
  if d.flag (R.CH_BANK_IEN_CH_IEN (c / 16)) then d.raiseVector (d.fld (R.CH_BANK_VEC_VECTOR (c / 16))) else d

/-- An event of a profile sequencer's bank. -/
def Dev.psqEvent (d : Dev) (b : Nat) (f : Fld) : Dev :=
  d.event (R.PSQ_BANK_EVT b) f.lo (R.PSQ_BANK_IEN b) (R.PSQ_BANK_VEC b)

/-- Sets a W1C bit of a profile context; CTX_IEN of its bank lets it raise the bank's vector (09 register fields). -/
def Dev.ctxEvent (d : Dev) (c : Nat) (f : Fld) : Dev :=
  let d := d.setFlag f true
  if d.flag (R.PSQ_BANK_IEN_CTX_IEN (c / 16)) then d.raiseVector (d.fld (R.PSQ_BANK_VEC_VECTOR (c / 16))) else d

/-- An event of the power block. -/
def Dev.pwrEvent (d : Dev) (f : Fld) : Dev := d.event R.PWR_EVT f.lo R.PWR_IEN R.PWR_VEC

/-- An event of a CAN controller. -/
def Dev.canEvent (d : Dev) (n : Nat) (f : Fld) : Dev := d.event (R.CAN_EVT n) f.lo (R.CAN_IEN n) (R.CAN_VEC n)

/-- An event of the boundary unit. -/
def Dev.bndEvent (d : Dev) (f : Fld) : Dev := d.event R.BND_EVT f.lo R.BND_IEN R.BND_VEC

/-- An event of the frame switch. -/
def Dev.swEvent (d : Dev) (f : Fld) : Dev := d.event R.SW_EVT f.lo R.SW_IEN R.SW_VEC

/-- An event of the pose unit. -/
def Dev.poseEvent (d : Dev) (f : Fld) : Dev := d.event R.POSE_EVT f.lo R.POSE_IEN R.POSE_VEC

end Sys2Proof.Machine
end

