-- ==== Sys2Proof/Machine/Arbiter.lean ====
section
/-! DEFINITION. The power arbiter of 16 R458 to R462: the budgets, the decision, bookings and their ends. -/

namespace Sys2Proof.Machine

/-- A leave request: bank current in 10 mA units on a bank, or module power in mW; its interval, its length in µs for the
dissipation figure, whether it is safety-relevant, the REQ code and the requester's index (16 R462). -/
structure LeaveReq where
  bank : Option Nat
  amount : Nat
  mw : Nat
  start : Nat
  us : Nat
  safety : Bool
  req : Nat
  owner : Nat
  deriving DecidableEq, Repr

/-- The standing figure of a domain in mW (16 R453). -/
def standFigure (k : Nat) : Nat :=
  match k with
  | 2 => 450
  | 3 => 550
  | 4 => 1300
  | 5 => 1300
  | 6 => 400
  | 7 => 800
  | 8 => 550
  | 9 => 350
  | 10 => 180
  | 12 => 500
  | 13 => 500
  | _ => 0

/-- The dissipation of every bank's switches, mW. -/
def Dev.standChan (d : Dev) : Nat := ((List.range 8).map fun b => d.fld (R.CH_BANK_PWR_P b)).sum

/-- The module's standing load: the domains switched on and the banks' dissipation, mW (16 R458). -/
def Dev.standMod (d : Dev) : Nat :=
  ((List.range 14).map fun k => if d.pwr.on.getLsbD k then standFigure k else 0).sum + d.standChan

/-- The standing current of a bank, rounded up to 10 mA units (16 R458). -/
def Dev.standBank (d : Dev) (b : Nat) : Nat := ((d.reg (R.CH_BANK_IAVG b)).toNat + 9) / 10

/-- The dissipation figure of a current booking of I (10 mA units) on a bank for W µs, rounded up to whole mW (16 R458). -/
def dissFigure (b i w : Nat) : Nat :=
  let r := if b < 2 then 12 else 40
  (i * i * r * min w 100000 + 999999999) / 1000000000

/-- A request's dissipation figure. -/
def LeaveReq.diss (r : LeaveReq) : Nat :=
  match r.bank with
  | some b => dissFigure b r.amount r.us
  | none => 0

/-- The end of a request's interval. -/
def LeaveReq.fin (r : LeaveReq) : Nat := r.start + usTicks r.us

/-- The bookings whose interval overlaps a request's (16 R459). -/
def Dev.overlapping (d : Dev) (r : LeaveReq) : List Booking :=
  d.pwr.books.filter fun k => decide (k.start < r.fin ∧ r.start < k.fin)

/-- A limit field and its reserve as they act: at most their reset values; the reserve is taken off unless the request is
safety-relevant (16 R459). -/
def actLimit (v rst : Nat) (safety : Bool) : Nat :=
  let lim := min (v % 65536) (rst % 65536)
  if safety then lim else lim - min (v / 65536) (rst / 65536)

/-- The first budget, in the order of the code column, that a request does not fit (16 R458, R459). -/
def Dev.leaveRefusal (d : Dev) (r : LeaveReq) : Option Nat :=
  let o := d.overlapping r
  let lim := fun off => actLimit (d.reg off).toNat (regReset off).toNat r.safety
  if lim R.PWR_LIM_MOD < d.standMod + (o.map fun k => k.mw + k.diss).sum + r.mw + r.diss then some 0x01
  else
    match r.bank with
    | some b =>
      if lim R.PWR_LIM_CHAN < d.standChan + (o.map (·.diss)).sum + r.diss then some 0x02
      else if lim (R.PWR_BANK_LIM b) <
          d.standBank b + ((o.filter fun k => k.bank == some b).map (·.amount)).sum + r.amount then some (0x10 + b)
      else if 1024 ≤ d.pwr.books.length then some 0x20 else none
    | none => if 1024 ≤ d.pwr.books.length then some 0x20 else none

/-- Makes a booking: its number is the device's next booking number. -/
def Dev.bookLeave (d : Dev) (r : LeaveReq) : Dev :=
  let k : Booking := { id := d.pwr.nextBook, bank := r.bank, amount := r.amount, mw := r.mw, diss := r.diss,
                       start := r.start, fin := r.fin, req := r.req, owner := r.owner }
  { d with pwr := { d.pwr with books := d.pwr.books ++ [k], nextBook := d.pwr.nextBook + 1 } }

/-- Decides a request: a grant books and counts, a use of a reserve is counted; a refusal is recorded with its code
(16 R459, R462). Answers the refusal code, if any. -/
def Dev.decideLeave (d : Dev) (r : LeaveReq) : Option Nat × Dev :=
  match d.leaveRefusal r with
  | none =>
    let d' := (d.bookLeave r).count R.PWR_GRANT_CNT
    if r.safety && (d.leaveRefusal { r with safety := false }).isSome then (none, d'.count R.PWR_RSV_USE_CNT)
    else (none, d')
  | some c =>
    let d' := (d.count R.PWR_DENY_CNT).setReg R.PWR_DENY_LAST 0
    let d' := ((d'.setFld R.PWR_DENY_LAST_CODE c).setFld R.PWR_DENY_LAST_REQ r.req).setFlag R.PWR_DENY_LAST_VALID true
    (some c, d'.pwrEvent R.PWR_EVT_DENY)

/-- Ends a booking and frees its slot (16 R460). -/
def Dev.endBooking (d : Dev) (id : Nat) : Dev :=
  { d with pwr := { d.pwr with books := d.pwr.books.filter fun k => k.id != id } }

/-- Ends the bookings a requester holds: the REQ code and the requester's index (16 R460). -/
def Dev.endBookingsOf (d : Dev) (req owner : Nat) : Dev :=
  { d with pwr := { d.pwr with books := d.pwr.books.filter fun k => !(k.req == req && k.owner == owner) } }

end Sys2Proof.Machine
end

