-- ==== Sys2Proof/Machine/ChanOps.lean ====
section
/-! DEFINITION. What happens to a channel, its running pulse and its profile, shared by the channel commands, the fault
reactions and Fallow (07 R201 to R239, 09 R271 to R283). -/

namespace Sys2Proof.Machine

/-- An output mode: HS, LS, HB, PAIR, LAMP (07 R201). -/
def isOutput (m : Nat) : Bool := decide (1 ≤ m ∧ m ≤ 5)

/-- An input mode: DIN1 to PULSE_IN (08). -/
def isInput (m : Nat) : Bool := decide (6 ≤ m ∧ m ≤ 10)

/-- A channel's MODE. -/
def Dev.mode (d : Dev) (c : Nat) : Nat := d.fld (R.CH_CFG_MODE c)

/-- A channel's OWNER; code 3 acts as 0 (07 R203). -/
def Dev.owner (d : Dev) (c : Nat) : Nat := d.fld (R.CH_CFG_OWNER c) % 3

/-- The channel that carries a PAIR's registers: the even one (07 R202). -/
def Dev.leader (d : Dev) (c : Nat) : Nat := if d.mode (c / 2 * 2) = 4 then c / 2 * 2 else c

/-- The channels that act together: both of a PAIR, else the one. -/
def Dev.group (d : Dev) (c : Nat) : List Nat := if d.mode (c / 2 * 2) = 4 then [c / 2 * 2, c / 2 * 2 + 1] else [c]

/-- PWM_EN as it acts: 0 while ELIM is 1 (07 R227). -/
def Dev.pwmEn (d : Dev) (c : Nat) : Bool := d.flag (R.CH_CFG_PWM_EN c) && !d.flag (R.CH_CFG_ELIM c)

/-- The domain of a channel's die (01 R23). -/
def chDom (c : Nat) : Nat := if c < 64 then 12 else 13

/-- The die of a channel: 0 for A, 1 for B. -/
def dieOf (c : Nat) : Nat := c / 64

/-- Marks a fired operation's end (04 R139). -/
def Dev.endOp (d : Dev) (op : Nat) (t : Nat) : Dev :=
  { d with sch := { d.sch with ops := d.sch.ops.map fun o => if o.id = op ∧ o.fin = none then { o with fin := some t } else o } }

/-- Records a fired operation that an abort can reach, under the device's next operation number. -/
def Dev.startOp (d : Dev) (ref : Option CplRef) (action target : Nat) : Dev :=
  { d with sch := { d.sch with
      ops := d.sch.ops ++ [{ id := d.sch.nextOp, ref := ref, action := action, target := target, fin := none }]
      nextOp := d.sch.nextOp + 1 } }

/-- Ends a channel's running pulse at an edge without placing its trailing edge; its operation ends there (07 R205, R231). -/
def Dev.cutPulse (d : Dev) (c t : Nat) : Dev :=
  match (d.chan c).pulse with
  | some (_, op) =>
    ((d.setChan c { d.chan c with pulse := none }).setFlag (R.CH_STAT_PULSE c) false).endOp op t
  | none => d

/-- Ends a channel's retry wait, and with it the protective turn-off, unless the channel is latched off or held by its limiter (07
R201, R218, R229). -/
def Dev.endRetry (d : Dev) (c : Nat) : Dev :=
  let x := d.chan c
  (d.setChan c { x with retry := none, otWait := false
                        prot := x.prot && (d.flag (R.CH_STAT_LATCHED c) || x.elimHold) }).setFlag (R.CH_STAT_RETRY_WAIT c) false

/-- Whether a bank's supply is out of range (07 R219). -/
def Dev.vfBad (d : Dev) (b : Nat) : Bool := d.flag (R.CH_BANK_STAT_VF_UV b) || d.flag (R.CH_BANK_STAT_VF_OV b)

/-- Whether a profile runs on a channel. -/
def Dev.running (d : Dev) (c : Nat) : Bool := d.flag (R.PSQ_CH_STAT_RUN c)

/-! ### PWM and gates (07 R201, R207 to R209, R227, R230, R231, 09 R266, R270) -/

/-- Whether a channel's SAFE code turns a switch on in its MODE (07 R227, R230). -/
def Dev.safeDrives (d : Dev) (c : Nat) : Bool :=
  let m := d.mode c
  if d.flag (R.CH_CFG_ELIM c) then false
  else
    match d.fld (R.CH_CFG_SAFE (d.leader c)) with
    | 1 => decide (m = 3 ∨ m = 4)
    | 2 => decide (m = 1 ∨ m = 3 ∨ m = 5)
    | _ => false

/-- Whether a context's drive is off with at least one path: SLOW leaves the low switch of a half-bridge on, FAST and the end of
a profile leave every switch off (09 R266, R270). -/
def Drive.isOff : Drive → Bool
  | .off _ => true
  | _ => false

/-- PERIOD as it acts, in 10 ns steps; a running profile has its own (07 R207, 09 R269). -/
def Dev.pwmSteps (d : Dev) (c : Nat) : Nat :=
  max 1000 (min 1000000 (if d.running c then (d.ctx c).period else d.fld (R.CH_PWM_PERIOD_PERIOD c)))

/-- The last period start of a channel at or before an MT (07 R207). -/
def Dev.pwmStart (d : Dev) (c t : Nat) : Nat :=
  let p := d.pwmSteps c
  (t / 40 - (t / 40 + p - d.fld (R.CH_PWM_PHASE_PHASE c) % p) % p) * 40

/-- The on-time of a period in steps: round(DUTY × PERIOD ÷ 65,536), ties upwards; an on-time below 10 steps is none, an off-time below
10 steps is none (07 R208). -/
def pwmOn (duty p : Nat) : Nat :=
  let n := (duty * p + 32768) / 65536
  if n < 10 then 0 else if p < n + 10 then p else n

/-- Whether a channel's PWM shapes its output: PWM_EN, no pulse runs, and no profile sequencer drives it (07 R204, R207, 09 R279). -/
def Dev.pwmRuns (d : Dev) (c : Nat) : Bool := d.pwmEn c && (d.chan c).pulse.isNone && decide (d.owner c ≠ 2)

/-- Whether an output's driving switch is commanded on now: by its stage, within the on-time of the PWM period in force, and not in an
off phase of a profile. -/
def Dev.driveOn (d : Dev) (c : Nat) : Bool :=
  let x := d.chan c
  x.on && !(d.running c && (d.ctx c).drive.isOff) &&
    (!d.pwmRuns c || (decide (x.pwmFrom ≤ x.perAt) && (match x.offEdge with | some t => decide (d.now < t) | none => true)))

/-- The switch that was turned off last before the present drive of a half-bridge or H-bridge, and its MT: by an edge of the running
PWM, by a phase of a profile, else by a command (07 R209). -/
def Dev.turnedOff (d : Dev) (c : Nat) : Option (Nat × Bool) :=
  let x := d.chan c
  if d.running c then
    let y := d.ctx c
    if y.hDrive.isOff = y.drive.isOff then x.lastOff else some (y.cur, y.drive.isOff)
  else if x.on && d.pwmRuns c && decide (d.mode c = 3 ∧ x.pwmFrom ≤ x.perAt) then
    match x.offEdge with
    | some t => if d.now < t then some (x.perAt, false) else if t = x.perAt then x.lastOff else some (t, true)
    | none => x.lastOff
  else x.lastOff

/-- DT as it acts, in ticks (07 R209). -/
def Dev.deadTime (d : Dev) (c : Nat) : Nat := 40 * max 10 (d.fld (R.CH_DT_DT c))

/-- Whether a switch of a bridge must still wait for the dead time after the turn-off of the opposite one (07 R209). -/
def Dev.dead (d : Dev) (l : Nat) (high : Bool) : Bool :=
  match d.turnedOff l with
  | some (t, h) => h != high && decide (d.now < t + d.deadTime l)
  | none => false

/-- The switch of a channel that is commanded on now, true the high one, none when both are off: the stop path, a protective turn-off,
the safe state, then commands (07 R201, R230, R231, 09 R266, R270). With its die's domain off, the switch that PARK left on (R239). -/
def Dev.side (d : Dev) (c : Nat) : Option Bool :=
  let m := d.mode c
  let l := d.leader c
  let x := d.chan l
  if !d.domOn (chDom c) then (d.chan c).hold
  else if d.flag R.FLT_STATE_STOP_ACTIVE || x.prot || d.vfBad (c / 16) then none
  else if d.flag (R.CH_STAT_SAFE c) then
    if d.safeDrives c then some (decide (d.fld (R.CH_CFG_SAFE l) = 2)) else none
  else
    match m with
    | 1 => if d.driveOn l then some true else none
    | 2 => if d.driveOn l then some false else none
    | 3 => if d.driveOn l then some true
           else if decide (d.owner l = 2) && (d.ctx c).drive == .off true then none else some false
    | 4 => if d.driveOn l then some (decide (c = l) != x.rev) else none
    | 5 => if d.driveOn l then some true else none
    | _ => none

/-- The switch of a channel that conducts: the commanded one, once the dead time has passed (07 R209). -/
def Dev.gate (d : Dev) (c : Nat) : Option Bool :=
  match d.side c with
  | some s =>
    let l := d.leader c
    if (decide (d.mode c = 3) && d.dead l s) || (decide (d.mode c = 4) && d.dead l (s != decide (c ≠ l))) then none else some s
  | none => none

/-- Whether a switch of a channel conducts: DRIVEN. -/
def Dev.driven (d : Dev) (c : Nat) : Bool := (d.gate c).isSome

/-- Whether a channel's output is on: its stage, or a switch that its safe state turns on (07 R213, R223, R235). -/
def Dev.outOn (d : Dev) (c : Nat) : Bool :=
  let x := d.chan (d.leader c)
  if d.flag R.FLT_STATE_STOP_ACTIVE || x.prot || d.vfBad (c / 16) then false
  else if d.flag (R.CH_STAT_SAFE c) then d.safeDrives c
  else x.on

/-- Notes the switch of a bridge that an edge turns off (07 R209). -/
def Dev.noteOff (d : Dev) (c t : Nat) : Dev :=
  match d.side c with
  | some s => d.setChan c { d.chan c with lastOff := some (t, s) }
  | none => d

/-- Switches the output stage off at an edge. -/
def Dev.stageOff (d : Dev) (c t : Nat) : Dev :=
  let was := d.outOn c
  let d := if (d.chan c).on then d.noteOff c t else d
  let x := d.chan c
  d.setChan c { x with on := false, onSince := none, offSince := if was then some t else x.offSince }

/-- Switches the output stage on at an edge: a turn-on (07 R566), counted in CH_ON_CNT; nothing when it is on already, in the safe
state, while the bank's supply is out of range (R219) or after a limiter disagreement (R229). -/
def Dev.stageOn (d : Dev) (c t : Nat) : Dev :=
  let x := d.chan c
  if x.on || x.elimHold || d.flag (R.CH_STAT_SAFE c) || d.vfBad (c / 16) then d
  else
    let d := d.noteOff c t
    (d.setChan c { d.chan c with on := true, prot := false, onSince := some t, offSince := none, olCnt := 0, lampCnt := 0,
                                 pwmFrom := t }).count (R.CH_ON_CNT c)

/-- The edges of a channel that lie near: its turn-on and turn-off, the edges of its period, and with a bridge the turn-on of the
opposite switch DT later (07 R208, R209, R566). -/
def Dev.edgesOf (d : Dev) (c : Nat) : List (Nat × Bool) :=
  let x := d.chan c
  let shaped := x.on && (d.pwmRuns c || d.running c) && decide (x.pwmFrom ≤ x.perAt)
  (match x.onSince with | some t => [(t, true)] | none => []) ++
    (match x.offSince with | some t => [(t, false)] | none => []) ++
    (if shaped && x.offEdge != some x.perAt then [(x.perAt, true)] else []) ++
    (match x.offEdge with | some t => if shaped then [(t, false)] else [] | none => []) ++
    (match d.turnedOff c with
     | some (t, _) => if d.mode c = 3 ∨ d.mode c = 4 then [(t + d.deadTime c, true)] else []
     | none => [])

/-- Whether a channel is within the blanking window after a switching on-edge (07 R214, R566). -/
def Dev.blanked (d : Dev) (c : Nat) : Bool :=
  (d.edgesOf c).any fun e => e.2 && decide (e.1 ≤ d.now ∧ d.now < e.1 + 400 * d.fld (R.CH_OC_BLANK c))

/-! ### Profiles -/

/-- The feeder channel of a group of a bank. -/
def Dev.feederOf (d : Dev) (b g : Nat) : Nat := 16 * b + d.fld (R.PSQ_GRP_CFG_FEEDER b g)

/-- The member channels of a group of a bank. -/
def Dev.membersOf (d : Dev) (b g : Nat) : List Nat :=
  ((List.range 16).filter fun i => (d.reg (R.PSQ_GRP_CFG b g)).getLsbD (4 + i)).map fun i => 16 * b + i

/-- The group in use of which a channel is a member (09 R278). -/
def Dev.groupOfMember (d : Dev) (c : Nat) : Option Nat :=
  (List.range 4).find? fun g => d.flag (R.PSQ_GRP_CFG_EN (c / 16) g) && (d.membersOf (c / 16) g).contains c

/-- The group in use of which a channel is the feeder. -/
def Dev.groupOfFeeder (d : Dev) (c : Nat) : Option Nat :=
  (List.range 4).find? fun g => d.flag (R.PSQ_GRP_CFG_EN (c / 16) g) && d.feederOf (c / 16) g == c

/-- Returns a context's booking (09 R268). -/
def Dev.returnBooking (d : Dev) (c : Nat) : Dev :=
  match (d.ctx c).booking with
  | some k => (d.setCtx c { d.ctx c with booking := none }).endBooking k
  | none => d

/-- OLD_BUSY clears once no profile of the bank runs in the replaced image (09 R283). -/
def Dev.freeOldHalf (d : Dev) (b : Nat) : Dev :=
  if (List.range 16).any fun i => d.running (16 * b + i) && d.flag (R.PSQ_CH_STAT_OLD_IMG (16 * b + i)) then d
  else d.setFlag (R.PSQ_BANK_STAT_OLD_BUSY b) false

/-- Turns a group's feeder off, in the step t in which its last running member ends (09 R279). -/
def Dev.feederOffIfIdle (d : Dev) (c t : Nat) : Dev :=
  match d.groupOfMember c with
  | some g =>
    if (d.membersOf (c / 16) g).any d.running then d
    else (d.stageOff (d.feederOf (c / 16) g) t).setFlag (R.CH_STAT_CMD_ON (d.feederOf (c / 16) g)) false
  | none => d

/-- FEED_LIM as it acts: at most the feeder's continuous current, in 10 mA units (09 R278, 07 R199). -/
def Dev.feedLim (d : Dev) (b g : Nat) : Nat := min (d.fld (R.PSQ_GRP_LIM_FEED_LIM b g)) (if b < 2 then 800 else 300)

/-- Whether a start on a group member is held back: another member's profile has not left its peak class, or the declared
hold currents would exceed FEED_LIM; the member's own running profile, which the start replaces, does not count (09 R280). -/
def Dev.heldBack (d : Dev) (c g holdA : Nat) : Bool :=
  let others := (d.membersOf (c / 16) g).filter fun m => d.running m && m != c
  others.any (fun m => !(d.ctx m).leftPeak) ||
    decide (d.feedLim (c / 16) g < (others.map fun m => (d.ctx m).holdA).sum + holdA)

/-- Records when each held-back start of a bank that an event at t leaves free may begin: the first 10 ns step at least 2.00 µs later (09
R280). -/
def Dev.updateHeld (d : Dev) (b t : Nat) : Dev :=
  let x := d.psqBank b
  d.setPsqBank b { x with held := x.held.map fun h =>
    let held := match d.groupOfMember h.chan with | some g => d.heldBack h.chan g h.holdA | none => false
    if held then { h with free := none }
    else if h.free.isSome then h else { h with free := some ((t + 8000 + 39) / 40 * 40) } }

/-- Ends a running profile at an MT: the output off, its operation's end committed, its booking returned, the feeder off after
the last member (09 R266 END, R268, R279, R283). -/
def Dev.finishAt (d : Dev) (c t : Nat) : Dev :=
  if d.running c then
    let d := (d.returnBooking c).endOp (d.ctx c).op t
    let d := d.setCtx c { d.ctx c with cls := .none, drive := .off true, abort := none, stall := none, untimed := 0, tgt := 0 }
    let d := ((d.setFlag (R.PSQ_CH_STAT_RUN c) false).setFlag (R.PSQ_CH_STAT_PEAK_CLASS c) false).setFlag (R.PSQ_CH_STAT_OLD_IMG c) false
    let d := d.setFld (R.PSQ_CH_STAT_PC c) 0
    let d := (d.stageOff c t).setFlag (R.CH_STAT_CMD_ON c) false
    ((d.freeOldHalf (c / 16)).feederOffIfIdle c t).updateHeld (c / 16) t
  else d

/-- Kills a running profile: it ends at once and KILLED is set (09 R273). -/
def Dev.killProfile (d : Dev) (c : Nat) : Dev :=
  if d.running c then (d.finishAt c d.now).ctxEvent c (R.PSQ_CH_STAT_KILLED c) else d

/-- When a channel is a feeder, kills every running member's profile (09 R279); answers whether any ran. -/
def Dev.feederLost (d : Dev) (c : Nat) : Dev × Bool :=
  match d.groupOfFeeder c with
  | some g =>
    let run := (d.membersOf (c / 16) g).filter d.running
    (d.forAll run fun m d => d.killProfile m, !run.isEmpty)
  | none => (d, false)

/-! ### Safe state, turn-off -/

/-- One channel enters its safe state at an edge (07 R231): everything running ends, CMD_ON with it (DEDUCED,
notes/assumptions/17.md), the profile is killed; answers whether a feeder's members were killed. -/
def Dev.safeOneAt (t : Nat) (d : Dev) (c : Nat) : Dev × Bool :=
  let d := (d.cutPulse c t).killProfile c
  let d := if d.safeDrives c then d else d.endRetry c
  let d := (((d.noteOff c t).stageOff c t).setFlag (R.CH_STAT_CMD_ON c) false).setFlag (R.CH_STAT_SAFE c) true
  d.feederLost c

/-- One channel enters its safe state now. -/
def Dev.safeOne (d : Dev) (c : Nat) : Dev × Bool := Dev.safeOneAt d.now d c

/-- Applies a channel action to a list of channels, collecting whether any feeder's members were killed. -/
def Dev.forChans (d : Dev) (l : List Nat) (f : Dev → Nat → Dev × Bool) : Dev × Bool :=
  l.foldl (fun p c => ((f p.1 c).1, p.2 || (f p.1 c).2)) (d, false)

/-- A channel, or both channels of a PAIR, enter the safe state. -/
def Dev.safeChan (d : Dev) (c : Nat) : Dev × Bool := d.forChans (d.group c) Dev.safeOne

/-- A channel, or both channels of a PAIR, enter the safe state at an action's edge (07 R205). -/
def Dev.safeChanAt (d : Dev) (c t : Nat) : Dev × Bool := d.forChans (d.group c) (Dev.safeOneAt t)

/-- The channels of a bank. -/
def bankChans (b : Nat) : List Nat := (List.range 16).map fun i => 16 * b + i

/-- Every channel of a bank enters its safe state; answers whether a feeder's members were killed. -/
def Dev.safeBank (d : Dev) (b : Nat) : Dev × Bool := d.forChans (bankChans b) Dev.safeOne

/-- A retry wait of RETRY_MS begins (07 R217). -/
def Dev.beginRetry (d : Dev) (c : Nat) (ot : Bool) : Dev :=
  let ms := max 1 (d.fld (R.CH_PROT_RETRY_MS (d.leader c)))
  (d.setChan c { d.chan c with retry := some (d.now + msTicks ms), otWait := ot }).setFlag (R.CH_STAT_RETRY_WAIT c) true

/-- A channel latches off: LATCHED set, CMD_ON cleared on both channels of a PAIR (07 R217, R218). -/
def Dev.latchOff (d : Dev) (c : Nat) : Dev :=
  let d := (d.setFlag (R.CH_STAT_LATCHED c) true).forAll (d.group c) fun k d => d.setFlag (R.CH_STAT_CMD_ON k) false
  (d.cutPulse c d.now).endRetry c

/-- What the POLICY of CH_PROT does after a protective turn-off (07 R217). -/
def Dev.afterTrip (d : Dev) (c : Nat) (ot : Bool) : Dev :=
  let l := d.leader c
  match d.fld (R.CH_PROT_POLICY l) with
  | 1 => if max 1 (d.fld (R.CH_PROT_RETRY_N l)) ≤ d.fld (R.CH_STAT_RETRIES c) then d.latchOff c else d.beginRetry c ot
  | 2 => d.beginRetry c ot
  | _ => d.latchOff c

/-- A protective turn-off by the path of 07 R214: counted, the stage off, a running profile killed (09 R273), then POLICY;
answers whether a feeder's members were killed. -/
def Dev.protectOff (d : Dev) (c : Nat) (ot : Bool) : Dev × Bool :=
  let d := (d.count (R.CH_OC_CNT c)).killProfile c
  let d := d.stageOff c d.now
  let d := d.setChan c { d.chan c with prot := true }
  let d := d.afterTrip c ot
  d.feederLost c

/-- Commanded off (CH_SET 0, CH_CMD OFF) at an edge: output off, a running pulse and a retry wait end, RETRIES resets (07 R204, R205,
R218). -/
def Dev.commandOff (d : Dev) (c t : Nat) : Dev :=
  d.forAll (d.group c) fun c d =>
    let d := ((d.cutPulse c t).endRetry c).stageOff c t
    ((d.setFlag (R.CH_STAT_CMD_ON c) false).setFld (R.CH_STAT_RETRIES c) 0)

/-- The direction of a PAIR: a change while it drives turns every switch off, and the new direction follows DT later (07 R205, R209). -/
def Dev.setRev (d : Dev) (l : Nat) (rev : Bool) (t : Nat) : Dev :=
  if (d.chan l).rev = rev then d
  else
    let d := d.noteOff l t
    d.setChan l { d.chan l with rev := rev }

/-- A command turns a PAIR the other way: one that is on is off for DT, and its turn-on in the new direction counts (07 R205, R566; DEDUCED,
notes/assumptions/17.md). -/
def Dev.reverse (d : Dev) (l : Nat) (rev : Bool) (t : Nat) : Dev :=
  let x := d.chan l
  let d := d.setRev l rev t
  if x.on && x.rev != rev then
    (d.setChan l { d.chan l with onSince := some (t + d.deadTime l) }).count (R.CH_ON_CNT l)
  else d

/-- Commanded on (CH_SET 1, CH_CMD ON) at an edge: ends a running pulse there; during a retry wait it has no further effect; in
PAIR the channel named gives the direction (07 R204, R205, R218). -/
def Dev.commandOn (d : Dev) (c t : Nat) : Dev :=
  let l := d.leader c
  let d := d.cutPulse l t
  let d := if d.mode l = 4 then d.reverse l (decide (c ≠ l)) t else d
  let d := (d.forAll (d.group c) fun k d => d.setFlag (R.CH_STAT_CMD_ON k) (decide (k = c)))
  if d.flag (R.CH_STAT_RETRY_WAIT l) then d else d.stageOn l t

/-- A pulse begins or extends a running one: on from its edge until its end, but not during a retry wait, whose turn-off goes before
commands (07 R204, R205, R231); the operation of the earlier pulse ends at this edge. -/
def Dev.beginPulse (d : Dev) (c t fin op : Nat) : Dev :=
  let l := d.leader c
  let d := match (d.chan l).pulse with
    | some (_, old) => d.endOp old t
    | none => d
  let d := (d.setChan l { d.chan l with pulse := some (fin, op) }).setFlag (R.CH_STAT_PULSE l) true
  let d := d.setFlag (R.CH_STAT_CMD_ON l) true
  if d.flag (R.CH_STAT_RETRY_WAIT l) then d else d.stageOn l t

end Sys2Proof.Machine
end

