-- ==== Sys2Proof/Machine/Fault.lean ====
section
/-! DEFINITION. The fault collector of 17: sources, reactions, the handling window, ERR_N, the stop path, forcing and
injection; and the commands of that chapter. -/

namespace Sys2Proof.Machine

/-! ### Source indices (17 R471) -/
namespace Src
def stop : Nat := 0
def lockstep : Nat := 4
def supwd : Nat := 5
def fltInteg : Nat := 6
def errn : Nat := 7
def pwrSupply : Nat := 8
def pwrClk : Nat := 9
def pwrTherm : Nat := 10
def mtRef : Nat := 11
def mtFreerun : Nat := 12
def schInteg : Nat := 13
def schDrop : Nat := 14
def schDeny : Nat := 15
def schWin : Nat := 16
def hlLink : Nat := 17
def hlFetch : Nat := 18
def hlCpl : Nat := 19
def gnInteg : Nat := 20
def gnIf : Nat := 21
def gnCorr : Nat := 22
def poseLost : Nat := 23
def bndInteg : Nat := 24
def bndDegr : Nat := 25
def chOc : Nat := 26
def chOt : Nat := 27
def chOpen : Nat := 28
def chStuckHigh : Nat := 29
def chXcon : Nat := 30
def chBankOc : Nat := 31
def chVf : Nat := 32
def chWd : Nat := 33
def chElim : Nat := 34
def chLink : Nat := 35
def chInteg : Nat := 36
def chWire : Nat := 37
def chAinOvr : Nat := 38
def psqInteg : Nat := 39
def psqProg : Nat := 40
def psqNoclose : Nat := 41
def psqCoilOt : Nat := 42
def psqFeed : Nat := 43
def loopFb : Nat := 44
def loopInteg : Nat := 45
def loopPlaus : Nat := 46
def engInteg : Nat := 47
def engStop : Nat := 48
def swInteg : Nat := 49
def swGlean : Nat := 50
def swLink : Nat := 51
def canBusoff : Nat := 52
def canIdclash : Nat := 53
def canInteg : Nat := 54
def ltInteg : Nat := 55
def ltChain : Nat := 56
def ltLamp : Nat := 57
def keyInteg : Nat := 58
def keyTamper : Nat := 59
def keyTrng : Nat := 60
def keyLocked : Nat := 61
def accLockout : Nat := 62
def accStream : Nat := 63
def updVerify : Nat := 64
def updFlash : Nat := 65
def engApp : Nat := 66
end Src

/-- The mask of one bank. -/
def bankMask (b : Nat) : Nat := 2 ^ b

/-- The banks of a die: B0 to B3 or B4 to B7 (17 R477). -/
def dieMask (k : Nat) : Nat := if k = 0 then 0x0F else 0xF0

/-- A source's entry of the reaction table: [1:0] REACT, [2] ERRN; REACT 3 with ERRN 1 where both copies of its word failed
(17 R474, R480). -/
def Dev.reaction (d : Dev) (i : Nat) : Nat :=
  if d.flt.rctBad.getLsbD (i / 8) then 7
  else (d.reg (R.FLT_RCT0 + 4 * (i / 8))).toNat / 2 ^ (4 * (i % 8)) % 8

/-- The line of a source as the collector acts on it: the block's line, which an event holds active for 10 ns, or its FORCE bit
(17 R472). -/
def Dev.lineActive (d : Dev) (i : Nat) : Bool :=
  d.flt.lines.getLsbD i || decide (d.now < sparseGet (fun _ => 0) d.flt.pulse i) ||
    (d.reg (R.FLT_FORCE (i / 32))).getLsbD (i % 32)

/-- An event holds a source's line active for 10 ns (17 R472). -/
def Dev.pulseLine (d : Dev) (i : Nat) : Dev :=
  { d with flt := { d.flt with pulse := sparsePut (fun _ => 0) d.flt.pulse i (d.now + 40) } }

/-- A bit of one of the four-word fault registers. -/
def fltBit (off i : Nat) : Fld := ⟨off + 4 * (i / 32), i % 32, 1⟩

/-- Whether the record of FLT_FIRST gives way to source i: it was latched at this very MT, and i is the lower index. Lines that
rise in one sample are taken in ascending index (17 R475), in whatever order their causes come. -/
def Dev.firstYields (d : Dev) (i : Nat) : Bool :=
  d.flag R.FLT_FIRST_VALID && decide (d.reg64 R.FLT_FIRST_MT_LO R.FLT_FIRST_MT_HI = d.now) &&
    decide (i < d.fld R.FLT_FIRST_SRC) && decide (d.fld R.FLT_FIRST_SRC < 96) &&
    d.flag (fltBit (R.FLT_STATUS 0) (d.fld R.FLT_FIRST_SRC))

/-- Source i takes the place of a higher index latched at the same MT: the status bit and FLT_FIRST move to it (17 R475). -/
def Dev.firstMove (d : Dev) (i : Nat) : Dev :=
  ((d.setFlag (fltBit (R.FLT_STATUS 0) (d.fld R.FLT_FIRST_SRC)) false).setFlag (fltBit (R.FLT_STATUS 0) i) true).setFld
    R.FLT_FIRST_SRC i

/-- Latches a source or counts it as missed, by the handling window (17 R475). -/
def Dev.latchFault (d : Dev) (i : Nat) : Dev :=
  if d.flag (fltBit (R.FLT_STATUS 0) i) then d
  else
    let ien := d.flag R.FLT_CTRL_IEN
    let vec := d.fld R.FLT_VEC_VECTOR
    if d.flag R.FLT_STATE_WINDOW then
      let new := !d.flag R.FLT_STATE_MISSED
      let d := if d.firstYields i then d.firstMove i else d
      let d := (d.setFlag R.FLT_STATE_MISSED true).count R.FLT_MISSED_CNT
      if new && ien then d.raiseVector vec else d
    else
      let d := (d.setFlag (fltBit (R.FLT_STATUS 0) i) true).setFlag R.FLT_STATE_WINDOW true
      let d := (d.setFld R.FLT_FIRST_SRC i).setFlag R.FLT_FIRST_VALID true
      let d := (d.setReg64 R.FLT_FIRST_MT_LO R.FLT_FIRST_MT_HI d.now).count R.FLT_LATCH_CNT
      if ien then d.raiseVector vec else d

/-- The banks a rising source covers: all under STOP_ALL; under BANK_SAFE those the raising block names for sources 26 to
43 and FLT_SAFE_BANKS for the others (17 R474, R477). -/
def Dev.covered (d : Dev) (i banks : Nat) : Nat :=
  match d.reaction i % 4 with
  | 3 => 0xFF
  | 2 => if 26 ≤ i ∧ i ≤ 43 then banks else d.fld R.FLT_SAFE_BANKS_BANKS
  | _ => 0

/-- The FLT_BANKREC byte of a source of 26 to 43. -/
def bankRec (i : Nat) : Fld := ⟨R.FLT_BANKREC 0 + 4 * ((i - 26) / 4), 8 * ((i - 26) % 4), 8⟩

/-- Drives ERR_N low or high; a change of the level is when the land may begin to differ from it (17 R478, R479). -/
def Dev.driveErrn (d : Dev) (low : Bool) : Dev :=
  if d.flag R.FLT_STATE_ERRN_LOW = low then d
  else { d with flt := { d.flt with errnAt := d.now } }.setFlag R.FLT_STATE_ERRN_LOW low

/-- Drives ERR_N low and starts its minimum width (17 R478). -/
def Dev.errnLow (d : Dev) : Dev :=
  let w := max 1 (d.fld R.FLT_ERRN_CFG_MIN_W)
  let d := ((d.driveErrn true).setFlag R.FLT_STATE_ERRN_MIN true).setFlag R.FLT_ERRN_CFG_SW_LEVEL false
  { d with flt := { d.flt with errnEnd := some (d.now + usTicks w) } }

/-- Puts the banks of a mask into their safe states; answers the mask of banks in which a feeder's members were killed. -/
def Dev.safeBanks (d : Dev) (mask : Nat) : Dev × Nat :=
  ((List.range 8).filter fun b => mask.testBit b).foldl
    (fun p b => ((p.1.safeBank b).1, if (p.1.safeBank b).2 then p.2 ||| bankMask b else p.2)) (d, 0)

/-- A source's line rises: record, hold and safe state, ERR_N (17 R474 to R478). Answers the banks in which a feeder's members
were killed by the reaction (09 R279). -/
def Dev.riseCore (d : Dev) (i banks : Nat) : Dev × Nat :=
  let e := d.reaction i
  let d := if e % 4 = 0 then d else d.latchFault i
  let d := if e % 4 ≠ 0 ∧ 26 ≤ i ∧ i ≤ 43 then d.setFld (bankRec i) (d.fld (bankRec i) ||| banks) else d
  let cov := d.covered i banks
  let d := if 2 ≤ e % 4 then
      let d := d.setFlag (fltBit (R.FLT_HOLD 0) i) true
      { d with flt := { d.flt with cover := sparsePut (fun _ => 0) d.flt.cover i (sparseGet (fun _ => 0) d.flt.cover i ||| cov) } }
    else d
  let p := d.safeBanks cov
  (if 4 ≤ e then p.1.errnLow else p.1, p.2)

/-- A line rises, and PSQ_FEED after it for the feeders its reaction took down, until none is left (at most the eight
banks). -/
def Dev.riseLoop : Nat → Dev → Nat → Nat → Dev
  | 0, d, i, banks => (d.riseCore i banks).1
  | n + 1, d, i, banks =>
    let p := d.riseCore i banks
    if p.2 = 0 then p.1 else Dev.riseLoop n (p.1.pulseLine Src.psqFeed) Src.psqFeed p.2

/-- A further event of a source whose line is active already: the line does not rise, but banks that it names beyond the first
are recorded and covered (DEDUCED, notes/assumptions/38.md). -/
def Dev.raiseMore (d : Dev) (i banks : Nat) : Dev :=
  let e := d.reaction i
  let d := if e % 4 ≠ 0 ∧ 26 ≤ i ∧ i ≤ 43 then d.setFld (bankRec i) (d.fld (bankRec i) ||| banks) else d
  let old := sparseGet (fun _ => 0) d.flt.cover i
  let cov := d.covered i banks &&& (0xFF - (old &&& 0xFF))
  if cov = 0 then d
  else (({ d with flt := { d.flt with cover := sparsePut (fun _ => 0) d.flt.cover i (old ||| cov) } } : Dev).safeBanks cov).1

/-- Raises a source whose cause is an event: its line is active for 10 ns (17 R472). A line already active does not rise. -/
def Dev.raiseFault (d : Dev) (i banks : Nat) : Dev :=
  if d.lineActive i then (d.pulseLine i).raiseMore i banks else Dev.riseLoop 8 (d.pulseLine i) i banks

/-- A source's cause becomes present and holds its line active (17 R472). -/
def Dev.setLine (d : Dev) (i banks : Nat) : Dev :=
  let d' := { d with flt := { d.flt with lines := d.flt.lines ||| BitVec.ofNat 96 (2 ^ i) } }
  if d.lineActive i then d'.raiseMore i banks else Dev.riseLoop 8 d' i banks

/-- A source's cause goes away. -/
def Dev.dropLine (d : Dev) (i : Nat) : Dev :=
  { d with flt := { d.flt with lines := d.flt.lines &&& ~~~(BitVec.ofNat 96 (2 ^ i)) } }

/-- One of the causes of a source went away: its line stays active while another one is present (17 R472). -/
def Dev.settleLine (d : Dev) (i : Nat) (present : Bool) : Dev := if present then d else d.dropLine i

/-- Raises PSQ_FEED when a feeder's members were killed (09 R279). -/
def Dev.feedFault (p : Dev × Bool) (c : Nat) : Dev := if p.2 then p.1.raiseFault Src.psqFeed (bankMask (c / 16)) else p.1

/-- Whether the collector holds a reaction for a bank (17 R477, 07 R233). -/
def Dev.bankHeld (d : Dev) (b : Nat) : Bool :=
  (List.range 96).any fun i =>
    d.flag (fltBit (R.FLT_HOLD 0) i) && (sparseGet (fun _ => 0) d.flt.cover i).testBit b

/-- Clears a source's status bit, hold and bank record when its line is inactive (17 R481). -/
def Dev.clearStatus (d : Dev) (i : Nat) : Dev :=
  if d.lineActive i then d
  else
    let d := (d.setFlag (fltBit (R.FLT_STATUS 0) i) false).setFlag (fltBit (R.FLT_HOLD 0) i) false
    let d := { d with flt := { d.flt with cover := sparsePut (fun _ => 0) d.flt.cover i 0 } }
    if 26 ≤ i ∧ i ≤ 43 then d.setFld (bankRec i) 0 else d

/-- A write to FLT_STATUSw: R481 for each bit written 1. -/
def Dev.writeFltStatus (d : Dev) (w : Nat) (v : Word) : Dev :=
  d.forAll ((List.range 32).filter fun k => v.getLsbD k) fun k d => d.clearStatus (32 * w + k)

/-- A write of ACK closes an open window and applies R475 to every active line with status 0, lowest index first (17 R476);
with the window closed it has no effect. -/
def Dev.writeAck (d : Dev) (v : Word) : Dev :=
  if v.getLsbD 0 && d.flag R.FLT_STATE_WINDOW then
    let d := d.setFlag R.FLT_STATE_WINDOW false
    d.forAll ((List.range 96).filter fun i => d.lineActive i && decide (d.reaction i % 4 ≠ 0)) fun i d => d.latchFault i
  else d

/-- A write to FLT_APP activates ENG_APP lines (17 R473); FLT_APP reads the lines. -/
def Dev.writeFltApp (d : Dev) (v : Word) : Dev :=
  d.forAll ((List.range 16).filter fun n => v.getLsbD n) fun n d =>
    (d.setFlag ⟨R.FLT_APP, n, 1⟩ true).setLine (Src.engApp + n) 0

/-- A write to FLT_APP_CLR deactivates ENG_APP lines (17 R473). -/
def Dev.writeFltAppClr (d : Dev) (v : Word) : Dev :=
  d.forAll ((List.range 16).filter fun n => v.getLsbD n) fun n d =>
    (d.setFlag ⟨R.FLT_APP, n, 1⟩ false).dropLine (Src.engApp + n)

/-- Whether a stop input's latch may stay set: its FORCE bit or its filtered level in stop (17 R482). -/
def Dev.stopHeld (d : Dev) (n : Nat) : Bool :=
  d.flag ⟨R.FLT_STOP_STAT, n, 1⟩ || d.flag (fltBit (R.FLT_FORCE 0) n)

/-- STOP_ACTIVE is 1 while any stop latch is set (17 R482). -/
def Dev.updateStop (d : Dev) : Dev := d.setFlag R.FLT_STATE_STOP_ACTIVE (d.flag R.FLT_STOP_STAT_LATCH)

/-- Sets a stop latch: every gate off, and its line with REACT 3 and ERRN 1 (17 R482). -/
def Dev.setStopLatch (d : Dev) (n : Nat) : Dev :=
  ((d.setFlag ⟨R.FLT_STOP_STAT, 8 + n, 1⟩ true).updateStop).setLine (Src.stop + n) 0

/-- A write to FLT_STOP_CMD: REL bit n clears latch n when the input is out of stop and not forced (17 R482). -/
def Dev.writeStopCmd (d : Dev) (v : Word) : Dev :=
  d.forAll ((List.range 4).filter fun n => v.getLsbD n && !d.stopHeld n) fun n d =>
    ((d.setFlag ⟨R.FLT_STOP_STAT, 8 + n, 1⟩ false).updateStop).dropLine (Src.stop + n)

/-- A write to FLT_FORCEw: a bit that becomes 1 makes its line rise unless the block's line is active already; a forced stop
input sets its latch (17 R482, R485). -/
def Dev.writeForce (d : Dev) (w : Nat) (v : Word) : Dev :=
  let rise := (List.range 32).filter fun k => v.getLsbD k && !d.lineActive (32 * w + k)
  let d := d.setReg (R.FLT_FORCE w) v
  d.forAll rise fun k d =>
    let d := if 32 * w + k < 4 then
        ({ d with flt := { d.flt with lines := d.flt.lines ||| BitVec.ofNat 96 (2 ^ (32 * w + k)) } }.setFlag
          ⟨R.FLT_STOP_STAT, 8 + k, 1⟩ true).updateStop
      else d
    Dev.riseLoop 8 d (32 * w + k) 0

/-- A stop input's filter length in ticks: 2.0 µs to 1.000 ms (08 R244, R258, 17 R484). -/
def Dev.stopFilt (d : Dev) (n : Nat) : Nat :=
  let f := d.fld (R.FLT_STOPn_CFG_FILT n)
  max 8000 (min 4000000 (if d.flag (R.FLT_STOPn_CFG_FILT_UNIT n) then 4000 * f else 40 * f))

/-- Whether a stop input's filter has accepted a crossing and its synchroniser has passed it on: it is enabled, the run began at or after
the crossing that was accepted before it or the enable, and it has lasted L (08 R244, R245, 17 R483, R484). -/
def Dev.stopSeen (d : Dev) (n stamp : Nat) : Bool :=
  d.domOn 2 && d.flag (R.FLT_STOPn_CFG_EN n) &&
    decide (max stamp (sparseGet (fun _ => 0) d.flt.stopAt n) + d.stopFilt n + 80 ≤ d.now)

/-- A stop input's filter has accepted a crossing. -/
def Dev.stopCross (d : Dev) (n stamp : Nat) (inStop : Bool) : Dev :=
  let d := { d with flt := { d.flt with stopAt := sparsePut (fun _ => 0) d.flt.stopAt n (max stamp (sparseGet (fun _ => 0) d.flt.stopAt n)) } }
  d.setFlag ⟨R.FLT_STOP_STAT, n, 1⟩ inStop

/-- A write to FLT_STOPn_CFG: EN is write-1-to-set; FILT and FILT_UNIT are taken only while EN is 0; setting EN starts the
filter out of stop (17 R484). -/
def Dev.writeStopCfg (d : Dev) (n : Nat) (v : Word) : Dev :=
  if d.flag (R.FLT_STOPn_CFG_EN n) then d
  else
    let d := d.setReg (R.FLT_STOPn_CFG n) (v &&& 0x8001FFFF#32)
    if v.getLsbD 31 then
      { d with flt := { d.flt with stopAt := sparsePut (fun _ => 0) d.flt.stopAt n d.now } }.setFlag ⟨R.FLT_STOP_STAT, n, 1⟩ false
    else d

/-- A write to FLT_CTRL: IEN takes the value, LOCK is write-1-to-set (17 R480). -/
def Dev.writeFltCtrl (d : Dev) (v : Word) : Dev :=
  let d := d.setFlag R.FLT_CTRL_IEN (v.getLsbD 0)
  if v.getLsbD 1 then d.setFlag R.FLT_CTRL_LOCK true else d

/-- A write to FLT_RCT0-11: ignored under LOCK; the entries of FLT_STOP0-3 keep REACT 3 and ERRN 1 (17 R474, R480). -/
def Dev.writeRct (d : Dev) (r : Nat) (v : Word) : Dev :=
  if d.flag R.FLT_CTRL_LOCK then d
  else
    let v := v &&& 0x77777777#32
    d.setReg (R.FLT_RCT0 + 4 * r) (if r = 0 then (v &&& 0xFFFF0000#32) ||| 0x7777#32 else v)

/-- A write to FLT_SAFE_BANKS: ignored under LOCK (17 R480). -/
def Dev.writeSafeBanks (d : Dev) (v : Word) : Dev :=
  if d.flag R.FLT_CTRL_LOCK then d else d.setReg R.FLT_SAFE_BANKS (v &&& 0xFF#32)

/-- A write to FLT_ERRN_CFG: a SW_LEVEL of 1 releases ERR_N at once unless the minimum width runs (17 R478). -/
def Dev.writeErrnCfg (d : Dev) (v : Word) : Dev :=
  let d := d.setReg R.FLT_ERRN_CFG (v &&& 0x1FFFF#32)
  if d.flag R.FLT_STATE_ERRN_MIN then d else d.driveErrn (!d.flag R.FLT_ERRN_CFG_SW_LEVEL)

/-- Whether the armed injection corrupts this use of an array: ARM, the ARRAY code, and SEL where the array has one
(17 R486). -/
def Dev.injected (d : Dev) (array : Nat) (sel : Option Nat) : Bool :=
  d.flag R.FLT_INJ_CFG_ARM && decide (d.fld R.FLT_INJ_CFG_ARRAY = array) &&
    (match sel with | some x => decide (d.fld R.FLT_INJ_CFG_SEL = x) | none => true)

/-- Whether an injection also fails the redo (17 R486). -/
def Dev.injectedTwice (d : Dev) (array : Nat) (sel : Option Nat) : Bool := d.injected array sel && d.flag R.FLT_INJ_CFG_DOUBLE

/-- The injection has happened: ARM clears, DONE and the MT are recorded (17 R486). -/
def Dev.injectDone (d : Dev) (array : Nat) (sel : Option Nat) : Dev :=
  if d.injected array sel then
    ((d.setFlag R.FLT_INJ_CFG_ARM false).setFlag R.FLT_INJ_STAT_DONE true).setReg R.FLT_INJ_MT (BitVec.ofNat 32 d.now)
  else d

/-- A write to FLT_INJ_CFG: RWS, so only while the lifecycle state is OPEN (00 R6, R13, 17 R486). The lockstep pair compares
all the time, so an injection into it happens at the write, and with DOUBLE its rerun fails (01 R36). -/
def Dev.writeInjCfg (d : Dev) (nv : Nv) (v : Word) : Dev :=
  if nv.life = 0 then
    let d := d.setReg R.FLT_INJ_CFG (v &&& 0x8000FF1F#32)
    if d.injectedTwice 15 none then (d.injectDone 15 none).raiseFault Src.lockstep 0 else d.injectDone 15 none
  else d

/-! ### Commands -/

/-- FAULT_LINE_RISE (17 R475, R477, R480): the lines named rise in one sample, taken in ascending index; with FLT_INTEG the
word of the reaction table of which both copies failed, if so. -/
def execFaultLineRise (srcs : BitVec 96) (banks : BitVec 8) (tab : Option (Fin 12)) (s : State) :
    Host.Outcome State Fault Refusal :=
  onDev s fun d =>
    if d.domOn 2 then
      let d := match tab with
        | some w => if srcs.getLsbD Src.fltInteg then
            { d with flt := { d.flt with rctBad := d.flt.rctBad ||| BitVec.ofNat 12 (2 ^ w.val) } } else d
        | none => d
      d.forAll ((List.range 96).filter fun i => srcs.getLsbD i) fun i d => d.raiseFault i banks.toNat
    else d

/-- ACK (17 R476). -/
def execAck (v : BitVec 32) (s : State) : Host.Outcome State Fault Refusal :=
  onDev s fun d => d.access R.FLT_ACK fun d => d.writeAck v

/-- STATUS_CLEAR (17 R481). -/
def execStatusClear (w : Fin 4) (v : BitVec 32) (s : State) : Host.Outcome State Fault Refusal :=
  onDev s fun d => d.access (R.FLT_STATUS w) fun d => d.writeFltStatus w v

/-- FLT_APP_SET (17 R473). -/
def execFltAppSet (v : BitVec 32) (s : State) : Host.Outcome State Fault Refusal :=
  onDev s fun d => d.access R.FLT_APP fun d => d.writeFltApp v

/-- FLT_APP_CLR (17 R473). -/
def execFltAppClr (v : BitVec 32) (s : State) : Host.Outcome State Fault Refusal :=
  onDev s fun d => d.access R.FLT_APP_CLR fun d => d.writeFltAppClr v

/-- ERRN_WIDTH_END (17 R478): at the end of the minimum width ERR_N follows SW_LEVEL. -/
def execErrnWidthEnd (s : State) : Host.Outcome State Fault Refusal :=
  onDev s fun d =>
    match d.flt.errnEnd with
    | some t =>
      if t ≤ d.now then
        let d := { d with flt := { d.flt with errnEnd := none } }
        (d.setFlag R.FLT_STATE_ERRN_MIN false).driveErrn (!d.flag R.FLT_ERRN_CFG_SW_LEVEL)
      else d
    | none => d

/-- ERRN_MISMATCH (17 R479): the level of the ERR_N land, which it has had since an MT. A mismatch with the driven level that has lasted
for 10 µs holds the line of FLT_ERRN active; the land matching again ends it. -/
def execErrnMismatch (x : ErrnLevel) (s : State) : Host.Outcome State Fault Refusal :=
  onDev s fun d =>
    if d.domOn 2 then
      if x.land = !d.flag R.FLT_STATE_ERRN_LOW then d.dropLine Src.errn
      else if max x.since.toNat d.flt.errnAt + usTicks 10 ≤ d.now then d.setLine Src.errn 0 else d
    else d

/-- LOCK (17 R480): the written word of FLT_CTRL. -/
def execLock (v : BitVec 32) (s : State) : Host.Outcome State Fault Refusal :=
  onDev s fun d => d.access R.FLT_CTRL fun d => d.writeFltCtrl v

/-- STOP_REL (17 R482). -/
def execStopRel (v : BitVec 32) (s : State) : Host.Outcome State Fault Refusal :=
  onDev s fun d => d.access R.FLT_STOP_CMD fun d => d.writeStopCmd v

/-- STOP_ENABLE (17 R484): the written word of FLT_STOPn_CFG. -/
def execStopEnable (n : Fin 4) (v : BitVec 32) (s : State) : Host.Outcome State Fault Refusal :=
  onDev s fun d => d.access (R.FLT_STOPn_CFG n) fun d => d.writeStopCfg n v

/-- FORCE (17 R485). -/
def execForce (w : Fin 4) (v : BitVec 32) (s : State) : Host.Outcome State Fault Refusal :=
  onDev s fun d => d.access (R.FLT_FORCE w) fun d => d.writeForce w v

/-- INJ_ARM (17 R486). -/
def execInjArm (v : BitVec 32) (s : State) : Host.Outcome State Fault Refusal :=
  onDev s fun d => d.access R.FLT_INJ_CFG fun d => d.writeInjCfg s.nv v

/-- STOP_ENTRY (08 R257, 17 R482, R483): an enabled stop input's filter accepts level 0; the latch sets and the stamp of the
crossing is recorded. -/
def execStopEntry (n : Fin 4) (stamp : BitVec 64) (s : State) : Host.Outcome State Fault Refusal :=
  onDev s fun d =>
    if d.stopSeen n stamp.toNat && !d.flag ⟨R.FLT_STOP_STAT, n, 1⟩ then
      ((d.stopCross n stamp.toNat true).setReg64 (R.FLT_STOP_MT_LO n) (R.FLT_STOP_MT_HI n)
        (max stamp.toNat (sparseGet (fun _ => 0) d.flt.stopAt n))).setStopLatch n
    else d

/-- STOP_EXIT (08 R257): an enabled stop input's filter accepts level 1; the latch stays until released, and the crossing into
stop stays recorded. -/
def execStopExit (x : StopEdge) (s : State) : Host.Outcome State Fault Refusal :=
  onDev s fun d =>
    if d.stopSeen x.n x.stamp.toNat && d.flag ⟨R.FLT_STOP_STAT, x.n, 1⟩ then d.stopCross x.n x.stamp.toNat false else d

end Sys2Proof.Machine
end

