-- ==== Sys2Proof/Machine/Operands.lean ====
section
/-! DEFINITION. The operand forms: bit fields of descriptors, of schedule actions and EMIT blocks, of microcode words and of
engine instructions. -/

namespace Sys2Proof.Machine

/-- A bit field of a word: lowest bit and length. -/
def bitsOf {n : Nat} (w : BitVec n) (lo len : Nat) : Nat := w.toNat / 2 ^ lo % 2 ^ len

/-- A byte of a multi-byte word, byte 0 least significant (00 R10). -/
def byteOf {n : Nat} (w : BitVec n) (i : Nat) : Nat := bitsOf w (8 * i) 8

/-! ### Descriptor frame (02 R57) -/

/-- TYPE. -/
def descType (w : BitVec 256) : Nat := byteOf w 0

/-- FLAGS. -/
def descFlags (w : BitVec 256) : Nat := byteOf w 1

/-- FENCE. -/
def descFence (w : BitVec 256) : Bool := w.getLsbD 8

/-- NOTIFY. -/
def descNotify (w : BitVec 256) : Bool := w.getLsbD 9

/-- SEQ. -/
def descSeq (w : BitVec 256) : BitVec 16 := w.extractLsb' 16 16

/-- COOKIE. -/
def descCookie (w : BitVec 256) : BitVec 64 := w.extractLsb' 192 64

/-- A payload field by its byte offset and its length in bytes. -/
def descField (w : BitVec 256) (off len : Nat) : Nat := bitsOf w (8 * off) (8 * len)

/-- The valid TYPE codes with their owning block and the domains of check 5, of which one must be on (02 R58). -/
def descOwner (ty : Nat) : Option (Nat × List Nat) :=
  match ty with
  | 0x10 => some (0x04, [3])
  | 0x11 => some (0x04, [3])
  | 0x20 => some (0x0B, [7])
  | 0x21 => some (0x0B, [7])
  | 0x30 => some (0x10, [2])
  | 0x40 => some (0x0B, [7])
  | 0x41 => some (0x0B, [7])
  | 0x50 => some (0x06, [3])
  | 0x60 => some (0x0A, [4, 5])
  | 0x70 => some (0x10, [2])
  | 0x80 => some (0x0D, [9])
  | 0x90 => some (0x05, [10])
  | 0xA0 => some (0x07, [12, 13])
  | _ => none

/-! ### Status codes (02 R66, R67) -/
namespace St
def ok : Nat := 0x0000
def late : Nat := 0x0001
def droppedLate : Nat := 0x0002
def cancelled : Nat := 0x0003
def tooLateSent : Nat := 0x0004
def leaveDenied : Nat := 0x0005
def refetched : Nat := 0x0006
def tamper : Nat := 0x0007
def busy : Nat := 0x0008
def badDescriptor : Nat := 0x0009
def generationStale : Nat := 0x000A
def notPermitted : Nat := 0x000B
end St

/-- DETAIL of a BAD_DESCRIPTOR for an invalid field at a byte offset (02 R67, reason 0x04). -/
def badAt (off : Nat) : Nat := 0x04 + 256 * off

/-- The lowest offset of the fields that fail, from (offset, fails) pairs in rising order (02 R67). -/
def firstBad (l : List (Nat × Bool)) : Option Nat := (l.find? (·.2)).map (·.1)

/-! ### Frame bytes -/

/-- The number that bytes, most significant first, spell. -/
def beBytesVal (l : List Byte) : Nat := l.foldl (fun a b => 256 * a + b.toNat) 0

/-- A number as n bytes, most significant first. -/
def beBytes (n x : Nat) : List Byte := (leBytes n x).reverse

/-- A big-endian field of a frame. -/
def beAt (l : List Byte) (off n : Nat) : Nat := beBytesVal ((l.drop off).take n)

/-- One bit of the CRC-32 of IEEE 802.3. -/
def crcBit (c : Nat) : Nat := if c % 2 = 1 then Nat.xor (c / 2) 0xEDB88320 else c / 2

/-- One byte of the CRC-32 of IEEE 802.3. -/
def crcByte (c : Nat) (b : Byte) : Nat := (List.range 8).foldl (fun c _ => crcBit c) (Nat.xor c b.toNat)

/-- The CRC-32 of IEEE 802.3 over bytes, as for an FCS (11 R346, 13 R380). -/
def crc32 (l : List Byte) : Nat := Nat.xor (l.foldl crcByte 0xFFFFFFFF) 0xFFFFFFFF

end Sys2Proof.Machine
end

