-- ==== Sys2Proof/Machine/HostLink.lean ====
section
/-! DEFINITION. The host link of 02: completions, descriptor fetch and checks, ring enables, resets and link events, and the
commands of that chapter. -/

namespace Sys2Proof.Machine

/-! ### Completions (02 R61 to R69, R76, R78, R81, R83) -/

/-- The slots of an SQ. -/
def Dev.sqSize (d : Dev) (n : Nat) : Nat := 2 ^ d.fld (R.HL_SQ_CFG_SIZE_LOG2 n)

/-- The slots of a CQ. -/
def Dev.cqSize (d : Dev) (n : Nat) : Nat := 2 ^ d.fld (R.HL_CQ_CFG_SIZE_LOG2 n)

/-- A CQ is full when the next write would make the write index equal to the released head (02 R65). -/
def Dev.cqFull (d : Dev) (n : Nat) : Bool :=
  decide ((d.fld (R.HL_CQ_TAIL_INDEX n) + 1) % d.cqSize n = d.fld (R.HL_CQ_HEAD_INDEX n))

/-- A discarded completion: counted, and HL_CPL raised (02 R31, R76, R78, R81, R83; 17 R471). -/
def Dev.discardCpl (d : Dev) : Dev := (d.count R.HL_CPL_DISCARD_CNT).raiseFault Src.hlCpl 0

/-- The 16 bytes of a completion (02 R63). -/
def cplBytes (x : HeldCpl) (phase : Nat) : List Byte :=
  leBytes 8 x.ref.cookie.toNat ++ leBytes 2 x.status ++ leBytes 1 (phase + 2 * x.cflags) ++ leBytes 1 x.source ++
    leBytes 4 x.detail

/-- Raises a CQ's vector: every completion written so far counts as signalled (02 R68). -/
def Dev.signalCq (d : Dev) (n : Nat) : Dev :=
  (d.setCq n { d.cq n with unsig := 0 }).raiseVector (d.fld (R.HL_CQ_CFG_VECTOR n))

/-- Writes a completion into its CQ: the slot at the write index with the current phase, the index advanced, the phase
inverted at the wrap (02 R64, R65), the vector by COUNT or NOTIFY (02 R62, R68). COUNT is compared when a completion is written, not
when COUNT is: a COUNT lowered to the number that waits raises no vector before the next completion (DESIGN CHOICE,
notes/assumptions/11.md). -/
def Dev.writeCpl (d : Dev) (x : HeldCpl) : Dev :=
  let n := x.ref.cq
  let i := d.fld (R.HL_CQ_TAIL_INDEX n)
  let ph := d.fld (R.HL_CQ_TAIL_PHASE n)
  let a := d.reg64 (R.HL_CQ_BASE_LO n) (R.HL_CQ_BASE_HI n) + 16 * i
  let old := (List.range 16).map fun k => d.memByte ((a + k) % 2 ^ 64)
  let d := d.memWrite a (cplBytes x ph)
  let wrap := decide (i + 1 = d.cqSize n)
  let d := d.setFld (R.HL_CQ_TAIL_INDEX n) (if wrap then 0 else i + 1)
  let d := if wrap then d.setFld (R.HL_CQ_TAIL_PHASE n) (1 - ph) else d
  let q := d.cq n
  let d := d.setCq n { unsig := q.unsig + 1, oldest := if q.unsig = 0 then d.now else q.oldest, last := some (a, old) }
  if d.flag (R.HL_CQ_CFG_IEN n) &&
      (decide (d.fld (R.HL_CQ_COAL_COUNT n) ≤ q.unsig + 1) || x.ref.notify) then d.signalCq n
  else d

/-- Sets HL_CQn_PEND from the holding store, and FULL with it (02 R76). -/
def Dev.updatePend (d : Dev) (n : Nat) : Dev :=
  let k := (d.hl.held.filter fun x => x.ref.cq == n).length
  (d.setFld (R.HL_CQ_PEND_COUNT n) k).setFlag (R.HL_CQ_STAT_FULL n) (decide (k ≠ 0))

/-- A completion falls due: discarded when owed from before a reset of R82, while the link is down or when its CQ is
disabled; held in order when it cannot be written now, or lost with HELD_OVF when the store of 1,024 is full; else written
(02 R31, R76, R81, R83, R84). -/
def Dev.complete (d : Dev) (ref : CplRef) (status detail source : Nat) (cflags : Nat := 0) : Dev :=
  let n := ref.cq
  let x : HeldCpl := { ref := ref, status := status, detail := detail, cflags := cflags, source := source }
  let d := { d with hl := { d.hl with outst := d.hl.outst.filter fun o => o.2 != ref.id } }
  if ref.epoch ≠ d.hl.epoch ∨ d.flag R.HL_LINK_UP = false ∨ d.flag (R.HL_CQ_CFG_EN n) = false then d.discardCpl
  else if d.canMaster && !d.flag (R.HL_CQ_STAT_FULL n) && !d.cqFull n then d.writeCpl x
  else if d.hl.held.length < 1024 then
    ({ d with hl := { d.hl with held := d.hl.held ++ [x] } }).updatePend n
  else (d.setFlag (R.HL_CQ_STAT_HELD_OVF n) true).discardCpl

/-- Completes a descriptor as BAD_DESCRIPTOR for an invalid field. -/
def Dev.completeBad (d : Dev) (ref : CplRef) (off source : Nat) : Dev :=
  d.complete ref St.badDescriptor (badAt off) source

/-! ### Passing descriptors to blocks (02 R61) -/

/-- Whether an accepted descriptor may pass to its block: no earlier descriptor of its SQ with FENCE still waits, and with
FENCE set itself every earlier descriptor of its SQ has completed (02 R61). -/
def Dev.descReady (d : Dev) (a : AccDesc) : Bool :=
  (d.hl.handed.all fun b => !(b.ref.sq == a.ref.sq && decide (b.ref.id < a.ref.id) && descFence b.word)) &&
  (!descFence a.word || d.hl.outst.all fun o => !(o.1 == a.ref.sq && decide (o.2 < a.ref.id)))

/-- The oldest descriptor, among those that satisfy a test, that may pass to its block now. -/
def Dev.nextDesc (d : Dev) (p : BitVec 256 → Bool) : Option AccDesc :=
  d.hl.handed.find? fun a => p a.word && d.descReady a

/-- Takes a descriptor off the host link. -/
def Dev.takeDesc (d : Dev) (a : AccDesc) : Dev :=
  { d with hl := { d.hl with handed := d.hl.handed.filter fun b => b.ref.id != a.ref.id } }

/-- The block's share of a descriptor: the oldest one that satisfies a test and may pass is taken and handled; without one
nothing happens. -/
def Dev.withDesc (d : Dev) (p : BitVec 256 → Bool) (f : AccDesc → Dev → Dev) : Dev :=
  match d.nextDesc p with
  | some a => f a (d.takeDesc a)
  | none => d

/-! ### Fetch and checks (02 R50, R59, R60, R70, R71, R75, R77) -/

/-- Descriptors of an SQ whose read is in flight. -/
def Dev.inFlight (d : Dev) (n : Nat) : Nat := (d.sq n).reads.sum

/-- The slot from which the next read of an SQ begins. -/
def Dev.fetchPos (d : Dev) (n : Nat) : Nat := (d.fld (R.HL_SQ_HEAD_INDEX n) + d.inFlight n) % d.sqSize n

/-- Whether an SQ has descriptors to fetch and may be fetched from (02 R50, R75, R77, HL_RING_CTRL). -/
def Dev.fetchable (d : Dev) (n : Nat) : Bool :=
  d.flag (R.HL_SQ_CFG_EN n) && !d.flag (R.HL_SQ_STAT_STOPPED n) && !d.flag R.HL_RING_CTRL_QUIESCE &&
  decide (d.fetchPos n ≠ d.fld (R.HL_SQ_TAIL_INDEX n)) &&
  decide (d.fld (R.HL_CQ_PEND_COUNT (d.fld (R.HL_SQ_CFG_CQ n))) = 0)

/-- Whether an SQ is of the urgent class. -/
def Dev.urgent (d : Dev) (n : Nat) : Bool := d.flag (R.HL_SQ_CFG_URGENT n)

/-- The largest read request the host programs, in descriptors of 32 B: 128, 256 or 512 B (02 R43). -/
def Dev.readCap (d : Dev) : Nat := 4 * 2 ^ min 2 d.hl.cfg.mrrs

/-- How many descriptors the next read of an SQ takes: one when urgent, else up to WEIGHT (1 to 8), never across the wrap nor
beyond the largest read request. -/
def Dev.readLen (d : Dev) (n : Nat) : Nat :=
  let size := d.sqSize n
  let p := d.fetchPos n
  let avail := (d.fld (R.HL_SQ_TAIL_INDEX n) + size - p) % size
  let w := if d.urgent n then 1 else max 1 (min 8 (d.fld (R.HL_SQ_CFG_WEIGHT n)))
  min (min w d.readCap) (min avail (size - p))

/-- The reads in flight and the non-urgent descriptors among them. -/
def Dev.readsOut (d : Dev) : Nat := ((List.range 64).map fun n => (d.sq n).reads.length).sum

/-- Non-urgent descriptors in flight. -/
def Dev.slowOut (d : Dev) : Nat := ((List.range 64).map fun n => if d.urgent n then 0 else d.inFlight n).sum

/-- Whether the cap of 512 B on non-urgent read data is in force (02 R71). -/
def Dev.capped (d : Dev) : Bool :=
  d.flag R.HL_RING_CTRL_URG_CAP && (List.range 64).any fun n => d.flag (R.HL_SQ_CFG_EN n) && d.urgent n

/-- The non-urgent SQ whose turn it is: the first fetchable one after the SQ served last (round robin). -/
def Dev.turn (d : Dev) : Option Nat :=
  ((List.range 64).map fun k => (d.hl.rr + 1 + k) % 64).find? fun n => d.fetchable n && !d.urgent n

/-- Whether the module may issue the next read of an SQ now: eight reads at most, an urgent SQ ahead of the others, the others
in turn and within the cap (02 R43, R70, R71). -/
def Dev.mayFetch (d : Dev) (n : Nat) : Bool :=
  d.canMaster && decide (d.readsOut < 8) && d.fetchable n &&
  (d.urgent n ||
    (!((List.range 64).any fun k => d.fetchable k && d.urgent k) && d.turn == some n &&
      (!d.capped || decide (32 * (d.slowOut + d.readLen n) ≤ 512))))

/-- Issues a descriptor read. -/
def Dev.issueRead (d : Dev) (n : Nat) : Dev :=
  let x := d.sq n
  let d' := d.setSq n { x with reads := x.reads ++ [d.readLen n] }
  if d.urgent n then d' else { d' with hl := { d'.hl with rr := n } }

/-- The result of the checks of 02 R59 on a descriptor: none when it passes, else status, DETAIL and SOURCE. `seqOk` and `e`
are R60's verdict and expected value. -/
def Dev.descFault (d : Dev) (n : Nat) (w : BitVec 256) (seqOk : Bool) (e : BitVec 16) : Option (Nat × Nat × Nat) :=
  match descOwner (descType w) with
  | none => some (St.badDescriptor, 0x01, 0x02)
  | some (own, doms) =>
    if bitsOf w 10 2 ≠ 0 then some (St.badDescriptor, 0x02, 0x02)
    else if (d.reg (R.HL_SQ_TYPES n)).getLsbD (descType w / 16) = false then some (St.notPermitted, 0x01, 0x02)
    else if seqOk = false then some (St.badDescriptor, 0x03 + 65536 * e.toNat, 0x02)
    else if doms.any d.domOn then none else some (St.notPermitted, 0x02, own)

/-- Accepts one descriptor: HEAD advances, SEQ is judged (02 R60), the checks of R59 run; it is handed on or completes. -/
def Dev.acceptOne (d : Dev) (n : Nat) (w : BitVec 256) : Dev :=
  let x := d.sq n
  let sq := descSeq w
  let e := if x.first then sq else x.exp
  let ok := decide (sq = e) || (x.failed && decide (sq = x.last + 1))
  let h := d.fld (R.HL_SQ_HEAD_INDEX n)
  let ref : CplRef := { id := d.hl.nextId, sq := n, cq := d.fld (R.HL_SQ_CFG_CQ n), epoch := d.hl.epoch,
                        notify := descNotify w, cookie := descCookie w }
  let a : AccDesc := { ref := ref, word := w,
                       addr := d.reg64 (R.HL_SQ_BASE_LO n) (R.HL_SQ_BASE_HI n) + 32 * h }
  let d := d.setSq n { x with first := false, exp := if ok then sq + 1 else e + 1, last := sq, failed := !ok }
  let d := d.setFld (R.HL_SQ_HEAD_INDEX n) ((h + 1) % d.sqSize n)
  let d := if ok then d else d.setFlag (R.HL_SQ_STAT_SEQ_ERR n) true
  let d := { d with hl := { d.hl with nextId := d.hl.nextId + 1, outst := d.hl.outst ++ [(n, ref.id)] } }
  match d.descFault n w ok e with
  | none => { d with hl := { d.hl with handed := d.hl.handed ++ [a] } }
  | some (st, det, src) => d.complete ref st det src

/-! ### Ring registers (02 R54, R56, R79, R80) -/

/-- A write to an SQ doorbell (02 R54, R56). -/
def Dev.writeSqDb (d : Dev) (n : Nat) (v : Word) : Dev :=
  let i := bitsOf v 0 12
  if d.flag (R.HL_SQ_CFG_EN n) && decide (i < d.sqSize n) then d.setFld (R.HL_SQ_TAIL_INDEX n) i
  else d.setFlag (R.HL_SQ_STAT_DB_ERR n) true

/-- A write to a CQ doorbell: refused too when it would release a slot not yet written (02 R54, R56). -/
def Dev.writeCqDb (d : Dev) (n : Nat) (v : Word) : Dev :=
  let i := bitsOf v 0 12
  let size := d.cqSize n
  let h := d.fld (R.HL_CQ_HEAD_INDEX n)
  let t := d.fld (R.HL_CQ_TAIL_INDEX n)
  if d.flag (R.HL_CQ_CFG_EN n) && decide (i < size ∧ (i + size - h) % size ≤ (t + size - h) % size) then
    d.setFld (R.HL_CQ_HEAD_INDEX n) i
  else d.setFlag (R.HL_CQ_STAT_DB_ERR n) true

/-- SIZE_LOG2 after a write: values other than 4 to 12 leave it unchanged. -/
def sizeField (old v : Nat) : Nat := if 4 ≤ v ∧ v ≤ 12 then v else old

/-- A write to HL_SQn_CFG (02 R79, R80). -/
def Dev.writeSqCfg (d : Dev) (n : Nat) (v : Word) : Dev :=
  let was := d.flag (R.HL_SQ_CFG_EN n)
  let d := d.setFld (R.HL_SQ_CFG_WEIGHT n) ((R.HL_SQ_CFG_WEIGHT n).ext v)
  let d := if was then d else
    ((d.setFld (R.HL_SQ_CFG_URGENT n) ((R.HL_SQ_CFG_URGENT n).ext v)).setFld (R.HL_SQ_CFG_SIZE_LOG2 n)
      (sizeField (d.fld (R.HL_SQ_CFG_SIZE_LOG2 n)) ((R.HL_SQ_CFG_SIZE_LOG2 n).ext v))).setFld (R.HL_SQ_CFG_CQ n)
      ((R.HL_SQ_CFG_CQ n).ext v)
  let d := d.setFlag (R.HL_SQ_CFG_EN n) (v.getLsbD 0)
  if v.getLsbD 0 && !was then
    let d := if d.fld (R.HL_SQ_HEAD_INDEX n) < d.sqSize n then d else d.setFld (R.HL_SQ_HEAD_INDEX n) 0
    let d := d.setFld (R.HL_SQ_TAIL_INDEX n) (d.fld (R.HL_SQ_HEAD_INDEX n))
    (d.setFlag (R.HL_SQ_STAT_STOPPED n) false).setSq n SqHid.init
  else if was && !v.getLsbD 0 then d.setSq n { d.sq n with reads := [] }
  else d

/-- A write to HL_SQn_HEAD (02 R79). -/
def Dev.writeSqHead (d : Dev) (n : Nat) (v : Word) : Dev :=
  if d.flag (R.HL_SQ_CFG_EN n) || decide (d.sqSize n ≤ bitsOf v 0 12) then d
  else d.setFld (R.HL_SQ_HEAD_INDEX n) (bitsOf v 0 12)

/-- Discards the held completions of a CQ (02 R81). -/
def Dev.dropHeld (d : Dev) (n : Nat) : Dev :=
  let k := (d.hl.held.filter fun x => x.ref.cq == n).length
  let d := { d with hl := { d.hl with held := d.hl.held.filter fun x => x.ref.cq != n } }
  (d.forAll (List.range k) fun _ d => d.discardCpl).updatePend n

/-- A write to HL_CQn_CFG (02 R64, R79, R81). -/
def Dev.writeCqCfg (d : Dev) (n : Nat) (v : Word) : Dev :=
  let was := d.flag (R.HL_CQ_CFG_EN n)
  let d := d.setFlag (R.HL_CQ_CFG_IEN n) (v.getLsbD 1)
  let d := if was then d else
    (d.setFld (R.HL_CQ_CFG_SIZE_LOG2 n)
      (sizeField (d.fld (R.HL_CQ_CFG_SIZE_LOG2 n)) ((R.HL_CQ_CFG_SIZE_LOG2 n).ext v))).setFld (R.HL_CQ_CFG_VECTOR n)
      ((R.HL_CQ_CFG_VECTOR n).ext v)
  let d := d.setFlag (R.HL_CQ_CFG_EN n) (v.getLsbD 0)
  if v.getLsbD 0 && !was then
    let d := (d.setFld (R.HL_CQ_TAIL_INDEX n) 0).setFlag (R.HL_CQ_TAIL_PHASE n) true
    (d.setFld (R.HL_CQ_HEAD_INDEX n) 0).setCq n CqHid.init
  else if was && !v.getLsbD 0 then d.dropHeld n
  else d

/-- A write to a ring base register: taken only while EN is 0 (02 R79). -/
def Dev.writeRingBase (d : Dev) (en : Fld) (off : Nat) (v : Word) : Dev :=
  if d.flag en then d else d.writeByCode off v

/-- Whether no descriptor read is in flight while QUIESCE is 1 (HL_RING_CTRL.QUIESCED). -/
def Dev.quiesced (d : Dev) : Bool := d.flag R.HL_RING_CTRL_QUIESCE && decide (d.readsOut = 0)

/-- A write to HL_RING_CTRL. -/
def Dev.writeRingCtrl (d : Dev) (v : Word) : Dev := d.setReg R.HL_RING_CTRL (v &&& 3#32)

/-! ### Resets and the link (02 R82 to R84) -/

/-- The switch forgets every posted receive buffer (13 R399). The completion each one owes is discarded and counted, as R51 and R83
ask of every completion that is not written (DESIGN CHOICE, notes/assumptions/11.md: R399 says nothing of it). -/
def Dev.forgetBufs (d : Dev) : Dev :=
  let ids := d.sw.bufs.map fun b => b.ref.id
  let d := { d with sw := { d.sw with bufs := [] }
                    hl := { d.hl with outst := d.hl.outst.filter fun o => !ids.contains o.2 } }
  d.forAll ids fun _ d => d.discardCpl

/-- A reset of 02 R82: configuration space, the host-ring window, every ring; the completions held are discarded and counted;
descriptors already accepted stay. -/
def Dev.resetLink (d : Dev) : Dev :=
  let k := d.hl.held.length
  let d := d.resetRegs fun o => o / 0x10000 == 1
  let d := { d with hl := { d.hl with epoch := d.hl.epoch + 1, sq := [], cq := [], rr := 63, held := [], msixPend := 0,
                                      msixTab := [], msixEn := false, msixMask := false, bme := false, d3 := false,
                                      cfg := PcieCfg.init } }
  (d.forAll (List.range k) fun _ d => d.discardCpl).forgetBufs

/-- The link goes down: recorded, counted, HL_LINK raised (02 R84, HL_LINK_EVT, 17 R471). -/
def Dev.dropLink (d : Dev) : Dev :=
  if d.flag R.HL_LINK_UP then
    ((((d.setReg R.HL_LINK 0).forgetBufs).setFlag R.HL_LINK_EVT_LINK_DOWN true).count R.HL_LINK_DOWN_CNT).raiseFault Src.hlLink 0
  else d

/-! ### Commands -/

/-- SQ_DOORBELL (02 R54, R56). -/
def execSqDoorbell (n : Fin 64) (tail : BitVec 32) (s : State) : Host.Outcome State Fault Refusal :=
  onDev s fun d => d.access (R.HL_SQDB n) fun d => d.writeSqDb n tail

/-- CQ_DOORBELL (02 R54, R56). -/
def execCqDoorbell (n : Fin 64) (head : BitVec 32) (s : State) : Host.Outcome State Fault Refusal :=
  onDev s fun d => d.access (R.HL_CQDB n) fun d => d.writeCqDb n head

/-- DESCRIPTOR_FETCH (02 R50, R70, R71, R75): the module issues the next read of an SQ when it may. -/
def execDescriptorFetch (n : Fin 64) (s : State) : Host.Outcome State Fault Refusal :=
  onDev s fun d => if d.mayFetch n then d.issueRead n else d

/-- DESCRIPTOR_ACCEPT (02 R51, R59, R60): the oldest read of an SQ ends with these descriptors, as many as it asked for. -/
def execDescriptorAccept (n : Fin 64) (ds : List (BitVec 256)) (s : State) : Host.Outcome State Fault Refusal :=
  onDev s fun d =>
    match (d.sq n).reads with
    | k :: rest =>
      if ds.length = k then ds.foldl (fun d w => d.acceptOne n w) (d.setSq n { d.sq n with reads := rest }) else d
    | [] => d

/-- FETCH_ERR (02 R77): the oldest read of an SQ fails; the SQ stops with HEAD at that read's first slot. -/
def execFetchErr (n : Fin 64) (s : State) : Host.Outcome State Fault Refusal :=
  onDev s fun d =>
    if (d.sq n).reads.isEmpty then d
    else
      let d := d.setSq n { d.sq n with reads := [] }
      let d := (d.setFlag (R.HL_SQ_STAT_FETCH_ERR n) true).setFlag (R.HL_SQ_STAT_STOPPED n) true
      (d.count R.HL_FETCH_ERR_CNT).raiseFault Src.hlFetch 0

/-- HELD_COMPLETION_WRITE (02 R76, R84): the oldest held completion of a CQ is written once its CQ has space and the link
allows. -/
def execHeldCompletionWrite (n : Fin 64) (s : State) : Host.Outcome State Fault Refusal :=
  onDev s fun d =>
    match d.hl.held.find? fun x => x.ref.cq == n.val with
    | some x =>
      if d.canMaster && d.flag (R.HL_CQ_CFG_EN n) && !d.cqFull n then
        (({ d with hl := { d.hl with held := d.hl.held.erase x } }).updatePend n).writeCpl x
      else d
    | none => d

/-- A refused completion write is undone: host memory keeps what the slot held, and the write index, the phase and the count of
unsignalled completions go back, so that the next completion takes the slot (DEDUCED, notes/assumptions/11.md). -/
def Dev.unwriteCpl (d : Dev) (n a : Nat) (old : List Byte) : Dev :=
  let i := d.fld (R.HL_CQ_TAIL_INDEX n)
  let d := d.memWrite a old
  let d := d.setFld (R.HL_CQ_TAIL_INDEX n) (if i = 0 then d.cqSize n - 1 else i - 1)
  let d := if i = 0 then d.setFld (R.HL_CQ_TAIL_PHASE n) (1 - d.fld (R.HL_CQ_TAIL_PHASE n)) else d
  d.setCq n { d.cq n with last := none, unsig := (d.cq n).unsig - 1 }

/-- WRITE_ERR (02 R78): the host refuses the completion written last to a CQ. -/
def execWriteErr (n : Fin 64) (s : State) : Host.Outcome State Fault Refusal :=
  onDev s fun d =>
    let d := match (d.cq n).last with
      | some (a, old) => d.unwriteCpl n a old
      | none => d
    (d.setFlag (R.HL_CQ_STAT_WRITE_ERR n) true).discardCpl

/-- COALESCE_TIMEOUT (02 R68): TIME µs have passed since the oldest unsignalled completion was written. -/
def execCoalesceTimeout (n : Fin 64) (s : State) : Host.Outcome State Fault Refusal :=
  onDev s fun d =>
    let t := d.fld (R.HL_CQ_COAL_TIME n)
    if d.flag (R.HL_CQ_CFG_EN n) && d.flag (R.HL_CQ_CFG_IEN n) && decide (t ≠ 0 ∧ (d.cq n).unsig ≠ 0) &&
        decide ((d.cq n).oldest + usTicks t ≤ d.now) then d.signalCq n
    else d

/-- MSIX_PENDING_SEND (02 R69, R84): a pending vector that may be sent now. -/
def execMsixPendingSend (v : Fin 64) (s : State) : Host.Outcome State Fault Refusal :=
  onDev s fun d =>
    if d.hl.msixPend.getLsbD v && d.canSend v then
      ({ d with hl := { d.hl with msixPend := d.hl.msixPend &&& ~~~(BitVec.ofNat 64 (2 ^ v.val)) } }).sendVector v
    else d

/-- SQ_ENABLE (02 R79): the written word of HL_SQn_CFG. -/
def execSqEnable (n : Fin 64) (cfg : BitVec 32) (s : State) : Host.Outcome State Fault Refusal :=
  onDev s fun d => d.access (R.HL_SQ_CFG n) fun d => d.writeSqCfg n cfg

/-- SQ_DISABLE (02 R80). -/
def execSqDisable (n : Fin 64) (cfg : BitVec 32) (s : State) : Host.Outcome State Fault Refusal :=
  onDev s fun d => d.access (R.HL_SQ_CFG n) fun d => d.writeSqCfg n cfg

/-- CQ_ENABLE (02 R64). -/
def execCqEnable (n : Fin 64) (cfg : BitVec 32) (s : State) : Host.Outcome State Fault Refusal :=
  onDev s fun d => d.access (R.HL_CQ_CFG n) fun d => d.writeCqCfg n cfg

/-- CQ_DISABLE (02 R81). -/
def execCqDisable (n : Fin 64) (cfg : BitVec 32) (s : State) : Host.Outcome State Fault Refusal :=
  onDev s fun d => d.access (R.HL_CQ_CFG n) fun d => d.writeCqCfg n cfg

/-- QUIESCE (02 HL_RING_CTRL). -/
def execQuiesce (v : BitVec 32) (s : State) : Host.Outcome State Fault Refusal :=
  onDev s fun d => d.access R.HL_RING_CTRL fun d => d.writeRingCtrl v

/-- CONVENTIONAL_RESET (02 R82). -/
def execConventionalReset (s : State) : Host.Outcome State Fault Refusal := onDev s Dev.resetLink

/-- HOT_RESET (02 R82). -/
def execHotReset (s : State) : Host.Outcome State Fault Refusal :=
  onDev s fun d => d.resetLink.setFlag R.HL_LINK_EVT_HOT_RESET true

/-- FLR (02 R82). -/
def execFlr (s : State) : Host.Outcome State Fault Refusal :=
  onDev s fun d => d.resetLink.setFlag R.HL_LINK_EVT_FLR true

/-- LINK_DOWN (02 R84). -/
def execLinkDown (s : State) : Host.Outcome State Fault Refusal := onDev s Dev.dropLink

/-- PCIE_LINK_UP (02 R84, HL_LINK): the negotiated speed and width. -/
def execPcieLinkUp (speed : Fin 3) (x2 : Bool) (s : State) : Host.Outcome State Fault Refusal :=
  onDev s fun d =>
    if d.domOn 8 then
      ((d.setFld R.HL_LINK_SPEED (speed + 1)).setFld R.HL_LINK_WIDTH (if x2 then 2 else 1)).setFlag R.HL_LINK_UP true
    else d

/-- D3HOT_ENTRY (02 R84). -/
def execD3hotEntry (s : State) : Host.Outcome State Fault Refusal :=
  onDev s fun d => (({ d with hl := { d.hl with d3 := true } }).forgetBufs).setFlag R.HL_LINK_EVT_D3HOT true

/-- D0_RETURN (02 R84). -/
def execD0Return (s : State) : Host.Outcome State Fault Refusal :=
  onDev s fun d => { d with hl := { d.hl with d3 := false } }

/-- BUS_MASTER_ENABLE_CHANGE (02 R84). -/
def execBusMasterEnableChange (bme : Bool) (s : State) : Host.Outcome State Fault Refusal :=
  onDev s fun d =>
    let d := { d with hl := { d.hl with bme := bme } }
    if bme then d else d.forgetBufs

/-- BAD_ACCESS (02 R45): an access that is not of 4 bytes on a 4-byte boundary is counted and has no other effect. -/
def execBadAccess (off : BitVec 20) (size : Nat) (_wr : Bool) (s : State) : Host.Outcome State Fault Refusal :=
  onDev s fun d => if size = 4 ∧ off.toNat % 4 = 0 then d else d.count R.HL_BAD_ACCESS_CNT

/-- OFF_DOMAIN_ACCESS (01 R24): an access whose register's domain is off is counted and has no other effect. -/
def execOffDomainAccess (off : BitVec 20) (_wr : Bool) (s : State) : Host.Outcome State Fault Refusal :=
  onDev s fun d => d.access off.toNat id

end Sys2Proof.Machine
end

