-- ==== Sys2Proof/Machine/LoopOps.lean ====
section
/-! DEFINITION. The slots of the loop array that other blocks look at (10): the table, the duty an inner slot gives its channel,
the suspension watch, and the lock of R289. -/

namespace Sys2Proof.Machine

/-- A slot at the power-on of PD6 (10 R310). -/
def LoopSlot.init : LoopSlot where
  st := 0
  law := 0
  why := 0
  out := 0
  next := none
  u1 := 0
  u2 := 0
  u3 := 0
  e1 := 0
  e2 := 0
  e3 := 0
  w := 0
  fb := 0
  prev := false
  fresh := false
  catching := false
  hist := []
  resid := 0
  failed := false
  holdAt := 0
  lost := false
  good := 0
  okSince := none
  lastS := none
  fbAge := 0
  acts := []
  cmds := []

/-- A slot. -/
def Dev.slot (d : Dev) (s : Nat) : LoopSlot := sparseGet (fun _ => LoopSlot.init) d.loop s

/-- Sets a slot. -/
def Dev.setSlot (d : Dev) (s : Nat) (x : LoopSlot) : Dev :=
  { d with loop := sparsePut (fun _ => LoopSlot.init) d.loop s x }

/-- A signed register. -/
def Dev.regInt (d : Dev) (off : Nat) : Int := (d.reg off).toInt

/-- A slot's output at an MT: U_MAN while it is OPEN, an output due by then, else the last one (10 R292, R302). -/
def Dev.loopOutAt (d : Dev) (s t : Nat) : Int :=
  let x := d.slot s
  if x.st = 0 then d.regInt (R.LOOP_S_UMAN s)
  else
    match x.next with
    | some (v, o) => if o ≤ t then v else x.out
    | none => x.out

/-- A slot's present output. -/
def Dev.loopOut (d : Dev) (s : Nat) : Int := d.loopOutAt s d.now

/-- The duty and direction in force for a channel at a PWM period start: its loop slot's output under OWNER 1, else CH_DUTY
(07 R208, 10 R288, R292). -/
def Dev.dutyAt (d : Dev) (c t : Nat) : Nat × Bool :=
  if d.owner c = 1 then (min (d.loopOutAt c t).natAbs 65535, decide (d.loopOutAt c t < 0 ∧ d.mode c = 4))
  else (d.fld (R.CH_DUTY_DUTY c), (d.chan c).rev)

/-- What suspends an inner slot: CMD_ON 0, the channel safe, latched or in a retry wait, the stop path active (10 R303). -/
def Dev.loopStopped (d : Dev) (c : Nat) : Bool :=
  !(d.flag (R.CH_STAT_CMD_ON c)) || d.flag (R.CH_STAT_SAFE c) || d.flag (R.CH_STAT_LATCHED c) ||
    d.flag (R.CH_STAT_RETRY_WAIT c) || d.flag R.FLT_STATE_STOP_ACTIVE

/-- One inner slot's suspension, judged every REF100 cycle (10 R303). -/
def Dev.watchSlot (d : Dev) (s : Nat) (x : LoopSlot) : LoopSlot :=
  if 128 ≤ s then x
  else if x.st = 1 ∧ d.loopStopped s = true then { x with st := 2, okSince := none }
  else if x.st = 2 then
    { x with okSince := if d.loopStopped s then none else if x.okSince.isSome then x.okSince else some d.now }
  else x

/-- The suspension watch over the slots (10 R303). -/
def Dev.loopWatch (d : Dev) : Dev := { d with loop := d.loop.map fun p => (p.1, d.watchSlot p.1 p.2) }

/-- Whether slot s writes the set-point of slot t: an outer slot that is CLOSED, HOLD or SAFE, or about to close (10 R289). -/
def Dev.loopFeeds (d : Dev) (s t : Nat) : Bool :=
  let x := d.slot s
  let k := d.fld (R.LOOP_S_CFG_DST_KIND s)
  decide (128 ≤ s) && decide (k = 1 ∨ k = 2) && decide (d.fld (R.LOOP_S_CFG_DST s) = t) &&
    (decide (x.st = 1 ∨ 3 ≤ x.st) || x.cmds.any fun c => match c with | .closing _ => true | _ => false)

/-- Whether a slot's set-point is locked to an outer slot that is CLOSED, HOLD or SAFE (10 R289). -/
def Dev.loopLocked (d : Dev) (t : Nat) : Bool :=
  (List.range 32).any fun k => d.loopFeeds (128 + k) t && decide ((d.slot (128 + k)).st ≠ 0)

/-- The law registers of a slot's law (10 R287). -/
def lawIdx (s l : Nat) : Nat := if s < 128 then s else 128 + 4 * (s - 128) + l

/-- The slot of a law block. -/
def slotOfLaw (j : Nat) : Nat := if j < 128 then j else 128 + (j - 128) / 4

/-- The law a set-point goes to: the running one, or in OPEN and SAFE the one for the next close (10 R299). -/
def Dev.spLaw (d : Dev) (s : Nat) : Nat :=
  let x := d.slot s
  lawIdx s (if x.st = 0 ∨ x.st = 4 then d.fld (R.LOOP_S_CFG_LAW s) else x.law)

/-- The W1C bits of a slot's STAT. -/
def loopW1c : Word := 0x07FF0000#32

/-- Sets a W1C bit of a slot; SUM_IEN lets it raise the vector. -/
def Dev.loopEvent (d : Dev) (f : Fld) : Dev :=
  let d := d.setFlag f true
  if d.flag R.LOOP_IEN_SUM_IEN then d.raiseVector (d.fld R.LOOP_VEC_VECTOR) else d

/-- An inner slot that is CLOSED, HOLD or SAFE keeps its channel's PWM timing (10 R291). -/
def Dev.loopHolds (d : Dev) (c : Nat) : Bool := let k := (d.slot c).st; decide (k = 1 ∨ k = 3 ∨ k = 4)

end Sys2Proof.Machine
end

