-- ==== Sys2Proof/Machine/MachineTime.lean ====
section
/-! DEFINITION. Machine Time of 03: the counter, measurements and the discipline unit, the state machine, offset steps, PPS,
SYNC pins, markers, RTC and the carry-over; and the commands of that chapter but for the CAN reference master's. -/

namespace Sys2Proof.Machine

/-! ### Views and settings -/

/-- OFS in whole ticks, rounded towards minus infinity (03 R89). -/
def Dev.ofsTicks (d : Dev) : Int := d.mt.ofs / 2 ^ 32

/-- GNSS time of an MT, in ticks (03 R89). -/
def Dev.gnssTime (d : Dev) (t : Nat) : Int := (t : Int) + d.ofsTicks

/-- The STATE code of MT: 0 FREERUN, 1 HOLDOVER, 2 LOCKED. -/
def Dev.mtSt (d : Dev) : Nat := d.fld R.MT_STATE_STATE

/-- The distance of OFS from its target, in 2⁻³² ticks. -/
def Dev.ofsErr (d : Dev) : Nat := (d.mt.target * 2 ^ 32 - d.mt.ofs).natAbs

/-- MT_TERR in ns, rounded up; all ones while OFS_VALID is 0 (03 R98; DESIGN CHOICE, notes/assumptions/20.md). -/
def Dev.terr (d : Dev) : Nat :=
  if d.flag R.MT_STATE_OFS_VALID = false then 0xFFFFFFFF
  else if d.mtSt = 2 then min ((d.ofsErr + (2 ^ 34 - 1)) / 2 ^ 34 + d.mt.unc) 0xFFFFFFFE
  else min (d.mt.terrE + (d.fld R.MT_HO_CFG_HO_DRIFT * (d.now - d.mt.terrT) + (secTicks - 1)) / secTicks) 0xFFFFFFFE

/-- RATE as it acts, clamped to ±MT_RATE_LIM (03 R85). -/
def Dev.rateLim (d : Dev) : Int := min (d.reg R.MT_RATE_LIM).toNat 0x010624DD

/-- Clamps a rate word. -/
def Dev.clampRate (d : Dev) (x : Int) : Int := max (-d.rateLim) (min d.rateLim x)

/-- LOSS_TO in ticks. -/
def Dev.lossTicks (d : Dev) : Nat := max 1 (d.fld R.MT_MEAS_CFG_LOSS_TO) * msTicks 100

/-- HOLD_LIMIT in ticks. -/
def Dev.holdTicks (d : Dev) : Nat := max 1 (d.fld R.MT_HO_CFG_HOLD_LIMIT) * secTicks

/-- The sources of MT_SRC_CFG in priority order (03 R93). -/
def Dev.mtSources (d : Dev) : List Nat :=
  [d.fld R.MT_SRC_CFG_PRI0, d.fld R.MT_SRC_CFG_PRI1, d.fld R.MT_SRC_CFG_PRI2].filter (· ≠ 0)

/-- A source's run of good measurements. -/
def Dev.mtRun (d : Dev) (s : Nat) : Nat := sparseGet (fun _ => 0) d.mt.runs s

/-- Sets a source's run. -/
def Dev.setRun (d : Dev) (s k : Nat) : Dev := { d with mt := { d.mt with runs := sparsePut (fun _ => 0) d.mt.runs s k } }

/-- GOOD_CNT (MT_STATE). -/
def Dev.showGood (d : Dev) : Dev :=
  d.setFld R.MT_STATE_GOOD_CNT
    (if d.mtSt = 2 then d.mtRun (d.fld R.MT_STATE_SRC) else (d.mtSources.map d.mtRun).foldl max 0)

/-- The last good m of every source has nothing more to compare with (03 R92). -/
def Dev.clearCompare (d : Dev) : Dev := { d with mt := { d.mt with cmp := [] } }

/-! ### Slew and step (03 R95, R99) -/

/-- DEADBAND in 2⁻³² ticks. -/
def Dev.deadband (d : Dev) : Nat := d.fld R.MT_SLEW_DEADBAND * 2 ^ 32

/-- SLEWING becomes 1 while LOCKED with the offset beyond DEADBAND and no step pending (03 R95). -/
def Dev.updateSlew (d : Dev) : Dev :=
  if d.mt.step.isSome || decide (d.mtSt ≠ 2) then d.setFlag R.MT_STATE_SLEWING false
  else if d.deadband < d.ofsErr then d.setFlag R.MT_STATE_SLEWING true else d

/-- The step of R99: T, the first MT at least 8,000,000 ticks ahead at which MT + OFS_new is a whole GNSS second, with
OFS_new following the target at the measured frequency error; an error f with 1 + f at or below 0, for which R99 gives no instant,
counts as 0 (DESIGN CHOICE, notes/assumptions/14.md). -/
def Dev.planStep (d : Dev) : StepPend :=
  let bad := decide (d.mt.fNum + d.mt.fDen ≤ 0)
  let n : Int := if bad then 0 else d.mt.fNum
  let dn : Int := if bad then 1 else d.mt.fDen
  let t0 : Int := d.now + 8000000
  let s : Int := secTicks
  let k := -((-((t0 + d.mt.target) * dn + n * (t0 - d.mt.measT))) / (dn * s))
  let t := -((-((k * s - d.mt.target) * dn + n * d.mt.measT)) / (dn + n))
  { t := t.toNat, ofs := k * s - t }

/-- Looks for an offset above 1 ms in LOCKED: a pending step with ARM at 1, STEP_NEEDED once per excursion with ARM at 0
(03 R99). -/
def Dev.stepEval (d : Dev) : Dev :=
  if d.mtSt = 2 ∧ d.mt.step = none ∧ 4000000 * 2 ^ 32 < d.ofsErr then
    if d.flag R.MT_STEP_ARM then
      ({ d with mt := { d.mt with step := some d.planStep } }).setFlag R.MT_STATE_STEP_PEND true
    else if d.mt.exc then d
    else ({ d with mt := { d.mt with exc := true } }).mtEvent R.MT_EVT_STEP_NEEDED
  else if d.ofsErr ≤ 4000000 * 2 ^ 32 then { d with mt := { d.mt with exc := false } } else d

/-- What a change of OFS or of DEADBAND does at once: SLEWING follows R95, and the excursion of R99 ends with an offset of 1 ms or
less. -/
def Dev.slewWatch (d : Dev) : Dev :=
  let d := { d with mt := { d.mt with exc := d.mt.exc && decide (4000000 * 2 ^ 32 < d.ofsErr) } }
  d.updateSlew

/-- Drops a pending step (03 R97, R99). -/
def Dev.dropStep (d : Dev) : Dev :=
  ({ d with mt := { d.mt with step := none } }).setFlag R.MT_STATE_STEP_PEND false

/-- A write of ARM to MT_STEP: 0 withdraws a pending step (03 R99). -/
def Dev.writeMtStep (d : Dev) (v : Word) : Dev :=
  if v.getLsbD 0 then ((d.setFlag R.MT_STEP_ARM true).stepEval).updateSlew
  else
    let d' := d.setFlag R.MT_STEP_ARM false
    if d.mt.step.isSome then
      let d' := d'.dropStep
      (({ d' with mt := { d'.mt with exc := true } }).mtEvent R.MT_EVT_STEP_NEEDED).updateSlew
    else d'

/-! ### Measurements (03 R91 to R94, R96, R98, R101) -/

/-- The newest good measurement taken at least 1 s before t: the one with the latest MT, of whichever source (03 R94 names no
source; DEDUCED, notes/assumptions/14.md). -/
def Dev.oldMeas (d : Dev) (t : Nat) : Option Meas :=
  (d.mt.hist.filter fun x => decide (x.t + secTicks ≤ t)).foldr
    (fun x b => match b with
      | some y => if y.t ≤ x.t then some x else some y
      | none => some x) none

/-- The rate update and target of R94, R98, R101 for a good measurement of the active source in LOCKED. With DISC_EN at 0 RATE stays
and the target and the uncertainty follow the measurement all the same, with a frequency error of 0; only a measurement used here
moves the reference instant of R98 and its E (DEDUCED, notes/assumptions/14.md). -/
def Dev.useMeas (d : Dev) (m : Int) (t unc : Nat) : Dev :=
  let old := if d.flag R.MT_DISC_CFG_DISC_EN then d.oldMeas t else none
  let num : Int := match old with | some o => m - o.m | none => 0
  let den : Nat := match old with | some o => t - o.t | none => 1
  let sh : Nat := 2 ^ d.fld R.MT_DISC_CFG_KSHIFT
  let inc : Int := (2 * num * (40 * 2 ^ 32) + den * sh) / (2 * den * sh)
  let d := match old with
    | some _ => d.setReg R.MT_RATE (BitVec.ofInt 32 (d.clampRate ((d.reg R.MT_RATE).toInt + inc)))
    | none => d
  let d := { d with mt := { d.mt with target := m, unc := unc, fNum := num, fDen := den, measT := t, lastGood := d.now } }
  let d := if d.flag R.MT_STATE_OFS_VALID then d
    else ({ d with mt := { d.mt with ofs := m * 2 ^ 32 } }).setFlag R.MT_STATE_OFS_VALID true
  let d := d.stepEval.updateSlew
  { d with mt := { d.mt with terrT := t, terrE := d.terr } }

/-- Enters LOCKED on a source (03 R93, R96). -/
def Dev.enterLocked (d : Dev) (s : Nat) : Dev :=
  let was := d.fld R.MT_STATE_SRC
  let d := (d.setFld R.MT_STATE_STATE 2).setFld R.MT_STATE_SRC s
  let d := if was ≠ 0 ∧ was ≠ s then d.mtEvent R.MT_EVT_SRC_CHANGE else d
  ({ d with mt := { d.mt with exc := false } }).mtEvent R.MT_EVT_LOCKED_IN

/-- Changes the active source in LOCKED (03 R93). -/
def Dev.changeSource (d : Dev) (s : Nat) : Dev :=
  (d.clearCompare.setFld R.MT_STATE_SRC s).mtEvent R.MT_EVT_SRC_CHANGE

/-- Whether source s stands before the active source in MT_SRC_CFG. -/
def Dev.outranks (d : Dev) (s : Nat) : Bool :=
  let l := d.mtSources
  decide (l.idxOf s < l.idxOf (d.fld R.MT_STATE_SRC))

/-- A pair of a source: its time, the MT of the same instant, its uncertainty in ns and whether it is qualified (a
time-valid fix; a reference frame of a LOCKED or HOLDOVER master with GNSS-time content). It is judged (03 R92) and, when
good, used (R93, R94, R96). -/
def Dev.measure (d : Dev) (s : Nat) (time : Int) (t unc : Nat) (qual : Bool) : Dev :=
  if d.mt.loaded && d.mtSources.contains s then
    let bias := toInt 64 (d.reg64 (R.MT_BIAS_LO (s - 1)) (R.MT_BIAS_HI (s - 1)))
    let m := time + bias - t
    let rej := max 1 (d.fld R.MT_MEAS_CFG_REJ) * 4000
    let near := match sparseGet (fun _ => none) d.mt.cmp s with
      | some m0 => decide ((m - m0).natAbs ≤ rej)
      | none => true
    if qual && near && decide (unc ≤ d.fld R.MT_MEAS_CFG_GOOD_TERR) then
      let d := d.setRun s (min 3 (d.mtRun s + 1))
      let d := { d with mt := { d.mt with cmp := sparsePut (fun _ => none) d.mt.cmp s (some m) } }
      let d := d.setReg64 R.MT_MEAS_LO R.MT_MEAS_HI (ofInt 64 m)
      let d :=
        if d.mtSt = 2 then
          if d.fld R.MT_STATE_SRC = s then d.useMeas m t unc
          else if d.mtRun s = 3 ∧ d.outranks s = true then (d.changeSource s).useMeas m t unc
          else d
        else if d.mtRun s = 3 then (d.clearCompare.enterLocked s).useMeas m t unc
        else d
      ({ d with mt := { d.mt with hist := { src := s, m := m, t := t } :: d.mt.hist, goodT := some t } }).showGood
    else (d.setRun s 0).showGood.mtEvent R.MT_EVT_MEAS_REJ
  else d

/-- Leaves LOCKED for HOLDOVER (03 R96, R97). -/
def Dev.enterHoldover (d : Dev) : Dev :=
  let d := (d.dropStep.setFld R.MT_STATE_STATE 1).setFlag R.MT_STATE_SLEWING false
  let d := { d with mt := { d.mt with hoEntry := d.now, runs := [], cmp := [] } }
  d.showGood.mtEvent R.MT_EVT_HOLDOVER_IN

/-- Leaves HOLDOVER for FREERUN (03 R96). -/
def Dev.enterFreerun (d : Dev) : Dev :=
  let d := d.setFld R.MT_STATE_STATE 0
  let d := { d with mt := { d.mt with runs := [], cmp := [] } }
  (d.showGood.mtEvent R.MT_EVT_FREERUN_IN).raiseFault Src.mtFreerun 0

/-- Another source with three good measurements, the newest of them within LOSS_TO (03 R93). -/
def Dev.substitute (d : Dev) : Option (Nat × Nat) :=
  d.mtSources.findSome? fun s =>
    if s ≠ d.fld R.MT_STATE_SRC ∧ d.mtRun s = 3 then
      match d.mt.hist.find? fun x => x.src == s with
      | some x => if d.now < x.t + d.lossTicks then some (s, x.t) else none
      | none => none
    else none

/-! ### PPS (03 R100, R102 to R105) -/

/-- The PPS edge of whole second k under an offset in 2⁻³² ticks: k seconds less the offset and the advance, on the nearest
whole nanosecond, ties upwards (03 R102, R103). -/
def ppsEdge (k ofs dly : Int) : Int :=
  (k * secTicks * 2 ^ 32 - ofs - dly * 2 ^ 32 + 2 ^ 33) / 2 ^ 34 * 4

/-- The offset a PPS output is timed by: OFS, or 0 with BASE = 1. -/
def Dev.ppsOfs (d : Dev) (n : Nat) : Int := if d.flag (R.MT_PPS_CFG_BASE n) then 0 else d.mt.ofs

/-- The last PPS edge at or before MT. -/
def Dev.ppsDue (d : Dev) (n : Nat) : Int :=
  let dly := d.fldInt (R.MT_PPS_DLY_DLY n)
  let ofs := d.ppsOfs n
  ppsEdge (((d.now + dly + 2) * 2 ^ 32 + ofs) / (secTicks * 2 ^ 32)) ofs dly

/-- The PPS edge of the step instant, when a step is pending or was made (03 R100). -/
def Dev.ppsStepEdge (d : Dev) (n : Nat) : Option Int :=
  if d.flag (R.MT_PPS_CFG_BASE n) then none
  else
    match (match d.mt.step with | some p => some p.t | none => d.mt.stepT) with
    | some t => some (((t : Int) - d.fldInt (R.MT_PPS_DLY_DLY n) + 2) / 4 * 4)
    | none => none

/-- Whether an edge falls in the REF100 cycle just counted. -/
def Dev.inCycle (d : Dev) (e : Int) : Bool := decide ((d.mt.prev : Int) < e ∧ e ≤ d.mt.now)

/-- The whole second that the last edge at or before MT stands for. -/
def Dev.ppsSecond (d : Dev) (n : Nat) : Int :=
  ((d.now + d.fldInt (R.MT_PPS_DLY_DLY n) + 2) * 2 ^ 32 + d.ppsOfs n) / (secTicks * 2 ^ 32)

/-- The step instant whose pulse an output owes or has given, with the whole second of it under OFS_new (03 R99, R100). -/
def Dev.ppsStep (d : Dev) : Option (Nat × Int) :=
  match d.mt.step with
  | some p => some (p.t, ((p.t : Int) + p.ofs) / secTicks)
  | none => d.mt.stepT.map fun t => (t, ((t : Int) + d.ofsTicks + secTicks / 2) / secTicks)

/-- What a pulse stands for: BASE, its second, and the step's T when it is the pulse of R100. -/
def Dev.ppsKey (d : Dev) (n : Nat) (stepped : Bool) : Bool × Int × Option Nat :=
  let b := d.flag (R.MT_PPS_CFG_BASE n)
  match stepped, d.ppsStep with
  | true, some (t, k) => (b, k, some t)
  | _, _ => (b, d.ppsSecond n, none)

/-- What the last pulse of an output stood for. -/
def Dev.ppsSec (d : Dev) (n : Nat) : Option (Bool × Int × Option Nat) := sparseGet (fun _ => none) d.mt.ppsSec n

/-- Records what a pulse stands for. -/
def Dev.setPpsSec (d : Dev) (n : Nat) (x : Bool × Int × Option Nat) : Dev :=
  { d with mt := { d.mt with ppsSec := sparsePut (fun _ => none) d.mt.ppsSec n (some x) } }

/-- Whether an output has given this pulse already: each second has one pulse, and so has each step (03 R102). -/
def Dev.ppsGiven (d : Dev) (n : Nat) (stepped : Bool) : Bool :=
  match d.ppsSec n with
  | some (b, k, t) =>
    let x := d.ppsKey n stepped
    b == x.1 && k == x.2.1 && (!stepped || t == x.2.2)
  | none => false

/-- The PPS edge that falls in this REF100 cycle, with its STEPPED flag; none where the output has given that pulse already. -/
def Dev.ppsNow (d : Dev) (n : Nat) : Option (Nat × Bool) :=
  let plain := if d.inCycle (d.ppsDue n) && !d.ppsGiven n false then some ((d.ppsDue n).toNat, false) else none
  match d.ppsStepEdge n with
  | some e => if d.inCycle e && !d.ppsGiven n true then some (e.toNat, true) else plain
  | none => plain

/-- Whether PPSn emits pulses now: with BASE = 0 not while OFS_VALID is 0; not in FREERUN while SUPP_FR is 1 (03 R105). -/
def Dev.ppsRuns (d : Dev) (n : Nat) : Bool :=
  d.flag (R.MT_PPS_CFG_EN n) && d.mt.loaded && (d.flag (R.MT_PPS_CFG_BASE n) || d.flag R.MT_STATE_OFS_VALID) &&
    !(d.flag (R.MT_PPS_CFG_SUPP_FR n) && decide (d.mtSt = 0))

/-- The level of a PPS pin: POL 0 is active high. -/
def Dev.ppsLevel (d : Dev) (n : Nat) : Bool := (d.ppsEnd n).isSome != d.flag (R.MT_PPS_CFG_POL n)

/-- Emits a PPS pulse (03 R102, R104). -/
def Dev.ppsEmit (d : Dev) (n e : Nat) (stepped : Bool) : Dev :=
  let w := min 500000 (max 1 (d.fld (R.MT_PPS_CFG_WIDTH n)))
  let d := d.setPpsSec n (d.ppsKey n stepped)
  let d := (d.setPpsEnd n (some (e + usTicks w))).setReg64 (R.MT_PPS_LAST_LO n) (R.MT_PPS_LAST_HI n) e
  let d := (d.setFlag (R.MT_PPS_REC_STEPPED n) stepped).setFld (R.MT_PPS_REC_STATE n) d.mtSt
  (d.setFld (R.MT_PPS_REC_SEQ n) (d.fld (R.MT_PPS_REC_SEQ n) + 1)).mtEvent ⟨R.MT_EVT, 7 + n, 1⟩

/-! ### SYNC pins (03 R106, R107) -/

/-- MT_SYNC_LVL: the level driven on each pin, 0 while OE is 0. -/
def Dev.syncLevels (d : Dev) : Nat :=
  ((List.range 8).map fun n => if d.flag (R.MT_SYNC_CFG_OE n) && (d.sync n).lvl then 2 ^ n else 0).sum

/-- Ends a pin's pulse operation at an MT without an edge of its own. -/
def Dev.syncCut (d : Dev) (n t : Nat) : Dev :=
  match (d.sync n).pulse with
  | some (_, op) => (d.setSync n { d.sync n with pulse := none }).endOp op t
  | none => d

/-- A write to MT_SYNCn_CFG: OE to 1 drives IDLE, OE to 0 ends a running pulse (03 R107). -/
def Dev.writeSyncCfg (d : Dev) (n : Nat) (v : Word) : Dev :=
  let was := d.flag (R.MT_SYNC_CFG_OE n)
  let d := d.writeByCode (R.MT_SYNC_CFG n) v
  let is := d.flag (R.MT_SYNC_CFG_OE n)
  if is && !was then d.setSync n { d.sync n with lvl := d.flag (R.MT_SYNC_CFG_IDLE n) }
  else if was && !is then d.syncCut n d.now
  else d

/-! ### Markers (03 R108 to R110) -/

/-- Shows a marker FIFO's count and head in its registers (03 R109). -/
def Dev.showMarker (d : Dev) (n : Nat) : Dev :=
  let q := (d.marker n).fifo
  let d := d.setFld (R.MT_MK_STAT_COUNT n) q.length
  match q with
  | (t, r) :: _ => (d.setFlag (R.MT_MK_STAT_HEAD_RISE n) r).setReg64 (R.MT_MK_TS_LO n) (R.MT_MK_TS_HI n) t
  | [] => (d.setFlag (R.MT_MK_STAT_HEAD_RISE n) false).setReg64 (R.MT_MK_TS_LO n) (R.MT_MK_TS_HI n) 0

/-- A recorded edge, or one dropped and counted: too close, or the FIFO full (03 R108, R109). -/
def Dev.markEdge (d : Dev) (n t : Nat) (rising : Bool) : Dev :=
  let x := d.marker n
  let gap := max 2 (d.fld (R.MT_MK_CFG_MIN_GAP n)) * 40
  let close := match x.last with | some l => decide (t < l + gap) | none => false
  if close then d.addFld (R.MT_MK_STAT_DROP n) 1
  else if x.fifo.length < 16 then
    (d.setMarker n { fifo := x.fifo ++ [(t, rising)], last := some t }).showMarker n
  else ((d.addFld (R.MT_MK_STAT_DROP n) 1).setFlag (R.MT_MK_STAT_OVF n) true).mtEvent R.MT_EVT_MK_OVF

/-- Removes the oldest entry of a marker FIFO. -/
def Dev.popMarker (d : Dev) (n : Nat) : Dev :=
  (d.setMarker n { d.marker n with fifo := (d.marker n).fifo.tail }).showMarker n

/-- A write to MT_MKn_STAT: OVF written 1 clears OVF and DROP. -/
def Dev.writeMkStat (d : Dev) (n : Nat) (v : Word) : Dev :=
  if v.getLsbD 8 then (d.setFlag (R.MT_MK_STAT_OVF n) false).setFld (R.MT_MK_STAT_DROP n) 0 else d

/-- A write to MT_MKn_CFG; SRC exists for inputs 6 and 7 only. -/
def Dev.writeMkCfg (d : Dev) (n : Nat) (v : Word) : Dev :=
  d.setReg (R.MT_MK_CFG n) (v &&& (if 6 ≤ n then 0xFF0F#32 else 0xFF07#32))

/-! ### The counter, capture, RTC -/

/-- The REF100 cycle of R85, with the slew of R95 in whole 2⁻³² ticks, never past the target. -/
def Dev.refCycle (d : Dev) : Dev :=
  let acc : Int := (d.mt.now : Int) * 2 ^ 32 + d.mt.frac + 40 * 2 ^ 32 + d.clampRate (d.reg R.MT_RATE).toInt
  let acc := (acc % 2 ^ 96).toNat
  let ppm := min 200 (max 1 (d.fld R.MT_SLEW_SLEW_PPM))
  let move : Int := (ppm * 40 * 2 ^ 32 / 1000000 : Nat)
  let goal := d.mt.target * 2 ^ 32
  let ofs := if d.flag R.MT_STATE_SLEWING && decide (d.deadband < d.ofsErr) then
      (if d.mt.ofs < goal then min goal (d.mt.ofs + move) else max goal (d.mt.ofs - move))
    else d.mt.ofs
  { d with mt := { d.mt with prev := d.mt.now, now := acc / 2 ^ 32, frac := acc % 2 ^ 32, ofs := ofs,
                             cyc := d.mt.cyc + 1 } }

/-- A CAPTURE write (03 R88). -/
def Dev.writeSnap (d : Dev) (v : Word) : Dev :=
  if v.getLsbD 0 then
    (d.setReg64 R.MT_SNAP_LO R.MT_SNAP_HI d.now).setReg64 R.MT_SNAP_GT_LO R.MT_SNAP_GT_HI (ofInt 64 (d.gnssTime d.now))
  else d

/-- A write to MT_RATE: no effect while the discipline unit steers (03 R87). -/
def Dev.writeMtRate (d : Dev) (v : Word) : Dev := if d.flag R.MT_DISC_CFG_DISC_EN then d else d.setReg R.MT_RATE v

/-- A SUBMIT write: the pair of the PAIR registers as source 2 (03 R92). -/
def Dev.writePair (d : Dev) (v : Word) : Dev :=
  if v.getLsbD 0 then
    d.measure 2 (d.reg64 R.MT_PAIR_ST_LO R.MT_PAIR_ST_HI) (d.reg64 R.MT_PAIR_MT_LO R.MT_PAIR_MT_HI) (bitsOf v 16 16) true
  else d

/-- A SET write: the RTC takes the MT_RTC_SET of this instant at its next edge (03 R115; DEDUCED, notes/assumptions/21.md). -/
def Dev.writeRtcCmd (d : Dev) (v : Word) : Dev :=
  if v.getLsbD 0 then
    { d with rtc := { d.rtc with load := some (d.reg64 R.MT_RTC_SET_LO R.MT_RTC_SET_HI % 2 ^ 48) } }
  else d

/-- The RTC at an edge that brings its count to n: a load that waits is made there and sets RTC_VALID (03 R115). -/
def Rtc.edge (r : Rtc) (n : Nat) : Rtc :=
  match r.load with
  | some v => { r with cnt := v, valid := true, load := none }
  | none => { r with cnt := n % 2 ^ 48 }

/-- The 32.768 kHz clock over one REF100 cycle (03; DESIGN CHOICE, notes/assumptions/21.md). -/
def Dev.rtcCycle (d : Dev) : Dev :=
  let p := d.rtc.phase + Config.rtcAdvance d.mt.cyc
  let r := { d.rtc with phase := p % 2 ^ 64 }
  { d with rtc := if p < 2 ^ 64 then r else r.edge (r.cnt + p / 2 ^ 64) }

/-- A write to MT_SLEW: SLEWING follows a changed DEADBAND at once (03 R95). -/
def Dev.writeSlew (d : Dev) (v : Word) : Dev := (d.writeByCode R.MT_SLEW v).slewWatch

/-- A write to MT_SRC_CFG: GOOD_CNT is that of the sources now named (MT_STATE). -/
def Dev.writeSrcCfg (d : Dev) (v : Word) : Dev := (d.writeByCode R.MT_SRC_CFG v).showGood

/-- A write to MT_CANREF_CFG; MASTER_EN to 1 starts the reference frames anew (03 R111). -/
def Dev.writeCanref (d : Dev) (v : Word) : Dev :=
  let was := d.flag R.MT_CANREF_CFG_MASTER_EN
  let d := d.writeByCode R.MT_CANREF_CFG v
  if d.flag R.MT_CANREF_CFG_MASTER_EN then
    if was then d else { d with mt := { d.mt with refSeq := 0, refSof := none, refNext := some d.now } }
  else { d with mt := { d.mt with refNext := none } }

/-- The PD3 side of MT made ready: READY of MT and of the schedule (03 R115, 04 R142). -/
def Dev.mtReady (d : Dev) : Dev := (d.setFlag R.MT_STATE_READY true).setFlag R.SCH_STAT_READY true

/-- RTC cycles as 2⁻³² ticks: each is 122,070.3125 ticks (03). -/
def rtcTicks (n : Nat) : Nat := n * 1953125 * 2 ^ 28

/-- MT loaded from the carry-over record (03 R114). A wake into HOLDOVER counts its HOLD_LIMIT on from the later of the old HOLDOVER
entry and the last good measurement, not from the wake (DEDUCED, notes/assumptions/14.md). -/
def Dev.loadCarry (d : Dev) (c : Carry) (rtc : Nat) : Dev :=
  let dn := (rtc + 2 ^ 48 - c.rtc) % 2 ^ 48
  let adv : Int := (rtcTicks dn : Int) * (1000000000000 + c.cal.toInt) / 1000000000000
  let acc := ((c.mt : Int) * 2 ^ 32 + adv).toNat
  let mt := acc / 2 ^ 32
  let ns := (mt - c.mt) / 4
  let grow := (d.fld R.MT_CARRY_CFG_CARRY_PPB * ns + 999999999) / 1000000000 + 30500
  let lim := d.holdTicks
  let from_ := (if c.state = 1 then [c.hoEntry] else []) ++ c.goodT.toList
  let ref := from_.foldl max 0
  let ho := from_.any fun t => decide (mt - t < lim)
  let d := { d with mt := { d.mt with now := mt, prev := mt, frac := acc % 2 ^ 32, loaded := true, ofs := c.ofs,
                                      target := c.ofs / 2 ^ 32, goodT := c.goodT, hoEntry := ref, terrT := mt,
                                      terrE := min (c.terr + grow) 0xFFFFFFFE } }
  let d := ((d.setReg R.MT_RATE c.rate).setFlag R.MT_STATE_OFS_VALID c.ofsValid).setReg R.MT_RTC_CAL c.cal
  (d.setFld R.MT_STATE_STATE (if ho then 1 else 0)).mtReady

/-- MT loaded after a cold start: from the RTC when it is valid, else from 0 (03 R115). -/
def Dev.loadCold (d : Dev) (rtc : Nat) : Dev :=
  let acc := if d.rtc.valid then rtcTicks rtc else 0
  let mt := acc / 2 ^ 32
  ({ d with mt := { d.mt with now := mt, prev := mt, frac := acc % 2 ^ 32, loaded := true, terrT := mt } }).mtReady

/-- The RTC at the edge at which a command falls, with the count that its reader sees: a load that waited has been made. -/
def Dev.setRtc (d : Dev) (n : Nat) : Dev :=
  { d with rtc := { cnt := n, valid := d.rtc.valid || d.rtc.load.isSome, phase := 0, load := none } }

/-! ### Commands -/

/-- REF100_CYCLE (10 R303, 03 R85): MT counts only while it is loaded and REF100 is present (R116); OFS slews and the RTC runs
beside it. -/
def execRef100Cycle (s : State) : Host.Outcome State Fault Refusal :=
  onDev s fun d => if d.mt.loaded && d.mt.refOk then d.refCycle.rtcCycle.slewWatch.loopWatch else d

/-- MT_CAPTURE (03 R88). -/
def execMtCapture (v : BitVec 32) (s : State) : Host.Outcome State Fault Refusal :=
  onDev s fun d => d.access R.MT_SNAP_CMD fun d => d.writeSnap v

/-- PAIR_SUBMIT (03 R92). -/
def execPairSubmit (v : BitVec 32) (s : State) : Host.Outcome State Fault Refusal :=
  onDev s fun d => d.access R.MT_PAIR_CMD fun d => d.writePair v

/-- LOSS_TO_EXPIRY (03 R93, R96). -/
def execLossToExpiry (s : State) : Host.Outcome State Fault Refusal :=
  onDev s fun d =>
    if d.mtSt = 2 ∧ d.mt.lastGood + d.lossTicks ≤ d.now then
      match d.substitute with
      | some (x, t) => ({ (d.changeSource x) with mt := { (d.changeSource x).mt with lastGood := t } }).showGood
      | none => d.enterHoldover
    else d

/-- HOLD_LIMIT_EXPIRY (03 R96). -/
def execHoldLimitExpiry (s : State) : Host.Outcome State Fault Refusal :=
  onDev s fun d => if d.mtSt = 1 ∧ d.mt.hoEntry + d.holdTicks ≤ d.now then d.enterFreerun else d

/-- SLEW_DONE (03 R95). -/
def execSlewDone (s : State) : Host.Outcome State Fault Refusal :=
  onDev s fun d =>
    if d.flag R.MT_STATE_SLEWING && decide (d.ofsErr ≤ d.deadband) then
      (d.setFlag R.MT_STATE_SLEWING false).mtEvent R.MT_EVT_SLEW_DONE
    else d

/-- STEP_ARM (03 R99). -/
def execStepArm (s : State) : Host.Outcome State Fault Refusal :=
  onDev s fun d => d.access R.MT_STEP fun d => d.writeMtStep 1

/-- STEP_WITHDRAW (03 R99). -/
def execStepWithdraw (s : State) : Host.Outcome State Fault Refusal :=
  onDev s fun d => d.access R.MT_STEP fun d => d.writeMtStep 0

/-- OFS_STEP (03 R99): at T the pending step is made. -/
def execOfsStep (s : State) : Host.Outcome State Fault Refusal :=
  onDev s fun d =>
    match d.mt.step with
    | some p =>
      if p.t ≤ d.now then
        let d := { d with mt := { d.mt with ofs := p.ofs * 2 ^ 32, stepT := some p.t } }
        let d := (d.dropStep.setFlag R.MT_STEP_ARM false).mtEvent R.MT_EVT_STEPPED
        d.stepEval.updateSlew
      else d
    | none => d

/-- PPS_PULSE (03 R102, R104, R105): the leading edge that falls in the REF100 cycle just counted. -/
def execPpsPulse (n : Fin 2) (s : State) : Host.Outcome State Fault Refusal :=
  onDev s fun d =>
    match d.ppsNow n with
    | some (e, st) => if d.ppsRuns n then d.ppsEmit n e st else d
    | none => d

/-- PPS_PULSE_END (03 R102). -/
def execPpsPulseEnd (n : Fin 2) (s : State) : Host.Outcome State Fault Refusal :=
  onDev s fun d =>
    match d.ppsEnd n with
    | some t => if t ≤ d.now then d.setPpsEnd n none else d
    | none => d

/-- SYNC_PULSE_END (03 R106): the pin returns to IDLE and the operation ends. -/
def execSyncPulseEnd (n : Fin 8) (s : State) : Host.Outcome State Fault Refusal :=
  onDev s fun d =>
    match (d.sync n).pulse with
    | some (t, op) =>
      if t ≤ d.now then (d.setSync n { lvl := d.flag (R.MT_SYNC_CFG_IDLE n), pulse := none }).endOp op t else d
    | none => d

/-- MARKER_EDGE (03 R108 to R110): an edge on MKn, or on the token marker line with `tok`. -/
def execMarkerEdge (n : Fin 8) (tok : Bool) (t : BitVec 64) (rising : Bool) (s : State) :
    Host.Outcome State Fault Refusal :=
  onDev s fun d =>
    if d.mt.loaded && d.flag (R.MT_MK_CFG_EN n) && (d.flag (R.MT_MK_CFG_SRC n) == tok) &&
        (d.reg (R.MT_MK_CFG n)).getLsbD (if rising then 1 else 2) then d.markEdge n t.toNat rising
    else d

/-- MK_POP (03 R109). -/
def execMkPop (n : Fin 8) (v : BitVec 32) (s : State) : Host.Outcome State Fault Refusal :=
  onDev s fun d => d.access (R.MT_MK_POP n) fun d => if v.getLsbD 0 then d.popMarker n else d

/-- RTC_SET (03 R115). -/
def execRtcSet (v : BitVec 32) (s : State) : Host.Outcome State Fault Refusal :=
  onDev s fun d => d.access R.MT_RTC_CMD fun d => d.writeRtcCmd v

/-- MT_LOAD (03 R114, R115): at an RTC edge after PD3 is on, REF100 present and the PLL locked, MT is loaded; the wake has
completed (16 R466). -/
def execMtLoad (rtc : BitVec 48) (s : State) : Host.Outcome State Fault Refusal :=
  onDev s fun d =>
    if d.domOn 3 && d.pwr.pll && d.mt.refOk && !d.mt.loaded then
      let d := match d.carry with
        | some c => (d.setRtc rtc.toNat).loadCarry c rtc.toNat
        | none => (d.setRtc rtc.toNat).loadCold rtc.toNat
      d.pwrEvent R.PWR_EVT_WOKE
    else d

/-- MT_FALLOW_RECORD (03 R113): at an RTC edge of Fallow entry the record is written to AON retained memory. -/
def execMtFallowRecord (rtc : BitVec 48) (cal : BitVec 32) (s : State) : Host.Outcome State Fault Refusal :=
  onDev s fun d =>
    if d.mt.loaded && d.pwr.park == .closed && decide (d.pwr.parkAt + secTicks ≤ d.now) then
      let d := (d.setReg R.MT_RTC_CAL cal).setRtc rtc.toNat
      let c : Carry := { mt := d.now, rtc := rtc.toNat, ofs := d.mt.ofs, rate := d.reg R.MT_RATE, terr := d.terr,
                         state := d.mtSt, ofsValid := d.flag R.MT_STATE_OFS_VALID, goodT := d.mt.goodT,
                         hoEntry := d.mt.hoEntry, cal := cal }
      { d with carry := some c, pwr := { d.pwr with mtRec := true } }
    else d

/-- MT_REF (03 R116): REF100 is absent or deviates by more than 500 ppm. -/
def execMtRef (absent : Bool) (s : State) : Host.Outcome State Fault Refusal :=
  onDev s fun d =>
    if d.domOn 3 then
      let d := if absent then { d with mt := { d.mt with refOk := false } } else d
      d.setLine Src.mtRef 0
    else d

end Sys2Proof.Machine
end

