-- ==== Sys2Proof/Machine/EngOps.lean ====
section
/-! DEFINITION. The Tchitis engines of 11 beside their instructions: roles, notices, start, stop and wake. -/

namespace Sys2Proof.Machine

/-- An engine after the power-on of its cluster (11 R318, R326, R353). -/
def Eng.init : Eng where
  g := []
  pc := 0
  flags := 0
  rc := 0
  epc := 0
  ecause := 0
  eval := 0
  erc := 0
  eflags := 0
  tvec := 0
  ivec := 0
  ien := 0
  evb := 0
  stk := []
  sp := 0
  rsd := 0
  mthi := 0
  tcmp := 0xFFFFFFFFFFFFFFFF
  rxmt := 0
  notes := []
  outst := 0
  mbox := false
  rep := none
  ld := none
  wait := none
  notBefore := 0
  imem := []
  dmem := []
  htvec := 0
  hivec := 0
  hoBase := 0
  hoLen := 0
  fromFlash := false
  imgAddr := 0
  load := none
  stopReq := false

/-- An engine. -/
def Dev.engine (d : Dev) (n : Nat) : Eng := sparseGet (fun _ => Eng.init) d.eng.eng n

/-- Sets an engine. -/
def Dev.setEngine (d : Dev) (n : Nat) (x : Eng) : Dev :=
  { d with eng := { d.eng with eng := sparsePut (fun _ => Eng.init) d.eng.eng n x } }

/-- The role an engine holds (11 R316, R317). -/
def Dev.role (d : Dev) (n : Nat) : Nat := sparseGet id d.eng.roles n

/-- The engine that holds a role. -/
def Dev.roleHolder (d : Dev) (r : Nat) : Nat := ((List.range 16).find? fun n => d.role n == r).getD r

/-- Two engines exchange roles (11 R349). -/
def Dev.swapRoles (d : Dev) (a b : Nat) : Dev :=
  { d with eng := { d.eng with roles := sparsePut id (sparsePut id d.eng.roles a (d.role b)) b (d.role a) } }

/-- The flash address of an engine's image under AUTOLOAD (11 R353, R354). -/
def Dev.autoload (d : Dev) (n : Nat) : Option Nat := sparseGet (fun _ => none) d.eng.auto n

/-- Sets AUTOLOAD's image address. -/
def Dev.setAutoload (d : Dev) (n : Nat) (x : Option Nat) : Dev :=
  { d with eng := { d.eng with auto := sparsePut (fun _ => none) d.eng.auto n x } }

/-- The domain of an engine's cluster. -/
def engDom (n : Nat) : Nat := if n < 8 then 4 else 5

/-- STATE of an engine: 0 STOPPED, 1 RUNNING, 2 WAITING, 3 LOADING, 4 SHADOW, 5 RETIRING (11 R341). -/
def Dev.engSt (d : Dev) (n : Nat) : Nat := d.fld (R.ENG_STAT_STATE n)

/-- Sets an engine's STATE. -/
def Dev.setEngSt (d : Dev) (n k : Nat) : Dev := d.setFld (R.ENG_STAT_STATE n) k

/-- An event of an engine. -/
def Dev.engEvent (d : Dev) (n : Nat) (f : Fld) : Dev := d.event (R.ENG_EVT n) f.lo (R.ENG_IEN n) (R.ENG_VEC n)

/-- A retiring engine whose last outstanding EMIT is done becomes STOPPED (11 R349, R352). -/
def Dev.retireCheck (d : Dev) (n : Nat) : Dev :=
  if d.engSt n = 5 ∧ (d.engine n).outst = 0 then (d.setEngSt n 0).engEvent n (R.ENG_EVT_RETIRED n) else d

/-- Removes the oldest notice, with its outstanding EMIT (11 R334, NPOP). -/
def Dev.popNotice (d : Dev) (n : Nat) : Dev :=
  let x := d.engine n
  if x.notes.isEmpty then d else d.setEngine n { x with notes := x.notes.tail, outst := x.outst - 1 }

/-- A notice arrives; a retiring engine's notices are drained at once (11 R335, R352). -/
def Dev.pushNotice (d : Dev) (n : Nat) (x : Notice) : Dev :=
  let d := d.setEngine n { d.engine n with notes := (d.engine n).notes ++ [x] }
  if d.engSt n = 5 then (d.popNotice n).retireCheck n else d

/-- Drains every notice of an engine that has become RETIRING (11 R352). -/
def Dev.drainNotices (d : Dev) (n : Nat) : Dev :=
  let x := d.engine n
  (d.setEngine n { x with notes := [], outst := x.outst - x.notes.length }).retireCheck n

/-- Starts an engine at an address with the registers of 11 R342; the first instruction does not issue before an MT. -/
def Dev.startEng (d : Dev) (n addr : Nat) (evb : Word) (notBefore : Nat) : Dev :=
  let x := d.engine n
  let d := d.setEngine n { x with g := [], pc := addr, rc := 0, flags := 0, stk := [], sp := 0, rsd := 0, ien := 0,
                                  tcmp := 0xFFFFFFFFFFFFFFFF, tvec := x.htvec, ivec := x.hivec, evb := evb, rep := none,
                                  ld := none, wait := none, notBefore := notBefore, stopReq := false }
  d.setEngSt n 1

/-- The start address register as a byte address. -/
def Dev.engEntry (d : Dev) (n : Nat) (wake : Bool) : Nat :=
  4 * (if wake then d.fld (R.ENG_WENTRY_ADDR n) else d.fld (R.ENG_ENTRY_ADDR n))

/-- Writes a general register; g0 ignores it (11 R318). -/
def Eng.setG (x : Eng) (r : Nat) (v : Word) : Eng :=
  if r = 0 then x else { x with g := sparsePut (fun _ => 0) x.g r v }

/-- Reads a general register; g0 reads 0. -/
def Eng.gr (x : Eng) (r : Nat) : Word := if r = 0 then 0 else sparseGet (fun _ => 0) x.g r

/-- The pending load writes its register (11 R320). -/
def Eng.endLoad (x : Eng) : Eng :=
  match x.ld with
  | some l => { (x.setG l.rd l.val) with ld := none }
  | none => x

/-- An engine stops: state, STOP_WHY and the code of the stop (11 R330, R343, R372). -/
def Dev.stopEng (d : Dev) (n st why code : Nat) : Dev :=
  let d := d.setEngine n { (d.engine n).endLoad with rep := none, wait := none, stopReq := false }
  ((d.setEngSt n st).setFld (R.ENG_STAT_STOP_WHY n) why).setFld (R.ENG_TRAP_CAUSE n) code

/-- Whether STOP or a swap may stop an engine at this boundary: not inside a REP (11 R325). -/
def Dev.mayStop (d : Dev) (n : Nat) : Bool :=
  match (d.engine n).rep with
  | some r => r.intr && !r.fresh
  | none => true

/-! ### ENG_WAKE (11 R333, R353) -/

/-- What the target check finds for an ENG_WAKE. -/
inductive WakeKind where
  | deliver
  | start
  | cluster
  | refuse
  deriving DecidableEq, Repr

/-- The effect an ENG_WAKE for a role would have now (11 R333). -/
def Dev.wakeKind (d : Dev) (r : Nat) : WakeKind :=
  let n := d.roleHolder r
  if d.domOn (engDom n) = false then (if (d.autoload n).isSome then .cluster else .refuse)
  else if d.engSt n = 1 ∨ d.engSt n = 2 then .deliver
  else if d.engSt n = 0 ∧ d.flag (R.ENG_STAT_IMG_VALID n) = true ∧ d.flag (R.ENG_CTRL_WAKE_START n) = true then .start
  else .refuse

/-- ORs event bits into EVB. -/
def Dev.orEvb (d : Dev) (n : Nat) (v : Word) : Dev := d.setEngine n { d.engine n with evb := (d.engine n).evb ||| v }

end Sys2Proof.Machine
end

