-- ==== Sys2Proof/Machine/SchedOps.lean ====
section
/-! DEFINITION. The sowing schedule of 04 up to the commit: entries, order, parse, quotas, insertion, outcomes and removal;
and the insertion commands. -/

namespace Sys2Proof.Machine

/-- An action as its descriptor, EMIT block or template gives it (04 R120, R123), with whether a reserved bit of FLAGS [7:5]
or of byte 13 is set. -/
structure ActFields where
  fire : Nat
  action : Nat
  prio : Nat
  policy : Nat
  target : Nat
  arg : Word
  maxLate : Nat
  group : Nat
  imm : Bool
  resFlags : Bool
  res13 : Bool
  deriving DecidableEq, Repr

/-- The fields of a schedule-action descriptor (04 R120). -/
def actOfDesc (w : BitVec 256) : ActFields where
  fire := descField w 4 8
  action := byteOf w 12
  prio := bitsOf w 104 3
  policy := bitsOf w 107 2
  target := descField w 14 2
  arg := BitVec.ofNat 32 (descField w 16 4)
  maxLate := descField w 20 2
  group := descField w 22 2
  imm := w.getLsbD 12
  resFlags := decide (bitsOf w 13 3 ≠ 0)
  res13 := decide (bitsOf w 109 3 ≠ 0)

/-- The fields of an EMIT block of 24 bytes (04 R123). -/
def actOfEmit (w : BitVec 192) : ActFields where
  fire := bitsOf w 0 64
  action := byteOf w 8
  prio := bitsOf w 72 3
  policy := bitsOf w 75 2
  target := bitsOf w 80 16
  arg := BitVec.ofNat 32 (bitsOf w 96 32)
  maxLate := bitsOf w 128 16
  group := bitsOf w 144 16
  imm := w.getLsbD 160
  resFlags := decide (bitsOf w 161 31 ≠ 0)
  res13 := decide (bitsOf w 77 3 ≠ 0)

/-- Whether an action code is in the table of 04 R121. -/
def isAction (a : Nat) : Bool := decide ((1 ≤ a ∧ a ≤ 0x0D) ∨ a = 0x0F)

/-- Whether TARGET lies in the range of its action (04 R121). -/
def targetOk (a t : Nat) : Bool :=
  match a with
  | 0x01 => decide (t < 128)
  | 0x02 => decide (t < 128)
  | 0x03 => decide (t < 128)
  | 0x04 => decide (t < 128)
  | 0x05 => decide (t < 160)
  | 0x06 => decide (128 ≤ t ∧ t < 160)
  | 0x07 => decide (t < 128)
  | 0x08 => decide (t < 1024)
  | 0x09 => decide (t < 8)
  | 0x0B => decide (t < 8)
  | 0x0C => decide (t < 8)
  | 0x0D => decide (t < 16)
  | _ => decide (t = 0)

/-- Whether ARG lies in the range of its action (04 R121). -/
def argOk (a : Nat) (v : Nat) : Bool :=
  match a with
  | 0x01 => decide (v ≤ 2)
  | 0x02 => decide (v < 65536)
  | 0x03 => decide (1 ≤ v)
  | 0x04 => decide (v < 256)
  | 0x05 => true
  | 0x06 => decide (v < 16)
  | 0x07 => decide (1 ≤ v ∧ v ≤ 3)
  | 0x09 => true
  | 0x0B => decide (v ≤ 1)
  | 0x0C => true
  | 0x0D => decide (v < 65536)
  | _ => decide (v = 0)

/-- The lowest descriptor offset at which an action fails its parse at an MT (04 R122). -/
def ActFields.bad (f : ActFields) (now : Nat) : Option Nat :=
  firstBad [(1, f.resFlags),
            (4, !f.imm && decide (now + 2 ^ 44 < f.fire)),
            (12, !isAction f.action),
            (13, f.res13 || decide (f.policy = 3) || (f.imm && decide (f.prio ≠ 0))),
            (14, isAction f.action && !targetOk f.action f.target),
            (16, isAction f.action && !argOk f.action f.arg.toNat)]

/-- The placement step of an action, in ticks (04 R130). -/
def stepOf (a : Nat) : Nat := if a = 0x0A ∨ a = 0x0B ∨ a = 0x0C then 4 else 40

/-- The dispatch lead of an action, in ticks (04 R130). -/
def leadOf (a : Nat) : Nat :=
  match a with
  | 0x05 => 2000
  | 0x06 => 2000
  | 0x08 => 2000
  | 0x09 => 2000
  | 0x0A => 2000
  | 0x0B => 800
  | 0x0C => 800
  | 0x0D => 800
  | 0x0F => 0
  | _ => 4000

/-- SCH_IMM_DELAY (04 R126, R133). -/
def immDelay : Nat := 14600

/-- SCH_HORIZON (04 R124). -/
def horizon : Nat := 80000

/-! ### Entries and occupancy -/

/-- The class of a source: 0 host, 1 engine, 2 boundary unit, 3 MT block (04 R117). -/
def EntSrc.cls : EntSrc → Nat
  | .host _ _ => 0
  | .eng _ _ => 1
  | .bnd _ => 2
  | .mt => 3

/-- Whether an entry is uncommitted. -/
def Entry.uncommitted (e : Entry) : Bool := e.st == .waiting || e.st == .redo

/-- The schedule order: requested fire time, priority, insertion number (04 R119). -/
def Entry.before (a b : Entry) : Bool :=
  decide (a.fire < b.fire) ||
  (decide (a.fire = b.fire) && (decide (a.prio < b.prio) || (decide (a.prio = b.prio) && decide (a.ins < b.ins))))

/-- The entry with an insertion number. -/
def Dev.entry (d : Dev) (ins : Nat) : Option Entry := d.sch.ents.find? fun e => e.ins == ins

/-- Replaces an entry. -/
def Dev.setEntry (d : Dev) (x : Entry) : Dev :=
  { d with sch := { d.sch with ents := d.sch.ents.map fun e => if e.ins = x.ins then x else e } }

/-- Drops an entry. -/
def Dev.dropEntry (d : Dev) (ins : Nat) : Dev :=
  { d with sch := { d.sch with ents := d.sch.ents.filter fun e => e.ins != ins } }

/-- Entries held of a class (SCH_OCC0, SCH_OCC1). -/
def Dev.occupancy (d : Dev) (c : Nat) : Nat := (d.sch.ents.filter fun e => e.src.cls == c).length

/-- Reserved entries in use (SCH_OCC1.RSV). -/
def Dev.reserveUsed (d : Dev) : Nat := (d.sch.ents.filter (·.rsv)).length

/-- Commit-window places held (SCH_WIN). -/
def Dev.windowUsed (d : Dev) : Nat := (d.sch.ents.filter (·.win)).length

/-- A class's quota. -/
def Dev.quota (d : Dev) (c : Nat) : Nat :=
  match c with
  | 0 => d.fld R.SCH_QUOTA_HOST_QUOTA
  | 1 => d.fld R.SCH_QUOTA_ENG_QUOTA
  | 2 => d.fld R.SCH_QUOTA_BND_QUOTA
  | _ => 0

/-- Whether an insertion of a class is within its quota, judged on the entries that hold no reserved one (04 R118). -/
def Dev.withinQuota (d : Dev) (c : Nat) : Bool :=
  decide ((d.sch.ents.filter fun e => e.src.cls == c && !e.rsv).length < d.quota c)

/-- Immediate entries that wait for their commit to begin: each will take a window place (04 R133). -/
def Dev.immWaiting (d : Dev) : Nat := (d.sch.ents.filter fun e => e.imm && e.st == .waiting && !e.win).length

/-- Whether an insertion may be made and, if so, whether it takes a reserved entry: the list holds 16,384 entries (04 R117), and an
immediate entry needs a window place that no other waits for (04 R118, R133). -/
def Dev.mayInsert (d : Dev) (c prio : Nat) (imm : Bool) : Option Bool :=
  if decide (16384 ≤ d.sch.ents.length) || (imm && decide (1024 ≤ d.windowUsed + d.immWaiting)) then none
  else if d.withinQuota c then some false
  else if (decide (prio = 0) || decide (c = 3)) && decide (d.reserveUsed < 64) then some true
  else none

/-- A write to a quota register: ignored when the sum of the three would exceed 16,320. -/
def Dev.writeQuota (d : Dev) (c off : Nat) (v : Word) : Dev :=
  let others := ((List.range 3).map fun k => if k = c then 0 else d.quota k).sum
  if others + v.toNat % 2 ^ 14 ≤ 16320 then d.setReg off (v &&& 0x3FFF#32) else d

/-- Adds an entry; its insertion number is the next one (04 R119), an immediate entry's fire time is set from the MT of its
insertion (04 R133). -/
def Dev.addEntry (d : Dev) (f : ActFields) (src : EntSrc) (rsv : Bool) : Dev :=
  let n := (d.reg R.SCH_INS_NUM).toNat
  let st := stepOf f.action
  let fire := if f.imm then (d.now + immDelay) / st * st else f.fire
  let e : Entry := { ins := n, fire := fire, final := fire, action := f.action, target := f.target, arg := f.arg,
                     prio := f.prio, policy := f.policy, maxLate := f.maxLate, group := f.group, src := src,
                     imm := f.imm, rsv := rsv, st := .waiting, win := false, refetched := false, doomed := false, clu := false, late := 0 }
  ({ d with sch := { d.sch with ents := d.sch.ents ++ [e] } }).setReg R.SCH_INS_NUM (BitVec.ofNat 32 (n + 1))

/-- An insertion is refused: QUOTA (04 R118). -/
def Dev.refuseInsert (d : Dev) : Dev := (d.count R.SCH_QUOTA_CNT).schEvent R.SCH_EVT_QUOTA

/-- Whether the schedule accepts entries (04 R142). -/
def Dev.schReady (d : Dev) : Bool := d.flag R.SCH_STAT_READY && d.flag R.MT_STATE_READY

/-! ### Lever points (06 R193, R197) -/

/-- Removes the uncommitted entries that satisfy a test without an outcome; answers how many. -/
def Dev.pullEntries (d : Dev) (p : Entry → Bool) : Dev × Nat :=
  let q := fun e : Entry => e.uncommitted && p e
  ({ d with sch := { d.sch with ents := d.sch.ents.filter fun e => !q e } }, (d.sch.ents.filter q).length)

/-- The boundary unit withdraws its uncommitted entries that satisfy a test, each counted, and forgets their crossings (06 R190). -/
def Dev.withdraw (d : Dev) (p : Entry → Bool) : Dev :=
  let q := fun e : Entry => decide (e.src.cls = 2) && p e
  let r := d.pullEntries q
  let gone := fun x : BndCross => match x.ins.bind d.entry with
    | some e => e.uncommitted && q e
    | none => false
  ({ r.1 with bnd := { r.1.bnd with cross := r.1.bnd.cross.filter fun x => !gone x } }).addFld R.BND_WITHDRAW_CNT_COUNT r.2

/-- The uncommitted entries of one lever point are withdrawn. -/
def Dev.withdrawPoint (d : Dev) (p : Nat) : Dev := d.withdraw fun e => e.src == .bnd p

/-- A lever point becomes degraded, or its cause changes (06 R193, 17 R471). -/
def Dev.degrade (d : Dev) (p why : Nat) : Dev :=
  let was := d.flag (R.BND_LP_STAT_DEGRADED p)
  let d := (d.setFlag (R.BND_LP_STAT_DEGRADED p) true).setFld (R.BND_LP_STAT_DEGR_WHY p) why
  if was then d
  else
    let d := (d.withdrawPoint p).setFld R.BND_STAT_DEGR_CNT (d.fld R.BND_STAT_DEGR_CNT + 1)
    (d.bndEvent R.BND_EVT_DEGRADED).raiseFault Src.bndDegr 0

/-- A lever point leaves the degraded state. -/
def Dev.undegrade (d : Dev) (p : Nat) : Dev :=
  if d.flag (R.BND_LP_STAT_DEGRADED p) then
    ((d.setFlag (R.BND_LP_STAT_DEGRADED p) false).setFld (R.BND_LP_STAT_DEGR_WHY p) 0).setFld R.BND_STAT_DEGR_CNT
      (d.fld R.BND_STAT_DEGR_CNT - 1)
  else d

/-- Records the outcome of a lever point's entry (06 R197). -/
def Dev.bndOutcome (d : Dev) (p status : Nat) : Dev :=
  let d := d.setFld (R.BND_LP_STAT_LAST p) status
  if status = St.ok ∨ status = St.late ∨ status = St.refetched then
    (d.setFld (R.BND_LP_STAT_FIRED p) (d.fld (R.BND_LP_STAT_FIRED p) + 1)).count R.BND_FIRED_CNT
  else (d.addFld (R.BND_LP_STAT_FAIL p) 1).count R.BND_FAIL_CNT

/-! ### Outcomes (04 R129) -/

/-- The controller of a reference frame reports that it was not sent (14 R423). -/
def Dev.refFail (d : Dev) (ctrl : Nat) : Dev := d.canEvent ctrl (R.CAN_EVT_REF_FAIL ctrl)

/-- Reports an entry's outcome to its source: a completion, a notice, the lever point's record, or REF_FAIL for a reference
frame that is not sent (04 R118, R129). -/
def Dev.report (d : Dev) (e : Entry) (status detail : Nat) (failed : Bool) : Dev :=
  match e.src with
  | .host ref _ => d.complete ref status detail 0x04
  | .eng n a => d.pushNotice n { addr := a, status := status, failed := failed, detail := BitVec.ofNat 32 detail }
  | .bnd p => d.bndOutcome p status
  | .mt => if status = St.ok ∨ status = St.late ∨ status = St.refetched then d else d.refFail (e.target % 16)

/-- An entry reaches its outcome and leaves the schedule. -/
def Dev.outcome (d : Dev) (e : Entry) (status detail : Nat) (failed : Bool := false) : Dev :=
  (d.dropEntry e.ins).report e status detail failed

/-- Lateness in 10 ns units, rounded up, saturating (02 R66). -/
def lateUnits (ticks : Nat) : Nat := min ((ticks + 39) / 40) 0xFFFFFFFF

/-- An entry is DROPPED_LATE (04 R124, R127). -/
def Dev.dropLate (d : Dev) (e : Entry) (late : Nat) : Dev :=
  let d := ((d.count R.SCH_DROP_CNT).schEvent R.SCH_EVT_DROP).raiseFault Src.schDrop 0
  d.outcome e St.droppedLate (lateUnits late)

/-- An entry is refused leave (04 R124). -/
def Dev.denyLeave (d : Dev) (e : Entry) (code : Nat) : Dev :=
  let d := ((d.count R.SCH_DENY_CNT).schEvent R.SCH_EVT_DENY).raiseFault Src.schDeny 0
  d.outcome e St.leaveDenied code

/-- An entry fails its target check: NOT_PERMITTED with a reason (04 R124). -/
def Dev.notPermitted (d : Dev) (e : Entry) (reason : Nat) : Dev :=
  (d.count R.SCH_NOTPERM_CNT).outcome e St.notPermitted reason

/-- An entry fires: LATE, REFETCHED or OK, in that order (04 R128), with the MT of its placed event. -/
def Dev.fired (d : Dev) (e : Entry) (placed : Nat) : Dev :=
  let d := d.count R.SCH_FIRED_CNT
  if e.late ≠ 0 then ((d.count R.SCH_LATE_CNT).schEvent R.SCH_EVT_LATE).outcome e St.late (lateUnits e.late)
  else if e.refetched then d.outcome e St.refetched (placed % 2 ^ 32)
  else d.outcome e St.ok (placed % 2 ^ 32)

/-- An entry whose action had no effect at its placed event: NOT_PERMITTED, reason 0x05, after its fire time. -/
def Dev.firedInVain (d : Dev) (e : Entry) : Dev := d.outcome e St.notPermitted 0x05

/-- An uncommitted entry is removed: CANCELLED with the MT of the removal, counted (04 R136, R140). -/
def Dev.cancelEntry (d : Dev) (e : Entry) : Dev :=
  (d.count R.SCH_CANCEL_CNT).outcome e St.cancelled (d.now % 2 ^ 32)

/-- Removes every uncommitted entry that satisfies a test, in insertion order (04 R136, R140). -/
def Dev.flushEntries (d : Dev) (p : Entry → Bool) : Dev :=
  (d.sch.ents.filter fun e => e.uncommitted && p e).foldl (fun d e => d.cancelEntry e) d

/-- A write to SCH_CTRL (04 R140). -/
def Dev.writeSchCtrl (d : Dev) (v : Word) : Dev :=
  let d := if v.getLsbD 0 then d.flushEntries fun e => decide (e.src.cls = 0) else d
  let d := if v.getLsbD 1 then d.flushEntries fun e => decide (e.src.cls = 1) else d
  if v.getLsbD 2 then d.flushEntries fun e => decide (e.src.cls = 2) else d

/-! ### Insertion from each source -/

/-- A schedule-action descriptor is parsed and inserted (04 R118, R122, R142). -/
def Dev.insertHost (d : Dev) (a : AccDesc) : Dev :=
  let f := actOfDesc a.word
  if !d.domOn 3 then d.complete a.ref St.notPermitted 0x02 0x04
  else if !d.schReady then d.complete a.ref St.notPermitted 0x05 0x04
  else
    match f.bad d.now with
    | some off => d.completeBad a.ref off 0x04
    | none =>
      match d.mayInsert 0 f.prio f.imm with
      | some rsv => d.addEntry f (.host a.ref (descSeq a.word)) rsv
      | none => (d.refuseInsert).complete a.ref St.notPermitted 0x05 0x04

/-- A failed-emit notice (11 R335). -/
def Dev.failEmit (d : Dev) (n addr status detail : Nat) : Dev :=
  d.pushNotice n { addr := addr, status := status, failed := true, detail := BitVec.ofNat 32 detail }

/-- An EMIT block is inserted or refused with a failed-emit notice (04 R118, R122, R123). -/
def Dev.insertEmit (d : Dev) (n addr : Nat) (f : ActFields) : Dev :=
  if !d.schReady then d.failEmit n addr St.notPermitted 0x05
  else
    match f.bad d.now with
    | some off => d.failEmit n addr St.badDescriptor (badAt off)
    | none =>
      match d.mayInsert 1 f.prio f.imm with
      | some rsv => d.addEntry f (.eng n addr) rsv
      | none => d.refuseInsert.failEmit n addr St.notPermitted 0x05

/-- A lever point's entry is parsed and inserted, or refused and the point degraded (04 R118, R122, 06 R193). One that fails its
parse is not inserted, and the point is degraded as one whose insertion is refused (DESIGN CHOICE, notes/assumptions/16.md). -/
def Dev.insertBnd (d : Dev) (p : Nat) (f : ActFields) : Dev :=
  let no := { d with bnd := { d.bnd with refused := p :: d.bnd.refused.filter fun q => q != p } }
  if !d.schReady || (f.bad d.now).isSome then no.degrade p 1
  else
    match d.mayInsert 2 f.prio f.imm with
    | some rsv =>
      let d := (d.addEntry f (.bnd p) rsv).count R.BND_INSERT_CNT
      let d := { d with bnd := { d.bnd with refused := d.bnd.refused.filter fun q => q != p } }
      if d.fld (R.BND_LP_STAT_DEGR_WHY p) = 1 then d.undegrade p else d
    | none => no.refuseInsert.degrade p 1

/-- PERIOD of the reference frames in ticks (03 R111). -/
def Dev.refPeriod (d : Dev) : Nat := msTicks (min 1000 (max 10 (d.fld R.MT_CANREF_CFG_PERIOD)))

/-- The MT block inserts a reference frame's entry, one horizon ahead, or is refused a reserved entry and sets REF_FAIL
(03 R111, 04 R118; DEDUCED, notes/assumptions/22.md). -/
def Dev.insertRef (d : Dev) (due : Nat) : Dev :=
  let ctrl := d.fld R.MT_CANREF_CFG_CTRL
  let f : ActFields := { fire := due + horizon, action := 0x08, prio := 0, policy := 2, target := ctrl, arg := 0,
                         maxLate := 0, group := 0, imm := false, resFlags := false, res13 := false }
  let d := { d with mt := { d.mt with refNext := some (due + d.refPeriod) } }
  match d.mayInsert 3 0 false with
  | some rsv => d.addEntry f .mt rsv
  | none => d.refuseInsert.refFail ctrl

/-! ### Commands -/

/-- The schedule's share of a descriptor: it parses schedule actions and cancels in the order in which they may pass, so the oldest
one is taken when it satisfies a test; else nothing happens. -/
def Dev.withSched (d : Dev) (p : BitVec 256 → Bool) (f : AccDesc → Dev → Dev) : Dev :=
  match d.nextDesc fun w => descType w == 0x10 || descType w == 0x11 with
  | some a => if p a.word then f a (d.takeDesc a) else d
  | none => d

/-- SCHEDULE_ACTION (04 R120, R122, R118): the oldest schedule descriptor that may pass, a schedule action, is parsed and
inserted. -/
def execScheduleAction (s : State) : Host.Outcome State Fault Refusal :=
  onDev s fun d => d.withSched (fun w => descType w == 0x10) fun a d => d.insertHost a

/-- CANREF_INSERT (03 R111): a PERIOD has passed with MASTER_EN = 1. -/
def execCanrefInsert (s : State) : Host.Outcome State Fault Refusal :=
  onDev s fun d =>
    match d.mt.refNext with
    | some t => if d.schReady && d.flag R.MT_CANREF_CFG_MASTER_EN && decide (t ≤ d.now) then d.insertRef t else d
    | none => d

/-- FLUSH_HOST (04 R140): the written word of SCH_CTRL. -/
def execFlushHost (v : BitVec 32) (s : State) : Host.Outcome State Fault Refusal :=
  onDev s fun d => d.access R.SCH_CTRL fun d => d.writeSchCtrl v

/-- FLUSH_ENG (04 R140). -/
def execFlushEng (v : BitVec 32) (s : State) : Host.Outcome State Fault Refusal :=
  onDev s fun d => d.access R.SCH_CTRL fun d => d.writeSchCtrl v

/-- FLUSH_BND (04 R140). -/
def execFlushBnd (v : BitVec 32) (s : State) : Host.Outcome State Fault Refusal :=
  onDev s fun d => d.access R.SCH_CTRL fun d => d.writeSchCtrl v

end Sys2Proof.Machine
end

