-- ==== Sys2Proof/Machine/Switch.lean ====
section
/-! DEFINITION. The frame switch and the Hive of 13: frames, cells, classification, queues, gates, generations, held frames,
CAN over IEEE 1722, and the commands of that chapter. -/

namespace Sys2Proof.Machine

/-! ### Frames -/

/-- Whether a frame carries an 802.1Q tag. -/
def frTagged (l : List Byte) : Bool := beAt l 12 2 == 0x8100

/-- The offset of a frame's EtherType after at most one tag. -/
def frOff (l : List Byte) : Nat := if frTagged l then 16 else 12

/-- A frame's EtherType after at most one tag. -/
def frType (l : List Byte) : Nat := beAt l (frOff l) 2

/-- What follows a frame's EtherType. -/
def frBody (l : List Byte) : List Byte := l.drop (frOff l + 2)

/-- A management frame's destination: 01-80-C2-00-00-00 to -0F (13 R379). -/
def frMgmt (l : List Byte) : Bool := beAt l 0 6 / 16 == 0x0180C200000

/-- The 2-bit ECN field of an IPv4 or IPv6 frame (13 R391). -/
def frEcn (l : List Byte) : Option Nat :=
  if frType l = 0x0800 then some (beAt l (frOff l + 3) 1 % 4)
  else if frType l = 0x86DD then some (beAt l (frOff l + 3) 1 / 16 % 4)
  else none

/-- A gPTP event message (13 R403). -/
def frPtpEvent (l : List Byte) : Bool := frType l == 0x88F7 && decide (beAt l (frOff l + 2) 1 % 16 ≤ 3)

/-- SW_Pp_TS_INFO of a gPTP event message: sequenceId, messageType, domainNumber. -/
def ptpInfo (l : List Byte) : Nat :=
  let b := frBody l
  beAt b 30 2 + beAt b 0 1 % 16 * 2 ^ 16 + beAt b 4 1 * 2 ^ 20

/-- A stored frame's length, FCS included, in bytes (13 R375, R376). -/
def frLen (l : List Byte) : Nat := l.length + 4

/-- The cells a length takes (13 R376). -/
def cellsFor (len : Nat) : Nat := (len + 243) / 244

/-! ### Hidden tables -/

/-- An Ethernet port at the power-on of PD7. -/
def SwPort.init : SwPort where
  rx := none
  tx := none
  idleAt := 0
  gates := 255
  len := 1
  cycle := 0
  base := 0
  swap := none
  ts := []

/-- An Ethernet port. -/
def Dev.swPort (d : Dev) (p : Nat) : SwPort := sparseGet (fun _ => SwPort.init) d.sw.ports p

/-- Sets an Ethernet port. -/
def Dev.setSwPort (d : Dev) (p : Nat) (x : SwPort) : Dev :=
  { d with sw := { d.sw with ports := sparsePut (fun _ => SwPort.init) d.sw.ports p x } }

/-- The key of a port's queue. -/
def qKey (p q : Nat) : Nat := 16 * p + q

/-- A port's queue, oldest first. -/
def Dev.swQueue (d : Dev) (p q : Nat) : List SwElem := sparseGet (fun _ => []) d.sw.queues (qKey p q)

/-- Sets a port's queue. -/
def Dev.setSwQueue (d : Dev) (p q : Nat) (l : List SwElem) : Dev :=
  { d with sw := { d.sw with queues := sparsePut (fun _ => []) d.sw.queues (qKey p q) l } }

/-- A stored frame. -/
def Dev.swFrame (d : Dev) (fid : Nat) : Option SwFrame := d.sw.frames.find? fun f => f.id == fid

/-- A stream's meter. -/
def Dev.meter (d : Dev) (i : Nat) : SwStream :=
  sparseGet (fun _ => { level := 0, at_ := 0, pass := 0, drop := 0 }) d.sw.meters i

/-- Sets a stream's meter. -/
def Dev.setMeter (d : Dev) (i : Nat) (x : SwStream) : Dev :=
  { d with sw := { d.sw with meters := sparsePut (fun _ => { level := 0, at_ := 0, pass := 0, drop := 0 }) d.sw.meters i x } }

/-- A forwarding entry. -/
def Dev.fwd (d : Dev) (i : Nat) : BitVec 128 := sparseGet (fun _ => 0) d.sw.fwd i

/-- A stream entry. -/
def Dev.str (d : Dev) (i : Nat) : BitVec 128 := sparseGet (fun _ => 0) d.sw.str i

/-- The port codes (13 R374). -/
def swPorts : List Nat := List.range 10 ++ (List.range 16).map (· + 16)

/-! ### Cells (13 R377, R378) -/

/-- MIN of a port. -/
def Dev.swMin (d : Dev) (p : Nat) : Nat :=
  if p < 10 then d.fld (R.SW_P_CELLS_MIN p) else d.fld (R.SW_CAN_CELLS_MIN (p - 16))

/-- MAX of a port as it acts. -/
def Dev.swMax (d : Dev) (p : Nat) : Nat :=
  max (d.swMin p) (if p < 10 then d.fld (R.SW_P_CELLS_MAX p) else d.fld (R.SW_CAN_CELLS_MAX (p - 16)))

/-- The cells a port holds: those of frames it received that are still inside. -/
def Dev.swCells (d : Dev) (p : Nat) : Nat :=
  ((d.sw.frames.filter fun f => f.port == p).map (·.cells)).sum +
    (match (d.swPort p).rx with | some r => if p < 8 then r.frame.cells else 0 | none => 0)

/-- Cells in use, and those taken from the shared pool. -/
def Dev.swUsed (d : Dev) : Nat := (swPorts.map d.swCells).sum

/-- Cells taken from the shared pool. -/
def Dev.swShared (d : Dev) : Nat := (swPorts.map fun p => d.swCells p - d.swMin p).sum

/-- The shared pool. -/
def Dev.swPool (d : Dev) : Nat := 24576 - (swPorts.map d.swMin).sum

/-- Whether a port can take n more cells: its share first, then the pool (13 R378). -/
def Dev.swCanTake (d : Dev) (p n : Nat) : Bool :=
  let h := d.swCells p
  decide (h + n ≤ d.swMax p) &&
    decide (d.swShared + ((h + n - d.swMin p) - (h - d.swMin p)) ≤ d.swPool)

/-- Free cells (SW_STAT.FREE): neither held nor found without an owner by the Gleaner. -/
def Dev.swFree (d : Dev) : Nat := 24576 - d.swUsed - d.sw.marks.length

/-- A write to SW_Pp_CELLS or SW_CANk_CELLS: ignored when the sum of every MIN would exceed 24,576 (13 R378). -/
def Dev.writeSwCells (d : Dev) (p off : Nat) (v : Word) : Dev :=
  let others := ((swPorts.filter (· ≠ p)).map d.swMin).sum
  if others + v.toNat % 65536 ≤ 24576 then d.setReg off v else d

/-! ### Frames leaving (13 R377, R387, R396) -/

/-- Whether a frame is still in a queue, being sent or held. -/
def Dev.swReferenced (d : Dev) (fid : Nat) : Bool :=
  d.sw.queues.any (fun q => q.2.any fun e => e.fid == fid) ||
  d.sw.ports.any (fun p => match p.2.tx with | some t => t.fid == fid | none => false) ||
  d.sw.held.any fun h => h.fid == fid

/-- Whether a frame classified under an activation before a given one is inside. -/
def Dev.olderInside (d : Dev) (act : Nat) : Bool :=
  let old := fun f : SwFrame => match f.gen with | some g => decide (g < act) | none => false
  d.sw.frames.any old || d.sw.ports.any fun p => match p.2.rx with | some r => old r.frame | none => false

/-- Records for each waiting barrier that the last older frame has left (13 R387). -/
def Dev.updateBarriers (d : Dev) (t : Nat) : Dev :=
  { d with sw := { d.sw with barriers := d.sw.barriers.map fun b =>
      if b.met.isNone && !d.olderInside b.act then { b with met := some t } else b } }

/-- DETAIL of a frame-transmit descriptor: the lowest-numbered Ethernet port that sent it, else another port (13 R396). -/
def sentDetail (l : List (Nat × Nat)) : Option Nat :=
  match (List.range 8).filterMap fun p => l.lookup p with
  | t :: _ => some t
  | [] => l.head?.map (·.2)

/-- A frame that nothing refers to any more leaves: its cells return, its descriptor completes, barriers are judged (13 R377,
R387, R396). -/
def Dev.settle (d : Dev) (fid t : Nat) : Dev :=
  if d.swReferenced fid then d
  else
    match d.swFrame fid with
    | some f =>
      let d := { d with sw := { d.sw with frames := d.sw.frames.filter fun g => g.id != fid } }
      let d := match f.desc with
        | some ref =>
          match sentDetail f.sent with
          | some m => d.complete ref St.ok (m % 2 ^ 32) 0x0B
          | none => d.complete ref St.notPermitted 0x05 0x0B
        | none => d
      d.updateBarriers t
    | none => d

/-- Records that a port sent a frame. -/
def Dev.markSent (d : Dev) (fid p t : Nat) : Dev :=
  { d with sw := { d.sw with frames := d.sw.frames.map fun f =>
      if f.id = fid then { f with sent := f.sent ++ [(p, t)] } else f } }

/-- The generations with frames inside (SW_GEN_HIST). -/
def Dev.genInside (d : Dev) : Nat :=
  ((d.sw.frames.filterMap (·.gen) ++
    d.sw.ports.filterMap fun p => match p.2.rx with | some r => r.frame.gen | none => none).eraseDups).length

/-! ### Integrity (13 R404) -/

/-- Failures per second at which SW_INTEG is raised. -/
def Dev.integTh (d : Dev) : Nat := max 1 (d.fld R.SW_INTEG_TH_TH)

/-- A cell failure: counted on its port; SW_INTEG when the failures of the last second reach INTEG_TH. -/
def Dev.cellFail (d : Dev) (p : Nat) : Dev :=
  let d := if p < 10 then d.count (R.SW_P_INTEG_CNT p) else d
  let l := d.sw.fails.filter fun t => decide (d.now < t + secTicks)
  let d := { d with sw := { d.sw with fails := d.now :: l } }
  if l.length < d.integTh ∧ d.integTh ≤ l.length + 1 then (d.swEvent R.SW_EVT_INTEG).raiseFault Src.swInteg 0 else d

/-- A table entry fails at a lookup: recorded, marked invalid, SW_INTEG (13 R404). -/
def Dev.tableFail (d : Dev) (stream : Bool) (i : Nat) : Dev :=
  let k := if stream then 4096 + i else i
  let d := { d with sw := { d.sw with poison := if d.sw.poison.contains k then d.sw.poison else k :: d.sw.poison } }
  let d := ((d.setFld R.SW_TBL_ERR_INDEX i).setFlag R.SW_TBL_ERR_TABLE stream).setFlag R.SW_TBL_ERR_VALID true
  (d.swEvent R.SW_EVT_TBL_POISON).raiseFault Src.swInteg 0

/-! ### Classification (13 R379 to R383) -/

/-- What a lookup gives: VID, PCP, generation, entry, stream, management frame, targets with their queues. -/
structure SwClass where
  vid : Nat
  pcp : Nat
  gen : Option Nat
  entry : Option Nat
  stream : Option Nat
  mgmt : Bool
  targets : List (Nat × Nat)
  deriving DecidableEq, Repr

/-- The bucket of a destination address and VID (13 R380). -/
def bucketOf (l : List Byte) (vid : Nat) : Nat := crc32 (l.take 6 ++ leBytes 2 (vid % 4096)) % 1024

/-- VALID, VID and DMAC of a forwarding entry equal a frame's. -/
def fwdMatches (e : BitVec 128) (l : List Byte) (vid : Nat) : Bool :=
  e.getLsbD 60 && decide (bitsOf e 48 12 = vid) && decide (leBytes 6 (bitsOf e 0 48) = l.take 6)

/-- The queue a target takes a frame into (13 R383). -/
def Dev.targetQueue (d : Dev) (e : Option (BitVec 128)) (pcp : Nat) (qOver : Option Nat) (p : Nat) : Nat :=
  if p < 8 then qOver.getD ((d.reg (R.SW_P_PCPMAP p)).toNat / 2 ^ (3 * pcp) % 8)
  else if p = 8 then (match e with | some w => bitsOf w 104 3 | none => 0)
  else if p = 9 then (match e with | some w => bitsOf w 100 4 | none => 0)
  else pcp / 2

/-- The bits of a port mask as ports. -/
def maskPorts (m : Nat) : List Nat := swPorts.filter fun p => m.testBit p

/-- VID and PCP of a frame on a port: its tag's, or the port's (13 R379); a SEND gives its own priority (R399). -/
def Dev.vidPcp (d : Dev) (p : Nat) (l : List Byte) (prio : Option Nat) : Nat × Nat :=
  let tag := beAt l 14 2
  let own := if p < 8 then (d.fld (R.SW_P_CFG_PVID p), d.fld (R.SW_P_CFG_DEF_PCP p)) else (0, 0)
  let r := if frTagged l ∧ tag % 4096 ≠ 0 then (tag % 4096, tag / 8192) else own
  (r.1, prio.getD r.2)

/-- Classifies a frame of a port (13 R379 to R383, R404): none when a failed entry drops it. `tab` names the entry that fails
its code at this lookup. -/
def Dev.classify (d : Dev) (p : Nat) (l : List Byte) (prio : Option Nat) (tab : Option (Bool × BitVec 12)) :
    Dev × Option SwClass :=
  let vp := d.vidPcp p l prio
  if frMgmt l then
    let t := if d.flag R.SW_MGMT_DEST then (9, d.fld R.SW_MGMT_EP_ROLE) else (8, d.fld R.SW_MGMT_HP_Q)
    (d, some { vid := vp.1, pcp := vp.2, gen := none, entry := none, stream := none, mgmt := true,
               targets := [t].filter fun t => t.1 != p })
  else
    let b := bucketOf l vp.1
    let hit := ((List.range 4).map fun k => 4 * b + k).find? fun i => fwdMatches (d.fwd i) l vp.1
    let failing := match tab with
      | some (false, i) => if i.toNat / 4 = b then some i.toNat else none
      | _ => none
    let failing := if failing.isSome then failing else if d.injected 11 none then some (hit.getD (4 * b)) else none
    match failing with
    | some i => ((d.injectDone 11 none).tableFail false i, none)
    | none =>
      if d.sw.poison.any fun k => decide (k < 4096 ∧ k / 4 = b) then (d, none)
      else
        let e := hit.map d.fwd
        let mask := match e with
          | some w => bitsOf w 64 32
          | none => if p < 8 then d.fld (R.SW_P_FLOOD_MASK p) else 0
        let pcp := match e with
          | some w => if w.getLsbD 99 then bitsOf w 96 3 else vp.2
          | none => vp.2
        let str := match e with
          | some w => if w.getLsbD 127 then some (bitsOf w 112 10) else none
          | none => none
        let sFail := match str, tab with
          | some s, some (true, i) => decide (i.toNat = s)
          | _, _ => false
        if sFail then (d.tableFail true (str.getD 0), none)
        else
          let qOver := match str with
            | some s => if (d.str s).getLsbD 19 then some (bitsOf (d.str s) 16 3) else none
            | none => none
          let ports := (maskPorts mask).filter fun t => decide (t ≠ p) &&
            !(decide (p < 8) && frType l == 0x88F7 && decide (t < 8 ∨ 16 ≤ t))
          (d, some { vid := vp.1, pcp := pcp, gen := some d.sw.acts, entry := hit, stream := str, mgmt := false,
                     targets := ports.map fun t => (t, d.targetQueue e pcp qOver t) })

/-- The stream's verdict on a frame of a length: passed or dropped, both counted (13 R382, R404). -/
def Dev.streamPass (d : Dev) (str : Option Nat) (len : Nat) : Dev × Bool :=
  match str with
  | none => (d, true)
  | some s =>
    let w := d.str s
    let x := d.meter s
    let rate := bitsOf w 32 32
    let cap := bitsOf w 64 32 * 32000000
    let lvl := min cap (x.level + rate * (d.now - x.at_))
    let need := len * 32000000
    let maxLen := max 64 (min 1522 (bitsOf w 0 16))
    let ok := w.getLsbD 24 && !d.sw.poison.contains (4096 + s) && decide (len ≤ maxLen) && (decide (rate = 0) || decide (need ≤ lvl))
    if ok then (d.setMeter s { level := if rate = 0 then lvl else lvl - need, at_ := d.now, pass := min (x.pass + 1) 0xFFFFFFFF, drop := x.drop }, true)
    else (d.setMeter s { level := lvl, at_ := d.now, pass := x.pass, drop := min (x.drop + 1) 0xFFFFFFFF }, false)

/-! ### CAN over IEEE 1722 (13 R400, R401) -/

/-- The data bytes a DLC stands for in an FD frame (14 R409, ISO 11898-1). -/
def dlcLen (c : Nat) : Nat :=
  match c with
  | 9 => 12
  | 10 => 16
  | 11 => 20
  | 12 => 24
  | 13 => 32
  | 14 => 48
  | 15 => 64
  | n => n

/-- The smallest DLC that holds a number of bytes (14 R418). -/
def dlcFor (n : Nat) : Nat := ((List.range 16).find? fun c => decide (n ≤ dlcLen c)).getD 15

/-- The data bytes a frame carries (14 R418). -/
def canBytes (f : CanFrame) : Nat := if f.rtr then 0 else if f.fdf then dlcLen f.dlc.toNat else min 8 f.dlc.toNat

/-- One ACF message: its bus and frame when it is a CAN or CAN_BRIEF message that holds one. -/
def acfOne (m : List Byte) : Option (Nat × CanFrame) :=
  let ty := beAt m 0 1 / 2
  let hdr := if ty = 1 then 16 else 8
  let fl := beAt m 2 1
  let pad := fl / 64
  if (ty = 1 ∨ ty = 2) ∧ hdr + pad ≤ m.length then
    let pay := (m.drop hdr).take (m.length - hdr - pad)
    let dlc := dlcFor pay.length
    some (beAt m 3 1 % 32,
      { id := BitVec.ofNat 29 (beAt m (hdr - 4) 4), ide := fl.testBit 3, rtr := fl.testBit 4, fdf := fl.testBit 1,
        brs := fl.testBit 2, esi := fl.testBit 0, dlc := BitVec.ofNat 4 dlc,
        data := pay ++ List.replicate (dlcLen dlc - pay.length) 0 })
  else none

/-- The ACF messages of a byte string; none stands for a message of no use or for a remainder that runs past the end. -/
def acfMsgs : Nat → List Byte → List (Option (Nat × CanFrame))
  | 0, _ => []
  | n + 1, l =>
    if l.isEmpty then []
    else
      let len := 4 * (beAt l 0 2 % 512)
      if len = 0 ∨ l.length < len then [none] else acfOne (l.take len) :: acfMsgs n (l.drop len)

/-- The ACF messages of a frame: empty unless it is an NTSCF frame. -/
def frAcf (l : List Byte) : List (Option (Nat × CanFrame)) :=
  let b := frBody l
  if frType l = 0x22F0 ∧ beAt b 0 1 = 0x82 then acfMsgs 512 ((b.drop 12).take (beAt b 1 2 % 2048)) ++
    (if (b.drop 12).length < beAt b 1 2 % 2048 then [none] else [])
  else []

/-- Whether a frame is an NTSCF frame to SW_CAN_MAC, whose messages name the targets (13 R395). -/
def Dev.acfShortcut (d : Dev) (l : List Byte) : Bool :=
  frType l == 0x22F0 && beAt (frBody l) 0 1 == 0x82 &&
  decide (l.take 6 = leBytes 4 (d.reg R.SW_CAN_MAC_LO).toNat ++ leBytes 2 (d.reg R.SW_CAN_MAC_HI).toNat)

/-- The CAN ports that a frame's messages name. -/
def acfPorts (l : List Byte) : List Nat :=
  ((frAcf l).filterMap fun m => m.bind fun x => if x.1 < 16 then some (16 + x.1) else none).eraseDups

/-- An ACF CAN message (13 R400). -/
def acfMsg (k ts : Nat) (mtv : Bool) (f : CanFrame) : List Byte :=
  let data := f.data.take (canBytes f)
  let pad := (4 - data.length % 4) % 4
  beBytes 2 (512 + (16 + data.length + pad) / 4) ++
  [BitVec.ofNat 8 (64 * pad + 32 * mtv.toNat + 16 * f.rtr.toNat + 8 * f.ide.toNat + 4 * f.brs.toNat + 2 * f.fdf.toNat + f.esi.toNat),
   BitVec.ofNat 8 k] ++
  beBytes 8 ts ++ beBytes 4 f.id.toNat ++ data ++ List.replicate pad 0

/-- The message time stamp in ns of a SOF (13 R401). -/
def Dev.acfTime (d : Dev) (sof : Nat) : Nat :=
  if d.flag R.SW_ACF_CFG_TS_SRC then
    ofInt 64 ((d.gnssTime sof - toInt 64 (d.reg64 (R.MT_BIAS_LO 1) (R.MT_BIAS_HI 1))) / 4)
  else sof / 4

/-- The NTSCF frame that wraps a CAN frame of port k (13 R400, R401). -/
def Dev.wrapCan (d : Dev) (k sof : Nat) (f : CanFrame) : List Byte :=
  let msg := acfMsg k (d.acfTime sof) (d.flag R.SW_ACF_CFG_MTV) f
  let vid := d.fld (R.SW_CAN_CFG_VID k)
  leBytes 4 (d.reg (R.SW_CAN_DMAC_LO k)).toNat ++ leBytes 2 (d.reg (R.SW_CAN_DMAC_HI k)).toNat ++
  leBytes 4 (d.reg R.SW_CAN_MAC_LO).toNat ++ leBytes 2 (d.reg R.SW_CAN_MAC_HI).toNat ++
  (if vid = 0 then [] else beBytes 2 0x8100 ++ beBytes 2 (d.fld (R.SW_CAN_CFG_PCP k) * 8192 + vid)) ++
  beBytes 2 0x22F0 ++ [0x82#8] ++ beBytes 2 (0x8000 + msg.length) ++
  [BitVec.ofNat 8 (sparseGet (fun _ => 0) d.sw.canSeq k)] ++
  beBytes 8 (d.reg64 (R.SW_CAN_SID_LO k) (R.SW_CAN_SID_HI k)) ++ msg

/-! ### Queues (13 R383, R391) -/

/-- A queue's depth in cells. -/
def Dev.qDepth (d : Dev) (p q : Nat) : Nat :=
  ((d.swQueue p q).map fun e => match d.swFrame e.fid with | some f => f.cells | none => 0).sum

/-- Adds an element to a queue. -/
def Dev.pushElem (d : Dev) (p q : Nat) (e : SwElem) : Dev := d.setSwQueue p q (d.swQueue p q ++ [e])

/-- A stored frame joins a target's queue: ECN and the tail drop on an Ethernet port, the messages for a CAN port (13 R383,
R391, R401). -/
def Dev.enqueue (d : Dev) (f : SwFrame) (p q : Nat) : Dev :=
  let e : SwElem := { fid := f.id, since := d.now, mark := false, can := none, passed := false }
  if p < 8 then
    if d.qDepth p q < d.fld (R.SW_P_ECN_MARK_TH p) then d.pushElem p q e
    else
      match frEcn f.data with
      | some 3 => d.pushElem p q e
      | some 0 => d.count (R.SW_P_DROP_TAIL_CNT p)
      | some _ => d.pushElem p q { e with mark := true }
      | none => d.count (R.SW_P_DROP_TAIL_CNT p)
  else if p < 10 then d.pushElem p q e
  else
    (frAcf f.data).foldl (fun d m =>
      match m with
      | some (k, c) => if 16 + k = p then d.pushElem p q { e with can := some c } else d
      | none => d) d

/-- Counts the messages of a frame that name none of its CAN targets (13 R401). -/
def Dev.countIgnored (d : Dev) (f : SwFrame) (ports : List Nat) : Dev :=
  if ports.any fun p => decide (16 ≤ p) then
    (frAcf f.data).foldl (fun d m =>
      match m with
      | some (k, _) => if ports.contains (16 + k) then d else d.count R.SW_ACF_IGN_CNT
      | none => d.count R.SW_ACF_IGN_CNT) d
  else d

/-- A frame is stored and joins the queues of its targets; a frame without one leaves at once (13 R377, R381). -/
def Dev.storeFrame (d : Dev) (f : SwFrame) (targets : List (Nat × Nat)) : Dev :=
  let d := { d with sw := { d.sw with frames := d.sw.frames ++ [f] } }
  let d := d.countIgnored f (targets.map (·.1))
  let d := targets.foldl (fun d t => d.enqueue f t.1 t.2) d
  d.settle f.id d.now

/-! ### Gates (13 R392 to R394) -/

/-- The entries of a gate list: mask and interval in ticks. -/
def Dev.gclList (d : Dev) (p l len : Nat) : List (Nat × Nat) :=
  (List.range (max 1 (min 64 len))).map fun e =>
    let w := (d.reg (R.SW_P_GCL_E p l e)).toNat
    (w % 256, 40 * max 1 (w / 256))

/-- The mask at a phase of the cycle and the phase at which it ends, from the entries that start at phase s. -/
def gclWalk (cyc ph : Nat) : Nat → Nat → List (Nat × Nat) → Nat × Nat
  | _, m, [] => (m, cyc)
  | s, _, (m, i) :: t => if ph < min (s + i) cyc then (m, min (s + i) cyc) else gclWalk cyc ph (s + i) m t

/-- A gate list that runs: entries, cycle and base in ticks. -/
structure GateList where
  ents : List (Nat × Nat)
  cycle : Nat
  base : Nat
  deriving DecidableEq, Repr

/-- The mask of a running list at an MT and the MT at which it ends. -/
def GateList.at (g : GateList) (t : Nat) : Nat × Nat :=
  let ph := (t - g.base) % g.cycle
  let r := gclWalk g.cycle ph 0 0 g.ents
  (r.1, t + (r.2 - ph))

/-- The next MT at or after t at which a list closes a queue's gate, looking at n segments. -/
def GateList.closes (g : GateList) (q : Nat) : Nat → Nat → Option Nat
  | 0, _ => none
  | n + 1, t => if (g.at t).1.testBit q then g.closes q n (g.at t).2 else some t

/-- The active list, or none while every gate is open (13 R392). -/
def Dev.activeGates (d : Dev) (p : Nat) : Option GateList :=
  let x := d.swPort p
  if d.flag (R.SW_P_GCL_CTRL_GCL_EN p) && d.flag (R.SW_P_STAT_GCL_ACTIVE p) then
    some { ents := d.gclList p (d.fld (R.SW_P_STAT_LIST p)) x.len, cycle := 40 * max 1 x.cycle, base := x.base }
  else none

/-- The shadow list that a pending swap will make active, with its start. -/
def Dev.nextGates (d : Dev) (p : Nat) : Option (GateList × Nat) :=
  match (d.swPort p).swap with
  | some t =>
    if d.flag (R.SW_P_GCL_CTRL_GCL_EN p) then
      some ({ ents := d.gclList p (1 - d.fld (R.SW_P_STAT_LIST p)) (d.fld (R.SW_P_GCL_CTRL_LEN p)),
              cycle := 40 * max 1 (d.fld (R.SW_P_GCL_CYCLE_CYCLE p)),
              base := d.reg64 (R.SW_P_GCL_BASE_LO p) (R.SW_P_GCL_BASE_HI p) }, t)
    else none
  | none => none

/-- The mask of open gates at an MT. -/
def Dev.gateMask (d : Dev) (p t : Nat) : Nat :=
  match d.activeGates p with
  | some g => (g.at t).1
  | none => 255

/-- When a queue's gate next closes, from an MT on (13 R394). -/
def Dev.gateCloses (d : Dev) (p q t : Nat) : Option Nat :=
  let a := (d.activeGates p).bind fun g => g.closes q 200 t
  match d.nextGates p with
  | some (g, s) =>
    match a with
    | some c => if c < s then some c else g.closes q 200 (max s t)
    | none => g.closes q 200 (max s t)
  | none => a

/-- Whether a queue's gate is open and stays open for a number of ticks from now. -/
def Dev.gateFits (d : Dev) (p q dur : Nat) : Bool :=
  ((d.activeGates p).isNone || (d.swPort p).gates.testBit q) &&
    (match d.gateCloses p q d.now with | some c => decide (d.now + dur ≤ c) | none => true)

/-- A write to SW_Pp_GCL_CTRL: LEN is a shadow field; SWAP starts the shadow list at its first cycle start at least 2 µs ahead
(13 R393). -/
def Dev.writeGclCtrl (d : Dev) (p : Nat) (v : Word) : Dev :=
  let d := d.setFlag (R.SW_P_GCL_CTRL_GCL_EN p) (v.getLsbD 0)
  if (d.swPort p).swap.isSome then d
  else
    let d := d.setFld (R.SW_P_GCL_CTRL_LEN p) ((R.SW_P_GCL_CTRL_LEN p).ext v)
    if v.getLsbD 1 then
      let base := d.reg64 (R.SW_P_GCL_BASE_LO p) (R.SW_P_GCL_BASE_HI p)
      let cyc := 40 * max 1 (d.fld (R.SW_P_GCL_CYCLE_CYCLE p))
      let t := base + (d.now + 8000 - base + (cyc - 1)) / cyc * cyc
      (d.setSwPort p { d.swPort p with swap := some t }).setFlag (R.SW_P_STAT_SWAP_PEND p) true
    else d

/-- A write to a shadow field of the gate lists: ignored while a swap is pending (13 R393). -/
def Dev.writeGclShadow (d : Dev) (p off : Nat) (v : Word) : Dev :=
  if (d.swPort p).swap.isSome then d else d.setReg off v

/-- A write to a gate list entry: ignored on the active list and, while a swap is pending, on both (13 R393). -/
def Dev.writeGclEntry (d : Dev) (p l off : Nat) (v : Word) : Dev :=
  if (d.swPort p).swap.isSome || (d.flag (R.SW_P_STAT_GCL_ACTIVE p) && decide (d.fld (R.SW_P_STAT_LIST p) = l)) then d
  else d.setReg off v

/-! ### Egress (13 R383, R389, R394, R398, R402, R403) -/

/-- Whether an Ethernet port can send and receive. -/
def Dev.ethUp (d : Dev) (p : Nat) : Bool :=
  d.domOn 7 && (decide (6 ≤ p) || d.domOn 8) && d.flag (R.SW_P_CFG_EN p) && d.flag (R.SW_P_STAT_LINK p)

/-- The interface of an Ethernet port: IF as it acts, RGMII (3) on ET6 and ET7 (13 R374, SW_Pp_CFG). -/
def Dev.portIf (d : Dev) (p : Nat) : Nat := if 6 ≤ p then 3 else d.fld (R.SW_P_CFG_IF p) % 3

/-- The speed codes an interface has (13 R374; that 2.5GBASE-X has both 1,000 and 2,500 Mb/s and 1000BASE-X only 1,000 is
DEDUCED, notes/assumptions/35.md). -/
def ifSpeeds : Nat → List Nat
  | 1 => [2]
  | 2 => [2, 3]
  | _ => [0, 1, 2]

/-- SPEED as it acts: a value the interface lacks acts as 1,000 Mb/s (SW_Pp_CFG). -/
def Dev.actSpeed (d : Dev) (p : Nat) : Nat :=
  let v := d.fld (R.SW_P_CFG_SPEED p)
  if (ifSpeeds (d.portIf p)).contains v then v else 2

/-- Whether a link may come up at a speed: SPEED, or what auto-negotiation finds on SGMII and 1000BASE-X (13 R374,
SW_Pp_CFG). -/
def Dev.speedOk (d : Dev) (p speed : Nat) : Bool :=
  if d.flag (R.SW_P_CFG_AN_EN p) && decide (d.portIf p < 2) then (ifSpeeds (d.portIf p)).contains speed
  else decide (speed = d.actSpeed p)

/-- Ticks for a number of bytes at a port's speed, rounded up (13 R374). -/
def Dev.wireTicks (d : Dev) (p bytes : Nat) : Nat :=
  match d.fld (R.SW_P_STAT_SPEED_NOW p) with
  | 0 => bytes * 3200
  | 1 => bytes * 320
  | 3 => (bytes * 128 + 9) / 10
  | _ => bytes * 32

/-- The bytes of a frame on the wire of a port, FCS included: untagged or tagged by EGR_TAG, at least 64. -/
def Dev.wireLen (d : Dev) (p : Nat) (f : SwFrame) : Nat :=
  max 64 (frLen f.data - (if frTagged f.data then 4 else 0) + (if d.flag (R.SW_P_CFG_EGR_TAG p) then 4 else 0))

/-- A port stores the stamp of a gPTP event message it sends (13 R403). -/
def Dev.stampEgress (d : Dev) (p : Nat) (f : SwFrame) : Dev :=
  if frPtpEvent f.data then
    let x := d.swPort p
    if 16 ≤ x.ts.length then d.setFlag (R.SW_P_EVT_TS_OVF p) true
    else
      let t := ofInt 64 ((d.now + d.wireTicks p 8 : Nat) + toInt 16 (d.fld (R.SW_P_TS_DLY_OUT_DLY p)))
      (d.setSwPort p { x with ts := x.ts ++ [(t, ptpInfo f.data)] }).swEvent R.SW_EVT_TS
  else d

/-- The queue an Ethernet port serves now: the highest whose head fits its gate (13 R383, R394). -/
def Dev.serveQueue (d : Dev) (p : Nat) : Option (Nat × SwElem × SwFrame) :=
  ((List.range 8).reverse.filterMap fun q =>
    match d.swQueue p q with
    | e :: _ =>
      match d.swFrame e.fid with
      | some f => if d.gateFits p q (d.wireTicks p (8 + d.wireLen p f + 12)) then some (q, e, f) else none
      | none => none
    | [] => none).head?

/-- Whether an Ethernet port is free to start a frame. -/
def Dev.portFree (d : Dev) (p : Nat) : Bool :=
  d.ethUp p && (d.swPort p).tx.isNone && decide ((d.swPort p).idleAt ≤ d.now)

/-- An Ethernet port starts the frame that its gates allow; a failed cell drops it for this port (13 R394, R404). -/
def Dev.startEgress (d : Dev) (p : Nat) (det : Bool) : Dev :=
  if d.portFree p then
    match d.serveQueue p with
    | some (q, e, f) =>
      let d' := d.setSwQueue p q (d.swQueue p q).tail
      if det || d.injected 10 (some p) then ((d'.injectDone 10 (some p)).cellFail p).settle f.id d.now
      else
        let t : SwTx := { fid := f.id, start := d.now, fin := some (d.now + d.wireTicks p (8 + d.wireLen p f)), mark := e.mark,
                          cut := false, bad := false }
        let d' := d'.setSwPort p { d'.swPort p with tx := some t }
        let d' := if e.mark then d'.count (R.SW_P_CE_CNT p) else d'
        d'.stampEgress p f
    | none => d
  else d

/-- The frame an Ethernet port is sending ends: sent, or ended with an inverted FCS (13 R390, R396, R404). -/
def Dev.endEgress (d : Dev) (p : Nat) (det : Bool) : Dev :=
  match (d.swPort p).tx with
  | some t =>
    match t.fin with
    | some f =>
      if f ≤ d.now then
        let d := d.setSwPort p { d.swPort p with tx := none, idleAt := f + d.wireTicks p 12 }
        let d := if det then d.cellFail p else d
        let d := if det || t.bad then ((d.count (R.SW_P_CT_BAD_CNT p)).setFlag (R.SW_P_EVT_CT_BAD p) true).swEvent R.SW_EVT_CT_BAD
          else (d.count (R.SW_P_TX_CNT p)).markSent t.fid p t.start
        d.settle t.fid f
      else d
    | none => d
  | none => d

/-- The header of a frame written to a host buffer (13 R398). -/
def hpHeader (f : SwFrame) : List Byte :=
  leBytes 8 f.mt ++ leBytes 2 f.data.length ++ leBytes 1 f.port ++
  leBytes 1 (f.tagged.toNat + 2 * (frEcn f.data == some 3).toNat + 4 * f.mgmt.toNat) ++
  leBytes 2 (f.vid + 8192 * f.pcp) ++ leBytes 2 (f.entry.getD 0xFFFF)

/-- The host queue served now: the highest with a frame and a posted buffer (13 R383, R398). -/
def Dev.serveHost (d : Dev) : Option (Nat × SwElem × SwFrame × SwBuf) :=
  ((List.range 8).reverse.filterMap fun q =>
    match d.swQueue 8 q, d.sw.bufs.find? (fun b => b.queue == q) with
    | e :: _, some b => (d.swFrame e.fid).map fun f => (q, e, f, b)
    | _, _ => none).head?

/-- A frame for HP is written to the next buffer of its queue (13 R398, R399). -/
def Dev.hostEgress (d : Dev) (det : Bool) : Dev :=
  match d.serveHost with
  | some (q, _, f, b) =>
    if d.canMaster then
      let d' := d.setSwQueue 8 q (d.swQueue 8 q).tail
      if det || d.injected 10 (some 8) then ((d'.injectDone 10 (some 8)).cellFail 8).settle f.id d.now
      else if b.len - 16 < f.data.length then (d'.count R.SW_HP_TOOBIG_CNT).settle f.id d.now
      else
        let d' := d'.memWrite b.addr (hpHeader f ++ f.data)
        let d' := { d' with sw := { d'.sw with bufs := d'.sw.bufs.filter fun x => x.ref.id != b.ref.id } }
        let d' := (d'.count (R.SW_P_TX_CNT 8)).complete b.ref St.ok f.data.length 0x0B
        (d'.markSent f.id 8 d.now).settle f.id d.now
    else d
  | none => d

/-- The oldest frame for EP whose cells are not checked yet: it becomes available to RECV or is dropped (13 R399). -/
def Dev.engineEgress (d : Dev) (det : Bool) : Dev :=
  match (List.range 16).find? fun r => (d.swQueue 9 r).any fun e => !e.passed with
  | some r =>
    match (d.swQueue 9 r).find? fun e => !e.passed with
    | some e =>
      if det || d.injected 10 (some 9) then
        let d' := ((d.injectDone 10 (some 9)).setSwQueue 9 r ((d.swQueue 9 r).erase e)).cellFail 9
        d'.settle e.fid d.now
      else d.setSwQueue 9 r ((d.swQueue 9 r).map fun x => if x = e then { e with passed := true } else x)
    | none => d
  | none => d

/-- The head of a CAN port's highest non-empty queue (14 R418). -/
def Dev.canHead (d : Dev) (k : Nat) : Option (Nat × SwElem × CanFrame) :=
  ([3, 2, 1, 0].filterMap fun q =>
    match d.swQueue (16 + k) q with
    | e :: _ => e.can.map fun c => (q, e, c)
    | [] => none).head?

/-- The head of a CAN port's highest queue is dropped and counted (14 R418, R420). -/
def Dev.dropCanHead (d : Dev) (k : Nat) : Dev :=
  match d.canHead k with
  | some (q, e, _) =>
    ((d.setSwQueue (16 + k) q (d.swQueue (16 + k) q).tail).count (R.SW_CAN_DROP_CNT k)).settle e.fid d.now
  | none => d

/-! ### Ingress (13 R375, R378, R389, R390, R402) -/

/-- The next frame number. -/
def Dev.takeFrameId (d : Dev) : Nat × Dev := (d.sw.nextId, { d with sw := { d.sw with nextId := d.sw.nextId + 1 } })

/-- Whether a frame of port i may be cut through to target p, queue q (13 R389). -/
def Dev.cutOk (d : Dev) (i p q : Nat) : Bool :=
  decide (p < 8) && d.flag (R.SW_P_CFG_CT_EN p) && d.portFree p && (d.swQueue p q).isEmpty &&
  decide (d.fld (R.SW_P_STAT_SPEED_NOW p) ≤ d.fld (R.SW_P_STAT_SPEED_NOW i)) &&
  d.gateFits p q (d.wireTicks p (8 + 1522 + 12))

/-- The first 60 bytes of a frame have arrived: the first cell, classification, cut-through (13 R378, R379, R389, R402). -/
def Dev.ingressHead (d : Dev) (p stamp : Nat) (l : List Byte) (tab : Option (Bool × BitVec 12)) : Dev :=
  let a := d.takeFrameId
  let d := a.2
  let vp := d.vidPcp p l none
  let mt := ofInt 64 ((stamp : Int) - toInt 16 (d.fld (R.SW_P_TS_DLY_IN_DLY p)))
  let f : SwFrame := { id := a.1, port := p, cells := 1, data := l, mt := mt, vid := vp.1, pcp := vp.2, tagged := frTagged l,
                       mgmt := false, gen := none, entry := none, desc := none, sent := [] }
  let gone : SwRx := { frame := { f with cells := 0 }, targets := [], cut := [], stream := none, drop := true }
  if frType l = 0x8808 then (d.count (R.SW_P_MACCTL_CNT p)).setSwPort p { d.swPort p with rx := some gone }
  else if !d.swCanTake p 1 then (d.count (R.SW_P_DROP_CELL_CNT p)).setSwPort p { d.swPort p with rx := some gone }
  else
    match d.classify p l none tab with
    | (d, none) => d.setSwPort p { d.swPort p with rx := some gone }
    | (d, some c) =>
      let f := { f with vid := c.vid, pcp := c.pcp, mgmt := c.mgmt, gen := c.gen, entry := c.entry }
      let cut := (c.targets.filter fun t => d.cutOk p t.1 t.2).map (·.1)
      let r : SwRx := { frame := f, targets := c.targets, cut := cut, stream := c.stream, drop := false }
      let x : SwTx := { fid := f.id, start := d.now, fin := none, mark := false, cut := true, bad := false }
      let d := d.setSwPort p { d.swPort p with rx := some r }
      d.forAll cut fun t d => d.setSwPort t { d.swPort t with tx := some x }

/-- The end of a cut-through frame is known on each port that sends it (13 R390). -/
def Dev.endCut (d : Dev) (f : SwFrame) (cut : List Nat) (bad : Bool) : Dev :=
  d.forAll cut fun t d =>
    match (d.swPort t).tx with
    | some x =>
      let y := { x with fin := some (max d.now (x.start + d.wireTicks t (8 + d.wireLen t f))), bad := bad }
      if x.fid = f.id then d.setSwPort t { d.swPort t with tx := some y } else d
    | none => d

/-- The end of a frame on an Ethernet port: length and FCS, the remaining cells, the stream, then the store-and-forward targets
(13 R375, R378, R382, R389, R390). -/
def Dev.ingressTail (d : Dev) (p : Nat) (rest : List Byte) (fcsOk : Bool) : Dev :=
  match (d.swPort p).rx with
  | none => d.count (R.SW_P_FCS_ERR_CNT p)
  | some r =>
    let data := r.frame.data ++ rest
    let len := frLen data
    let full := { r.frame with data := data, cells := cellsFor len }
    let room := d.swCanTake p (full.cells - 1)
    let d := d.setSwPort p { d.swPort p with rx := none }
    if r.drop then d
    else if !fcsOk || decide (1522 < len) then
      (((d.count (R.SW_P_FCS_ERR_CNT p)).endCut full r.cut true)).updateBarriers d.now
    else if !room then (((d.count (R.SW_P_DROP_CELL_CNT p)).endCut full r.cut true)).updateBarriers d.now
    else
      let v := d.streamPass r.stream len
      let d := v.1.count (R.SW_P_RX_CNT p)
      if v.2 then (d.endCut full r.cut false).storeFrame full (r.targets.filter fun t => !r.cut.contains t.1)
      else (d.endCut full r.cut true).updateBarriers d.now

/-- A whole frame enters from HP, EP or a CAN port: stored and queued; false when it finds no cell (13 R378, R379, R395, R401).
With SW_CTRL.EN at 0 it is forwarded to no target and leaves at once (DESIGN CHOICE, notes/assumptions/35.md). -/
def Dev.admitFrame (d : Dev) (p : Nat) (l : List Byte) (mt : Nat) (prio : Option Nat) (desc : Option CplRef)
    (tab : Option (Bool × BitVec 12)) : Dev × Bool :=
  let a := d.takeFrameId
  let vp := d.vidPcp p l prio
  let f : SwFrame := { id := a.1, port := p, cells := cellsFor (frLen l), data := l, mt := mt, vid := vp.1, pcp := vp.2,
                       tagged := frTagged l, mgmt := false, gen := none, entry := none, desc := desc, sent := [] }
  if !d.swCanTake p f.cells then (d, false)
  else
    match a.2.classify p l prio tab with
    | (d, none) => (d.storeFrame f [], true)
    | (d, some c) =>
      let v := d.streamPass c.stream (frLen l)
      let f := { f with vid := c.vid, pcp := c.pcp, mgmt := c.mgmt, gen := c.gen, entry := c.entry }
      (v.1.storeFrame f (if v.2 && d.flag R.SW_CTRL_EN then c.targets else []), true)

/-- A whole frame enters for given targets without a lookup (13 R395); with SW_CTRL.EN at 0 it is forwarded to none of them
(notes/assumptions/35.md). -/
def Dev.admitDirect (d : Dev) (p : Nat) (l : List Byte) (desc : Option CplRef) (targets : List (Nat × Nat)) : Dev × Bool :=
  let a := d.takeFrameId
  let vp := d.vidPcp p l none
  let f : SwFrame := { id := a.1, port := p, cells := cellsFor (frLen l), data := l, mt := d.now, vid := vp.1, pcp := vp.2,
                       tagged := frTagged l, mgmt := false, gen := none, entry := none, desc := desc, sent := [] }
  if !d.swCanTake p f.cells then (d, false) else (a.2.storeFrame f (if d.flag R.SW_CTRL_EN then targets else []), true)

/-- A frame is stored under a handle: the lowest free index with its SEQ; none when no cell or no index is free (13 R397). -/
def Dev.holdFrame (d : Dev) (p : Nat) (l : List Byte) (prio : Nat) : Dev × Option Nat :=
  let idx := (List.range 256).find? fun i => !(d.sw.held.any fun h => h.handle % 256 == i)
  let a := d.takeFrameId
  let vp := d.vidPcp p l none
  let f : SwFrame := { id := a.1, port := p, cells := cellsFor (frLen l), data := l, mt := d.now, vid := vp.1, pcp := vp.2,
                       tagged := frTagged l, mgmt := false, gen := none, entry := none, desc := none, sent := [] }
  match idx with
  | some i =>
    if d.swCanTake p f.cells then
      let sq := sparseGet (fun _ => 0) d.sw.seqs i
      let h := 0x10000 + sq % 256 * 256 + i
      let d := a.2
      ({ d with sw := { d.sw with frames := d.sw.frames ++ [f]
                                  held := d.sw.held ++ [{ handle := h, fid := f.id, prio := prio, since := d.now }]
                                  seqs := sparsePut (fun _ => 0) d.sw.seqs i (sq + 1) } }, some h)
    else (d, none)
  | none => (d, none)

/-- Whether a committed ETH_TX names a handle (13 R397). -/
def Dev.handleCommitted (d : Dev) (h : Nat) : Bool :=
  d.sch.ents.any fun e => !e.uncommitted && decide (e.action = 0x09) && decide (e.arg.toNat = h)

/-- A held frame is freed (13 R397). -/
def Dev.freeHeld (d : Dev) (h : Nat) : Dev :=
  match d.sw.held.find? fun x => x.handle == h with
  | some x => ({ d with sw := { d.sw with held := d.sw.held.filter fun y => y.handle != h } }).settle x.fid d.now
  | none => d

/-- A write to SW_HOLD_CMD (13 R397). -/
def Dev.writeHoldCmd (d : Dev) (v : Word) : Dev :=
  let h := v.toNat % 2 ^ 17
  if v.getLsbD 31 && !d.handleCommitted h then d.freeHeld h else d

/-- The target check of an ETH_TX: the handle is held, no other committed ETH_TX names it, the port is enabled with its link up
(13 R397). -/
def Dev.ethTxOk (d : Dev) (port h : Nat) : Bool :=
  (d.sw.held.any fun x => x.handle == h) && !d.handleCommitted h && d.ethUp port

/-- The placed event of an ETH_TX: the frame joins its queue and the handle ends; false when nothing was held (13 R397). -/
def Dev.launchEth (d : Dev) (port h : Nat) : Dev × Bool :=
  match d.sw.held.find? fun x => x.handle == h with
  | some x =>
    match d.swFrame x.fid with
    | some f =>
      let d := { d with sw := { d.sw with held := d.sw.held.filter fun y => y.handle != h } }
      (((d.countIgnored f []).enqueue f port x.prio).settle f.id d.now, true)
    | none => (d, false)
  | none => (d, false)

/-! ### SEND and RECV (11 R337, R338, 13 R399) -/

/-- SEND: 0 or the handle, or none without a free cell. -/
def Dev.swSend (d : Dev) (l : List Byte) (prio : Nat) (hold : Bool) (tab : Option (Bool × BitVec 12)) : Dev × Option Nat :=
  if hold then d.holdFrame 9 l prio
  else
    let r := d.admitFrame 9 l d.now (some prio) none tab
    (r.1, if r.2 then some 0 else none)

/-- The oldest available frame of a role's receive queue. -/
def Dev.swOldest (d : Dev) (role : Nat) : Option SwFrame :=
  match d.swQueue 9 role with
  | e :: _ => if e.passed then d.swFrame e.fid else none
  | [] => none

/-- RECV takes the oldest frame of a role's queue. -/
def Dev.swTake (d : Dev) (role : Nat) (f : SwFrame) : Dev :=
  (((d.setSwQueue 9 role (d.swQueue 9 role).tail).count (R.SW_P_TX_CNT 9)).markSent f.id 9 d.now).settle f.id d.now

/-- A received CAN frame that its controller passes to the switch (13 R401). -/
def Dev.canIngress (d : Dev) (k sof : Nat) (f : CanFrame) (tab : Option (Bool × BitVec 12)) : Dev :=
  if d.domOn 7 && d.flag R.SW_CTRL_EN && d.flag (R.SW_CAN_CFG_WRAP_EN k) then
    let l := d.wrapCan k sof f
    let sq := sparseGet (fun _ => 0) d.sw.canSeq k
    let d := { d with sw := { d.sw with canSeq := sparsePut (fun _ => 0) d.sw.canSeq k ((sq + 1) % 256) } }
    let r := d.admitFrame (16 + k) l sof none none tab
    if r.2 then r.1.count (R.SW_CAN_RX_CNT k) else d.count (R.SW_CAN_DROP_CNT k)
  else d

/-! ### Descriptors (13 R385 to R387, R395, R396, R398) -/

/-- The field at which a frame-transmit descriptor fails (13 R395). -/
def txBad (w : BitVec 256) : Option Nat :=
  let hold := w.getLsbD 12
  let direct := w.getLsbD 115
  let ports := descField w 16 4
  firstBad [(1, decide (bitsOf w 13 3 ≠ 0)),
            (12, decide (descField w 12 2 < 60 ∨ 1518 < descField w 12 2)),
            (14, decide (bitsOf w 116 4 ≠ 0) || (hold && direct)),
            (15, decide (byteOf w 15 ≠ 0)),
            (16, decide (256 ≤ ports) || (direct && decide (ports = 0)) || (hold && decide (ports ≠ 0))),
            (20, decide (descField w 20 4 ≠ 0))]

/-- A frame-transmit descriptor with the frame it names (13 R395, R396). -/
def Dev.transmit (d : Dev) (a : AccDesc) (l : List Byte) (tab : Option (Bool × BitVec 12)) : Dev :=
  let prio := bitsOf a.word 112 3
  if a.word.getLsbD 12 then
    match d.holdFrame 8 l prio with
    | (d, some h) => d.complete a.ref St.ok h 0x0B
    | (d, none) => d.complete a.ref St.busy 0 0x0B
  else
    let r :=
      if a.word.getLsbD 115 then d.admitDirect 8 l (some a.ref) ((maskPorts (descField a.word 16 1)).map fun p => (p, prio))
      else if d.acfShortcut l then
        let ports := acfPorts l
        let r := d.admitDirect 8 l (some a.ref) (ports.map fun p => (p, (d.vidPcp 8 l none).2 / 2))
        if ports.isEmpty && r.2 then ((frAcf l).foldl (fun d _ => d.count R.SW_ACF_IGN_CNT) r.1, true) else r
      else d.admitFrame 8 l d.now none (some a.ref) tab
    if r.2 then r.1.count (R.SW_P_RX_CNT 8) else d.complete a.ref St.busy 0 0x0B

/-- The field at which a frame-receive-buffer descriptor fails (13 R398). -/
def rxBad (w : BitVec 256) : Option Nat :=
  firstBad [(1, decide (bitsOf w 12 4 ≠ 0)),
            (4, decide (descField w 4 8 % 64 ≠ 0)),
            (12, decide (descField w 12 2 < 1600)),
            (14, decide (bitsOf w 115 5 ≠ 0)),
            (15, decide (descField w 15 9 ≠ 0))]

/-- A frame-receive-buffer descriptor (13 R398). -/
def Dev.postBuffer (d : Dev) (a : AccDesc) : Dev :=
  match rxBad a.word with
  | some off => d.completeBad a.ref off 0x0B
  | none =>
    let q := bitsOf a.word 112 3
    if 1024 ≤ (d.sw.bufs.filter fun b => b.queue == q).length then d.complete a.ref St.busy 0 0x0B
    else { d with sw := { d.sw with bufs := d.sw.bufs ++
      [{ ref := a.ref, addr := descField a.word 4 8, len := descField a.word 12 2, queue := q }] } }

/-- The field at which a table update fails (13 R385, R386). -/
def Dev.tableBad (d : Dev) (w : BitVec 256) : Option Nat :=
  firstBad [(1, decide (bitsOf w 12 4 ≠ 0)),
            (4, decide (descField w 4 8 % 32 ≠ 0)),
            (12, decide (descField w 12 2 = 0 ∨ 256 < descField w 12 2)),
            (14, decide (1 < byteOf w 14)),
            (15, decide (byteOf w 15 ≠ 0)),
            (18, decide (descField w 18 2 = 0) || d.sw.gens.contains (descField w 18 2)),
            (20, decide (descField w 20 4 ≠ 0))]

/-- Whether a record of a table update is refused (13 R385, R386): index, reserved bits, bucket. -/
def recBad (stream : Bool) (r : BitVec 256) : Bool :=
  let i := bitsOf r 0 16
  let e : BitVec 128 := r.extractLsb' 128 128
  let dmac := leBytes 6 (bitsOf e 0 48)
  decide (bitsOf r 16 112 ≠ 0) ||
  (if stream then
    decide (1024 ≤ i) || decide (bitsOf e 20 4 ≠ 0) || decide (bitsOf e 25 7 ≠ 0) || decide (bitsOf e 96 32 ≠ 0)
  else
    decide (4096 ≤ i) || decide (bitsOf e 61 3 ≠ 0) || decide (bitsOf e 74 6 ≠ 0) || decide (bitsOf e 107 5 ≠ 0) ||
    decide (bitsOf e 122 5 ≠ 0) || (e.getLsbD 60 && decide (bucketOf dmac (bitsOf e 48 12) ≠ i / 4)))

/-- Writes a record's entry; a failed entry is whole again; a stream that was not valid starts with a level the spec does not
give (13 R382, R386, R404; DESIGN CHOICE, notes/assumptions/8.md). -/
def Dev.writeEntry (d : Dev) (stream : Bool) (r : BitVec 256) : Dev :=
  let i := bitsOf r 0 16
  let e : BitVec 128 := r.extractLsb' 128 128
  let k := if stream then 4096 + i else i
  let d := { d with sw := { d.sw with poison := d.sw.poison.filter (· != k) } }
  if stream then
    let was := (d.str i).getLsbD 24
    let d := { d with sw := { d.sw with str := sparsePut (fun _ => 0) d.sw.str i e } }
    if was then d
    else
      let v := d.draw
      v.2.setMeter i { d.meter i with level := v.1.toNat % (bitsOf e 64 32 * 32000000 + 1), at_ := d.now }
  else { d with sw := { d.sw with fwd := sparsePut (fun _ => 0) d.sw.fwd i e } }

/-- A table update whose fields pass, with its records (13 R386). -/
def Dev.updateTable (d : Dev) (a : AccDesc) (recs : List (BitVec 256)) : Dev :=
  let stream := decide (byteOf a.word 14 = 1)
  let gen := descField a.word 18 2
  if recs.any (recBad stream) then d.completeBad a.ref 4 0x0B
  else if descField a.word 16 2 ≠ d.fld R.SW_STAT_GEN then d.complete a.ref St.generationStale (d.fld R.SW_STAT_GEN) 0x0B
  else if 15 ≤ d.genInside then d.complete a.ref St.busy 0 0x0B
  else
    let d := recs.foldl (fun d r => d.writeEntry stream r) d
    let d := { d with sw := { d.sw with gens := gen :: d.sw.gens.take 15, acts := d.sw.acts + 1 } }
    (d.setFld R.SW_STAT_GEN gen).complete a.ref St.ok (d.now % 2 ^ 32) 0x0B

/-- A drain-barrier descriptor (13 R387). -/
def Dev.drain (d : Dev) (a : AccDesc) : Dev :=
  match firstBad [(1, decide (bitsOf a.word 12 4 ≠ 0)), (6, decide (descField a.word 6 18 ≠ 0))] with
  | some off => d.completeBad a.ref off 0x0B
  | none =>
    match (List.range d.sw.gens.length).find? fun k => (d.sw.gens.drop k).head? == some (descField a.word 4 2) with
    | some k =>
      let act := d.sw.acts - k
      { d with sw := { d.sw with barriers := d.sw.barriers ++
          [{ ref := a.ref, act := act, met := if d.olderInside act then none else some d.now }] } }
    | none => d.complete a.ref St.generationStale (d.fld R.SW_STAT_GEN) 0x0B

/-! ### Links, Fallow, registers (13 R375, R406) -/

/-- Whether CAN controller k is sending a stored frame. -/
def Dev.canSends (d : Dev) (k fid : Nat) : Bool :=
  d.can.any fun c => c.1 == k &&
    (match c.2.att with
      | some (p, _, _) => (match p.src with | .sw _ g => g == fid | _ => false)
      | none => false)

/-- A frame is dropped from a queue and counted in AGE_CNT, or DROP_CNT on a CAN port. -/
def Dev.dropAged (d : Dev) (p q : Nat) : Dev :=
  match d.swQueue p q with
  | e :: t =>
    let d := d.setSwQueue p q t
    (if p < 10 then d.count (R.SW_P_AGE_CNT p) else d.count (R.SW_CAN_DROP_CNT (p - 16))).settle e.fid d.now
  | [] => d

/-- A port drops every frame in its queues (13 R406). -/
def Dev.dropQueues (d : Dev) (p : Nat) : Dev :=
  d.forAll (List.range 16) fun q d => d.forAll (List.range (d.swQueue p q).length) fun _ d => d.dropAged p q

/-- An Ethernet link goes down (13 R406). -/
def Dev.ethDown (d : Dev) (p : Nat) : Dev :=
  let x := d.swPort p
  let d := d.setSwPort p { x with rx := none, tx := none }
  let d := match x.rx with
    | some r => (if r.drop then d else d.count (R.SW_P_AGE_CNT p)).endCut r.frame r.cut true
    | none => d
  let d := match x.tx with
    | some t => (d.count (R.SW_P_AGE_CNT p)).settle t.fid d.now
    | none => d
  let d := ((d.dropQueues p).updateBarriers d.now).setFlag (R.SW_P_STAT_LINK p) false
  ((d.setFlag (R.SW_P_EVT_LINK_DOWN p) true).swEvent R.SW_EVT_LINK_CHG).raiseFault Src.swLink 0

/-- The switch's close-out at Fallow entry: every frame dropped, held frames freed, posted buffers completed CANCELLED
(13 R406). -/
def Dev.swClose (d : Dev) : Dev :=
  let d := d.forAll swPorts fun p d => d.dropQueues p
  let d := d.forAll (List.range 8) fun p d =>
    let x := d.swPort p
    let d := d.setSwPort p { x with rx := none, tx := none }
    match x.tx with | some t => d.settle t.fid d.now | none => d
  let d := d.sw.held.foldl (fun d h => d.freeHeld h.handle) d
  let bufs := d.sw.bufs
  let d := { d with sw := { d.sw with bufs := [] } }
  let d := (bufs.foldl (fun d b => d.complete b.ref St.cancelled 0 0x0B) d).updateBarriers d.now
  let met := d.sw.barriers.filter fun b => b.met.isSome
  let d := { d with sw := { d.sw with barriers := d.sw.barriers.filter fun b => b.met.isNone } }
  met.foldl (fun d b => d.complete b.ref St.ok (b.met.getD 0 % 2 ^ 32) 0x0B) d

/-- A write to SW_MDIO_CMD: GO starts a frame unless one runs (13 R375). -/
def Dev.writeMdio (d : Dev) (v : Word) : Dev :=
  let busy := d.flag R.SW_MDIO_CMD_BUSY
  let d := d.setReg R.SW_MDIO_CMD ((v &&& 0x1FFF#32) ||| (d.reg R.SW_MDIO_CMD &&& 0x40000000#32))
  if v.getLsbD 31 && !busy then d.setFlag R.SW_MDIO_CMD_BUSY true else d

/-- A write to SW_Pp_CFG: the blocks of HP and EP have no such field, IF of ET6 and ET7 is read-only. -/
def Dev.writeSwCfg (d : Dev) (p : Nat) (v : Word) : Dev :=
  if p < 6 then d.writeByCode (R.SW_P_CFG p) v
  else if p < 8 then d.writeByCode (R.SW_P_CFG p) (v &&& 0xFFFFFFF9#32) else d

/-- Removes the oldest egress stamp (13 R403). -/
def Dev.popStamp (d : Dev) (p : Nat) : Dev := d.setSwPort p { d.swPort p with ts := (d.swPort p).ts.tail }

/-! ### Commands -/

/-- FRAME_INGRESS (13 R375, R378, R379, R389, R390). -/
def execFrameIngress (p : Fin 8) (ev : Ingress) (s : State) : Host.Outcome State Fault Refusal :=
  onDev s fun d =>
    if d.ethUp p && d.flag R.SW_CTRL_EN then
      match ev with
      | .head stamp bytes tab =>
        if (d.swPort p).rx.isNone && decide (bytes.length = 60) then d.ingressHead p stamp.toNat bytes tab else d
      | .tail bytes ok => d.ingressTail p bytes ok
    else d

/-- FRAME_EGRESS (13 R383, R390, R391, R394, R398, R399, 14 R418): a port starts a frame, or the frame an Ethernet port is
sending ends; `det` is a cell that fails its code. -/
def execFrameEgress (p : Fin 32) (fin det : Bool) (s : State) : Host.Outcome State Fault Refusal :=
  onDev s fun d =>
    if d.domOn 7 then
      if p.val < 8 then (if fin then d.endEgress p det else d.startEgress p det)
      else if p.val = 8 then d.hostEgress det
      else if p.val = 9 then d.engineEgress det
      else if 16 ≤ p.val then
        match d.canHead (p.val - 16) with
        | some (_, _, c) =>
          let det := det || d.injected 10 (some p)
          let m := d.fld (R.CAN_STAT_MODE_NOW (p.val - 16))
          if det || (c.fdf && (c.rtr || !d.flag (R.CAN_CTRL_FD_EN (p.val - 16)))) || decide (m = 0 ∨ m = 2) ||
              decide (d.fld (R.CAN_STAT_ERR_STATE (p.val - 16)) = 2) then
            (if det then (d.injectDone 10 (some p)).cellFail p else d).dropCanHead (p.val - 16)
          else d
        | none => d
      else d
    else d

/-- GATE_EVENT (13 R392): the gates follow the active list. -/
def execGateEvent (p : Fin 8) (s : State) : Host.Outcome State Fault Refusal :=
  onDev s fun d => if d.domOn 7 then d.setSwPort p { d.swPort p with gates := d.gateMask p d.now } else d

/-- GCL_SWAP (13 R393): the written word of SW_Pp_GCL_CTRL. -/
def execGclSwap (p : Fin 8) (v : BitVec 32) (s : State) : Host.Outcome State Fault Refusal :=
  onDev s fun d => d.access (R.SW_P_GCL_CTRL p) fun d => d.writeGclCtrl p v

/-- GCL_SWAP_START (13 R393). -/
def execGclSwapStart (p : Fin 8) (s : State) : Host.Outcome State Fault Refusal :=
  onDev s fun d =>
    match (d.swPort p).swap with
    | some t =>
      if t ≤ d.now then
        let d := d.setSwPort p { d.swPort p with swap := none, len := d.fld (R.SW_P_GCL_CTRL_LEN p), cycle := d.fld (R.SW_P_GCL_CYCLE_CYCLE p),
                                                 base := d.reg64 (R.SW_P_GCL_BASE_LO p) (R.SW_P_GCL_BASE_HI p) }
        let d := d.setFld (R.SW_P_STAT_LIST p) (1 - d.fld (R.SW_P_STAT_LIST p))
        let d := ((d.setFlag (R.SW_P_STAT_GCL_ACTIVE p) true).setFlag (R.SW_P_STAT_SWAP_PEND p) false).setFlag (R.SW_P_EVT_GCL_SWAPPED p) true
        d.setSwPort p { d.swPort p with gates := d.gateMask p d.now }
      else d
    | none => d

/-- FRAME_TRANSMIT (13 R395, R396): with the bytes of the frame that the module reads. -/
def execFrameTransmit (data : List (BitVec 8)) (tab : Option (Bool × BitVec 12)) (s : State) :
    Host.Outcome State Fault Refusal :=
  onDev s fun d =>
    match d.nextDesc fun w => descType w == 0x20 with
    | some a =>
      match txBad a.word with
      | some off => (d.takeDesc a).completeBad a.ref off 0x0B
      | none => if d.canMaster && decide (data.length = descField a.word 12 2) then (d.takeDesc a).transmit a data tab else d
    | none => d

/-- FRAME_RECEIVE_BUFFER (13 R398). -/
def execFrameReceiveBuffer (s : State) : Host.Outcome State Fault Refusal :=
  onDev s fun d => d.withDesc (fun w => descType w == 0x21) fun a d => d.postBuffer a

/-- TABLE_UPDATE (13 R385, R386): with the records that the module reads. -/
def execTableUpdate (recs : List (BitVec 256)) (s : State) : Host.Outcome State Fault Refusal :=
  onDev s fun d =>
    match d.nextDesc fun w => descType w == 0x40 with
    | some a =>
      match d.tableBad a.word with
      | some off => (d.takeDesc a).completeBad a.ref off 0x0B
      | none => if d.canMaster && decide (recs.length = descField a.word 12 2) then (d.takeDesc a).updateTable a recs else d
    | none => d

/-- DRAIN_BARRIER (13 R387). -/
def execDrainBarrier (s : State) : Host.Outcome State Fault Refusal :=
  onDev s fun d => d.withDesc (fun w => descType w == 0x41) fun a d => d.drain a

/-- BARRIER_MET (13 R387): the oldest barrier whose frames have left completes. -/
def execBarrierMet (s : State) : Host.Outcome State Fault Refusal :=
  onDev s fun d =>
    match d.sw.barriers.find? fun b => b.met.isSome with
    | some b => ({ d with sw := { d.sw with barriers := d.sw.barriers.erase b } }).complete b.ref St.ok (b.met.getD 0 % 2 ^ 32) 0x0B
    | none => d

/-- AGE_OUT (13 R388): the oldest frame of a queue has stayed longer than AGE_MS. -/
def execAgeOut (p : Fin 32) (q : Fin 16) (s : State) : Host.Outcome State Fault Refusal :=
  onDev s fun d =>
    match d.swQueue p q with
    | e :: _ => if decide (e.since + msTicks (max 1 (d.fld R.SW_AGE_AGE_MS)) < d.now) && !d.canSends (p.val - 16) e.fid then d.dropAged p q else d
    | [] => d

/-- HOLD_EXPIRY (13 R397). -/
def execHoldExpiry (h : BitVec 17) (s : State) : Host.Outcome State Fault Refusal :=
  onDev s fun d =>
    match d.sw.held.find? fun x => x.handle == h.toNat with
    | some x =>
      if !d.handleCommitted x.handle && decide (x.since + max 1 (d.fld R.SW_HOLD_TO_HOLD_TO) * secTicks ≤ d.now) then
        ((d.freeHeld x.handle).count R.SW_HOLD_EXP_CNT).swEvent R.SW_EVT_HOLD_EXPIRED
      else d
    | none => d

/-- HOLD_FREE (13 R397): the written word of SW_HOLD_CMD. -/
def execHoldFree (v : BitVec 32) (s : State) : Host.Outcome State Fault Refusal :=
  onDev s fun d => d.access R.SW_HOLD_CMD fun d => d.writeHoldCmd v

/-- GLEANER_PASS (13 R405): the cells a pass finds without an owner, and those found both free and owned. -/
def execGleanerPass (orphans doubles : List (Fin 24576)) (s : State) : Host.Outcome State Fault Refusal :=
  onDev s fun d =>
    let per := max 10 (min 10000 (d.fld R.SW_GLEAN_CFG_AUDIT_MS))
    if d.domOn 7 && d.flag R.SW_CTRL_GLEAN_EN && decide (d.sw.gleanAt + msTicks per ≤ d.now) then
      let found := (orphans.map (·.val)).eraseDups
      let back := found.filter d.sw.marks.contains
      let d := { d with sw := { d.sw with gleanAt := d.now, marks := found.filter fun c => !d.sw.marks.contains c } }
      let d := d.count R.SW_GLEAN_PASS_CNT
      let d := if back.isEmpty then d
        else ((d.addFld R.SW_GLEAN_CNT_COUNT back.length).swEvent R.SW_EVT_GLEANED).raiseFault Src.swGlean 0
      if doubles.isEmpty then d else (d.swEvent R.SW_EVT_INTEG).raiseFault Src.swInteg 0
    else d

/-- ETH_LINK_DOWN (13 R406). -/
def execEthLinkDown (p : Fin 8) (s : State) : Host.Outcome State Fault Refusal :=
  onDev s fun d => if d.domOn 7 && d.flag (R.SW_P_STAT_LINK p) then d.ethDown p else d

/-- ETH_LINK_UP (13 R374, R406, SW_Pp_STAT): at a speed that the port's interface and configuration give. -/
def execEthLinkUp (p : Fin 8) (speed : Fin 4) (s : State) : Host.Outcome State Fault Refusal :=
  onDev s fun d =>
    if d.domOn 7 && (decide (6 ≤ p.val) || d.domOn 8) && !d.flag (R.SW_P_STAT_LINK p) && d.speedOk p speed then
      let d := (d.setFlag (R.SW_P_STAT_LINK p) true).setFld (R.SW_P_STAT_SPEED_NOW p) speed
      (d.setFlag (R.SW_P_EVT_LINK_UP p) true).swEvent R.SW_EVT_LINK_CHG
    else d

/-- MDIO_GO (13 R375): the written word of SW_MDIO_CMD. -/
def execMdioGo (v : BitVec 32) (s : State) : Host.Outcome State Fault Refusal :=
  onDev s fun d => d.access R.SW_MDIO_CMD fun d => d.writeMdio v

/-- MDIO_DONE (13 R375): with the word a read frame brings. -/
def execMdioDone (data : BitVec 16) (s : State) : Host.Outcome State Fault Refusal :=
  onDev s fun d =>
    if d.flag R.SW_MDIO_CMD_BUSY then
      let d := d.setFlag R.SW_MDIO_CMD_BUSY false
      if 2 ≤ d.fld R.SW_MDIO_CMD_OP then d.setFld R.SW_MDIO_DATA_DATA data.toNat else d
    else d

/-- TS_POP (13 R403). -/
def execTsPop (p : Fin 8) (v : BitVec 32) (s : State) : Host.Outcome State Fault Refusal :=
  onDev s fun d => d.access (R.SW_P_TS_POP p) fun d => if v.getLsbD 0 then d.popStamp p else d

end Sys2Proof.Machine
end

