-- ==== Sys2Proof/Machine/Can.lean ====
section
/-! DEFINITION. The CAN controllers of 14: modes, message buffers, pending frames, arbitration, cancels, errors, reception, and
the commands of that chapter. -/

namespace Sys2Proof.Machine

/-! ### Hidden state and words -/

/-- A controller at the power-on of PD9 (14 R427). -/
def CanHid.init : CanHid where
  pend := []
  att := none
  fifo0 := []
  fifo1 := []
  clash := none
  bad := []
  integAt := 0
  recover := none
  modePend := none
  swFail := (0, 0)

/-- A controller. -/
def Dev.canc (d : Dev) (n : Nat) : CanHid := sparseGet (fun _ => CanHid.init) d.can n

/-- Sets a controller. -/
def Dev.setCanc (d : Dev) (n : Nat) (x : CanHid) : Dev := { d with can := sparsePut (fun _ => CanHid.init) d.can n x }

/-- The offset of word w of message buffer m (14 R414). -/
def mbOff (n m w : Nat) : Nat := if m < 32 then R.CAN_MB_W0 n m + 4 * w else R.CAN_MBH_W0 n (m - 32) + 4 * w

/-- A field of word w of a message buffer. -/
def mbFld (n m w lo len : Nat) : Fld := ⟨mbOff n m w, lo, len⟩

/-- MODE of a buffer: 0 off, 1 receive, 2 transmit by request, 3 transmit by schedule. -/
def Dev.mbMode (d : Dev) (n m : Nat) : Nat := d.fld (mbFld n m 1 0 2)

/-- The bit of buffer m in a pair of _LO and _HI registers. -/
def mbBit (lo : Nat) (m : Nat) : Fld := ⟨lo + 4 * (m / 32), m % 32, 1⟩

/-- MODE_NOW. -/
def Dev.canMode (d : Dev) (n : Nat) : Nat := d.fld (R.CAN_STAT_MODE_NOW n)

/-- Whether a controller is bus-off. -/
def Dev.busOff (d : Dev) (n : Nat) : Bool := decide (d.fld (R.CAN_STAT_ERR_STATE n) = 2)

/-- The 16 or 2 data words of a buffer as bytes in bus order. -/
def Dev.mbData (d : Dev) (n m : Nat) : List Byte :=
  (List.range (if m < 32 then 16 else 2)).flatMap fun w => leBytes 4 (d.reg (mbOff n m (4 + w))).toNat

/-- The frame a buffer holds: its header and data. -/
def Dev.mbFrame (d : Dev) (n m : Nat) : CanFrame :=
  let w0 := d.reg (mbOff n m 0)
  let w1 := d.reg (mbOff n m 1)
  let f : CanFrame := { id := w0.extractLsb' 0 29, ide := w0.getLsbD 29, rtr := w0.getLsbD 30, fdf := w1.getLsbD 2,
                        brs := w1.getLsbD 3, esi := false, dlc := w1.extractLsb' 8 4, data := [] }
  { f with data := (d.mbData n m).take (canBytes f) }

/-- Whether a frame may be pending (14 R418). -/
def Dev.sendable (d : Dev) (n : Nat) (narrow : Bool) (f : CanFrame) : Bool :=
  (!narrow || decide (f.dlc.toNat ≤ 8)) && (!f.fdf || d.flag (R.CAN_CTRL_FD_EN n)) && (!f.rtr || !f.fdf)

/-- The buffer a pending frame came from. -/
def CanSrc.buffer : CanSrc → Option Nat
  | .req m => some m
  | .sched m _ => some m
  | _ => none

/-- Whether a buffer has a pending frame. -/
def Dev.mbPending (d : Dev) (n m : Nat) : Bool := (d.canc n).pend.any fun p => p.src.buffer == some m

/-- TARGET of a CAN_TX that names a buffer (04 R121). -/
def canTarget (n m : Nat) : Nat := n + 16 * m

/-- Whether a committed CAN_TX names a buffer (14 R414, R421). -/
def Dev.mbCommitted (d : Dev) (n m : Nat) : Bool :=
  d.sch.ents.any fun e => !e.uncommitted && decide (e.action = 0x08) && decide (e.target = canTarget n m) && e.src != .mt

/-! ### The release stream's buffer (18 R517, R518) -/

/-- An event of the access block. -/
def Dev.accEvent (d : Dev) (f : Fld) : Dev := d.event R.ACC_EVT f.lo R.ACC_IEN R.ACC_VEC

/-- The release stream stops: STOP_WHY and its event; codes 3, 4, 6 and 7 raise ACC_STREAM (18 R518). -/
def Dev.stopStream (d : Dev) (why : Nat) : Dev :=
  let d := { d with acc := { d.acc with next := none, wait := false } }
  let d := ((d.setFlag R.ACC_STAT_STREAM false).setFld R.ACC_STAT_STOP_WHY why).accEvent R.ACC_EVT_STREAM_STOP
  if why = 3 ∨ why = 4 ∨ why = 6 ∨ why = 7 then d.raiseFault Src.accStream 0 else d

/-- The release stream stops when its controller leaves NORMAL (18 R518). -/
def Dev.streamLost (d : Dev) (n : Nat) : Dev :=
  if d.acc.next.isSome && decide (d.fld R.ACC_REL_CFG_CAN = n) then d.stopStream 7 else d

/-- Whether the release stream holds a buffer: host and engine writes to it are ignored (18 R517). -/
def Dev.relLock (d : Dev) (n m : Nat) : Bool :=
  d.acc.next.isSome && decide (d.fld R.ACC_REL_CFG_CAN = n) && decide (d.fld R.ACC_REL_CFG_MB = m)

/-- A write to a word of a message buffer: MODE is kept while a frame is pending or committed; FDF, BRS and DLC of a receive
buffer are kept; a rewritten word is whole again (14 R414, R426, 18 R517). -/
def Dev.writeMb (d : Dev) (n m w : Nat) (v : Word) : Dev :=
  if d.relLock n m then d else
  let x := d.canc n
  let d := d.setCanc n { x with bad := x.bad.filter (· != m) }
  let off := mbOff n m w
  if w = 1 then
    let old := d.reg off
    let keep := (if d.mbPending n m || d.mbCommitted n m then 0x3#32 else 0#32) |||
      (if d.mbMode n m = 1 then 0xF0C#32 else 0#32)
    d.writeByCode off ((old &&& keep) ||| (v &&& ~~~keep))
  else d.writeByCode off v

/-- A write to a word of a FIFO filter; a rewritten filter is whole again (14 R426). -/
def Dev.writeFilter (d : Dev) (n f off : Nat) (v : Word) : Dev :=
  let x := d.canc n
  (d.setCanc n { x with bad := x.bad.filter (· != 64 + f) }).writeByCode off v

/-! ### Bit timing (14 R410) -/

/-- Kernel cycles of a nominal bit. -/
def Dev.nomCycles (d : Dev) (n : Nat) : Nat :=
  (d.fld (R.CAN_NBT_BRP n) + 1) * (3 + d.fld (R.CAN_NBT_TSEG1 n) + d.fld (R.CAN_NBT_TSEG2 n))

/-- Kernel cycles of a data bit. -/
def Dev.dataCycles (d : Dev) (n : Nat) : Nat :=
  (d.fld (R.CAN_DBT_BRP n) + 1) * (3 + d.fld (R.CAN_DBT_TSEG1 n) + d.fld (R.CAN_DBT_TSEG2 n))

/-- Ticks of a nominal bit: a kernel cycle is 12.5 ns. -/
def Dev.bitTicks (d : Dev) (n : Nat) : Nat := 50 * d.nomCycles n

/-- Whether the settings keep the limits of R410. -/
def Dev.timingOk (d : Dev) (n : Nat) : Bool :=
  decide (1 ≤ d.fld (R.CAN_NBT_TSEG2 n)) && decide (d.fld (R.CAN_NBT_SJW n) ≤ d.fld (R.CAN_NBT_TSEG2 n)) &&
  decide (d.fld (R.CAN_DBT_SJW n) ≤ d.fld (R.CAN_DBT_TSEG2 n)) && decide (80 ≤ d.nomCycles n) && decide (10 ≤ d.dataCycles n)

/-- Ticks from a SOF edge to its sample point (14 R422). -/
def Dev.sofSample (d : Dev) (n : Nat) : Nat :=
  50 * ((d.fld (R.CAN_NBT_BRP n) + 1) * (2 + d.fld (R.CAN_NBT_TSEG1 n)))

/-- A write to NBT, DBT or TDC: taken in CONFIG only (14 R410). -/
def Dev.writeTiming (d : Dev) (n off : Nat) (v : Word) : Dev := if d.canMode n = 0 then d.writeByCode off v else d

/-! ### Cancels that wait in the schedule (04 R138) -/

/-- A cancel all of whose frames are decided completes (04 R136, R138). -/
def Dev.finishCancel (d : Dev) (c : WaitCancel) : Dev :=
  match c.mode, c.sof with
  | 0, some t => d.complete c.ref St.tooLateSent (t % 2 ^ 32) 0x04
  | _, _ => d.complete c.ref St.ok (c.removed + c.left * 65536) 0x04

/-- The controller has decided a frame: withdrawn, or sent with its SOF MT (14 R422). -/
def Dev.resolveCancel (d : Dev) (n m : Nat) (sent : Option Nat) : Dev :=
  let upd := fun c : WaitCancel =>
    if c.frames.contains (n, m) then
      { c with frames := c.frames.erase (n, m), removed := if sent.isNone then c.removed + 1 else c.removed
               left := if sent.isSome then c.left + 1 else c.left, sof := if sent.isSome then sent else c.sof }
    else c
  let l := d.sch.cancels.map upd
  let d := { d with sch := { d.sch with cancels := l.filter fun c => !c.frames.isEmpty } }
  (l.filter fun c => c.frames.isEmpty).foldl (fun d c => d.finishCancel c) d

/-! ### Pending frames (14 R418 to R420) -/

/-- Why a pending frame leaves without being sent. -/
inductive CanLeave where
  | cancel (t : Nat)
  | fail
  deriving DecidableEq, Repr

/-- Clears the request and cancel bits of a buffer. -/
def Dev.clearReq (d : Dev) (n m : Nat) : Dev :=
  (d.setFlag (mbBit (R.CAN_TXREQ_LO n) m) false).setFlag (mbBit (R.CAN_TXCXL_LO n) m) false

/-- Takes a pending frame off the controller. -/
def Dev.dropPend (d : Dev) (n : Nat) (p : CanPend) : Dev :=
  let x := d.canc n
  d.setCanc n { x with pend := x.pend.filter fun q => q.src != p.src }

/-- A pending frame is withdrawn: its request, its entry and its records by R420. -/
def Dev.withdrawCan (d : Dev) (n : Nat) (p : CanPend) (why : CanLeave) : Dev :=
  let d := d.dropPend n p
  let d := match why, p.src with
    | .cancel _, _ => d.canEvent n (R.CAN_EVT_CXL n)
    | .fail, .req _ => d.canEvent n (R.CAN_EVT_TXFAIL n)
    | .fail, .sched _ _ => d.canEvent n (R.CAN_EVT_TXFAIL n)
    | .fail, _ => d
  match p.src with
  | .req m => d.clearReq n m
  | .sched m e =>
    (match why with
      | .cancel t => (d.count R.SCH_CANCEL_CNT).outcome e St.cancelled (t % 2 ^ 32)
      | .fail => d.firedInVain e).resolveCancel n m none
  | .ref e => d.firedInVain e
  | .sw _ _ => d.dropCanHead n

/-- An attempt ends and the frame stays pending; a held cancel withdraws it (14 R419, R422). -/
def Dev.endAttempt (d : Dev) (n : Nat) : Dev :=
  match (d.canc n).att with
  | some (p, _, held) =>
    let d := (d.setCanc n { d.canc n with att := none }).setFlag (R.CAN_STAT_TX_ACTIVE n) false
    if held then d.withdrawCan n p (.cancel d.now) else d
  | none => d

/-- Every pending frame of a controller is withdrawn, the switch frame too (14 R413, R420). -/
def Dev.withdrawFrames (d : Dev) (n : Nat) : Dev :=
  let d := d.endAttempt n
  let d := (d.canc n).pend.foldl (fun d p => d.withdrawCan n p .fail) d
  d.dropCanHead n

/-- A frame becomes pending; a controller that takes no part in sending withdraws it at once (14 R413, R418, R420). -/
def Dev.addPend (d : Dev) (n : Nat) (src : CanSrc) (f : CanFrame) : Dev :=
  let p : CanPend := { src := src, frame := f, fails := 0 }
  let x := d.canc n
  let d := d.setCanc n { x with pend := x.pend ++ [p] }
  let d := match src with
    | .req m => d.setFlag (mbBit (R.CAN_TXREQ_LO n) m) true
    | _ => d
  if decide (d.canMode n = 0 ∨ d.canMode n = 2) || d.busOff n then d.withdrawCan n p .fail else d

/-- A copy fails its detection code: not sent, TXFAIL, INTEG (14 R420, R426). -/
def Dev.copyFail (d : Dev) (n : Nat) : Dev :=
  (((d.count (R.CAN_INTEG_CNT n)).canEvent n (R.CAN_EVT_TXFAIL n)).canEvent n (R.CAN_EVT_INTEG n)).raiseFault Src.canInteg 0

/-- A write to TXREQ: a MODE 2 buffer without a pending frame whose frame is sendable becomes pending; `det` fails the copy of
the first one (14 R418, R420). -/
def Dev.writeTxreq (d : Dev) (n : Nat) (hi : Bool) (v : Word) (det : Bool) : Dev :=
  let ms := ((List.range 32).filter fun i => v.getLsbD i).map fun i => i + 32 * hi.toNat
  let ok := ms.filter fun m => !d.relLock n m && decide (d.mbMode n m = 2) && !d.mbPending n m && d.sendable n (decide (32 ≤ m)) (d.mbFrame n m)
  match ok, det with
  | _ :: t, true => (t.foldl (fun d m => d.addPend n (.req m) (d.mbFrame n m)) d).copyFail n
  | l, _ => l.foldl (fun d m => d.addPend n (.req m) (d.mbFrame n m)) d

/-- What a cancel finds (14 R422). -/
inductive CxlSeen where
  | none
  | withdrawn
  | held
  deriving DecidableEq, Repr

/-- A cancel of a buffer's frame reaches the controller at an MT (14 R422): withdrawn with no attempt running or before the SOF
sample point, else held until the attempt ends. -/
def Dev.cancelCan (d : Dev) (n m t : Nat) : Dev × CxlSeen :=
  match (d.canc n).pend.find? fun p => p.src.buffer == some m with
  | some p =>
    match (d.canc n).att with
    | some (a, sof, h) =>
      if a.src = p.src then
        if t < sof + d.sofSample n then
          (((d.setCanc n { d.canc n with att := none }).setFlag (R.CAN_STAT_TX_ACTIVE n) false).withdrawCan n p (.cancel t), .withdrawn)
        else (d.setCanc n { d.canc n with att := some (a, sof, h || true) }, .held)
      else (d.withdrawCan n p (.cancel t), .withdrawn)
    | none => (d.withdrawCan n p (.cancel t), .withdrawn)
  | none => (d, .none)

/-- A write to TXCXL: cancels the frames of MODE 2 buffers; a held cancel reads 1 (14 R422). -/
def Dev.writeTxcxl (d : Dev) (n : Nat) (hi : Bool) (v : Word) : Dev :=
  let ms := ((List.range 32).filter fun i => v.getLsbD i).map fun i => i + 32 * hi.toNat
  ms.foldl (fun d m =>
    if !d.relLock n m && (d.canc n).pend.any fun p => p.src == .req m then
      match d.cancelCan n m d.now with
      | (d, .held) => d.setFlag (mbBit (R.CAN_TXCXL_LO n) m) true
      | (d, _) => d
    else d) d

/-! ### Scheduled frames (14 R421, R423) -/

/-- The target check of a CAN_TX (14 R421). -/
def Dev.canTxOk (d : Dev) (n m : Nat) : Bool :=
  decide (d.canMode n = 1 ∨ d.canMode n = 3) && (d.canc n).modePend.isNone && decide (d.mbMode n m = 3) &&
  d.sendable n (decide (32 ≤ m)) (d.mbFrame n m) && !d.mbCommitted n m

/-- The bytes of a reference frame (03 R111): SEQ, STATE, GT and the time of the previous SOF. -/
def Dev.refBytes (d : Dev) : List Byte :=
  let gt := d.flag R.MT_STATE_OFS_VALID
  let t := match d.mt.refSof with
    | some x => (if gt then ofInt 64 (d.gnssTime x) else x) / 4 % 2 ^ 56
    | none => 0
  leBytes 1 (d.mt.refSeq % 16 + 16 * d.mtSt + 64 * gt.toNat) ++ leBytes 7 t

/-- The reference frame (03 R111). -/
def Dev.refFrame (d : Dev) : CanFrame :=
  { id := (d.reg R.MT_CANREF_ID).extractLsb' 0 29, ide := d.flag R.MT_CANREF_ID_IDE, rtr := false, fdf := false, brs := false,
    esi := false, dlc := 8, data := d.refBytes }

/-- The placed event of a CAN_TX: the buffer is copied and the frame becomes pending; a buffer that cannot send, or a copy that
fails, completes the entry NOT_PERMITTED (14 R418, R420, R421, R423). -/
def Dev.placeCan (d : Dev) (e : Entry) (det : Bool) : Dev :=
  let n := e.target % 16
  let m := e.target / 16
  let d := d.setEntry { e with win := false }
  if e.src = .mt then
    if det then ((d.count (R.CAN_INTEG_CNT n)).canEvent n (R.CAN_EVT_INTEG n)).raiseFault Src.canInteg 0 |>.firedInVain e
    else d.addPend n (.ref e) d.refFrame
  else if d.mbMode n m = 3 ∧ d.sendable n (decide (32 ≤ m)) (d.mbFrame n m) ∧ d.mbPending n m = false then
    if det then (d.copyFail n).firedInVain e else d.addPend n (.sched m e) (d.mbFrame n m)
  else d.firedInVain e

/-! ### Arbitration (14 R419) -/

/-- The arbitration field of a frame as a number: the lower wins (ISO 11898-1; PRESUMED, notes/assumptions/40.md). -/
def arbKey (f : CanFrame) : Nat :=
  let base := f.id.toNat / 2 ^ 18 * 2 ^ 21
  if f.ide then base + 2 ^ 20 + 2 ^ 19 + f.id.toNat % 2 ^ 18 * 2 + f.rtr.toNat else base + f.rtr.toNat * 2 ^ 20

/-- The order among identical arbitration fields: reference, buffers ascending, switch. -/
def CanSrc.rank : CanSrc → Nat
  | .ref _ => 0
  | .req m => 1 + m
  | .sched m _ => 1 + m
  | .sw _ _ => 65

/-- The frame of the switch port that a controller may send (14 R418). -/
def Dev.switchPend (d : Dev) (n : Nat) : List CanPend :=
  if d.domOn 7 then
    match d.canHead n with
    | some (q, e, c) => if d.sendable n false c then [{ src := .sw q e.fid, frame := c, fails := if (d.canc n).swFail.1 = e.fid then (d.canc n).swFail.2 else 0 }] else []
    | none => []
  else []

/-- The pending frame offered at the next opportunity. -/
def Dev.canWinner (d : Dev) (n : Nat) : Option CanPend :=
  ((d.canc n).pend ++ d.switchPend n).foldl (fun b p =>
    match b with
    | none => some p
    | some q =>
      if arbKey p.frame < arbKey q.frame ∨ (arbKey p.frame = arbKey q.frame ∧ p.src.rank < q.src.rank) then some p else some q) none

/-! ### Modes (14 R412, R413) -/

/-- A mode comes into force. -/
def Dev.applyMode (d : Dev) (n m : Nat) : Dev :=
  let was := d.canMode n
  let d := (d.setFld (R.CAN_STAT_MODE_NOW n) m).setFlag (R.CAN_STAT_MODE_PEND n) false
  let d := d.setCanc n { d.canc n with modePend := none }
  if was = m then d
  else
    let d := d.canEvent n (R.CAN_EVT_MODE_DONE n)
    let d := if was = 1 then d.streamLost n else d
    let d := if m = 0 ∨ m = 2 then d.withdrawFrames n else d
    if m = 0 ∨ m = 3 then d.setFlag (R.CAN_STAT_SYNCED n) false
    else if was = 0 ∨ was = 3 then
      (d.setCanc n { d.canc n with integAt := d.now + usTicks (d.fld (R.CAN_CTRL_STB_US n)) }).setFlag (R.CAN_STAT_SYNCED n) false
    else d

/-- A write to CAN_n_CTRL: MODE takes effect now or at the end of the frame on the bus; one that would leave CONFIG with settings
beyond R410 is ignored; NORMAL starts a bus-off recovery (14 R410, R413, R424). -/
def Dev.writeCanCtrl (d : Dev) (n : Nat) (v : Word) (rx : Bool) : Dev :=
  let m := v.toNat % 4
  let old := d.fld (R.CAN_CTRL_MODE n)
  let d := d.writeByCode (R.CAN_CTRL n) v
  if d.canMode n = 0 ∧ m ≠ 0 ∧ d.timingOk n = false then
    (d.setFld (R.CAN_CTRL_MODE n) old).canEvent n (R.CAN_EVT_BAD_TIMING n)
  else
    let d := if d.busOff n && decide (m = 1) && (d.canc n).recover.isNone then
        d.setCanc n { d.canc n with recover := some d.now } else d
    if (d.canc n).att.isSome || rx then
      if m = d.canMode n then (d.setCanc n { d.canc n with modePend := none }).setFlag (R.CAN_STAT_MODE_PEND n) false
      else (d.setCanc n { d.canc n with modePend := some m }).setFlag (R.CAN_STAT_MODE_PEND n) true
    else d.applyMode n m

/-! ### Reception (14 R414 to R417) -/

/-- Whether a frame passes a filter: identifier under MASK, IDE under MIDE (14 R414). -/
def filterHit (f : CanFrame) (w0 w2 : Word) : Bool :=
  decide ((BitVec.zeroExtend 32 f.id) &&& w2 &&& 0x1FFFFFFF#32 = w0 &&& w2 &&& 0x1FFFFFFF#32) &&
  (!w2.getLsbD 29 || f.ide == w0.getLsbD 29)

/-- The receive buffer that takes a frame. -/
def Dev.rxBuffer (d : Dev) (n : Nat) (f : CanFrame) : Option Nat :=
  (List.range 64).find? fun m => decide (d.mbMode n m = 1) && !(d.canc n).bad.contains m &&
    decide (canBytes f ≤ if m < 32 then 64 else 8) && filterHit f (d.reg (mbOff n m 0)) (d.reg (mbOff n m 2))

/-- Writes data bytes into a buffer from W4 on; the other bytes stay. -/
def Dev.mbStore (d : Dev) (n m : Nat) (l : List Byte) : Dev :=
  (List.range l.length).foldl (fun d i => d.setFld (mbFld n m (4 + i / 4) (8 * (i % 4)) 8) (l.getD i 0).toNat) d

/-- The header word W0 of a received frame. -/
def rxW0 (f : CanFrame) : Word :=
  BitVec.ofNat 32 (f.id.toNat + f.ide.toNat * 2 ^ 29 + f.rtr.toNat * 2 ^ 30)

/-- FDF, BRS, ESI and DLC of a received frame as in W1. -/
def rxW1 (f : CanFrame) : Word :=
  BitVec.ofNat 32 (f.fdf.toNat * 4 + f.brs.toNat * 8 + f.esi.toNat * 16 + f.dlc.toNat * 256)

/-- A receive buffer takes a frame (14 R414, R417). -/
def Dev.takeFrame (d : Dev) (n m : Nat) (f : CanFrame) (sof : Nat) : Dev :=
  let was := d.flag (mbBit (R.CAN_NEWDAT_LO n) m)
  let d := d.setReg (mbOff n m 0) (rxW0 f)
  let d := d.setReg (mbOff n m 1) ((d.reg (mbOff n m 1) &&& ~~~0xF1C#32) ||| rxW1 f)
  let d := d.setReg (mbOff n m 3) (BitVec.ofNat 32 sof)
  let d := d.mbStore n m (f.data.take (canBytes f))
  let d := (d.setFlag (mbBit (R.CAN_NEWDAT_LO n) m) true).canEvent n (R.CAN_EVT_NEWDAT n)
  if was then (d.setFlag (mbFld n m 1 17 1) true).canEvent n (R.CAN_EVT_MSGLOST n) else d

/-- A FIFO of a controller. -/
def Dev.canFifo (d : Dev) (n k : Nat) : List CanStored := if k = 0 then (d.canc n).fifo0 else (d.canc n).fifo1

/-- Sets a FIFO and its COUNT. -/
def Dev.setCanFifo (d : Dev) (n k : Nat) (l : List CanStored) : Dev :=
  let x := d.canc n
  (d.setCanc n (if k = 0 then { x with fifo0 := l } else { x with fifo1 := l })).setFld (R.CAN_FIFO_STAT_COUNT n k) l.length

/-- A frame enters a FIFO or is dropped (14 R416). -/
def Dev.pushCanFifo (d : Dev) (n k : Nat) (x : CanStored) : Dev :=
  if 32 ≤ (d.canFifo n k).length then
    ((d.addFld (R.CAN_FIFO_STAT_DROP n k) 1).setFlag (R.CAN_FIFO_STAT_OVF n k) true).canEvent n (R.CAN_EVT_FIFO_OVF n)
  else (d.setCanFifo n k (d.canFifo n k ++ [x])).canEvent n (if k = 0 then R.CAN_EVT_RX0 n else R.CAN_EVT_RX1 n)

/-- Removes the oldest frame of a FIFO (14 R416). -/
def Dev.popCanFifo (d : Dev) (n k : Nat) : Dev := d.setCanFifo n k (d.canFifo n k).tail

/-- A write to CAN_n_FIFOk_STAT: OVF written 1 clears OVF and DROP. -/
def Dev.writeFifoStat (d : Dev) (n k : Nat) (v : Word) : Dev :=
  if v.getLsbD 8 then (d.setFlag (R.CAN_FIFO_STAT_OVF n k) false).setFld (R.CAN_FIFO_STAT_DROP n k) 0 else d

/-- A detection in the words of a controller: counted, INTEG (14 R426). -/
def Dev.canInteg (d : Dev) (n : Nat) : Dev :=
  ((d.count (R.CAN_INTEG_CNT n)).canEvent n (R.CAN_EVT_INTEG n)).raiseFault Src.canInteg 0

/-- An error-free frame is offered to the receive buffers, then to the FIFO filters, then to DEF_DEST, and to the switch port
(14 R415, R426). -/
def Dev.storeCan (d : Dev) (n : Nat) (f : CanFrame) (sof : Nat) (det : CanDet) (tab : Option (Bool × BitVec 12)) : Dev :=
  let d := match det with
    | .buffer m => (d.setCanc n { d.canc n with bad := m :: (d.canc n).bad }).canInteg n
    | .filter k => (d.setCanc n { d.canc n with bad := (64 + k) :: (d.canc n).bad }).canInteg n
    | _ => d
  let d := d.count (R.CAN_RX_CNT n)
  match d.rxBuffer n f with
  | some m =>
    if det = .store then d.canInteg n
    else
      let d := d.takeFrame n m f sof
      if d.flag (mbFld n m 1 5 1) then d.canIngress n sof f tab else d
  | none =>
    let hit := (List.range 16).find? fun k => d.fld (R.CAN_FLT_ID_DEST n k) != 0 && !(d.canc n).bad.contains (64 + k) &&
      filterHit f (d.reg (R.CAN_FLT_ID n k)) (d.reg (R.CAN_FLT_MASK n k))
    let dest := match hit with | some k => d.fld (R.CAN_FLT_ID_DEST n k) | none => d.fld (R.CAN_FLT_DEF_DEF_DEST n)
    let sw := match hit with | some k => d.flag (R.CAN_FLT_MASK_SW n k) | none => d.flag (R.CAN_FLT_DEF_DEF_SW n)
    let x : CanStored := { frame := f, sof := sof, filter := hit.getD 31 }
    let d := if dest = 1 ∨ dest = 2 then (if det = .store then d.canInteg n else d.pushCanFifo n (dest - 1) x) else d
    if sw then d.canIngress n sof f tab else d

/-- A word of the oldest frame of a FIFO (14 R416): the view of CAN_n_FIFOk_Ww. -/
def Dev.fifoWord (d : Dev) (n k w : Nat) : Word :=
  match (d.canFifo n k).head? with
  | some x =>
    match w with
    | 0 => rxW0 x.frame
    | 1 => rxW1 x.frame ||| BitVec.ofNat 32 (x.filter * 65536)
    | 2 => 0
    | 3 => BitVec.ofNat 32 x.sof
    | w => BitVec.ofNat 32 (ofBytes (((x.frame.data.take (canBytes x.frame)).drop (4 * (w - 4))).take 4))
  | none => 0

/-- The receiver of reference frames pairs the time in frame k with its stamp of frame k−1 (03 R112); it does not use a message whose
time is 0, the first of its master (R111). While source 3 is not named the pair is discarded and USED stays (R93); a pair that is
handed on for judgement counts in USED also where R92 then rejects it (DEDUCED, notes/assumptions/14.md). -/
def Dev.pairRef (d : Dev) (n : Nat) (f : CanFrame) (sof : Nat) : Dev :=
  if d.flag R.MT_CANREF_CFG_SLAVE_EN && !d.flag R.MT_CANREF_CFG_MASTER_EN && decide (d.fld R.MT_CANREF_CFG_CTRL = n) &&
      decide (f.id = (d.reg R.MT_CANREF_ID).extractLsb' 0 29) && f.ide == d.flag R.MT_CANREF_ID_IDE && decide (8 ≤ f.data.length) then
    let b0 := (f.data.headD 0).toNat
    let seq := b0 % 16
    let raw := 4 * ofBytes ((f.data.drop 1).take 7)
    let prev := d.mt.rx
    let d := { d with mt := { d.mt with rx := some { seq := seq, sof := sof } } }
    match prev with
    | some p =>
      if seq = (p.seq + 1) % 16 ∧ raw ≠ 0 ∧ d.mtSources.contains 3 then
        let t := ofInt 64 ((p.sof : Int) - toInt 32 (d.reg R.MT_CANREF_DLY).toNat)
        let own : Int := d.gnssTime t
        let src : Int := (raw : Int)
        let k : Int := (own - src + 2 ^ 57) / 2 ^ 58
        let time : Int := src + k * 2 ^ 58 + own % 4
        let st := b0 / 16 % 4
        let d := d.addFld R.MT_CANREF_CNT_USED 1
        d.measure 3 time t 0 (decide (st = 1 ∨ st = 2) && decide (b0 / 64 % 2 = 1))
      else d
    | none => d
  else d

/-! ### Errors (14 R424, R425) -/

/-- ERR_STATE after the error counters change; entering error-passive and bus-off (14 R424, ISO 11898-1). -/
def Dev.updateErr (d : Dev) (n tec rec : Nat) : Dev :=
  let was := d.fld (R.CAN_STAT_ERR_STATE n)
  let d := (d.setFld (R.CAN_ERRCNT_TEC n) (min tec 511)).setFld (R.CAN_ERRCNT_REC n) (min rec 255)
  if was = 2 then d
  else if 256 ≤ tec then
    let d := (d.setFld (R.CAN_STAT_ERR_STATE n) 2).canEvent n (R.CAN_EVT_BUS_OFF n)
    let d := (d.count (R.CAN_BUSOFF_CNT n)).setFlag (R.CAN_STAT_SYNCED n) false
    let d := d.setCanc n { d.canc n with recover := if d.flag (R.CAN_CTRL_AUTO_REC n) then some d.now else none }
    ((d.withdrawFrames n).raiseFault Src.canBusoff 0).streamLost n
  else if 128 ≤ tec ∨ 128 ≤ rec then
    let d := d.setFld (R.CAN_STAT_ERR_STATE n) 1
    if was = 0 then d.canEvent n (R.CAN_EVT_ERR_PASSIVE n) else d
  else d.setFld (R.CAN_STAT_ERR_STATE n) 0

/-- A data-field bit error while transmitting: the clash tracker (14 R425). -/
def Dev.trackClash (d : Dev) (n : Nat) (f : CanFrame) : Dev :=
  let win := msTicks (max 1 (d.fld (R.CAN_CLASH_CFG_WIN_MS n)))
  let key := f.id.toNat
  let c := match (d.canc n).clash with
    | some (i, x, k, t) => if i = key ∧ x = f.ide ∧ d.now ≤ t + win ∧ 0 < k then (i, x, k + 1, t) else (key, f.ide, 1, d.now)
    | none => (key, f.ide, 1, d.now)
  if max 1 (d.fld (R.CAN_CLASH_CFG_CLASH_N n)) ≤ c.2.2.1 then
    let d := d.setCanc n { d.canc n with clash := some (c.1, c.2.1, 0, d.now) }
    let d := (((d.setFld (R.CAN_CLASH_ID n) key).setFlag (R.CAN_CLASH_IDE n) f.ide).setFlag (R.CAN_CLASH_VALID n) true)
    (d.canEvent n (R.CAN_EVT_IDCLASH n)).raiseFault Src.canIdclash 0
  else d.setCanc n { d.canc n with clash := some c }

/-- An attempt that ends in an error: the frame's error count, its withdrawal beyond RETRY, a held cancel (14 R420, R422). -/
def Dev.attemptError (d : Dev) (n : Nat) : Dev :=
  match (d.canc n).att with
  | some (p, _, held) =>
    let d := (d.setCanc n { d.canc n with att := none }).setFlag (R.CAN_STAT_TX_ACTIVE n) false
    if held then d.withdrawCan n p (.cancel d.now)
    else
      let retry := d.fld (R.CAN_CTRL_RETRY n)
      let q := { p with fails := p.fails + 1 }
      let x := d.canc n
      let d := d.setCanc n { x with
        pend := x.pend.map fun r => if r.src = p.src then q else r
        swFail := match p.src with | .sw _ fid => (fid, q.fails) | _ => x.swFail }
      if retry ≠ 0 ∧ retry < q.fails then d.withdrawCan n p .fail else d
  | none => d

/-- The close-out of a controller at Fallow entry: it enters CONFIG (14 R427). -/
def Dev.canClose (d : Dev) (n : Nat) : Dev := (d.setFld (R.CAN_CTRL_MODE n) 0).applyMode n 0

/-! ### Commands -/

/-- CAN_MODE_WRITE (14 R410, R412, R413, R424): the written word of CAN_n_CTRL; `rx` says that a frame of another node is on the
bus. -/
def execCanModeWrite (n : Fin 16) (v : BitVec 32) (rx : Bool) (s : State) : Host.Outcome State Fault Refusal :=
  onDev s fun d => d.access (R.CAN_CTRL n) fun d => d.writeCanCtrl n v rx

/-- MODE_DONE (14 R413): the frame on the bus has ended and the pending mode comes into force. -/
def execModeDone (n : Fin 16) (s : State) : Host.Outcome State Fault Refusal :=
  onDev s fun d =>
    match (d.canc n).modePend with
    | some m => if (d.canc n).att.isNone then d.applyMode n m else d
    | none => d

/-- CAN_FRAME_RECEIVE (14 R412, R415, R424, 03 R112): an error-free frame of another node, or a recessive res bit. -/
def execCanFrameReceive (n : Fin 16) (ev : CanRx) (s : State) : Host.Outcome State Fault Refusal :=
  onDev s fun d =>
    if decide (d.canMode n = 1 ∨ d.canMode n = 2) && d.flag (R.CAN_STAT_SYNCED n) && (d.canc n).att.isNone then
      let d := d.setFlag (R.CAN_STAT_RX_ACTIVE n) false
      match ev with
      | .resBit =>
        if d.flag (R.CAN_CTRL_PEX n) then
          (((d.setCanc n { d.canc n with integAt := d.now }).setFlag (R.CAN_STAT_SYNCED n) false)).canEvent n (R.CAN_EVT_PEX n)
        else
          let d := ((d.setFld (R.CAN_LEC_LEC n) 2).setReg (R.CAN_ERR_MT n) (BitVec.ofNat 32 d.now)).count (R.CAN_ERRFRM_CNT n)
          d.updateErr n (d.fld (R.CAN_ERRCNT_TEC n)) (d.fld (R.CAN_ERRCNT_REC n) + 1)
      | .frame f sof det tab =>
        let r := d.fld (R.CAN_ERRCNT_REC n)
        let v := d.draw
        let p := if 127 < r then (119 + v.1.toNat % 9, v.2) else (r - 1, d)
        let d := p.2.updateErr n (d.fld (R.CAN_ERRCNT_TEC n)) p.1
        (d.storeCan n f sof.toNat det tab).pairRef n f sof.toNat
    else d

/-- TXREQ (14 R418): the written word of CAN_n_TXREQ_LO or _HI. -/
def execTxreq (n : Fin 16) (hi : Bool) (v : BitVec 32) (det : Bool) (s : State) : Host.Outcome State Fault Refusal :=
  onDev s fun d => d.access (R.CAN_TXREQ_LO n) fun d => d.writeTxreq n hi v det

/-- TXCXL (14 R422): the written word of CAN_n_TXCXL_LO or _HI. -/
def execTxcxl (n : Fin 16) (hi : Bool) (v : BitVec 32) (s : State) : Host.Outcome State Fault Refusal :=
  onDev s fun d => d.access (R.CAN_TXCXL_LO n) fun d => d.writeTxcxl n hi v

/-- CAN_SOF (14 R419): at a transmission opportunity the controller offers its winner; the stamp of the SOF edge. -/
def execCanSof (n : Fin 16) (sof : BitVec 64) (s : State) : Host.Outcome State Fault Refusal :=
  onDev s fun d =>
    let may := (decide (d.canMode n.val = 1) && d.flag (R.CAN_STAT_SYNCED n) && !d.busOff n) || decide (d.canMode n.val = 3)
    if may && (d.canc n).att.isNone && (d.canc n).modePend.isNone then
      match d.canWinner n with
      | some p => (d.setCanc n { d.canc n with att := some (p, sof.toNat, false) }).setFlag (R.CAN_STAT_TX_ACTIVE n) true
      | none => d
    else d

/-- CAN_TX_DONE (14 R411, R415, R419, R420, R423): the attempt ends without error; the loop delay measured in an FD frame. -/
def execCanTxDone (n : Fin 16) (tdcv : BitVec 7) (s : State) : Host.Outcome State Fault Refusal :=
  onDev s fun d =>
    match (d.canc n).att with
    | some (p, sof, _) =>
      let d := (d.setCanc n { d.canc n with att := none }).setFlag (R.CAN_STAT_TX_ACTIVE n) false
      let d := (d.dropPend n p).count (R.CAN_TX_CNT n)
      let d := if d.flag (R.CAN_CTRL_TDC_EN n) && p.frame.fdf then d.setFld (R.CAN_TDC_TDCV n) tdcv.toNat else d
      let d := d.updateErr n (d.fld (R.CAN_ERRCNT_TEC n) - 1) (d.fld (R.CAN_ERRCNT_REC n))
      let d := match p.src.buffer with
        | some m => ((d.setReg (mbOff n m 3) (BitVec.ofNat 32 sof)).setFlag (mbBit (R.CAN_TXDONE_LO n) m) true).canEvent n (R.CAN_EVT_TXDONE n)
        | none => d
      let d : Dev := match p.src with
        | .req m => d.clearReq n m
        | .sched m e => (d.fired e sof).resolveCancel n m (some sof)
        | .ref e =>
          let d := (d.addFld R.MT_CANREF_CNT_SENT 1).fired e sof
          { d with mt := { d.mt with refSof := some sof, refSeq := (d.mt.refSeq + 1) % 16 } }
        | .sw q fid =>
          let l := d.swQueue (16 + n) q
          let d := (d.setSwQueue (16 + n) q (if (l.head?.map (·.fid)) = some fid then l.tail else l)).count (R.SW_CAN_TX_CNT n)
          (d.markSent fid (16 + n) d.now).settle fid d.now
      if d.canMode n.val = 3 then d.storeCan n p.frame sof .none none else d
    | none => d

/-- ARBITRATION_LOSS (14 R419, R422): the frame stays pending; a held cancel withdraws it. -/
def execArbitrationLoss (n : Fin 16) (s : State) : Host.Outcome State Fault Refusal :=
  onDev s fun d => if (d.canc n).att.isSome then (d.setFlag (R.CAN_STAT_RX_ACTIVE n) true).endAttempt n else d

/-- CAN_ERROR (14 R420, R422, R424, R425). -/
def execCanError (n : Fin 16) (err : CanErr) (s : State) : Host.Outcome State Fault Refusal :=
  onDev s fun d =>
    if decide (d.canMode n = 0) || d.busOff n || !d.domOn 9 then d
    else
      let tx := (d.canc n).att
      let d := d.setFld (if err.fdPhase then R.CAN_LEC_DLEC n else R.CAN_LEC_LEC n) err.code
      let d := (d.setReg (R.CAN_ERR_MT n) (BitVec.ofNat 32 d.now)).count (R.CAN_ERRFRM_CNT n)
      let d := match tx with
        | some (p, _, _) => if err.dataField && decide (err.code.val = 4 ∨ err.code.val = 5) then d.trackClash n p.frame else d
        | none => d
      let d := (d.setFlag (R.CAN_STAT_RX_ACTIVE n) false).attemptError n
      if err.exempt then d
      else if tx.isSome then d.updateErr n (d.fld (R.CAN_ERRCNT_TEC n) + 8) (d.fld (R.CAN_ERRCNT_REC n))
      else d.updateErr n (d.fld (R.CAN_ERRCNT_TEC n)) (d.fld (R.CAN_ERRCNT_REC n) + if err.heavy then 8 else 1)

/-- BUS_OFF_RECOVERY (14 R424): 128 × 11 recessive bits have passed since the recovery began. -/
def execBusOffRecovery (n : Fin 16) (s : State) : Host.Outcome State Fault Refusal :=
  onDev s fun d =>
    match (d.canc n).recover with
    | some t =>
      if d.busOff n && decide (t + 1408 * d.bitTicks n ≤ d.now) then
        let d := d.setCanc n { d.canc n with recover := none }
        let d := ((d.setReg (R.CAN_ERRCNT n) 0).setFld (R.CAN_STAT_ERR_STATE n) 0).setFlag (R.CAN_STAT_SYNCED n)
          (decide (d.canMode n = 1 ∨ d.canMode n = 2))
        d.canEvent n (R.CAN_EVT_BUS_ON n)
      else d
    | none => d

/-- FIFO_POP (14 R416): the written word of CAN_n_FIFOk_POP. -/
def execFifoPop (n : Fin 16) (k : Fin 2) (v : BitVec 32) (s : State) : Host.Outcome State Fault Refusal :=
  onDev s fun d => d.access (R.CAN_FIFO_POP n k) fun d => if v.getLsbD 0 then d.popCanFifo n k else d

/-- BUS_INTEGRATION (14 R412, R413): 11 recessive bits have passed since the transceiver was ready (STB_US after the mode change)
or since a protocol exception. -/
def execBusIntegration (n : Fin 16) (s : State) : Host.Outcome State Fault Refusal :=
  onDev s fun d =>
    if decide (d.canMode n = 1 ∨ d.canMode n = 2) && !d.flag (R.CAN_STAT_SYNCED n) && !d.busOff n &&
        decide ((d.canc n).integAt + 11 * d.bitTicks n ≤ d.now) then
      d.setFlag (R.CAN_STAT_SYNCED n) true
    else d

end Sys2Proof.Machine
end

