-- ==== Sys2Proof/Machine/Crypto.lean ====
section
/-! DEFINITION. The cryptographic functions that the spec takes from named standards (18 R489, 19 R524): AES (FIPS 197), SHA-256
(FIPS 180-4) and the verification of ECDSA P-256 signatures (FIPS 186-5), over natural numbers (PRESUMED, notes/assumptions/51.md). -/

namespace Sys2Proof.Machine

/-- The number that digits spell in a base, least significant first. -/
def ofDigits (b : Nat) : List Nat → Nat
  | [] => 0
  | x :: t => x + b * ofDigits b t

/-- Digit i of a number in base 2^w. -/
def digit (w x i : Nat) : Nat := x / 2 ^ (w * i) % 2 ^ w

/-- The number that bytes spell, most significant first. -/
def numBE (l : List Nat) : Nat := l.foldl (fun x b => 256 * x + b) 0

/-! ### AES (FIPS 197) -/

/-- The S-box: byte b of the number is S(b) (FIPS 197). -/
def aesBox : Nat :=
  ofDigits (2 ^ 256)
    [0xc072a49cafa2d4adf04759fa7dc982ca76abd7fe2b670130c56f6bf27b777c63,
     0x75b227ebe28012079a059618c323c7041531d871f1e5a534ccf73f362693fdb7,
     0xcf584c4a39becb6a5bb1fc20ed00d153842fe329b3d63b52a05a6e1b1a2c8309,
     0xd2f3ff1021dab6bcf5389d928f40a351a89f3c507f02f94585334d43fbaaefd0,
     0xdb0b5ede14b8ee4688902a22dc4f816073195d643d7ea7c41744975fec130ccd,
     0x08ae7a65eaf4566ca94ed58d6d37c8e779e4959162acd3c25c2406490a3a32e0,
     0x9e1dc186b95735610ef6034866b53e708a8bbd4b1f74dde8c6b4a61c2e2578ba,
     0x16bb54b00f2d99416842e6bf0d89a18cdf2855cee9871e9b948ed9691198f8e1]

/-- The inverse S-box: byte b of the number is S⁻¹(b) (FIPS 197). -/
def aesInvBox : Nat :=
  ofDigits (2 ^ 256)
    [0xcbe9dec444438e3487ff2f9b8239e37cfbd7f3819ea340bf38a53630d56a0952,
     0x25d18b6d49a25b76b224d92866a12e084ec3fa420b954cee3d23c2a632947b54,
     0x849d8da75746155edab9edfd5048706c92b6655dcc5ca4d41698688664f6f872,
     0x6b8a130103bdafc1020f3fca8f1e2cd00645b3b80558e4f70ad3bc8c00abd890,
     0x6edf751ce837f9e28535ade72274ac9673e6b4f0cecff297eadc674f4111913a,
     0xf45acd78fec0db9a2079d2c64b3e56fc1bbe18aa0e62b76f89c5291d711af147,
     0xef9cc9939f7ae52d0d4ab519a97f51605fec8027591012b131c7078833a8dd1f,
     0x7d0c2155631469e126d677ba7e042b17619953833cbbebc8b0f52aae4d3be0a0]

/-- SubBytes of one byte. -/
def aesSub (b : Nat) : Nat := digit 8 aesBox b

/-- InvSubBytes of one byte. -/
def aesInvSub (b : Nat) : Nat := digit 8 aesInvBox b

/-- Multiplication by x in GF(2⁸). -/
def xtime (b : Nat) : Nat := if b < 128 then 2 * b else Nat.xor (2 * b) 0x11B

/-- Exclusive or of bytes. -/
def xorAll (l : List Nat) : Nat := l.foldl Nat.xor 0

/-- SubWord: the S-box on each byte of a word. -/
def aesSubWord (w : Nat) : Nat := ofDigits 256 ((List.range 4).map fun i => aesSub (digit 8 w i))

/-- RotWord. -/
def aesRotWord (w : Nat) : Nat := w % 2 ^ 24 * 256 + w / 2 ^ 24

/-- The round constant of step i, i from 1. -/
def aesRcon (i : Nat) : Nat := (List.range (i - 1)).foldl (fun x _ => xtime x) 1

/-- The key schedule of a key of nk words, the last word first. -/
def aesSchedule (nk : Nat) (key : List Nat) : List Nat :=
  (List.range (4 * (nk + 7) - nk)).foldl
    (fun l j =>
      let i := nk + j
      let t := l.headD 0
      let t := if i % nk = 0 then Nat.xor (aesSubWord (aesRotWord t)) (aesRcon (i / nk) * 2 ^ 24)
        else if 6 < nk ∧ i % nk = 4 then aesSubWord t else t
      Nat.xor (l.getD (nk - 1) 0) t :: l)
    ((List.range nk).map fun i => numBE ((key.drop (4 * i)).take 4)).reverse

/-- The round keys of a key as lists of 16 bytes, in order. -/
def aesRoundKeys (key : List Nat) : List (List Nat) :=
  let nk := key.length / 4
  let ws := (aesSchedule nk key).reverse
  (List.range (nk + 7)).map fun r =>
    ((ws.drop (4 * r)).take 4).flatMap fun w => (List.range 4).map fun i => digit 8 w (3 - i)

/-- AddRoundKey. -/
def aesAddKey (s k : List Nat) : List Nat := List.zipWith Nat.xor s k

/-- ShiftRows of the state, byte r + 4c in row r and column c. -/
def aesShift : List Nat → List Nat
  | [s0, s1, s2, s3, s4, s5, s6, s7, s8, s9, s10, s11, s12, s13, s14, s15] => [s0, s5, s10, s15, s4, s9, s14, s3, s8, s13, s2, s7, s12, s1, s6, s11]
  | s => s

/-- InvShiftRows. -/
def aesInvShift : List Nat → List Nat
  | [s0, s1, s2, s3, s4, s5, s6, s7, s8, s9, s10, s11, s12, s13, s14, s15] => [s0, s13, s10, s7, s4, s1, s14, s11, s8, s5, s2, s15, s12, s9, s6, s3]
  | s => s

/-- A transform of every column: byte r of a column is the sum of m k times byte r + k, k from 0 to 3. -/
def aesColumns (m : Nat → Nat → Nat) : List Nat → List Nat
  | a :: b :: c :: d :: t =>
    xorAll [m 0 a, m 1 b, m 2 c, m 3 d] :: xorAll [m 0 b, m 1 c, m 2 d, m 3 a] :: xorAll [m 0 c, m 1 d, m 2 a, m 3 b] ::
      xorAll [m 0 d, m 1 a, m 2 b, m 3 c] :: aesColumns m t
  | s => s

/-- The coefficients of MixColumns: 2, 3, 1, 1. -/
def aesMix (k b : Nat) : Nat :=
  match k with
  | 0 => xtime b
  | 1 => Nat.xor (xtime b) b
  | _ => b

/-- The coefficients of InvMixColumns: 14, 11, 13, 9. -/
def aesInvMix (k b : Nat) : Nat :=
  let b2 := xtime b
  let b4 := xtime b2
  let b8 := xtime b4
  match k with
  | 0 => xorAll [b8, b4, b2]
  | 1 => xorAll [b8, b2, b]
  | 2 => xorAll [b8, b4, b]
  | _ => Nat.xor b8 b

/-- The bytes of a block, most significant first. -/
def aesState (x : BitVec 128) : List Nat := (List.range 16).map fun i => digit 8 x.toNat (15 - i)

/-- AES of a 16-byte block under a 16- or 32-byte key, most significant byte first. -/
def aesEnc (key : List Byte) (x : BitVec 128) : BitVec 128 :=
  let ks := aesRoundKeys (key.map (·.toNat))
  let s := aesAddKey (aesState x) (ks.headD [])
  let s := (ks.tail.dropLast).foldl (fun s k => aesAddKey (aesColumns aesMix (aesShift (s.map aesSub))) k) s
  BitVec.ofNat 128 (numBE (aesAddKey (aesShift (s.map aesSub)) (ks.getLastD [])))

/-- The inverse cipher of AES. -/
def aesDec (key : List Byte) (x : BitVec 128) : BitVec 128 :=
  let ks := (aesRoundKeys (key.map (·.toNat))).reverse
  let s := aesAddKey (aesState x) (ks.headD [])
  let s := (ks.tail.dropLast).foldl (fun s k => aesColumns aesInvMix (aesAddKey ((aesInvShift s).map aesInvSub) k)) s
  BitVec.ofNat 128 (numBE (aesAddKey ((aesInvShift s).map aesInvSub) (ks.getLastD [])))

/-! ### SHA-256 (FIPS 180-4) -/

/-- The 64 constants of SHA-256: word i of the number is K_i (FIPS 180-4). -/
def shaK : Nat :=
  ofDigits (2 ^ 256)
    [0xab1c5ed5923f82a459f111f13956c25be9b5dba5b5c0fbcf71374491428a2f98,
     0xc19bf1749bdc06a780deb1fe72be5d74550c7dc3243185be12835b01d807aa98,
     0x76f988da5cb0a9dc4a7484aa2de92c6f240ca1cc0fc19dc6efbe4786e49b69c1,
     0x1429296706ca6351d5a79147c6e00bf3bf597fc7b00327c8a831c66d983e5152,
     0x92722c8581c2c92e766a0abb650a735453380d134d2c6dfc2e1b213827b70a85,
     0x106aa070f40e3585d6990624d192e819c76c51a3c24b8b70a81a664ba2bfe8a1,
     0x682e6ff35b9cca4f4ed8aa4a391c0cb334b0bcb52748774c1e376c0819a4c116,
     0xc67178f2bef9a3f7a4506ceb90befffa8cc7020884c8781478a5636f748f82ee]

/-- A 32-bit word rotated right by n bits, n from 1 to 31. -/
def rotr (n x : Nat) : Nat := x / 2 ^ n + x % 2 ^ n * 2 ^ (32 - n)

/-- The message schedule of a block of 16 words, the last word first. -/
def shaSchedule (block : List Nat) : List Nat :=
  (List.range 48).foldl
    (fun l _ =>
      let a := l.getD 14 0
      let b := l.getD 1 0
      let s0 := xorAll [rotr 7 a, rotr 18 a, a / 2 ^ 3]
      let s1 := xorAll [rotr 17 b, rotr 19 b, b / 2 ^ 10]
      (s1 + l.getD 6 0 + s0 + l.getD 15 0) % 2 ^ 32 :: l)
    block.reverse

/-- One round on the working words a to h. -/
def shaRound (s : List Nat) (k w : Nat) : List Nat :=
  match s with
  | [a, b, c, d, e, f, g, h] =>
    let t1 := h + xorAll [rotr 6 e, rotr 11 e, rotr 25 e] + Nat.xor (Nat.land e f) (Nat.land (2 ^ 32 - 1 - e) g) + k + w
    let t2 := xorAll [rotr 2 a, rotr 13 a, rotr 22 a] + xorAll [Nat.land a b, Nat.land a c, Nat.land b c]
    [(t1 + t2) % 2 ^ 32, a, b, c, (d + t1) % 2 ^ 32, e, f, g]
  | _ => s

/-- The hash of one more block of 16 words. -/
def shaBlock (h block : List Nat) : List Nat :=
  let s := (shaSchedule block).reverse.zipIdx.foldl (fun s w => shaRound s (digit 32 shaK w.2) w.1) h
  List.zipWith (fun a b => (a + b) % 2 ^ 32) h s

/-- A message with its padding: 1, zeros, the length in bits. -/
def shaPad (l : List Byte) : List Nat :=
  let n := l.length
  l.map (·.toNat) ++ 0x80 :: List.replicate ((119 - n % 64) % 64) 0 ++ (List.range 8).map fun i => digit 8 (8 * n) (7 - i)

/-- Words of 4 bytes, most significant byte first. -/
def wordsBE (l : List Nat) : List Nat := (List.range (l.length / 4)).map fun i => numBE ((l.drop (4 * i)).take 4)

/-- SHA-256 of a byte string. -/
def sha256Of (l : List Byte) : BitVec 256 :=
  let p := shaPad l
  let h := (List.range (p.length / 64)).foldl (fun h i => shaBlock h (wordsBE ((p.drop (64 * i)).take 64)))
    [0x6A09E667, 0xBB67AE85, 0x3C6EF372, 0xA54FF53A, 0x510E527F, 0x9B05688C, 0x1F83D9AB, 0x5BE0CD19]
  BitVec.ofNat 256 (h.foldl (fun x w => 2 ^ 32 * x + w) 0)

/-! ### ECDSA over P-256 (FIPS 186-5) -/

/-- The prime of the field of P-256. -/
def p256P : Nat := 2 ^ 256 - 2 ^ 224 + 2 ^ 192 + 2 ^ 96 - 1

/-- The order of the group. -/
def p256N : Nat := 0xFFFFFFFF00000000FFFFFFFFFFFFFFFFBCE6FAADA7179E84F3B9CAC2FC632551

/-- The coefficient b of the curve y² = x³ − 3x + b. -/
def p256B : Nat := 0x5AC635D8AA3A93E7B3EBBD55769886BC651D06B0CC53B0F63BCE3C3E27D2604B

/-- A power modulo m by square and multiply, for an exponent below 2^256. -/
def powMod (m b e : Nat) : Nat := (List.range 256).foldl (fun x i => x * x % m * (if e.testBit (255 - i) then b else 1) % m) 1

/-- A difference modulo the prime. -/
def subP (a b : Nat) : Nat := (a + (p256P - b % p256P)) % p256P

/-- A point in Jacobian coordinates; Z = 0 is the point at infinity. -/
structure JPoint where
  x : Nat
  y : Nat
  z : Nat

/-- The base point. -/
def p256G : JPoint where
  x := 0x6B17D1F2E12C4247F8BCE6E563A440F277037D812DEB33A0F4A13945D898C296
  y := 0x4FE342E2FE1A7F9B8EE7EB4A7C0F9E162BCE33576B315ECECBB6406837BF51F5
  z := 1

/-- Twice a point. -/
def JPoint.dbl (a : JPoint) : JPoint :=
  let y2 := a.y * a.y % p256P
  let s := 4 * a.x * y2 % p256P
  let z2 := a.z * a.z % p256P
  let m := 3 * subP a.x z2 * (a.x + z2) % p256P
  let x := subP (m * m) (2 * s)
  { x := x, y := subP (m * subP s x) (8 * y2 * y2), z := 2 * a.y * a.z % p256P }

/-- The sum of two points. -/
def JPoint.add (a b : JPoint) : JPoint :=
  if a.z = 0 then b
  else if b.z = 0 then a
  else
    let z1 := a.z * a.z % p256P
    let z2 := b.z * b.z % p256P
    let u := a.x * z2 % p256P
    let s := a.y * z2 % p256P * b.z % p256P
    let h := subP (b.x * z1) u
    let r := subP (b.y * z1 % p256P * a.z) s
    if h = 0 then if r = 0 then a.dbl else { x := 1, y := 1, z := 0 }
    else
      let h2 := h * h % p256P
      let h3 := h2 * h % p256P
      let v := u * h2 % p256P
      let x := subP (r * r) (h3 + 2 * v)
      { x := x, y := subP (r * subP v x) (s * h3), z := h * a.z % p256P * b.z % p256P }

/-- A multiple of a point, for a factor below 2^256. -/
def JPoint.mul (k : Nat) (a : JPoint) : JPoint :=
  (List.range 256).foldl (fun s i => if k.testBit (255 - i) then s.dbl.add a else s.dbl) { x := 1, y := 1, z := 0 }

/-- Whether an ECDSA P-256 signature verifies: public key (X then Y), digest, signature (r then s), all big-endian. -/
def ecdsaOk (key digest sig : List Byte) : Bool :=
  let at_ := fun (l : List Byte) i => numBE (((l.drop (32 * i)).take 32).map (·.toNat))
  let qx := at_ key 0
  let qy := at_ key 1
  let r := at_ sig 0
  let s := at_ sig 1
  let w := powMod p256N s (p256N - 2)
  let p := (p256G.mul (at_ digest 0 * w % p256N)).add (JPoint.mul (r * w % p256N) { x := qx, y := qy, z := 1 })
  decide (qx < p256P ∧ qy < p256P ∧ qy * qy % p256P = subP (qx * qx % p256P * qx + p256B) (3 * qx)) &&
    decide (0 < r ∧ r < p256N ∧ 0 < s ∧ s < p256N) && decide (p.z ≠ 0) &&
    decide (p.x * powMod p256P (p.z * p.z % p256P) (p256P - 2) % p256P % p256N = r)

end Sys2Proof.Machine
end

