-- ==== Sys2Proof/Machine/Lighting.lean ====
section
/-! DEFINITION. The lighting port and the Comb of 15: shifts, page steps, flips, seals, lamp faults and functions; and the
commands of that chapter. -/

namespace Sys2Proof.Machine

/-! ### Settings -/

/-- GS_BITS as it acts. -/
def Dev.ltBits (d : Dev) : Nat := if d.flag R.LT_CHAIN_GS_BITS then 16 else 12

/-- NDRV as it acts. -/
def Dev.ltIcs (d : Dev) : Nat := max 1 (min 32 (d.fld R.LT_CHAIN_NDRV))

/-- DRV_CH as it acts. -/
def Dev.ltDrvCh (d : Dev) : Nat := max 1 (min 48 (d.fld R.LT_CHAIN_DRV_CH))

/-- The channels of the chain. -/
def Dev.ltChans (d : Dev) : Nat := d.ltIcs * d.ltDrvCh

/-- The PWM period in ticks (15 R435). -/
def Dev.ltPeriod (d : Dev) : Nat := 2 ^ d.ltBits * max 3 (d.fld R.LT_PWM_GSDIV) * 40

/-- S, the sub-periods of a period. -/
def Dev.ltSlices (d : Dev) : Nat := 2 ^ min 6 (d.fld R.LT_PWM_SLICES)

/-- The length of a shift in ticks (15 R433, R434). -/
def Dev.ltShiftTicks (d : Dev) : Nat := (16 + d.ltChans * d.ltBits) * max 4 (d.fld R.LT_CTRL_SCLK_DIV) * 40

/-- The grayscale value of a duty word, ties upwards (15 R435). -/
def Dev.grayscale (d : Dev) (duty : Nat) : Nat := (duty * 2 ^ d.ltBits + 32768 * d.ltSlices) / (65536 * d.ltSlices)

/-- The duty word of chain channel q on a page of a frame (15, The Comb). -/
def combDuty (f : Sparse Word) (p q : Nat) : Nat := bitsOf (sparseGet (fun _ => 0) f (1024 * p + q / 2)) (16 * (q % 2)) 16

/-- Replaces the lighting port's hidden state. -/
def Dev.setLt (d : Dev) (x : LtState) : Dev := { d with lt := x }

/-- An event of the lighting port. -/
def Dev.ltEvent (d : Dev) (f : Fld) : Dev := d.event R.LT_EVT f.lo R.LT_IEN R.LT_VEC

/-- Pages of the front frame as they step: at least one, at most 64 (LT_FRAME). -/
def Dev.frontPages (d : Dev) : Nat := max 1 (min 64 d.lt.pages)

/-- The page after the one latched. -/
def Dev.nextPage (d : Dev) : Nat := (d.fld R.LT_STAT_PAGE + 1) % d.frontPages

/-! ### The grid (15 R436) -/

/-- Period starts counted up to an MT. -/
def Dev.periodCount (d : Dev) (t : Nat) : Nat :=
  match d.lt.grid with
  | some g => d.lt.perBase + (t - g) / d.ltPeriod
  | none => 0

/-- The MT of the period start of a count. -/
def Dev.periodStart (d : Dev) (k : Nat) : Nat :=
  match d.lt.grid with
  | some g => g + (k - d.lt.perBase) * d.ltPeriod
  | none => 0

/-- The first period start at or after an MT. -/
def Dev.firstStart (d : Dev) (t : Nat) : Nat :=
  match d.lt.grid with
  | some g => g + (t - g + (d.ltPeriod - 1)) / d.ltPeriod * d.ltPeriod
  | none => t

/-- Restarts the grid at an MT; the restart is a period start. -/
def Dev.restartGrid (d : Dev) (t : Nat) : Dev :=
  let k := match d.lt.grid with | some _ => d.periodCount t + 1 | none => 0
  d.setLt { d.lt with grid := some t, perBase := k }

/-- Makes the restarts of LSYNC edges that have fallen due. -/
def Dev.syncGrid (d : Dev) : Dev :=
  let due := d.lt.restarts.filter fun t => decide (t ≤ d.now)
  let d := if d.lt.grid.isSome then due.foldl (fun d t => d.restartGrid t) d else d
  d.setLt { d.lt with restarts := d.lt.restarts.filter fun t => decide (d.now < t) }

/-! ### Shifts (15 R433, R437, R439, R443) -/

/-- Whether chain channel q belongs to lamp function f. -/
def Dev.fnHasChain (d : Dev) (f q : Nat) : Bool :=
  let first := d.fld (R.LT_FN_CHAIN_FIRST f)
  decide (first ≤ q ∧ q < first + d.fld (R.LT_FN_CHAIN_COUNT f))

/-- Whether a tripped function holds chain channel q at 0 (15 R446). -/
def Dev.chainDark (d : Dev) (q : Nat) : Bool :=
  (List.range 32).any fun f => d.flag (R.LT_FN_STAT_TRIPPED f) && d.fnHasChain f q

/-- The value a shift sends for chain channel q, but for detections (15 R435, R444, R446). -/
def Dev.shiftValue (d : Dev) (k : LtKind) (q : Nat) : Nat :=
  let g := fun f p => if d.chainDark q then 0 else d.grayscale (combDuty f p q)
  match k with
  | .zero => 0
  | .back => g d.lt.back 0
  | .extra => g d.lt.front (d.fld R.LT_STAT_PAGE)
  | .page p =>
    let v := g d.lt.front p
    let lim := d.fld R.LT_DIAG_V_DET
    if d.flag R.LT_CTRL_LOWDIAG && decide ((d.lt.steps + 1) % max 1 (d.fld R.LT_DIAG_DIAG_STEPS) = 0) &&
        decide (0 < v ∧ v < lim) then lim
    else v

/-- Starts a shift at an MT. -/
def Dev.startShift (d : Dev) (k : LtKind) (t : Nat) : Dev :=
  let d := d.setLt { d.lt with shift := some (k, t, t + d.ltShiftTicks), loaded := none }
  let d := match k with
    | .back => (d.setFlag R.LT_STAT_SUSPENDED true).setReg64 R.LT_READY_LO R.LT_READY_HI (t + d.ltShiftTicks)
    | _ => d
  d.setFlag R.LT_STAT_SHIFTING true

/-- Starts the shift of back page 0 within 1 µs after an MT; the spec leaves the instant open (15 R439). -/
def Dev.startBack (d : Dev) (t : Nat) : Dev :=
  let r := d.draw
  r.2.startShift .back (t + r.1.toNat % 4001)

/-- No back shift is done or running: LT_READY reads all ones (15 R439). -/
def Dev.notReady (d : Dev) : Dev := d.setReg64 R.LT_READY_LO R.LT_READY_HI (2 ^ 64 - 1)

/-- What the port shifts next once no shift runs: an owed extra page, the sealed back page 0, or the next page. -/
def Dev.nextShift (d : Dev) (t : Nat) : Dev :=
  if !d.flag R.LT_CTRL_EN || d.lt.shift.isSome || d.lt.grid.isNone then d
  else if d.lt.extra then
    let d := (d.setLt { d.lt with extra := false }).startShift .extra t
    if d.flag R.LT_STAT_SEALED then d.notReady else d
  else if d.lt.loaded == some .extra then d
  else if d.flag R.LT_STAT_SEALED then (if d.lt.loaded == some .back then d else d.startBack t)
  else
    match d.lt.loaded with
    | some (.page _) => d
    | _ => d.startShift (.page d.nextPage) t

/-- What the chain holds is latched. -/
def Dev.latchChain (d : Dev) : Dev := d.setLt { d.lt with lat := d.lt.chain, loaded := none }

/-- A flip at an MT (15 R440). -/
def Dev.flip (d : Dev) (t : Nat) : Dev :=
  let d := d.latchChain
  let x := d.lt
  let pages := d.fld R.LT_FRAME_PAGES
  let per := d.fld R.LT_FRAME_PAGE_PER
  let d := d.setLt { x with front := x.back, back := x.front, pages := pages, per := per }
  let d := (d.setFld R.LT_FRAME_PAGES x.pages).setFld R.LT_FRAME_PAGE_PER x.per
  let d := ((d.setFlag R.LT_STAT_SEALED false).setFlag R.LT_STAT_SUSPENDED false).setFld R.LT_STAT_PAGE 0
  let d := (d.notReady.setReg64 R.LT_LAST_LATCH_LO R.LT_LAST_LATCH_HI t).restartGrid t
  let d := d.setLt { d.lt with pageAt := d.lt.perBase }
  (d.nextShift t).ltEvent R.LT_EVT_FLIPPED

/-- Whether back page 0 is in the chain. -/
def Dev.backReady (d : Dev) : Bool := d.flag R.LT_STAT_SEALED && d.lt.loaded == some .back

/-- Whether a fire time passes the target check of an LT_FLIP but for other committed LT_FLIPs (15 R441). -/
def Dev.flipOk (d : Dev) (fire : Nat) : Bool :=
  d.flag R.LT_CTRL_EN && !d.flag R.LT_CTRL_FLIP_MODE && d.flag R.LT_STAT_SEALED &&
  decide (d.reg64 R.LT_READY_LO R.LT_READY_HI + 400 ≤ fire)

/-! ### Seals and frame writes (15 R438, R442) -/

/-- Whether a seal is refused (15 R438). -/
def Dev.sealBad (d : Dev) : Bool :=
  decide (d.fld R.LT_FRAME_PAGES = 0 ∨
    max 1 (d.fld R.LT_FRAME_PAGE_PER) * d.ltPeriod < d.ltShiftTicks + 4000)

/-- SEAL: the back frame becomes ready, or SEAL_ERR. -/
def Dev.doSeal (d : Dev) : Dev :=
  if d.flag R.LT_STAT_SEALED then d
  else if d.sealBad then d.ltEvent R.LT_EVT_SEAL_ERR
  else (d.setFlag R.LT_STAT_SEALED true).nextShift d.now

/-- Whether a committed LT_FLIP exists. -/
def Dev.flipCommitted (d : Dev) : Bool := d.sch.ents.any fun e => e.action == 0x0A && (e.st == .committed || e.st == .dispatched)

/-- UNSEAL: ignored while a committed LT_FLIP exists; page steps resume. -/
def Dev.doUnseal (d : Dev) : Dev :=
  if !d.flag R.LT_STAT_SEALED || d.flipCommitted then d
  else
    let d := ((d.setFlag R.LT_STAT_SEALED false).setFlag R.LT_STAT_SUSPENDED false).notReady
    d.nextShift d.now

/-- A write to LT_CMD. -/
def Dev.writeLtCmd (d : Dev) (v : Word) : Dev :=
  let d := if v.getLsbD 0 then d.doSeal else d
  if v.getLsbD 1 then d.doUnseal else d

/-- A write to LT_FRAME: only while unsealed. -/
def Dev.writeLtFrame (d : Dev) (v : Word) : Dev := if d.flag R.LT_STAT_SEALED then d else d.writeByCode R.LT_FRAME v

/-- A write to LT_WDATA: a back-frame word, ignored with FRONT = 1, ignored with WR_IGN while sealed; the address advances
after each write. -/
def Dev.writeLtWdata (d : Dev) (v : Word) : Dev :=
  let a := d.fld R.LT_WADDR_ADDR
  let d :=
    if d.flag R.LT_WADDR_FRONT then d
    else if d.flag R.LT_STAT_SEALED then d.ltEvent R.LT_EVT_WR_IGN
    else d.setLt { d.lt with back := sparsePut (fun _ => 0) d.lt.back a v }
  d.setFld R.LT_WADDR_ADDR (a + 1)

/-- What LT_WDATA reads. -/
def Dev.readLtWdata (d : Dev) : Word :=
  sparseGet (fun _ => 0) (if d.flag R.LT_WADDR_FRONT then d.lt.front else d.lt.back) (d.fld R.LT_WADDR_ADDR)

/-- Writes host bytes into the back frame from a byte offset that is a multiple of 4. -/
def putBytes (f : Sparse Word) (w : Nat) : List Byte → Sparse Word
  | a :: b :: c :: e :: t => putBytes (sparsePut (fun _ => 0) f w (BitVec.ofNat 32 (ofBytes [a, b, c, e]))) (w + 1) t
  | _ => f

/-- The first field of a lighting-frame descriptor out of range (15 R442). -/
def lightingBad (w : BitVec 256) : Option Nat :=
  let o := descField w 12 4
  let n := descField w 16 4
  firstBad [(1, decide (bitsOf w 13 3 ≠ 0)),
            (4, decide (descField w 4 8 % 64 ≠ 0)),
            (12, decide (o % 64 ≠ 0 ∨ 262144 < o)),
            (16, decide (n % 64 ≠ 0 ∨ 262144 < o + n)),
            (20, decide (64 < byteOf w 20)),
            (23, decide (byteOf w 23 ≠ 0))]

/-- A lighting-frame descriptor's effect (15 R442). -/
def Dev.lightingFrame (d : Dev) (a : AccDesc) (data : List Byte) : Dev :=
  let w := a.word
  if !d.domOn 9 then d.complete a.ref St.notPermitted 0x02 0x0D
  else
    match lightingBad w with
    | some off => d.completeBad a.ref off 0x0D
    | none =>
      if d.flag R.LT_STAT_SEALED then d.complete a.ref St.busy 0 0x0D
      else
        let d := d.setLt { d.lt with back := putBytes d.lt.back (descField w 12 4 / 4) data }
        let d := if byteOf w 20 = 0 then d else d.setFld R.LT_FRAME_PAGES (byteOf w 20)
        let d := if descField w 21 2 = 0 then d else d.setFld R.LT_FRAME_PAGE_PER (descField w 21 2)
        if w.getLsbD 12 then
          if d.sealBad then (d.ltEvent R.LT_EVT_SEAL_ERR).completeBad a.ref 20 0x0D
          else d.doSeal.complete a.ref St.ok (descField w 16 4) 0x0D
        else d.complete a.ref St.ok (descField w 16 4) 0x0D

/-- Whether a lighting-frame descriptor reads host data: it passes the checks and names some. -/
def Dev.lightingReads (d : Dev) (w : BitVec 256) : Bool :=
  d.domOn 9 && (lightingBad w).isNone && !d.flag R.LT_STAT_SEALED && decide (descField w 16 4 ≠ 0)

/-! ### Lamp faults (15 R444 to R446) -/

/-- The field members of a lamp function. -/
def Dev.fnField (d : Dev) (f : Nat) : List Nat :=
  ((List.range 4).filter fun j => (d.reg (R.LT_FN_FIELD f)).getLsbD (8 * j + 7)).map fun j =>
    bitsOf (d.reg (R.LT_FN_FIELD f)) (8 * j) 7

/-- Trips a function: the member is recorded, its field members go safe, an extra shift is owed (15 R446). -/
def Dev.tripFn (d : Dev) (f : Nat) (field short : Bool) (ch : Nat) : Dev :=
  if d.flag (R.LT_FN_STAT_TRIPPED f) then d
  else
    let d := (d.setFlag (R.LT_FN_STAT_TRIPPED f) true).setFlag (R.LT_FN_STAT_WHO f) field
    let d := (d.setFlag (R.LT_FN_STAT_SHORT f) short).setFld (R.LT_FN_STAT_CH f) ch
    let d := d.ltEvent R.LT_EVT_TRIP
    let d := d.forAll (d.fnField f) fun c d => if d.domOn (chDom c) then Dev.feedFault (d.safeChan c) c else d
    (d.setLt { d.lt with extra := true }).nextShift d.now

/-- The functions that act on a member's fault. -/
def Dev.tripping (d : Dev) (f : Nat) : Bool := d.flag (R.LT_FN_CFG_EN f) && d.flag (R.LT_FN_CFG_SINGLE_OFF f)

/-- A chain channel reports open or short (15 R444, R446). -/
def Dev.chainFault (d : Dev) (q : Nat) (short : Bool) : Dev :=
  let off := if short then R.LT_SHORT (q / 32) else R.LT_OPEN (q / 32)
  let d := ((d.setFlag ⟨off, q % 32, 1⟩ true).ltEvent R.LT_EVT_LAMP).raiseFault Src.ltLamp 0
  d.forAll ((List.range 32).filter fun f => d.tripping f && d.fnHasChain f q) fun f d => d.tripFn f false short q

/-- Whether a field channel in LAMP mode is named in an enabled lamp function. -/
def Dev.lampMember (d : Dev) (c : Nat) : Bool :=
  d.domOn 9 && decide (d.mode c = 5) &&
  (List.range 32).any fun f => d.flag (R.LT_FN_CFG_EN f) && (d.fnField f).contains c

/-- A field member reports open or short (15 R445, R446). -/
def Dev.fieldLampFault (d : Dev) (c : Nat) (short : Bool) : Dev :=
  if d.lampMember c then
    d.forAll ((List.range 32).filter fun f => d.tripping f && (d.fnField f).contains c) fun f d => d.tripFn f true short c
  else d

/-- One reading of a chain channel's flag: FLT_N consecutive ones report it (15 R444). -/
def Dev.lampReading (d : Dev) (q : Nat) (short seen : Bool) : Dev :=
  let tab := if short then d.lt.shortRun else d.lt.openRun
  let k := if seen then min 16 (sparseGet (fun _ => 0) tab q + 1) else 0
  let tab := sparsePut (fun _ => 0) tab q k
  let d := d.setLt (if short then { d.lt with shortRun := tab } else { d.lt with openRun := tab })
  if seen && decide (max 1 (d.fld R.LT_DIAG_FLT_N) ≤ k) then d.chainFault q short else d

/-- The readings of a shift: only of channels whose latched value is at least 1 and at least V_DET (15 R444). -/
def Dev.takeFlags (d : Dev) (opens shorts : List Nat) : Dev :=
  let qs := (List.range d.ltChans).filter fun q =>
    let v := sparseGet (fun _ => 0) d.lt.lat q
    decide (0 < v ∧ d.fld R.LT_DIAG_V_DET ≤ v)
  d.forAll qs fun q d => (d.lampReading q false (opens.contains q)).lampReading q true (shorts.contains q)

/-- One detection in the Comb (15 R443). -/
def Dev.combDetect (d : Dev) : Dev := ((d.count R.LT_INTEG_CNT).ltEvent R.LT_EVT_INTEG).raiseFault Src.ltInteg 0

/-- The values of a shift that ends at an MT enter the chain: those of an IC with a detection are 0 (15 R443). -/
def Dev.loadChain (d : Dev) (k : LtKind) (fin : Nat) (dets : List Nat) : Dev :=
  let n := d.ltDrvCh
  let vals := (List.range d.ltChans).foldl
    (fun l q => sparsePut (fun _ => 0) l q (if dets.contains (q / n) then 0 else d.shiftValue k q)) []
  d.setLt { d.lt with chain := vals, shift := none, loaded := some k, loadAt := fin }

/-- A shift ends: marker and status, then the zeros of enable are latched, then the next shift (15 R433, R443, R447). -/
def Dev.endShift (d : Dev) (k : LtKind) (fin : Nat) (marker : BitVec 16) (opens shorts dets : List Nat) : Dev :=
  let inj := d.injected 12 none && decide (k ≠ .zero)
  let dets := if inj then (d.ltIcs - 1) :: dets else dets
  let d := if inj then d.injectDone 12 none else d
  let d := d.loadChain k fin dets
  let d := d.setFlag R.LT_STAT_SHIFTING false
  let d := d.forAll dets fun _ d => d.combDetect
  let d :=
    if marker = 0xC5A3#16 then d.takeFlags opens shorts
    else ((d.count R.LT_CHAIN_ERR_CNT).ltEvent R.LT_EVT_CHAIN).raiseFault Src.ltChain 0
  let d := match k with
    | .zero =>
      let d := d.latchChain
      d.setLt { d.lt with grid := some (fin + 400), perBase := 0, pageAt := 0, dark := false }
    | _ => d
  d.nextShift fin

/-- Port running becomes 1: a page of zeros is shifted (15 R447). Becomes 0: shifts and the grid stop and the chain is
blanked (DEDUCED, notes/assumptions/23.md). -/
def Dev.writeLtCtrl (d : Dev) (v : Word) : Dev :=
  let was := d.flag R.LT_CTRL_EN
  let d := d.writeByCode R.LT_CTRL v
  let is := d.flag R.LT_CTRL_EN
  if is && !was then d.startShift .zero d.now
  else if was && !is then
    (d.setLt { d.lt with shift := none, loaded := none, grid := none, restarts := [], steps := 0, extra := false,
                         dark := true }).setFlag R.LT_STAT_SHIFTING false
  else d

/-- A write to LT_FNf_CFG: TRIP_CLR clears TRIPPED (15 R446). -/
def Dev.writeLtFnCfg (d : Dev) (f : Nat) (v : Word) : Dev :=
  let d := d.writeByCode (R.LT_FN_CFG f) v
  if v.getLsbD 2 then d.setFlag (R.LT_FN_STAT_TRIPPED f) false else d

/-- A page step: the chain is latched at the period start that ends the dwell, or at the one after an extra shift
(15 R437, R446). -/
def Dev.pageStep (d : Dev) : Dev :=
  let d := d.syncGrid
  if !d.flag R.LT_CTRL_EN || d.lt.grid.isNone then d
  else
    match d.lt.loaded with
    | some .extra =>
      let t := d.firstStart d.lt.loadAt
      if d.now < t then d else d.latchChain.nextShift t
    | some (.page p) =>
      let t := max (d.periodStart (d.lt.pageAt + max 1 d.lt.per)) (d.firstStart d.lt.loadAt)
      if d.flag R.LT_STAT_SUSPENDED || decide (d.now < t) then d
      else
        let d := (d.latchChain.setFld R.LT_STAT_PAGE p).count R.LT_STEP_CNT
        let d := d.setLt { d.lt with pageAt := d.periodCount t, steps := d.lt.steps + 1 }
        d.nextShift t
    | _ => d

/-- An LSYNC edge (15 R436). -/
def Dev.lsyncEdge (d : Dev) (t : Nat) (rising : Bool) : Dev :=
  let far := match d.lt.lsync with | some l => decide (2 * l + d.ltPeriod ≤ 2 * t) | none => true
  if (d.fld R.LT_CTRL_LSYNC_EDGE).testBit (if rising then 0 else 1) && far then
    let d := (d.setLt { d.lt with lsync := some t }).setReg64 R.LT_LSYNC_LO R.LT_LSYNC_HI t
    if d.flag R.LT_CTRL_LSYNC_EN && d.flag R.LT_CTRL_EN then
      d.setLt { d.lt with restarts := d.lt.restarts ++ [t + max 4000 (d.reg R.LT_LSYNC_DLY).toNat] }
    else d
  else d.count R.LT_LSYNC_IGN_CNT

/-! ### Commands -/

/-- LT_SEAL (15 R438): the written word of LT_CMD. -/
def execLtSeal (v : BitVec 32) (s : State) : Host.Outcome State Fault Refusal :=
  onDev s fun d => d.access R.LT_CMD fun d => d.writeLtCmd v

/-- LT_UNSEAL (15 R438). -/
def execLtUnseal (v : BitVec 32) (s : State) : Host.Outcome State Fault Refusal :=
  onDev s fun d => d.access R.LT_CMD fun d => d.writeLtCmd v

/-- LIGHTING_FRAME (15 R442): the oldest lighting-frame descriptor that may pass, with the LEN bytes read from the host. -/
def execLightingFrame (data : List (BitVec 8)) (s : State) : Host.Outcome State Fault Refusal :=
  onDev s fun d =>
    match d.nextDesc fun w => descType w == 0x80 with
    | some a =>
      if d.lightingReads a.word && !(d.canMaster && decide (data.length = descField a.word 16 4)) then d
      else (d.takeDesc a).lightingFrame a data
    | none => d

/-- LT_WDATA_WRITE (15 R438). -/
def execLtWdataWrite (v : BitVec 32) (s : State) : Host.Outcome State Fault Refusal :=
  onDev s fun d => d.access R.LT_WDATA fun d => d.writeLtWdata v

/-- SHIFT_END (15 R433, R443, R444): the returned marker, the chain channels whose open and short flags returned 1, and the
ICs with a detection. -/
def execShiftEnd (marker : BitVec 16) (opens shorts : List (Fin 1536)) (dets : List (Fin 32)) (s : State) :
    Host.Outcome State Fault Refusal :=
  onDev s fun d =>
    match d.lt.shift with
    | some (k, _, fin) =>
      if fin ≤ d.now then d.syncGrid.endShift k fin marker (opens.map (·.val)) (shorts.map (·.val)) (dets.map (·.val)) else d
    | none => d

/-- PAGE_STEP (15 R437, R446). -/
def execPageStep (s : State) : Host.Outcome State Fault Refusal := onDev s Dev.pageStep

/-- AUTO_FLIP (15 R440, FLIP_MODE 1): at the first period start at or after LT_READY + 400 ticks. -/
def execAutoFlip (s : State) : Host.Outcome State Fault Refusal :=
  onDev s fun d =>
    let d := d.syncGrid
    let t := d.firstStart (d.reg64 R.LT_READY_LO R.LT_READY_HI + 400)
    if d.flag R.LT_CTRL_EN && d.flag R.LT_CTRL_FLIP_MODE && d.backReady && decide (t ≤ d.now) then d.flip t else d

/-- LSYNC_EDGE (15 R436). -/
def execLsyncEdge (t : BitVec 64) (rising : Bool) (s : State) : Host.Outcome State Fault Refusal :=
  onDev s fun d => if d.domOn 9 then d.syncGrid.lsyncEdge t.toNat rising else d

/-- LT_ENABLE (15 R447): the written word of LT_CTRL. -/
def execLtEnable (v : BitVec 32) (s : State) : Host.Outcome State Fault Refusal :=
  onDev s fun d => d.access R.LT_CTRL fun d => d.writeLtCtrl v

/-- TRIP_CLR (15 R446): the written word of LT_FNf_CFG. -/
def execTripClr (f : Fin 32) (v : BitVec 32) (s : State) : Host.Outcome State Fault Refusal :=
  onDev s fun d => d.access (R.LT_FN_CFG f) fun d => d.writeLtFnCfg f v

end Sys2Proof.Machine
end

