-- ==== Sys2Proof/Machine/Channel.lean ====
section
/-! DEFINITION. The field channels as outputs (07): register writes, protection, diagnosis, the safe state, the channel
configuration descriptor; and the commands of that chapter. -/

namespace Sys2Proof.Machine

/-! ### Which commands a channel accepts (07 R204) -/

/-- Whether a channel is in an output mode with its drive not taken by a profile sequencer, and not in its safe state. -/
def Dev.acceptsOff (d : Dev) (c : Nat) : Bool :=
  isOutput (d.mode c) && decide (d.owner (d.leader c) ≠ 2) && !d.flag (R.CH_STAT_SAFE c)

/-- Whether a channel accepts CH_SET 1: as above, and not latched off. -/
def Dev.acceptsOn (d : Dev) (c : Nat) : Bool := d.acceptsOff c && !d.flag (R.CH_STAT_LATCHED (d.leader c))

/-- Whether a channel accepts CH_DUTY. -/
def Dev.acceptsDuty (d : Dev) (c : Nat) : Bool :=
  let l := d.leader c
  isOutput (d.mode c) && d.pwmEn l && decide (d.owner l = 0) && !d.flag (R.CH_STAT_SAFE c)

/-- Whether a channel accepts CH_PULSE. -/
def Dev.acceptsPulse (d : Dev) (c : Nat) : Bool := d.acceptsOn c && decide (d.owner (d.leader c) = 0)

/-- Whether a channel's side of a PSQ_START is met (07 R204). -/
def Dev.acceptsProfile (d : Dev) (c : Nat) : Bool :=
  isOutput (d.mode c) && decide (d.owner (d.leader c) = 2) && !d.flag (R.CH_STAT_SAFE c) &&
    !d.flag (R.CH_STAT_LATCHED (d.leader c))

/-! ### Release and latches (07 R218, R229, R233) -/

/-- Whether a RELEASE takes a channel out of its safe state (07 R233). -/
def Dev.mayRelease (d : Dev) (c : Nat) : Bool :=
  !d.bankHeld (c / 16) && d.flag (R.CH_DIE_STAT_LINK_UP (dieOf c)) && !(d.chan c).elimBad

/-- RELEASE on one channel: out of the safe state or of the hold-off of R229, off, with CMD_ON 0. -/
def Dev.releaseOne (d : Dev) (c : Nat) : Dev :=
  if d.mayRelease c && (d.flag (R.CH_STAT_SAFE c) || (d.chan c).elimHold) then
    let d := (((d.endRetry c).noteOff c d.now).stageOff c d.now).setFlag (R.CH_STAT_SAFE c) false
    let d := d.setChan c { d.chan c with prot := d.flag (R.CH_STAT_LATCHED c), elimHold := false }
    d.setFlag (R.CH_STAT_CMD_ON c) false
  else d

/-- CLR_LATCH (07 R218). -/
def Dev.clearLatch (d : Dev) (c : Nat) : Dev :=
  let l := d.leader c
  let d := (d.setFlag (R.CH_STAT_LATCHED l) false).setFld (R.CH_STAT_RETRIES l) 0
  let x := d.chan l
  d.setChan l { x with prot := x.prot && (x.retry.isSome || x.elimHold) }

/-- A write to CH_CMD: its bits act in the order RELEASE, CLR_LATCH, ON, OFF, SAFE (07 R568). -/
def Dev.writeChCmd (d : Dev) (c : Nat) (v : Word) : Dev :=
  let d := if v.getLsbD 3 then d.forAll (d.group c) fun k d => d.releaseOne k else d
  let d := if v.getLsbD 4 then d.clearLatch c else d
  let d := if v.getLsbD 0 && d.acceptsOn c then d.commandOn c d.now else d
  let d := if v.getLsbD 1 && d.acceptsOff c then d.commandOff c d.now else d
  if v.getLsbD 2 then Dev.feedFault (d.safeChan c) c else d

/-- A write to CH_BANK_CTRL (07 R228, R233). -/
def Dev.writeBankCtrl (d : Dev) (b : Nat) (v : Word) : Dev :=
  let d := if v.getLsbD 0 then d.forAll (bankChans b) fun c d => d.releaseOne c else d
  if v.getLsbD 1 && decide (b = 7) then
    (d.setFlag (R.CH_BANK_CTRL_ELIM_LOCK 7) true).setFlag (R.CH_BANK_STAT_ELIM_LOCKED 7) true
  else d

/-- A write to CH_DUTY: ignored, with IGN, while OWNER is not 0 and in the safe state (07 R203, R231). -/
def Dev.writeChDuty (d : Dev) (c : Nat) (v : Word) : Dev :=
  if d.owner (d.leader c) ≠ 0 ∨ d.flag (R.CH_STAT_SAFE c) = true then d.chEvent c (R.CH_STAT_IGN c)
  else d.setReg (R.CH_DUTY c) (v &&& 0xFFFF#32)

/-! ### Input side of a mode or filter write (08 R248) -/

/-- Whether a channel's filter gives a level: DIN1, DIN3, PULSE_IN. -/
def hasLevel (m : Nat) : Bool := decide (m = 6 ∨ m = 7 ∨ m = 10)

/-- Shows LEVEL: the filtered level after INV, 0 while a wire break is present (08 R254). -/
def Dev.showLevel (d : Dev) (c : Nat) : Dev :=
  d.setFlag (R.CH_IN_STAT_LEVEL c)
    (((d.chan c).raw != d.flag (R.CH_IN_CFG_INV c)) && !d.flag (R.CH_IN_STAT_WB_NOW c))

/-- The filter restarts with the raw level of this instant, which the state does not hold: a free value (08 R248). -/
def Dev.restartFilter (d : Dev) (c : Nat) : Dev :=
  let r := d.draw
  (r.2.setChan c { r.2.chan c with raw := hasLevel (d.mode c) && r.1.getLsbD 0, filtAt := d.now, edges := [] }).showLevel c

/-- Shows a channel FIFO's count and head (08 R246). -/
def Dev.showFifo (d : Dev) (c : Nat) : Dev :=
  let q := (d.chan c).fifo
  let d := d.setFld (R.CH_IN_FIFO_COUNT c) q.length
  match q with
  | (t, l) :: _ => (d.setFlag (R.CH_IN_FIFO_HEAD_LEVEL c) l).setReg64 (R.CH_IN_TS_LO c) (R.CH_IN_TS_HI c) t
  | [] => (d.setFlag (R.CH_IN_FIFO_HEAD_LEVEL c) false).setReg64 (R.CH_IN_TS_LO c) (R.CH_IN_TS_HI c) 0

/-- Whether a wire break is present on a channel: what holds CH_WIRE active (08 R254, 17 R472). -/
def Dev.wireBroken (d : Dev) : Bool := (List.range 128).any fun c => d.flag (R.CH_IN_STAT_WB_NOW c)

/-- A wire break is no longer present. -/
def Dev.wireWhole (d : Dev) (c : Nat) : Dev :=
  if d.flag (R.CH_IN_STAT_WB_NOW c) then
    let d := d.setFlag (R.CH_IN_STAT_WB_NOW c) false
    d.settleLine Src.chWire d.wireBroken
  else d

/-- A change of MODE on the input side: filter restarted, FIFO, count and period cleared, a new tag window (08 R248). -/
def Dev.restartInput (d : Dev) (c : Nat) : Dev :=
  let x := d.chan c
  let d := d.setChan c { x with fifo := [], lastCnt := none, burden := none, ainAt := d.now, wbLow := none, wbHigh := none,
                                tag := { TagWin.init with fin := d.now }, tags := [] }
  let d := ((d.setReg (R.CH_IN_CNT c) 0).setReg (R.CH_IN_PER c) 0).wireWhole c
  (d.showFifo c).restartFilter c

/-! ### CH_CFG (07 R201, R202, R213, R227, R228, 09 R273) -/

/-- A channel takes a new MODE: its output is off and its input side starts anew (DEDUCED, notes/assumptions/24.md). -/
def Dev.changeMode (d : Dev) (c m : Nat) : Dev :=
  if d.mode c = m then d
  else
    let d := (((d.cutPulse c d.now).endRetry c).stageOff c d.now).setFlag (R.CH_STAT_CMD_ON c) false
    let d := d.setChan c { d.chan c with prot := false, offRead := none, offAt := none, follow := [], partners := [], lastOff := none }
    (d.setFld (R.CH_CFG_MODE c) m).restartInput c

/-- Whether a MODE code stands in the table of R201. -/
def isMode (m : Nat) : Bool := decide (m ≤ 10)

/-- Whether a MODE is allowed with ELIM = 1 (07 R227). -/
def elimMode (m : Nat) : Bool := decide (m = 0 ∨ m = 1 ∨ (6 ≤ m ∧ m ≤ 10))

/-- Whether a MODE code cannot be written to a channel: reserved, on the odd channel of a pair or PAIR on an odd channel, barred by
ELIM, also by that of the channel that PAIR would take with it (07 R201, R202, R227). -/
def Dev.modeRefused (d : Dev) (c m : Nat) (elim : Bool) : Bool :=
  !isMode m || (decide (c % 2 = 1) && (decide (m = 4) || decide (d.mode (c - 1) = 4))) || (elim && !elimMode m) ||
    (decide (m = 4) && d.flag (R.CH_CFG_ELIM (c + 1)))

/-- Whether a MODE write changes the mode of a channel, or of the pair that it makes or ends, while a profile runs there (09 R273). -/
def Dev.modeBusy (d : Dev) (c m : Nat) : Bool :=
  decide (m ≠ d.mode c) && (d.running c || (decide (m = 4 ∨ d.mode c = 4) && d.running (c + 1)))

/-- ELIM as a write asks for it: B7 only, and not under the lock (07 R227, R228). -/
def Dev.elimAfter (d : Dev) (c : Nat) (v : Word) : Bool :=
  if c < 112 then false
  else if d.flag (R.CH_BANK_STAT_ELIM_LOCKED 7) then d.flag (R.CH_CFG_ELIM c) else v.getLsbD 9

/-- Whether ELIM = 1 is refused with a MODE: the mode that stays does not allow it (07 R227). -/
def Dev.elimRefused (d : Dev) (c : Nat) (v : Word) (stays : Bool) : Bool :=
  d.elimAfter c v && !elimMode (if stays then d.mode c else bitsOf v 0 4)

/-- The options of CH_CFG that no rule refuses; a switch that the safe state turned on and that the new code does not turns off now. -/
def Dev.setOptions (d : Dev) (c : Nat) (v : Word) : Dev :=
  let was := d.outOn c
  let d := if d.flag (R.CH_STAT_SAFE c) && decide (bitsOf v 6 2 ≠ d.fld (R.CH_CFG_SAFE c)) then d.noteOff c d.now else d
  let d := (d.setFld (R.CH_CFG_SAFE c) (bitsOf v 6 2)).setFlag (R.CH_CFG_SAFETY c) (v.getLsbD 8)
  let d := (d.setFlag (R.CH_CFG_PWM_EN c) (v.getLsbD 11)).setFld (R.CH_CFG_SLEW c) (bitsOf v 12 2)
  if was && !d.outOn c then d.setChan c { d.chan c with offSince := some d.now } else d

/-- A write to CH_CFG. -/
def Dev.writeChCfg (d : Dev) (c : Nat) (v : Word) : Dev :=
  let old := d.reg (R.CH_CFG c)
  let m := bitsOf v 0 4
  let badMode := d.modeRefused c m (d.elimAfter c v) || d.modeBusy c m
  let badElim := d.elimRefused c v badMode
  let elim := if badElim then d.flag (R.CH_CFG_ELIM c) else d.elimAfter c v
  let badOwner := d.running c && decide (bitsOf v 4 2 ≠ bitsOf old 4 2)
  let badRange := decide (c < 8) && (v.getLsbD 10 != old.getLsbD 10) && d.outOn c
  let d := (d.setOptions c v).setFlag (R.CH_CFG_ELIM c) elim
  let d := if badOwner then d else d.setFld (R.CH_CFG_OWNER c) (bitsOf v 4 2)
  let d := if badRange || decide (8 ≤ c) then d else d.setFlag (R.CH_CFG_RANGE c) (v.getLsbD 10)
  let d :=
    if badMode then d
    else if c % 2 = 0 ∧ m = 4 then (d.changeMode c 4).changeMode (c + 1) 4
    else if c % 2 = 0 ∧ d.mode c = 4 then (d.changeMode c m).changeMode (c + 1) 0
    else d.changeMode c m
  if badMode || badElim || badOwner || badRange then d.chEvent c (R.CH_STAT_BAD_CFG c) else d

/-- A write to a channel's PWM timing: refused with BAD_CFG while its slot is CLOSED, HOLD or SAFE (10 R291). -/
def Dev.writePwm (d : Dev) (c off : Nat) (v : Word) : Dev :=
  if d.loopHolds c then d.chEvent c (R.CH_STAT_BAD_CFG c) else d.writeByCode off v

/-! ### Protection (07 R214 to R219, R225, R229) -/

/-- Notes that two channels are cross-connected. -/
def Dev.addPartner (d : Dev) (c p : Nat) : Dev :=
  let x := d.chan c
  d.setChan c { x with partners := p :: x.partners.filter (· != p) }

/-- Reports a cross-connection of two channels (07 R225). -/
def Dev.reportXcon (d : Dev) (j k cause : Nat) : Dev :=
  let d := ((d.addPartner j k).addPartner k j).chEvent j (R.CH_STAT_XCON j)
  let d := d.chEvent k (R.CH_STAT_XCON k)
  let d := (d.setFld R.CH_XCON_LAST_CH_A (min j k)).setFld R.CH_XCON_LAST_CH_B (max j k)
  let d := (d.setFld R.CH_XCON_LAST_CAUSE cause).setFlag R.CH_XCON_LAST_VALID true
  let d := (d.setReg64 R.CH_XCON_MT_LO R.CH_XCON_MT_HI d.now).count R.CH_XCON_CNT
  d.raiseFault Src.chXcon (bankMask (j / 16) ||| bankMask (k / 16))

/-- Cause 1 of R225: another output channel that tripped within 1 µs with the other switch conducting. -/
def Dev.xconTrip (d : Dev) (c : Nat) (high : Bool) : Dev :=
  let other := (List.range 128).find? fun k =>
    decide (k ≠ c) && (match (d.chan k).trip with
      | some (t, h) => decide (d.now ≤ t + 4000) && (h != high)
      | none => false)
  let d := d.setChan c { d.chan c with trip := some (d.now, high) }
  match other with
  | some k => d.reportXcon c k 1
  | none => d

/-- Sets OC with its cause on a channel. -/
def Dev.setOc (d : Dev) (c cause : Nat) : Dev := (d.setFld (R.CH_STAT_OC_CAUSE c) cause).chEvent c (R.CH_STAT_OC c)

/-- A turn-off by the path of R214 with OC: cause recorded, POLICY, CH_OC raised. -/
def Dev.ocTrip (d : Dev) (c cause : Nat) : Dev :=
  let d := Dev.feedFault ((d.setOc c cause).protectOff (d.leader c) false) c
  d.raiseFault Src.chOc (bankMask (c / 16))

/-- Whether a channel is within INRUSH_MS of its turn-on (07 R220). -/
def Dev.inInrush (d : Dev) (c : Nat) : Bool :=
  decide (d.mode c = 5) && (match (d.chan c).onSince with
    | some t => decide (d.now < t + msTicks (max 1 (d.fld (R.CH_LAMP_INRUSH_MS c))))
    | none => false)

/-- The hard current limit of a channel in mA (07 R199). -/
def hardLimit (c : Nat) : Nat := if c < 32 then 36000 else 15000

/-- The peak current of a channel in 10 mA units (07 R199). -/
def peakUnits (c : Nat) : Nat := if c < 32 then 3000 else 1200

/-- The continuous rating of a channel in mA (07 R199). -/
def contRating (c : Nat) : Nat := if c < 32 then 8000 else 3000

/-- OC_TH as it acts, in mA: within the range of R199; the peak current during the inrush of a lamp (07 R214, R220). -/
def Dev.ocLimit (d : Dev) (c : Nat) : Nat :=
  10 * (if d.inInrush (d.leader c) then peakUnits c else max 10 (min (peakUnits c) (d.fld (R.CH_OC_OC_TH (d.leader c)))))

/-- Which limit of R214 a switch current of so many mA reaches: 1 the hard limit, 0 OC_TH outside the blanking window. -/
def Dev.ocCause (d : Dev) (c ma : Nat) : Option Nat :=
  if hardLimit c ≤ ma then some 1
  else if d.ocLimit c ≤ ma ∧ d.blanked (d.leader c) = false then some 0 else none

/-- Over-current under R214 or R215. -/
def Dev.overCurrent (d : Dev) (c cause : Nat) (high : Bool) : Dev :=
  let lampShort := decide (d.mode c = 5) && !d.inInrush c
  let d := (d.ocTrip c cause).xconTrip c high
  if lampShort then d.fieldLampFault c true else d

/-- Whether a switch of an output channel can conduct its load current: the high one in HS and LAMP, the low one in LS, either of a
bridge. -/
def canConduct (m : Nat) (high : Bool) : Bool :=
  match m with
  | 1 => high
  | 5 => high
  | 2 => !high
  | _ => decide (m = 3 ∨ m = 4)

/-- The time that spans share with the window [lo, hi), in ticks. -/
def timeIn (lo hi : Nat) (l : List (BitVec 64 × BitVec 64)) : Nat :=
  (l.map fun p => min hi p.2.toNat - max lo p.1.toNat).sum

/-- The time above the continuous rating that R215 adds up over the last 100 ms: what spans of current above it share with the window,
from the end of the inrush on in LAMP mode. -/
def Dev.timeAbove (d : Dev) (c : Nat) (l : List (BitVec 64 × BitVec 64)) : Nat :=
  let x := d.chan c
  let all := timeIn (d.now - msTicks 100) d.now l
  match x.onSince with
  | some t =>
    if d.mode c = 5 then all - timeIn (max t (d.now - msTicks 100)) (min d.now (t + msTicks (max 1 (d.fld (R.CH_LAMP_INRUSH_MS c))))) l
    else all
  | none => all

/-- A new junction temperature in 0.1 °C: OT_WARN when it has risen through 150 °C, and again only after it has fallen below 140 °C (07
R216). -/
def Dev.newTj (d : Dev) (c : Nat) (tj : Int) : Dev :=
  let d := d.setFld (R.CH_TJ_TJ c) (ofInt 16 tj)
  if tj < 1400 then d.setChan c { d.chan c with otArm := true }
  else if 1500 ≤ tj ∧ (d.chan c).otArm = true then
    (d.setChan c { d.chan c with otArm := false }).chEvent c (R.CH_STAT_OT_WARN c)
  else d

/-- The limiter of an energy-limited channel disagrees (07 R229): off by the path of R214 until released. -/
def Dev.elimTrip (d : Dev) (c : Nat) : Dev :=
  let d := ((d.count (R.CH_OC_CNT c)).killProfile c).cutPulse c d.now
  let d := (d.stageOff c d.now).endRetry c
  let d := d.setChan c { d.chan c with prot := true, elimHold := true }
  (d.chEvent c (R.CH_STAT_ELIM_FAULT c)).setLine Src.chElim (bankMask (c / 16))

/-- Whether a limiter disagrees: what holds CH_ELIM active (07 R229, 17 R472). -/
def Dev.elimBadAny (d : Dev) : Bool := (List.range 16).any fun i => (d.chan (112 + i)).elimBad

/-- The turn-off of a bank's channels by its supply: profiles are killed, CMD_ON of the others stays (07 R219, 09 R273). -/
def Dev.vfOff (d : Dev) (b : Nat) : Dev :=
  d.forAll (bankChans b) fun c d =>
    let d := (d.killProfile c).stageOff c d.now
    Dev.feedFault (d.feederLost c) c

/-- The outputs of a bank return: each channel with CMD_ON = 1 turns on again, but for those in a retry wait. -/
def Dev.vfReturn (d : Dev) (b : Nat) : Dev :=
  if d.vfBad b then d
  else d.forAll (bankChans b) fun c d =>
    if d.flag (R.CH_STAT_CMD_ON c) && !d.flag (R.CH_STAT_RETRY_WAIT (d.leader c)) then d.stageOn (d.leader c) d.now else d

/-- The continuous limit of a bank in mA (07 R199). -/
def bankLimit (b : Nat) : Nat := if b < 2 then 48000 else 24000

/-- The hard limit of a bank in mA (07 R199). -/
def bankHard (b : Nat) : Nat := if b < 2 then 120000 else 60000

/-- Whether a supply out of range is present: what holds CH_VF active (07 R219, 17 R472). -/
def Dev.vfAny (d : Dev) : Bool := (List.range 8).any d.vfBad

/-- Whether a bank's average is above its continuous limit: what holds CH_BANK_OC active (07 R219, 17 R472). -/
def Dev.bankOver (d : Dev) (b : Nat) : Bool := decide (bankLimit b < (d.reg (R.CH_BANK_IAVG b)).toNat)

/-- A supply is back in range: the outputs return (07 R219). -/
def Dev.vfGood (d : Dev) (b : Nat) : Dev := (d.settleLine Src.chVf d.vfAny).vfReturn b

/-! ### Readings (07 R211, R219) -/

/-- A raw reading with a calibration: times GAIN in 2⁻³⁰ units, rounded to nearest with ties upwards, plus OFS (07 CH_CAL; the order
is a DESIGN CHOICE, notes/assumptions/8.md). -/
def calibrated (raw : Int) (gain : Nat) (ofs : Int) : Int := (raw * gain + 2 ^ 29) / 2 ^ 30 + ofs

/-- A raw current of a channel in µA, calibrated. -/
def Dev.calI (d : Dev) (c : Nat) (raw : Int) : Int := calibrated raw (d.reg (R.CH_CAL_IG c)).toNat (d.reg (R.CH_CAL_IO c)).toInt

/-- A raw voltage of a channel in mV, calibrated; it shows in 16 bits. -/
def Dev.calV (d : Dev) (c : Nat) (raw : Int) : Nat :=
  min 65535 (calibrated raw (d.reg (R.CH_CAL_VG c)).toNat (d.fldInt (R.CH_CAL_VO_OFS c))).toNat

/-- The basis of CH_I and CH_V: the last complete PWM period, or the last 100 µs when PWM_EN is 0 (07 R211). -/
def Dev.meanSpan (d : Dev) (c : Nat) : Nat × Nat :=
  let l := d.leader c
  if d.pwmEn l then
    let s := d.pwmStart l d.now
    (s - 40 * d.pwmSteps l, s)
  else (d.now - 400000, d.now)

/-- CH_I in µA. -/
def Dev.meanI (d : Dev) (c : Nat) : Int := d.calI c (Config.meanCurrent c (d.meanSpan c).1 (d.meanSpan c).2)

/-- CH_V in mV. -/
def Dev.meanV (d : Dev) (c : Nat) : Nat := d.calV c (Config.meanVoltage c (d.meanSpan c).1 (d.meanSpan c).2)

/-- The bank current in mA: the magnitudes of the currents of its conducting switches (07 R219). -/
def Dev.bankI (d : Dev) (b : Nat) : Nat :=
  ((bankChans b).map fun c => if d.driven c then (d.calI c (Config.current c d.now)).natAbs else 0).sum / 1000

/-! ### Diagnosis (07 R222 to R225) -/

/-- The result of an off-state reading: 0 load present, 1 OPEN_OFF, 2 STUCK_HIGH (07 R222). -/
def offResult (m mv vf : Nat) : Nat :=
  if m = 2 then (if vf ≤ 2 * mv then 0 else 1)
  else if mv < 1500 then 0
  else if mv ≤ 4000 then 1 else 2

/-- Whether a partner of a known cross-connection is on. -/
def Dev.partnerOn (d : Dev) (c : Nat) : Bool := (d.chan c).partners.any fun p => d.driven p

/-- Reports an off-state result (07 R222, R224). -/
def Dev.reportOff (d : Dev) (c r : Nat) : Dev :=
  if r = 1 then (d.chEvent c (R.CH_STAT_OPEN_OFF c)).raiseFault Src.chOpen (bankMask (c / 16))
  else if r = 2 ∧ d.partnerOn c = false then
    (d.chEvent c (R.CH_STAT_STUCK_HIGH c)).raiseFault Src.chStuckHigh (bankMask (c / 16))
  else d

/-- One off-state reading; two equal ones in a row are reported. -/
def Dev.offReading (d : Dev) (c mv vf : Nat) : Dev :=
  let r := offResult (d.mode c) mv vf
  let same := (d.chan c).offRead == some r
  let d := d.setChan c { d.chan c with offRead := some r, offAt := some d.now }
  if same then d.reportOff c r else d

/-- Whether a channel takes off-state diagnosis now: in HS, LS or LAMP, off for at least 1 ms, and OFF_PERIOD since the last reading. -/
def Dev.offDiagnosable (d : Dev) (c : Nat) : Bool :=
  let m := d.mode c
  d.flag (R.CH_DIAG_OFFDIAG_EN c) && decide (m = 1 ∨ m = 2 ∨ m = 5) && !d.driven c &&
    (match (d.chan c).offSince with | some t => decide (t + msTicks 1 ≤ d.now) | none => true) &&
    (match (d.chan c).offAt with
     | some t => decide (t + msTicks (max 2 (d.fld (R.CH_DIAG_OFF_PERIOD c))) ≤ d.now)
     | none => true)

/-- OL_TH in µA. -/
def Dev.olLimit (d : Dev) (c : Nat) : Nat := d.fld (R.CH_DIAG_OL_TH c) * 10000

/-- Whether the on-state diagnosis of R223 or R445 has met its condition: three PWM periods or lamp windows in a row, or 1 ms in which
|CH_I| was at most so many µA. -/
def Dev.openNow (d : Dev) (c ua : Nat) : Bool :=
  let x := d.chan c
  isOutput (d.mode c) && d.outOn c &&
    ((d.flag (R.CH_DIAG_ONDIAG_EN c) &&
        (if d.pwmEn (d.leader c) then decide (3 ≤ x.olCnt)
         else decide (ua < d.olLimit c) &&
           (match (d.chan (d.leader c)).onSince with | some t => decide (t + msTicks 1 ≤ d.now) | none => d.flag (R.CH_STAT_SAFE c)))) ||
      (d.lampMember c && decide (3 ≤ x.lampCnt)))

/-! ### PWM (07 R207, R208, R223, 15 R445) -/

/-- The on-time in steps of the period that starts at s: R208; every 100 ms one of 3 µs for the test of a lamp whose on-windows are
shorter (15 R445). Answers whether it is such a window. -/
def Dev.onSteps (d : Dev) (c duty s : Nat) : Nat × Bool :=
  let n := pwmOn duty (d.pwmSteps c)
  if d.lampMember c && decide (0 < n ∧ n < 300 ∧ (d.chan c).lampAt + msTicks 100 ≤ s) then (300, true) else (n, false)

/-- The current of the on-window that has ended: for a lamp member, and if it lasted at least 3 µs (15 R445). -/
def Dev.judgeLamp (d : Dev) (c : Nat) : Dev :=
  let x := d.chan c
  match x.offEdge with
  | some t =>
    if d.lampMember c && decide (x.perAt + 12000 ≤ t ∧ x.pwmFrom ≤ x.perAt) then
      d.setChan c { x with lampCnt := if (d.calI c (Config.current c t)).natAbs < d.olLimit c then min 3 (x.lampCnt + 1) else 0 }
    else d
  | none => d

/-- The period that has ended, if PWM shaped all of it: |CH_I| against OL_TH (07 R223). -/
def Dev.judgePeriod (d : Dev) (c : Nat) : Dev :=
  let x := d.chan c
  if x.pwmFrom ≤ (d.meanSpan c).1 then
    d.setChan c { x with olCnt := if (d.meanI c).natAbs < d.olLimit c then min 3 (x.olCnt + 1) else 0 }
  else d

/-- A PWM period of a channel starts at s: the period that ended is judged, the duty and the direction are taken (07 R207, R208, 10
R288). -/
def Dev.pwmPeriod (d : Dev) (c s : Nat) : Dev :=
  let d := (d.forAll (d.group c) fun k d => d.judgePeriod k).judgeLamp c
  let y := d.dutyAt c s
  let d := if d.mode c = 4 then d.setRev c y.2 s else d
  let n := d.onSteps c y.1 s
  let x := d.chan c
  d.setChan c { x with duty := y.1, perAt := s
                       offEdge := if n.1 = d.pwmSteps c then none else some (s + 40 * n.1)
                       lampAt := if n.2 || decide (300 ≤ n.1) then s else x.lampAt }

/-! ### The channel-configuration descriptor (07 R234 to R237) -/

/-- FIRST, COUNT and KIND of a channel-configuration descriptor. -/
def cfgFirst (w : BitVec 256) : Nat := byteOf w 4
def cfgCount (w : BitVec 256) : Nat := byteOf w 5
def cfgKind (w : BitVec 256) : Nat := byteOf w 6

/-- The first descriptor field out of range (07 R235). -/
def cfgBad (w : BitVec 256) (now : Nat) : Option Nat :=
  firstBad [(1, decide (bitsOf w 12 4 ≠ 0)),
            (4, decide (127 < cfgFirst w)),
            (5, decide (cfgCount w = 0 ∨ 128 < cfgFirst w + cfgCount w)),
            (6, decide (2 < cfgKind w)),
            (7, decide (byteOf w 7 ≠ 0)),
            (8, decide (descField w 8 8 % 64 ≠ 0)),
            (16, decide (now + 2 ^ 44 < descField w 16 8))]

/-- The register offset of word k of a record of a KIND for a channel, if the record has that word (07 R234). -/
def cfgReg (kind c k : Nat) : Option Nat :=
  match kind with
  | 0 => if k < 9 then some (chBase c + 4 * k) else none
  | 1 => if k < 6 then some (chBase c + 0x80 + 4 * k) else none
  | _ => if k < 4 then some (chBase c + 0x60 + 4 * k) else none

/-- Word k of a record. -/
def recWord (r : BitVec 512) (k : Nat) : Word := BitVec.ofNat 32 (bitsOf r (32 * k) 32)

/-- The writable bits of a channel register: ELIM exists on B7, RANGE on CH0 to CH7. -/
def cfgMask (c off : Nat) : Word :=
  let m := match regRow off with | some r => BitVec.ofNat 32 r.rw | none => 0
  if off = R.CH_CFG c then
    let m := if c < 112 then m &&& ~~~0x200#32 else m
    if c < 8 then m else m &&& ~~~0x400#32
  else m

/-- Whether a record word holds a set reserved bit or a value that a register write would refuse. -/
def Dev.cfgWordBad (d : Dev) (kind c k : Nat) (v : Word) : Bool :=
  match cfgReg kind c k with
  | none => decide (v ≠ 0)
  | some off =>
    decide (v &&& ~~~(cfgMask c off) ≠ 0) ||
      (decide (kind = 0 ∧ k = 0) && d.modeRefused c (bitsOf v 0 4) (v.getLsbD 9)) ||
      (decide (kind = 0 ∧ (k = 1 ∨ k = 2)) && d.loopHolds c && decide (v ≠ d.reg off))

/-- The first channel and word that fail the check of a record field. -/
def Dev.cfgRecordBad (d : Dev) (kind first : Nat) (recs : List (BitVec 512)) : Option (Nat × Nat) :=
  (recs.zipIdx).findSome? fun p =>
    ((List.range 16).find? fun k => d.cfgWordBad kind (first + p.2) k (recWord p.1 k)).map fun k => (first + p.2, k)

/-- Whether a channel is busy: on, in a retry wait, or running a pulse or a profile. -/
def Dev.chanBusy (d : Dev) (c : Nat) : Bool :=
  let x := d.chan (d.leader c)
  x.on || d.outOn c || x.retry.isSome || x.pulse.isSome || d.running c

/-- Whether a KIND 0 record makes a change that the channel's state forbids (07 R235). -/
def Dev.cfgForbidden (d : Dev) (c : Nat) (v : Word) : Bool :=
  let old := d.reg (R.CH_CFG c)
  let diff := old ^^^ v
  (d.chanBusy c && decide (diff &&& 0x63F#32 ≠ 0)) ||
    (d.flag (R.CH_BANK_STAT_ELIM_LOCKED 7) && decide (112 ≤ c) && diff.getLsbD 9)

/-- The state checks of R235 over a descriptor's channels: the NOT_PERMITTED reason, if any. -/
def Dev.cfgStateBad (d : Dev) (kind first : Nat) (recs : List (BitVec 512)) : Option Nat :=
  if kind = 0 ∧ (recs.zipIdx.any fun p => d.cfgForbidden (first + p.2) (recWord p.1 0)) = true then some 0x05
  else if (List.range recs.length).all fun i => d.domOn (chDom (first + i)) then none else some 0x02

/-- A channel-configuration descriptor is checked with its records and waits for its apply MT (07 R235, R236). -/
def Dev.takeConfig (d : Dev) (a : AccDesc) (recs : List (BitVec 512)) : Dev :=
  let w := a.word
  match cfgBad w d.now with
  | some off => d.completeBad a.ref off 0x07
  | none =>
    match d.cfgRecordBad (cfgKind w) (cfgFirst w) recs with
    | some (c, k) =>
      let d := (d.setFld R.CH_CFG_ERR_CH c).setFld R.CH_CFG_ERR_WORD k
      (d.setFlag R.CH_CFG_ERR_VALID true).completeBad a.ref 8 0x07
    | none =>
      match d.cfgStateBad (cfgKind w) (cfgFirst w) recs with
      | some r => d.complete a.ref St.notPermitted r 0x07
      | none =>
        if 4 ≤ d.ch.cfgs.length then d.complete a.ref St.busy 0 0x07
        else
          let t := (max (descField w 16 8) d.now + 39999) / 40000 * 40000
          { d with ch := { d.ch with cfgs := d.ch.cfgs ++
              [{ ref := a.ref, first := cfgFirst w, kind := cfgKind w, recs := recs, apply := t }] } }

/-- A write to an input configuration register: one of CH_IN_FILT, or a change to THR or INV, restarts the filter (08 R248); TAG_EN
opens a tag window when it rises; WB_LIM judges the window means anew from here on. -/
def Dev.writeInCfg (d : Dev) (c off : Nat) (v : Word) : Dev :=
  let old := d.reg off
  let d := d.writeByCode off v
  let d := if off = R.CH_IN_CFG c ∧ old.getLsbD 6 = false ∧ v.getLsbD 6 = true then
      d.setChan c { d.chan c with tag := { TagWin.init with fin := d.now }, tags := [] }
    else d
  let d := if off = R.CH_IN_WB c ∧ (old ^^^ v) &&& 0xFFFF#32 ≠ 0 then
      d.setChan c { d.chan c with wbLow := none, wbHigh := none }
    else d
  if off = R.CH_IN_FILT c ∨ (off = R.CH_IN_CFG c ∧ (old ^^^ v) &&& 3#32 ≠ 0) then d.restartFilter c else d

/-- One record is applied to its channel (07 R234, R236, 08 R248). -/
def Dev.applyRecord (d : Dev) (kind c : Nat) (r : BitVec 512) : Dev :=
  match kind with
  | 0 =>
    let d := d.writeChCfg c (recWord r 0)
    let d := d.forAll [1, 2] fun k d =>
      let off := chBase c + 4 * k
      if d.reg off = recWord r k then d else d.writePwm c off (recWord r k)
    d.forAll [3, 4, 5, 6, 7, 8] fun k d => d.setReg (chBase c + 4 * k) (recWord r k)
  | 1 => d.forAll [0, 1, 2, 3, 4, 5] fun k d => d.writeInCfg c (chBase c + 0x80 + 4 * k) (recWord r k)
  | _ => d.forAll [0, 1, 2, 3] fun k d => d.setReg (chBase c + 0x60 + 4 * k) (recWord r k)

/-- A pending configuration applies to all its channels, or fails the state checks made again (07 R236). -/
def Dev.applyConfig (d : Dev) (p : CfgPend) : Dev :=
  let d := { d with ch := { d.ch with cfgs := d.ch.cfgs.erase p } }
  match d.cfgStateBad p.kind p.first p.recs with
  | some r => d.complete p.ref St.notPermitted r 0x07
  | none =>
    let d := d.forAll (List.range p.recs.length) fun i d => d.applyRecord p.kind (p.first + i) (p.recs.getD i 0)
    let banks := (List.range 8).filter fun b => decide (p.first < 16 * b + 16 ∧ 16 * b < p.first + p.recs.length)
    let d := d.forAll banks fun b d => d.bankEvent b (R.CH_BANK_EVT_CFG_APPLIED b)
    d.complete p.ref St.ok (p.apply % 2 ^ 32) 0x07

/-! ### Die link (07 R232, R238, R239, R567) -/

/-- Records whether a die's link carries valid traffic. -/
def Dev.setLinkUp (d : Dev) (k : Nat) (up : Bool) : Dev := d.setFlag (R.CH_DIE_STAT_LINK_UP k) up

/-- A die's watchdog trips: every channel of its four banks enters its safe state (01 R22, 07 R232). -/
def Dev.wdTrip (d : Dev) (k : Nat) : Dev :=
  let banks := (List.range 4).map fun i => 4 * k + i
  let d := d.setLinkUp k false
  let p := d.safeBanks (dieMask k)
  let d := p.1.forAll banks fun b d => d.bankEvent b (R.CH_BANK_EVT_WD_TRIP b)
  let d := d.raiseFault Src.chWd (dieMask k)
  if p.2 = 0 then d else d.raiseFault Src.psqFeed p.2

/-- A link frame of a die fails its check (07 R238). -/
def Dev.linkError (d : Dev) (k : Nat) : Dev :=
  let errs := (d.now :: (d.die k).errs).filter fun t => decide (d.now < t + msTicks 1)
  let d := d.count (R.CH_DIE_LINK_ERR_CNT k)
  if 16 ≤ errs.length then (d.setDie k { d.die k with errs := [] }).raiseFault Src.chLink (dieMask k)
  else d.setDie k { d.die k with errs := errs }

/-! ### Commands -/

/-- A channel command that needs its die's control domain. -/
def onChan (s : State) (c : Nat) (f : Dev → Dev) : Host.Outcome State Fault Refusal :=
  onDev s fun d => if d.domOn (chDom c) then f d else d

/-- CH_CMD_ON (07 R204, R568): the written word of CH_CMD. -/
def execChCmdOn (c : Fin 128) (v : BitVec 32) (s : State) : Host.Outcome State Fault Refusal :=
  onDev s fun d => d.access (R.CH_CMD c) fun d => d.writeChCmd c v

/-- CH_CMD_OFF (07 R204). -/
def execChCmdOff (c : Fin 128) (v : BitVec 32) (s : State) : Host.Outcome State Fault Refusal :=
  onDev s fun d => d.access (R.CH_CMD c) fun d => d.writeChCmd c v

/-- CH_CMD_SAFE (07 R231). -/
def execChCmdSafe (c : Fin 128) (v : BitVec 32) (s : State) : Host.Outcome State Fault Refusal :=
  onDev s fun d => d.access (R.CH_CMD c) fun d => d.writeChCmd c v

/-- CH_RELEASE (07 R233), with whether the die's link carries traffic. -/
def execChRelease (c : Fin 128) (v : BitVec 32) (link : Bool) (s : State) : Host.Outcome State Fault Refusal :=
  onDev s fun d => d.access (R.CH_CMD c) fun d => (d.setLinkUp (dieOf c) link).writeChCmd c v

/-- CLR_LATCH (07 R218). -/
def execClrLatch (c : Fin 128) (v : BitVec 32) (s : State) : Host.Outcome State Fault Refusal :=
  onDev s fun d => d.access (R.CH_CMD c) fun d => d.writeChCmd c v

/-- BANK_RELEASE (07 R233): the written word of CH_BANK_CTRL, with whether the die's link carries traffic. -/
def execBankRelease (b : Fin 8) (v : BitVec 32) (link : Bool) (s : State) : Host.Outcome State Fault Refusal :=
  onDev s fun d => d.access (R.CH_BANK_CTRL b) fun d => (d.setLinkUp (b / 4) link).writeBankCtrl b v

/-- ELIM_LOCK (07 R228): the written word of B7's CH_BANK_CTRL. -/
def execElimLock (v : BitVec 32) (s : State) : Host.Outcome State Fault Refusal :=
  onDev s fun d => d.access (R.CH_BANK_CTRL 7) fun d => d.writeBankCtrl 7 v

/-- CH_CFG_WRITE (07 R201, R202). -/
def execChCfgWrite (c : Fin 128) (v : BitVec 32) (s : State) : Host.Outcome State Fault Refusal :=
  onDev s fun d => d.access (R.CH_CFG c) fun d => d.writeChCfg c v

/-- OVER_CURRENT (07 R214, R199): the current in mA of the high or the low switch of an output channel, the comparator filter passed. -/
def execOverCurrent (c : Fin 128) (ma : BitVec 32) (high : Bool) (s : State) : Host.Outcome State Fault Refusal :=
  onChan s c fun d =>
    if d.outOn c && canConduct (d.mode c) high || d.gate c == some high then
      match d.ocCause c ma.toNat with
      | some cause => d.overCurrent c cause high
      | none => d
    else d

/-- TIME_OVER_CURRENT (07 R215): the spans of time, start and end, in which the current of the switch was above its continuous rating;
they sum to 10 ms in the last 100 ms. -/
def execTimeOverCurrent (c : Fin 128) (spans : List (BitVec 64 × BitVec 64)) (s : State) :
    Host.Outcome State Fault Refusal :=
  onChan s c fun d =>
    if isOutput (d.mode c) && (d.outOn c || d.driven c) && decide (msTicks 10 ≤ d.timeAbove c spans) then d.ocTrip c 2 else d

/-- OT_WARN (07 R216): a junction temperature in 0.1 °C. -/
def execOtWarn (c : Fin 128) (tj : BitVec 16) (s : State) : Host.Outcome State Fault Refusal :=
  onChan s c fun d => d.newTj c tj.toInt

/-- OVER_TEMPERATURE (07 R216): the junction temperature in 0.1 °C reaches 175 °C. -/
def execOverTemperature (x : ChanTj) (s : State) : Host.Outcome State Fault Refusal :=
  onChan s x.c fun d =>
    let d := d.newTj x.c x.tj.toInt
    if 1750 ≤ x.tj.toInt then
      let d := Dev.feedFault ((d.chEvent x.c (R.CH_STAT_OT x.c)).protectOff (d.leader x.c) true) x.c
      d.raiseFault Src.chOt (bankMask (x.c / 16))
    else d

/-- RETRY (07 R216, R217): the wait has ended, and after an over-temperature Tj is below 155 °C. -/
def execRetry (c : Fin 128) (tj : BitVec 16) (s : State) : Host.Outcome State Fault Refusal :=
  onChan s c fun d =>
    let x := d.chan c
    match x.retry with
    | some t =>
      let d := d.newTj c tj.toInt
      if t ≤ d.now ∧ (x.otWait = false ∨ tj.toInt < 1550) then
        let d := d.endRetry c
        if d.flag (R.CH_STAT_SAFE c) then d.addFld (R.CH_STAT_RETRIES c) 1
        else if (d.group c).any fun k => d.flag (R.CH_STAT_CMD_ON k) then
          (d.addFld (R.CH_STAT_RETRIES c) 1).stageOn c d.now
        else d
      else d
    | none => d

/-- RETRIES_RESET (07 R218): on for 1 s without a trip. -/
def execRetriesReset (c : Fin 128) (s : State) : Host.Outcome State Fault Refusal :=
  onChan s c fun d =>
    match (d.chan c).onSince with
    | some t => if t + secTicks ≤ d.now then d.setFld (R.CH_STAT_RETRIES c) 0 else d
    | none => d

/-- BANK_HARD_LIMIT (07 R219): a bank current in mA. -/
def execBankHardLimit (x : BankMa) (s : State) : Host.Outcome State Fault Refusal :=
  onChan s (16 * x.b) fun d =>
    if bankHard x.b ≤ x.ma.toNat then
      let on := (((bankChans x.b).filter d.driven).map d.leader).dedup
      let d := d.forAll on fun c d => Dev.feedFault ((d.setOc c 3).protectOff c false) c
      (d.bankEvent x.b (R.CH_BANK_EVT_HARD_LIMIT x.b)).raiseFault Src.chOc (bankMask x.b)
    else d

/-- BANK_OC (07 R219): a bank's new 1 s average in mA and its dissipation in mW; BANK_OC when the average comes to exceed the continuous
limit. -/
def execBankOc (b : Fin 8) (x : BankAvg) (s : State) : Host.Outcome State Fault Refusal :=
  onChan s (16 * b) fun d =>
    let was := d.bankOver b
    let d := (d.setReg (R.CH_BANK_IAVG b) x.ma).setFld (R.CH_BANK_PWR_P b) x.mw.toNat
    if d.bankOver b then
      if was then d else (d.bankEvent b (R.CH_BANK_EVT_BANK_OC b)).setLine Src.chBankOc (bankMask b)
    else d.settleLine Src.chBankOc ((List.range 8).any d.bankOver)

/-- VF_UV (07 R219): a bank supply in mV below 5.5 V. -/
def execVfUv (b : Fin 8) (vf : BitVec 16) (s : State) : Host.Outcome State Fault Refusal :=
  onChan s (16 * b) fun d =>
    let d := d.setFld (R.CH_BANK_VF_VF b) vf.toNat
    if vf.toNat < 5500 ∧ d.flag (R.CH_BANK_STAT_VF_UV b) = false then
      let d := (d.setFlag (R.CH_BANK_STAT_VF_UV b) true).vfOff b
      (d.bankEvent b (R.CH_BANK_EVT_UV b)).setLine Src.chVf (bankMask b)
    else d

/-- VF_UV_RECOVER (07 R219): a bank supply in mV and the MT since which it has been above 6.0 V, 1 ms ago at least. -/
def execVfUvRecover (b : Fin 8) (x : VfBack) (s : State) : Host.Outcome State Fault Refusal :=
  onChan s (16 * b) fun d =>
    let d := d.setFld (R.CH_BANK_VF_VF b) x.vf.toNat
    if 6000 < x.vf.toNat ∧ x.since.toNat + msTicks 1 ≤ d.now ∧ d.flag (R.CH_BANK_STAT_VF_UV b) = true then
      (d.setFlag (R.CH_BANK_STAT_VF_UV b) false).vfGood b
    else d

/-- VF_OV (07 R219): above 38 V. -/
def execVfOv (b : Fin 8) (vf : BitVec 16) (s : State) : Host.Outcome State Fault Refusal :=
  onChan s (16 * b) fun d =>
    let d := d.setFld (R.CH_BANK_VF_VF b) vf.toNat
    if 38000 < vf.toNat ∧ d.flag (R.CH_BANK_STAT_VF_OV b) = false then
      let d := (d.setFlag (R.CH_BANK_STAT_VF_OV b) true).vfOff b
      (d.bankEvent b (R.CH_BANK_EVT_OV b)).setLine Src.chVf (bankMask b)
    else d

/-- VF_OV_RECOVER (07 R219): a bank supply in mV and the MT since which it has been below 36.5 V, 1 ms ago at least. -/
def execVfOvRecover (b : Fin 8) (x : VfBack) (s : State) : Host.Outcome State Fault Refusal :=
  onChan s (16 * b) fun d =>
    let d := d.setFld (R.CH_BANK_VF_VF b) x.vf.toNat
    if x.vf.toNat < 36500 ∧ x.since.toNat + msTicks 1 ≤ d.now ∧ d.flag (R.CH_BANK_STAT_VF_OV b) = true then
      (d.setFlag (R.CH_BANK_STAT_VF_OV b) false).vfGood b
    else d

/-- OFF_DIAGNOSIS (07 R222, R224): the terminal and the bank supply in mV. -/
def execOffDiagnosis (c : Fin 128) (mv vf : BitVec 16) (s : State) : Host.Outcome State Fault Refusal :=
  onChan s c fun d =>
    let d := d.setFld (R.CH_BANK_VF_VF (c / 16)) vf.toNat
    if d.offDiagnosable c then d.offReading c mv.toNat vf.toNat else d

/-- OPEN_ON (07 R223, 15 R445): with PWM_EN 0 the largest |CH_I| of the last 1 ms in µA; with PWM_EN 1 the periods and windows that the
channel judged. -/
def execOpenOn (c : Fin 128) (ua : BitVec 32) (s : State) : Host.Outcome State Fault Refusal :=
  onChan s c fun d =>
    if d.openNow c ua.toNat then
      let d := (d.chEvent c (R.CH_STAT_OPEN_ON c)).raiseFault Src.chOpen (bankMask (c / 16))
      d.fieldLampFault c false
    else d

/-- Whether a channel placed an edge between two MTs. -/
def Dev.edgeIn (d : Dev) (c lo hi : Nat) : Bool := (d.edgesOf c).any fun e => decide (lo ≤ e.1 ∧ e.1 ≤ hi)

/-- An edge of output channel j at t, after which the voltage of off channel k changed by so many mV in its direction within 20 µs; it
counts only if no other channel placed an edge in those 20 µs. The third in a row is reported, and the count starts anew (07 R225 cause
2). -/
def Dev.followEdge (d : Dev) (j k t mv : Nat) : Dev :=
  let x := d.chan k
  let old := sparseGet (fun _ => (0, 0)) x.follow j
  if (old.2 < t ∨ old.1 = 0) ∧ ((List.range 128).any fun i => i != j && d.edgeIn i t (t + 80000)) = false then
    let n := if d.fld (R.CH_BANK_VF_VF (k / 16)) < 2 * mv then old.1 + 1 else 0
    let put := fun n => d.setChan k { x with follow := sparsePut (fun _ => (0, 0)) x.follow j (n, t) }
    if n = 3 then (put 0).reportXcon j k 2 else put n
  else d

/-- XCON_FOLLOW (07 R225 cause 2): an edge of output channel j at an MT, 20 µs ago at least, and by how many mV the voltage of off channel
k changed in the direction of that edge within 20 µs after it. -/
def execXconFollow (j : Fin 128) (x : FollowEdge) (s : State) : Host.Outcome State Fault Refusal :=
  onChan s x.k fun d =>
    if decide (j ≠ x.k ∧ x.t.toNat + 80000 ≤ d.now) && d.flag (R.CH_DIAG_XCON_EN x.k) && isOutput (d.mode j) && !d.driven x.k then
      d.followEdge j x.k x.t.toNat x.mv.toNat
    else d

/-- ELIM_FAULT (07 R229): the two references of an energy-limited channel disagree, or agree again. -/
def execElimFault (c : Fin 128) (agree : Bool) (s : State) : Host.Outcome State Fault Refusal :=
  onChan s c fun d =>
    if d.flag (R.CH_CFG_ELIM c) then
      let was := (d.chan c).elimBad
      let d := d.setChan c { d.chan c with elimBad := !agree }
      if agree then d.settleLine Src.chElim d.elimBadAny else if was then d else d.elimTrip c
    else d

/-- WD_TRIP (01 R22, 07 R232): the MT of the last valid traffic on a die's link; TIMEOUT, of 1 to 100 ms, has passed since. -/
def execWdTrip (x : DieQuiet) (s : State) : Host.Outcome State Fault Refusal :=
  onChan s (64 * x.die) fun d =>
    if (d.die x.die).armed && decide (x.last.toNat + msTicks (max 1 (min 100 (d.fld (R.CH_DIE_WD_TIMEOUT x.die)))) ≤ d.now) then
      d.wdTrip x.die
    else d

/-- LINK_FRAME_ERROR (07 R238). -/
def execLinkFrameError (die : Fin 2) (s : State) : Host.Outcome State Fault Refusal :=
  onChan s (64 * die) fun d => d.linkError die

/-- CONFIG_INTEG (07 R238): a configuration word of a channel fails its code. -/
def execConfigInteg (c : Fin 128) (s : State) : Host.Outcome State Fault Refusal :=
  onChan s c fun d =>
    let d := Dev.feedFault (d.safeChan c) c
    (d.chEvent c (R.CH_STAT_INTEG c)).raiseFault Src.chInteg (bankMask (c / 16))

/-- CHANNEL_CONFIGURATION (07 R234, R235): the oldest descriptor of type 0xA0 that may pass, with its COUNT records read from
the host. -/
def execChannelConfiguration (recs : List (BitVec 512)) (s : State) : Host.Outcome State Fault Refusal :=
  onDev s fun d =>
    match d.nextDesc fun w => descType w == 0xA0 with
    | some a =>
      if (cfgBad a.word d.now).isNone && !(d.canMaster && decide (recs.length = cfgCount a.word)) then d
      else (d.takeDesc a).takeConfig a recs
    | none => d

/-- CONFIG_APPLY (07 R236): the oldest pending configuration whose apply MT has come. -/
def execConfigApply (s : State) : Host.Outcome State Fault Refusal :=
  onDev s fun d =>
    match d.ch.cfgs.find? fun p => decide (p.apply ≤ d.now) with
    | some p => d.applyConfig p
    | none => d

/-- CH_PULSE_END (07 R205): a running pulse's trailing edge. -/
def execChPulseEnd (c : Fin 128) (s : State) : Host.Outcome State Fault Refusal :=
  onDev s fun d =>
    match (d.chan c).pulse with
    | some (t, op) =>
      if t ≤ d.now then
        let d := (d.setChan c { d.chan c with pulse := none }).setFlag (R.CH_STAT_PULSE c) false
        let d := ((d.endRetry c).stageOff c t).endOp op t
        d.forAll (d.group c) fun k d => d.setFlag (R.CH_STAT_CMD_ON k) false
      else d
    | none => d

/-- REF100_RETURN (03 R116): MT advances again, the MT_REF line drops and the die-to-die traffic resumes. -/
def execRef100Return (s : State) : Host.Outcome State Fault Refusal :=
  onDev s fun d =>
    let d := ({ d with mt := { d.mt with refOk := true } }).dropLine Src.mtRef
    d.forAll ([0, 1].filter fun k => d.domOn (12 + k)) fun k d => d.setLinkUp k true

end Sys2Proof.Machine
end

