-- ==== Sys2Proof/Machine/PowerOps.lean ====
section
/-! DEFINITION. What switching a power domain on or off does to the registers and the hidden state of its blocks (16 R453), which
domains an entry's target needs (01 R29, 04 R124), and the operations that wait for leave (16 R462). -/

namespace Sys2Proof.Machine

/-- The registers that PD0 keeps (18 register map). -/
def keptPd0 (off : Nat) : Bool :=
  [R.KEY_TAMP_CFG, R.KEY_TAMP_STAT, R.KEY_TAMP_REC, R.KEY_TAMP_RTC_LO, R.KEY_TAMP_RTC_HI, R.ACC_REL_CTR].contains off

/-- A die's hidden state at power-on, but for the switches that PARK left on and the die holds (07 R239, 16 R455). -/
def Dev.resetDie (d : Dev) (k : Nat) : Dev :=
  let held := d.ch.chan.filterMap fun p =>
    if dieOf p.1 = k then (p.2.hold.map fun h => (p.1, { Chan.init with hold := some h })) else some p
  { d with ch := { d.ch with chan := held, die := d.ch.die.filter fun p => p.1 != k } }

/-- The hidden state of a domain's blocks at its power-on (03 R115, 04, 07 R239, 09 R284, 10 R310, 11 R354, 13 R406, 14 R427,
15 R447, 17 R487, 18 R494). -/
def Dev.hiddenReset (d : Dev) (k : Nat) : Dev :=
  match k with
  | 2 => { d with flt := { lines := 0, errnEnd := none, rctBad := 0, cover := [], pulse := [], errnAt := d.now, stopAt := [] }
                  pwr := { d.pwr with books := [], jobs := [], hotSince := none }
                  key := KeyState.init, acc := AccState.init, upd := { phase := 0, activated := false }
                  eng := { d.eng with roles := [], auto := [] } }
  | 3 => { d with mt := { MtState.cold with refOk := d.mt.refOk }
                  sch := { ents := [], lastCommit := none, ops := [], nextOp := 0, cancels := [] }
                  pose := PoseState.init, bnd := BndState.init }
  | 4 => { d with eng := { d.eng with eng := d.eng.eng.filter fun p => decide (8 ≤ p.1) } }
  | 5 => { d with eng := { d.eng with eng := d.eng.eng.filter fun p => decide (p.1 < 8) } }
  | 6 => { d with psq := { onAt := d.now, ctx := [], bank := [] }, loop := [] }
  | 7 => { d with sw := SwState.init }
  | 8 => { d.resetLink with hl := { d.resetLink.hl with handed := [], outst := [] } }
  | 9 => { d with can := [], lt := LtState.init }
  | 10 => { d with gn := GnState.init }
  | 12 => d.resetDie 0
  | 13 => d.resetDie 1
  | _ => d

/-- Whether a register lies in a domain and is reset with it: for PD12 and PD13 the windows of 0x6_0000 hold both dies. -/
def inDomain (k off : Nat) : Bool := domOf off == k && !keptPd0 off

/-- The fault sources of the blocks that lie in one domain (17 R471). -/
def domSrcs : Nat → List Nat
  | 3 => [Src.mtRef, Src.mtFreerun, Src.schInteg, Src.schDrop, Src.schDeny, Src.schWin, Src.poseLost, Src.bndInteg, Src.bndDegr]
  | 6 => [Src.psqInteg, Src.psqProg, Src.psqNoclose, Src.psqCoilOt, Src.psqFeed, Src.loopFb, Src.loopInteg, Src.loopPlaus]
  | 7 => [Src.swInteg, Src.swGlean, Src.swLink]
  | 8 => [Src.hlLink, Src.hlFetch, Src.hlCpl]
  | 9 => [Src.canBusoff, Src.canIdclash, Src.canInteg, Src.ltInteg, Src.ltChain, Src.ltLamp]
  | 10 => [Src.gnInteg, Src.gnIf, Src.gnCorr]
  | _ => []

/-- A source's line is inactive (17 R487). -/
def Dev.endLine (d : Dev) (i : Nat) : Dev :=
  let d := d.dropLine i
  { d with flt := { d.flt with pulse := sparsePut (fun _ => 0) d.flt.pulse i 0 } }

/-- The lines of the channel dies stay active for what is present on the die that stays on (17 R472, R487). -/
def Dev.settleDies (d : Dev) : Dev :=
  (((d.settleLine Src.chElim d.elimBadAny).settleLine Src.chVf d.vfAny).settleLine Src.chBankOc
    ((List.range 8).any d.bankOver)).settleLine Src.chWire d.wireBroken

/-- The lines from a domain that is off are inactive (17 R487). -/
def Dev.endLines (d : Dev) (k : Nat) : Dev :=
  let d := d.forAll (domSrcs k) fun i d => d.endLine i
  if k = 12 ∨ k = 13 then d.settleDies else d

/-- The registers and the hidden state of a domain take their values at power-on. -/
def Dev.powerReset (d : Dev) (k : Nat) : Dev := ((d.resetRegs (inDomain k)).hiddenReset k).endLines k

/-- A one-bit mask of a domain. -/
def domBit (k : Nat) : BitVec 14 := BitVec.ofNat 14 (2 ^ k)

/-- A domain is switched on: from here it counts for the arbiter. -/
def Dev.switchOn (d : Dev) (k : Nat) : Dev := { d with pwr := { d.pwr with on := d.pwr.on ||| domBit k } }

/-- A domain is switched off: its registers and hidden state are lost at once, for every purpose (16 R453). -/
def Dev.switchOff (d : Dev) (k : Nat) : Dev :=
  let d := if k = 8 then d.dropLink else d
  let d := d.powerReset k
  { d with pwr := { d.pwr with on := d.pwr.on &&& ~~~domBit k, good := d.pwr.good &&& ~~~domBit k } }

/-- The domains of the block that an action targets (04 R124, 01 R23). -/
def Dev.targetDoms (d : Dev) (a t : Nat) : List Nat :=
  match a with
  | 0x01 => [chDom t]
  | 0x02 => [chDom t]
  | 0x03 => [chDom t]
  | 0x04 => [6, chDom t]
  | 0x05 => [6]
  | 0x06 => [6]
  | 0x07 => [chDom t]
  | 0x08 => [9]
  | 0x09 => [7]
  | 0x0A => [9]
  | 0x0D => [engDom (d.roleHolder t)]
  | _ => [3]

/-- Whether the schedule holds a committed entry that targets a block in a domain (01 R29). -/
def Dev.domBusy (d : Dev) (k : Nat) : Bool :=
  d.sch.ents.any fun e => !e.uncommitted && (d.targetDoms e.action e.target).contains k

/-! ### Sampled lands (16 R465, 18 R499) -/

/-- A sample of a land on the clock of the RTC, at its count; answers whether it is the second active one in a row (16 R465, 14 R428,
18 R499). -/
def Dev.landSample (d : Dev) (key rtc : Nat) (active : Bool) : Bool × Dev :=
  let last := sparseGet (fun _ => 0) d.pwr.samp key
  (active && decide (last = rtc + 1),
   { d with pwr := { d.pwr with samp := sparsePut (fun _ => 0) d.pwr.samp key (if active then rtc + 2 else 0) } })

/-! ### Operations that wait for leave (16 R462) -/

/-- The module-power amount, interval in µs and REQ code of an operation. -/
def LeaveJob.need : LeaveJob → Nat × Nat × Nat
  | .verify _ _ => (250, 5000, 1)
  | _ => (400, 50000, 2)

/-- Asks leave for an operation; answers whether it was granted. -/
def Dev.askJob (d : Dev) (j : LeaveJob) : Bool × Dev :=
  let r : LeaveReq := { bank := none, amount := 0, mw := j.need.1, start := d.now, us := j.need.2.1, safety := false,
                        req := j.need.2.2, owner := 0 }
  match d.decideLeave r with
  | (none, d) => (true, d)
  | (some _, d) => (false, d)

/-- An operation joins those that wait: it is asked for again after 1 ms. -/
def Dev.waitJob (d : Dev) (j : LeaveJob) : Dev :=
  { d with pwr := { d.pwr with jobs := d.pwr.jobs ++ [(j, d.now, d.now + msTicks 1)] } }

end Sys2Proof.Machine
end

