-- ==== Sys2Proof/Machine/Flash.lean ====
section
/-! DEFINITION. The flash of 19: its areas, manifests and their checks, the code policy of R539, and the update block's events. -/

namespace Sys2Proof.Machine

/-- Erased flash reads as ones. -/
def flashDefault : Nat → Byte := fun _ => 0xFF

/-- Bytes of a flash area from an offset. -/
def flashBytes (a : Sparse Byte) (off n : Nat) : List Byte := (List.range n).map fun i => sparseGet flashDefault a (off + i)

/-- A little-endian field of a flash area. -/
def flashField (a : Sparse Byte) (off n : Nat) : Nat := ofBytes (flashBytes a off n)

/-- Writes bytes into a flash area. -/
def flashWrite (a : Sparse Byte) (off : Nat) : List Byte → Sparse Byte
  | [] => a
  | b :: t => flashWrite (sparsePut flashDefault a off b) (off + 1) t

/-- H: the size of the active and of the staging area (19 R522). -/
def Dev.flashHalf (d : Dev) : Nat := (d.fld R.UPD_FLASH_SIZE_MIB - 4) * 2 ^ 20 / 2

/-- A 256-bit number as 32 bytes, most significant first. -/
def digestBytes (x : BitVec 256) : List Byte := beBytes 32 x.toNat

/-- An entry of a manifest (19 R525). -/
structure Part where
  type : Nat
  index : Nat
  off : Nat
  len : Nat
  version : Nat
  digest : List Byte
  deriving DecidableEq, Repr

/-- NPARTS of a manifest, as far as its area can hold entries. -/
def manifestCount (a : Sparse Byte) : Nat := min 64 (flashField a 5 1)

/-- Entry i of a manifest. -/
def manifestPart (a : Sparse Byte) (i : Nat) : Part :=
  let o := 128 + 64 * i
  { type := flashField a o 1, index := flashField a (o + 2) 2, off := flashField a (o + 4) 4, len := flashField a (o + 8) 4,
    version := flashField a (o + 12) 4, digest := flashBytes a (o + 16) 32 }

/-- The entries of a manifest. -/
def manifestParts (a : Sparse Byte) : List Part := (List.range (manifestCount a)).map (manifestPart a)

/-- SVN of a manifest. -/
def manifestSvn (a : Sparse Byte) : Nat := flashField a 8 4

/-- BUILD of a manifest. -/
def manifestBuild (a : Sparse Byte) : Nat := flashField a 16 8

/-- Whether bytes of an area are all zero. -/
def zeroBytes (a : Sparse Byte) (off n : Nat) : Bool := (flashBytes a off n).all (· == 0)

/-- Whether the header of a manifest meets R524. -/
def headerOk (a : Sparse Byte) : Bool :=
  decide (flashField a 0 4 = 0x514D4E46) && decide (flashField a 4 1 = 1) &&
  decide (1 ≤ flashField a 5 1 ∧ flashField a 5 1 ≤ 64) && zeroBytes a 6 2 && decide (manifestSvn a ≤ 64) && zeroBytes a 12 4 &&
  zeroBytes a 88 40

/-- Whether INDEX fits a part's type (19 R525). -/
def indexOk (p : Part) : Bool :=
  match p.type with
  | 5 => decide (p.index / 16 % 16 = 0 ∧ p.index < 512)
  | 6 => decide (p.index < 256)
  | _ => decide (p.index = 0)

/-- Whether entry i of a manifest meets R525 and R526 against the entries before it. -/
def entryOk (a : Sparse Byte) (h i : Nat) : Bool :=
  let p := manifestPart a i
  let before := (List.range i).map (manifestPart a)
  decide (1 ≤ p.type ∧ p.type ≤ 6) && indexOk p && zeroBytes a (128 + 64 * i + 1) 1 && zeroBytes a (128 + 64 * i + 48) 16 &&
  decide (p.off % 4096 = 0 ∧ 8192 ≤ p.off ∧ 1 ≤ p.len ∧ p.off + p.len ≤ h) && decide (p.type ≠ 1 ∨ p.len ≤ 448 * 1024) &&
  before.all fun q =>
    decide (q.off + q.len ≤ p.off ∨ p.off + p.len ≤ q.off) && !(q.type == p.type && decide (p.type ≤ 4)) &&
      !(q.type == 5 && decide (p.type = 5) && decide (q.index % 16 = p.index % 16))

/-- The first part of a manifest that fails a test. -/
def firstPart (n : Nat) (ok : Nat → Bool) : Option Nat := (List.range n).find? fun i => !ok i

/-- Whether a part's digest matches. -/
def digestOk (a : Sparse Byte) (p : Part) : Bool := digestBytes (sha256Of (flashBytes a p.off p.len)) == p.digest

/-- The entries of a boot settings list: offset and value (19 R528). -/
def settingsOf (a : Sparse Byte) (p : Part) : List (Nat × Word) :=
  (List.range (p.len / 8)).map fun k =>
    (flashField a (p.off + 8 * k) 4, BitVec.ofNat 32 (flashField a (p.off + 8 * k + 4) 4))

/-- Whether the offsets of a boot settings list lie where R528 allows. -/
def settingsOk (a : Sparse Byte) (p : Part) : Bool :=
  decide (p.len % 8 = 0) && (settingsOf a p).all fun e =>
    decide (e.1 % 4 = 0) && decide ((0x20000 ≤ e.1 ∧ e.1 < 0x60000) ∨ (0xD0000 ≤ e.1 ∧ e.1 < 0xF8000))

/-- The live classes of parts: navigation firmware, engine and profile images (19 R525). -/
def livePart (p : Part) : Bool := decide (4 ≤ p.type)

/-- The first check of R526 that a manifest fails, as REASON and PART of UPD_ERR, before its parts are read. -/
def manifestFail (nv : Nv) (a : Sparse Byte) (h : Nat) : Option (Nat × Nat) :=
  let n := manifestCount a
  let pub := flashBytes a 24 64
  if !headerOk a then some (1, 0xFF)
  else
    match firstPart n (entryOk a h) with
    | some i => some (2, i)
    | none =>
      if !((manifestParts a).any fun p => p.type == 1) then some (2, 0xFF)
      else if manifestSvn a < nv.svn then some (3, 0xFF)
      else if !ecdsaOk pub (digestBytes (sha256Of (flashBytes a 0 (128 + 64 * n)))) (flashBytes a (128 + 64 * n) 64)
        then some (4, 0xFF)
      else
        match nv.pkh with
        | some k => if sha256Of pub = k then none else some (5, 0xFF)
        | none => if nv.life = 0 then none else some (5, 0xFF)

/-- The first part, among those that a test selects, that is not valid (19 R526, R528). -/
def partsFail (a : Sparse Byte) (sel : Part → Bool) : Option (Nat × Nat) :=
  let n := manifestCount a
  match firstPart n fun i => !sel (manifestPart a i) || digestOk a (manifestPart a i) with
  | some i => some (6, i)
  | none =>
    match firstPart n fun i =>
        let p := manifestPart a i
        !(sel p && p.type == 2) || settingsOk a p with
    | some i => some (7, i)
    | none => none

/-- Whether the set in an area verifies, with the parts that a test selects; a read failure of the flash is REASON 8. -/
def setFail (nv : Nv) (a : Sparse Byte) (h : Nat) (sel : Part → Bool) (flashErr : Bool) : Option (Nat × Nat) :=
  if flashErr then some (8, 0xFF)
  else
    match manifestFail nv a h with
    | some r => some r
    | none => partsFail a sel

/-! ### The update block's events -/

/-- An event of the update block. -/
def Dev.updEvent (d : Dev) (f : Fld) : Dev := d.event R.UPD_EVT f.lo R.UPD_IEN R.UPD_VEC

/-- A verification fails: recorded, counted, UPD_VERIFY raised (19 R530, R534, R535, R543). -/
def Dev.verifyFail (d : Dev) (r : Nat × Nat) (at_ : Nat) : Dev :=
  let d := ((d.setFld R.UPD_ERR_REASON r.1).setFld R.UPD_ERR_PART r.2).setFld R.UPD_ERR_WHERE at_
  ((d.count R.UPD_VERIFY_FAIL_CNT).updEvent R.UPD_EVT_VERIFY_FAIL).raiseFault Src.updVerify 0

/-- A flash read, erase or program failure: counted, UPD_FLASH raised (19 R534, R543). -/
def Dev.flashFail (d : Dev) : Dev :=
  ((d.count R.UPD_FLASH_ERR_CNT).updEvent R.UPD_EVT_FLASH_ERR).raiseFault Src.updFlash 0

/-- Whether a host image of a part type may be taken: in SEALED with HOST_CODE = 0 only by a digest of the active manifest or of
a committed staged one (19 R539). -/
def Dev.codeOk (d : Dev) (nv : Nv) (ty : Nat) (img : List Byte) : Bool :=
  let has := fun a => (manifestParts a).any fun p =>
    p.type == ty && p.digest == digestBytes (sha256Of img)
  decide (nv.life = 0) || d.flag R.UPD_POLICY_HOST_CODE || has nv.active || (decide (nv.journal = 1) && has nv.staging)

end Sys2Proof.Machine
end

