-- ==== Sys2Proof/Machine/EngImg.lean ====
section
/-! DEFINITION. Start, stop, images, live replacement and cluster power of the Tchitis engines (11 R341 to R354), and the data
memory of an engine. -/

namespace Sys2Proof.Machine

/-! ### Engine memories -/

/-- A table of a list's values from key 0 upwards. -/
def sparseOf {α : Type} [DecidableEq α] (dflt : α) (l : List α) : Sparse α :=
  (l.zipIdx.filter fun p => decide (p.1 ≠ dflt)).map fun p => (p.2, p.1)

/-- A byte of DMEM. -/
def Eng.byte (x : Eng) (a : Nat) : Byte := sparseGet (fun _ => 0) x.dmem a

/-- Bytes of DMEM from an address. -/
def Eng.bytes (x : Eng) (a n : Nat) : List Byte := (List.range n).map fun i => x.byte (a + i)

/-- A little-endian number of n bytes of DMEM. -/
def Eng.num (x : Eng) (a n : Nat) : Nat := ofBytes (x.bytes a n)

/-- Writes bytes of DMEM. -/
def Eng.putBytes (x : Eng) (a : Nat) : List Byte → Eng
  | [] => x
  | b :: t => ({ x with dmem := sparsePut (fun _ => 0) x.dmem a b }).putBytes (a + 1) t

/-- A word of IMEM by its byte address. -/
def Eng.iword (x : Eng) (a : Nat) : Word := sparseGet (fun _ => 0) x.imem (a / 4)

/-- Sets a word of IMEM. -/
def Eng.putIword (x : Eng) (a : Nat) (v : Word) : Eng := { x with imem := sparsePut (fun _ => 0) x.imem (a / 4) v }

/-- The words that bytes spell, least significant byte first. -/
def wordsOf (l : List Byte) : List Word := (List.range (l.length / 4)).map fun i => BitVec.ofNat 32 (ofBytes ((l.drop (4 * i)).take 4))

/-! ### Images (R344, R347) -/

/-- FEAT0 (R319). -/
def feat0 : Nat := 0x0008FF01

/-- A field of an image. -/
def imgField (l : List Byte) (off n : Nat) : Nat := ofBytes ((l.drop off).take n)

/-- The length of an image as far as its header gives it: the header alone when its lengths break R344. -/
def imgLength (l : List Byte) : Nat :=
  let c := imgField l 24 4
  let n := imgField l 28 4
  if c % 32 = 0 ∧ 32 ≤ c ∧ c ≤ 131072 ∧ n % 8 = 0 ∧ n ≤ 131072 then 64 + c + n else 64

/-- Whether an address field of the header breaks R344. -/
def imgAddrBad (l : List Byte) (off : Nat) : Bool := decide (imgField l off 4 % 4 ≠ 0 ∨ imgField l 24 4 ≤ imgField l off 4)

/-- The first check of R344 that an image fails, as REASON and OFFSET of ENG_n_LOAD_ERR in the order of REASON, with the GEN
its descriptor names, if any. -/
def imgFail (l : List Byte) (gen : Option Nat) : Option (Nat × Nat) :=
  let c := imgField l 24 4
  let n := imgField l 28 4
  let hb := imgField l 32 4
  let hl := imgField l 36 2
  let checks : List ((Nat × Nat) × Bool) :=
    [((2, 0), decide (imgField l 0 4 ≠ 0x49484354)), ((2, 4), decide (imgField l 4 1 ≠ 1)),
     ((3, 8), imgAddrBad l 8), ((3, 12), imgAddrBad l 12), ((3, 16), imgAddrBad l 16), ((3, 20), imgAddrBad l 20),
     ((3, 24), decide (c % 32 ≠ 0 ∨ c < 32 ∨ 131072 < c)), ((3, 28), decide (n % 8 ≠ 0 ∨ 131072 < n)),
     ((3, 32), decide (hb % 16 ≠ 0)), ((3, 36), decide (hl % 16 ≠ 0 ∨ 4096 < hl ∨ 131072 < hb + hl)),
     ((4, 40), (List.range 32).any fun k => (imgField l 40 4).testBit k && !feat0.testBit k),
     ((5, 5), decide (4 ≤ imgField l 5 1)), ((5, 38), decide (imgField l 38 2 ≠ 0)),
     ((5, 44), decide (imgField l 44 16 ≠ 0)),
     ((6, 60), decide (crc32 (l.take 60 ++ l.drop 64) ≠ imgField l 60 4)),
     ((7, 6), decide (imgField l 6 2 = 0) || (match gen with | some g => decide (imgField l 6 2 ≠ g) | none => false))]
  (checks.find? (·.2)).map (·.1)

/-- Writes an image that passed its checks into an engine: code, initial data, zeros in the rest of DMEM, and the header's
values (R344, R348). -/
def Dev.installImage (d : Dev) (n : Nat) (l : List Byte) (flash : Bool) (addr : Nat) : Dev :=
  let c := imgField l 24 4
  let code := wordsOf ((l.drop 64).take c)
  let x := d.engine n
  let d := d.setEngine n { x with
    imem := sparseOf 0 code ++ x.imem.filter fun p => decide (c / 4 ≤ p.1)
    dmem := sparseOf 0 ((l.drop (64 + c)).take (imgField l 28 4))
    htvec := BitVec.ofNat 32 (imgField l 16 4), hivec := BitVec.ofNat 32 (imgField l 20 4)
    hoBase := imgField l 32 4, hoLen := imgField l 36 2, fromFlash := flash, imgAddr := addr }
  let d := (d.setFld (R.ENG_ENTRY_ADDR n) (imgField l 8 4 / 4)).setFld (R.ENG_WENTRY_ADDR n) (imgField l 12 4 / 4)
  let f := imgField l 5 1
  let d := (d.setFld (R.ENG_CTRL_RSTK_TRAP n) (f % 2)).setFld (R.ENG_CTRL_WAKE_START n) (f / 2 % 2)
  let d := if flash then d else (d.setAutoload n none).setFlag (R.ENG_CTRL_AUTOLOAD n) false
  let d := if (d.autoload n).isSome then d.setAutoload n (some addr) else d
  ((d.setFld (R.ENG_GEN_GEN n) (imgField l 6 2)).setFlag (R.ENG_STAT_IMG_VALID n) true).engEvent n (R.ENG_EVT_LOADED n)

/-- An engine begins a load: LOADING, no valid image; a descriptor whose shadow it replaces completes GENERATION_STALE (R348). -/
def Dev.beginLoad (d : Dev) (n : Nat) (ld : ImgLoad) : Dev :=
  let x := d.engine n
  let d := if d.engSt n = 4 then
      match x.load with
      | some o => match o.ref with
        | some r => d.complete r St.generationStale ld.gen 0x0A
        | none => d
      | none => d
    else d
  ((d.setEngine n { d.engine n with load := some ld }).setEngSt n 3).setFlag (R.ENG_STAT_IMG_VALID n) false

/-- An automatic load of an engine from the flash active area (R353, 19 R527). -/
def Dev.autoLoadEng (d : Dev) (n addr : Nat) (start : Bool) : Dev :=
  d.beginLoad n { ref := none, mode := start.toNat, flash := true, cancelOld := false, addr := addr, old := 0, gen := 0, swapMt := 0 }

/-- A load fails: STOPPED without a valid image, LOAD_ERR recorded; the completion given (R347, R539). -/
def Dev.failLoad (d : Dev) (n : Nat) (ld : ImgLoad) (why : Option (Nat × Nat)) (status detail : Nat) : Dev :=
  let d := (d.setEngine n { d.engine n with load := none }).setEngSt n 0
  let d := match why with
    | some (r, o) =>
      ((d.setFld (R.ENG_LOAD_ERR_REASON n) r).setFld (R.ENG_LOAD_ERR_OFFSET n) o).engEvent n (R.ENG_EVT_LOAD_ERR n)
    | none => d
  match ld.ref with
  | some r => d.complete r status detail 0x0A
  | none => d

/-- A load that passed ends by its MODE (R348). -/
def Dev.finishLoad (d : Dev) (n : Nat) (ld : ImgLoad) (img : List Byte) : Dev :=
  let d := d.installImage n img ld.flash ld.addr
  if ld.mode = 2 then
    (d.setEngine n { d.engine n with load := some { ld with swapMt := max ld.swapMt d.now } }).setEngSt n 4
  else
    let d := d.setEngine n { d.engine n with load := none }
    let d := if ld.mode = 1 then d.startEng n (d.engEntry n false) (d.engine n).evb d.now else d.setEngSt n 0
    match ld.ref with
    | some r => d.complete r St.ok (if ld.mode = 1 then d.now % 2 ^ 32 else 0) 0x0A
    | none => d

/-- An image has been read whole: it is checked, and taken or refused (R344, R347, R348, 19 R539). -/
def Dev.endLoad (d : Dev) (nv : Nv) (n : Nat) (ld : ImgLoad) (img : List Byte) : Dev :=
  match imgFail img (ld.ref.map fun _ => ld.gen) with
  | some why => d.failLoad n ld (some why) St.badDescriptor (badAt 4)
  | none =>
    if !ld.flash && !d.codeOk nv 5 img then d.failLoad n ld none St.notPermitted 0x03
    else d.finishLoad n ld img

/-! ### Control registers -/

/-- STOP: at the first boundary that R325 permits, at once in WAITING; no effect in the other states (R343). -/
def Dev.stopCmd (d : Dev) (n : Nat) : Dev :=
  if d.engSt n = 2 ∨ (d.engSt n = 1 ∧ d.mayStop n = true) then d.stopEng n 0 1 0x0C
  else if d.engSt n = 1 then d.setEngine n { d.engine n with stopReq := true }
  else d

/-- START: only in STOPPED with a valid image (R342). -/
def Dev.startCmd (d : Dev) (n : Nat) : Dev :=
  if d.engSt n = 0 ∧ d.flag (R.ENG_STAT_IMG_VALID n) = true then d.startEng n (d.engEntry n false) (d.engine n).evb d.now else d

/-- A write to ENG_n_CTRL: the options, then START or STOP, of which the state admits one at most (R342, R343, R354). -/
def Dev.writeEngCtrl (d : Dev) (n : Nat) (v : Word) : Dev :=
  let d' := (d.setFlag (R.ENG_CTRL_RSTK_TRAP n) (v.getLsbD 8)).setFlag (R.ENG_CTRL_WAKE_START n) (v.getLsbD 9)
  let d' := if v.getLsbD 10 then
      (if (d.engine n).fromFlash then
        (d'.setAutoload n (some (d.engine n).imgAddr)).setFlag (R.ENG_CTRL_AUTOLOAD n) true
      else d')
    else (d'.setAutoload n none).setFlag (R.ENG_CTRL_AUTOLOAD n) false
  if v.getLsbD 0 && decide (d.engSt n = 0) then d'.startCmd n
  else if v.getLsbD 1 then d'.stopCmd n else d'

/-- A write to ENG_n_ENTRY or ENG_n_WENTRY: only in STOPPED. -/
def Dev.writeEngEntry (d : Dev) (n off : Nat) (v : Word) : Dev := if d.engSt n = 0 then d.setReg off (v &&& 0x1FFFC#32) else d

/-- A write to ENG_n_MBIN sets MBOX pending (R329). -/
def Dev.writeMbin (d : Dev) (n : Nat) (v : Word) : Dev :=
  (d.setReg (R.ENG_MBIN n) v).setEngine n { d.engine n with mbox := true }

/-- A write to ENG_n_DDATA: ignored in RETIRING (R352). -/
def Dev.writeDdata (d : Dev) (n : Nat) (v : Word) : Dev :=
  if d.engSt n = 5 then d
  else d.setEngine n ((d.engine n).putBytes (4 * d.fld (R.ENG_DADDR_ADDR n)) (leBytes 4 v.toNat))

/-- The engines of a cluster. -/
def clusterEngines (k : Nat) : List Nat := (List.range 8).map fun i => 8 * k + i

/-- A write to ENG_CLk_CTRL (R353); ON and OFF together have no effect. -/
def Dev.writeClCtrl (d : Dev) (k : Nat) (v : Word) : Dev :=
  if v.getLsbD 1 && !v.getLsbD 0 then
    if d.pwr.on.getLsbD (4 + k) || d.pwr.park != .run then d
    else
      let r : LeaveReq := { bank := none, amount := 0, mw := 1300, start := d.now, us := 1000, safety := false, req := 4, owner := k }
      match d.decideLeave r with
      | (none, d) => (if d.pwr.on.getLsbD 3 then d else d.switchOn 3).switchOn (4 + k)
      | (some _, d) => d.setFlag (R.ENG_CL_STAT_LEAVE_DENIED k) true
  else if v.getLsbD 0 && !v.getLsbD 1 then
    if d.pwr.on.getLsbD (4 + k) && (clusterEngines k).all fun n => d.engSt n == 0 then
      if d.domBusy (4 + k) then
        d.setFld R.PWR_DOM_PEND_PEND (d.fld R.PWR_DOM_PEND_PEND ||| 2 ^ (4 + k))
      else d.switchOff (4 + k)
    else d
  else d

/-- The engines of a cluster that has come on: stopped, and those under AUTOLOAD begin to load (R353). -/
def Dev.clusterGood (d : Dev) (k : Nat) : Dev :=
  d.forAll (clusterEngines k) fun n d =>
    match d.autoload n with
    | some a => (d.setFlag (R.ENG_CTRL_AUTOLOAD n) true).autoLoadEng n a false
    | none => d

/-! ### Commands -/

/-- ENG_START (R342): the written word of ENG_n_CTRL. -/
def execEngStart (e : Fin 16) (v : BitVec 32) (s : State) : Host.Outcome State Fault Refusal :=
  onDev s fun d => d.access (R.ENG_CTRL e) fun d => d.writeEngCtrl e v

/-- ENG_STOP (R343). -/
def execEngStop (e : Fin 16) (v : BitVec 32) (s : State) : Host.Outcome State Fault Refusal :=
  onDev s fun d => d.access (R.ENG_CTRL e) fun d => d.writeEngCtrl e v

/-- MBIN_WRITE (R329). -/
def execMbinWrite (e : Fin 16) (v : BitVec 32) (s : State) : Host.Outcome State Fault Refusal :=
  onDev s fun d => d.access (R.ENG_MBIN e) fun d => d.writeMbin e v

/-- The lowest field of an engine-image-load descriptor that fails (R346, R347). -/
def imgDescBad (w : BitVec 256) (now : Nat) : Option Nat :=
  let m := bitsOf w 12 2
  let e := byteOf w 12
  let o := byteOf w 13
  let t := descField w 16 8
  firstBad [(1, decide (m = 3)), (4, decide (descField w 4 8 % 8 ≠ 0)), (12, decide (16 ≤ e)),
            (13, if m = 2 then decide (16 ≤ o ∨ o = e) else decide (o ≠ 0)),
            (16, if m = 2 then decide (now + 2 ^ 44 < t) else decide (t ≠ 0))]

/-- An engine-image-load descriptor is checked, and the load begins (R346, R347). -/
def Dev.imageDesc (d : Dev) (a : AccDesc) : Dev :=
  let w := a.word
  let m := bitsOf w 12 2
  let e := byteOf w 12
  let o := byteOf w 13
  match imgDescBad w d.now with
  | some off => d.completeBad a.ref off 0x0A
  | none =>
    if !d.domOn (engDom e) || (decide (m = 2) && !d.domOn (engDom o)) then d.complete a.ref St.notPermitted 0x02 0x0A
    else if (d.engSt e ≠ 0 ∧ d.engSt e ≠ 4 ∧ d.engSt e ≠ 3) ∨ (m = 2 ∧ 2 < d.engSt o) then
      d.complete a.ref St.notPermitted 0x05 0x0A
    else if d.engSt e = 3 then d.complete a.ref St.busy 0 0x0A
    else
      d.beginLoad e { ref := some a.ref, mode := m, flash := w.getLsbD 14, cancelOld := w.getLsbD 15, addr := descField w 4 8,
                      old := o, gen := descField w 14 2, swapMt := descField w 16 8 }

/-- ENGINE_IMAGE_LOAD (R346, R347). -/
def execEngineImageLoad (s : State) : Host.Outcome State Fault Refusal :=
  onDev s fun d => d.withDesc (fun w => descType w == 0x60) fun a d => d.imageDesc a

/-- Whether another engine of the cluster, the target of a wake that waits for it, is to be loaded first (R353). -/
def Dev.wakeLoadsFirst (d : Dev) (n : Nat) : Bool :=
  d.sch.ents.any fun x => x.clu && d.roleHolder x.target != n && decide (d.roleHolder x.target / 8 = n / 8) &&
    decide (d.engSt (d.roleHolder x.target) = 3)

/-- The bytes of an image that a load reads: from flash, or from the host as the command gives them. -/
def loadBytes (nv : Nv) (ld : ImgLoad) (l : List Byte) : List Byte :=
  if ld.flash then flashBytes nv.active ld.addr (imgLength (flashBytes nv.active ld.addr 64)) else l

/-- IMAGE_LOAD_END (R344, R347, R348): the image as the host gives it (only its presence counts for a flash image), or a read that
failed; an image cut short is no end of the load. The module reads host memory only while the link may master (02 R84). -/
def execImageLoadEnd (e : Fin 16) (img : Option (List (BitVec 8))) (s : State) : Host.Outcome State Fault Refusal :=
  onDev s fun d =>
    match (d.engine e).load with
    | some ld =>
      if d.engSt e = 3 ∧ d.wakeLoadsFirst e = false ∧ (ld.flash || img.isNone || d.canMaster) = true then
        match img with
        | none => d.failLoad e ld (some (1, 0)) St.badDescriptor (badAt 4)
        | some l =>
          let b := loadBytes s.nv ld l
          if 64 ≤ b.length ∧ b.length = imgLength b then d.endLoad s.nv e ld b else d
      else d
    | none => d

/-- The swap of a live replacement (R349): old engine, new engine, its load. -/
def Dev.engSwap (d : Dev) (n : Nat) (ld : ImgLoad) : Dev :=
  let o := ld.old
  let ran := decide (d.engSt o = 1 ∨ d.engSt o = 2)
  let d := if ran then d.stopEng o 0 4 0x0C else d.setFld (R.ENG_STAT_STOP_WHY o) 4
  let d := if ld.cancelOld then d.flushEntries fun e => match e.src with | .eng k _ => k == o | _ => false else d
  let x := d.engine n
  let d := d.setEngine n { x.putBytes x.hoBase ((d.engine o).bytes x.hoBase x.hoLen) with load := none }
  let d := d.swapRoles n o
  let t := if d.now ≤ ld.swapMt + 1200 then ld.swapMt + 4000 else d.now + 2800
  let d := d.startEng n (d.engEntry n false) (d.engine n).evb t
  let d := (d.engEvent n (R.ENG_EVT_SWAPPED n)).engEvent o (R.ENG_EVT_SWAPPED o)
  let d := match ld.ref with
    | some r => d.complete r St.ok (t % 2 ^ 32) 0x0A
    | none => d
  (d.setEngSt o 5).drainNotices o

/-- ENGINE_SWAP (R349): the shadow engine e takes over, at or after SWAP_MT, once the old engine is at a boundary that R325
permits. -/
def execEngineSwap (e : Fin 16) (s : State) : Host.Outcome State Fault Refusal :=
  onDev s fun d =>
    match (d.engine e).load with
    | some ld =>
      if d.engSt e = 4 ∧ ld.swapMt ≤ d.now ∧ d.engSt ld.old ≤ 2 ∧ (d.engSt ld.old = 1 → d.mayStop ld.old = true) then d.engSwap e ld
      else d
    | none => d

/-- CLUSTER_ON (R353): the written word of ENG_CLk_CTRL. -/
def execClusterOn (k : Fin 2) (v : BitVec 32) (s : State) : Host.Outcome State Fault Refusal :=
  onDev s fun d => d.access (R.ENG_CL_CTRL k) fun d => d.writeClCtrl k v

/-- CLUSTER_OFF (R353). -/
def execClusterOff (k : Fin 2) (v : BitVec 32) (s : State) : Host.Outcome State Fault Refusal :=
  onDev s fun d => d.access (R.ENG_CL_CTRL k) fun d => d.writeClCtrl k v

end Sys2Proof.Machine
end

