-- ==== Sys2Proof/Machine/Loops.lean ====
section
/-! DEFINITION. The loop array of 10: feedback, the compensator, presets, faults, closing, opening, transfers, and the commands
of that chapter. -/

namespace Sys2Proof.Machine

/-! ### Arithmetic -/

/-- Clamps an integer to a range; an empty range gives its lower end. -/
def clampI (lo hi x : Int) : Int := max lo (min hi x)

/-- The nearest integer to a quotient with a positive denominator, ties upwards. -/
def roundDiv (num : Int) (den : Nat) : Int := (2 * num + den) / (2 * den)

/-- Moves a value towards another by at most a step. -/
def stepTo (st : Nat) (x y : Int) : Int := x + clampI (-(st : Int)) st (y - x)

/-! ### Law fields -/

/-- The sample period in ticks. -/
def Dev.sperTicks (d : Dev) (s : Nat) : Nat := 40 * d.fld (R.LOOP_S_PER_SPER s)

/-- PHASE + SPHASE of a slot in 10 ns units. -/
def Dev.loopPhase (d : Dev) (s : Nat) : Nat :=
  (if s < 128 then d.fld (R.CH_PWM_PHASE_PHASE s) else 0) + d.fld (R.LOOP_S_PHASE_SPHASE s)

/-- The latest sample instant at or before now (10 R291). -/
def Dev.lastSample (d : Dev) (s : Nat) : Option Nat :=
  let per := d.fld (R.LOOP_S_PER_SPER s)
  let t := d.now / 40
  let ph := d.loopPhase s % max 1 per
  if per = 0 ∨ t < ph then none else some (40 * (t - (t - ph) % per))

/-- The compute position of a slot (10 R293). -/
def Dev.loopPos (d : Dev) (s : Nat) : Nat := d.loopPhase s % 1000 / 25

/-- The slots that occupy a compute position: those in CLOSED, SUSPENDED, HOLD or SAFE (10 R293). -/
def Dev.posOcc (d : Dev) (p : Nat) : Nat :=
  ((List.range 160).filter fun s => decide (d.loopPos s = p ∧ (d.slot s).st ≠ 0)).length

/-- The other slots that occupy a slot's compute position or are about to: a CLOSE that waits for its sample will (10 R293;
DEDUCED, notes/assumptions/28.md). -/
def Dev.posTaken (d : Dev) (s : Nat) : Nat :=
  ((List.range 160).filter fun k => decide (k ≠ s ∧ d.loopPos k = d.loopPos s) &&
    (decide ((d.slot k).st ≠ 0) || (d.slot k).cmds.any fun c => match c with | .closing _ => true | _ => false)).length

/-- FORM of a law as it acts: 3 acts as 0. -/
def Dev.lawForm (d : Dev) (j : Nat) : Nat := d.fld (R.LOOP_L_CFG_FORM j) % 3

/-- U_MIN and U_MAX of slot s's law j as they act (10 R294). -/
def Dev.uLimits (d : Dev) (s j : Nat) : Int × Int :=
  let lo := d.regInt (R.LOOP_L_U_MIN j)
  let hi := d.regInt (R.LOOP_L_U_MAX j)
  if s < 128 then
    let m : Int := if d.mode s = 4 then -65535 else 0
    (clampI m 65535 lo, clampI m 65535 hi)
  else (lo, hi)

/-- The coefficients A1 to A3 and B0 to B3 of a law, unused terms 0 (10 R294). -/
def Dev.coeffs (d : Dev) (j : Nat) : (Int × Int × Int) × (Int × Int × Int × Int) :=
  let third := decide (d.lawForm j = 1)
  ((d.regInt (R.LOOP_L_A1 j), d.regInt (R.LOOP_L_A2 j), if third then d.regInt (R.LOOP_L_A3 j) else 0),
   (d.regInt (R.LOOP_L_B0 j), d.regInt (R.LOOP_L_B1 j), d.regInt (R.LOOP_L_B2 j), if third then d.regInt (R.LOOP_L_B3 j) else 0))

/-! ### Feedback (10 R290, R304) -/

/-- The pulse rate of a channel in 2⁻⁸ Hz at an MT (10 R290). -/
def Dev.pulseRate (d : Dev) (c t : Nat) : Nat :=
  let p := d.fld (R.CH_IN_PER_PER c)
  match (d.chan c).lastCnt with
  | some k => 25600000000 / max p ((t - k) / 40)
  | none => 0

/-- The channel condition of a feedback source (10 R290). -/
def Dev.fbCond (d : Dev) (src c : Nat) : Bool :=
  match src with
  | 0 => decide (d.mode c ≠ 0)
  | 1 => decide (d.mode c ≠ 0)
  | 2 => decide (d.mode c = 9)
  | 3 => decide (d.mode c = 6 ∨ d.mode c = 7 ∨ d.mode c = 10)
  | _ => true

/-- The feedback of law j of slot s at an MT, and whether it is LOST: from the sense stream (value, sense fault) or from the
registers of sources 3 and 4 (10 R290, R304). -/
def Dev.feedback (d : Dev) (s j t : Nat) (sense : BitVec 32 × Bool) : Int × Bool :=
  let src := d.fld (R.LOOP_L_CFG_FB_SRC j)
  let c := if s < 128 then s else d.fld (R.LOOP_L_CFG_FB_CH j)
  let v : Int := match src with
    | 3 => d.pulseRate c t
    | 4 => d.regInt (R.LOOP_S_FBIN s)
    | _ => sense.1.toInt
  let gone := match src with
    | 4 => decide (max 1 (d.fld (R.LOOP_S_HOLD_ENG_TO s)) < (d.slot s).fbAge)
    | _ => sense.2 || !d.fbCond src c || !d.flag (R.CH_DIE_STAT_LINK_UP (dieOf c))
  (v, gone || decide (v < d.regInt (R.LOOP_L_FB_MIN j)) || decide (d.regInt (R.LOOP_L_FB_MAX j) < v))

/-- The resolution of a feedback source, for the frozen-feedback test (10 R290, 07 R211). -/
def Dev.fbLsb (d : Dev) (s j : Nat) : Nat :=
  let c := if s < 128 then s else d.fld (R.LOOP_L_CFG_FB_CH j)
  match d.fld (R.LOOP_L_CFG_FB_SRC j) with
  | 0 => if c < 8 ∧ d.flag (R.CH_CFG_RANGE c) then 61 else if c < 32 then 1200 else 500
  | 1 => 2
  | _ => 1

/-- Whether the feedback is frozen over the last FRZ_N samples (10 R304). -/
def Dev.frozen (d : Dev) (s j : Nat) (hist : List (Int × Int)) : Bool :=
  let n := max 2 (d.fld (R.LOOP_S_HOLD_FRZ_N s))
  let w := hist.take n
  match w.reverse.head? with
  | some (base, u0) =>
    let hi := w.foldl (fun m p => max m p.2) u0
    let lo := w.foldl (fun m p => min m p.2) u0
    decide (n ≤ hist.length) && w.all (fun p => decide ((p.1 - base).natAbs ≤ d.fbLsb s j)) &&
      decide ((d.fld (R.LOOP_S_FRZ_DU_FRZ_DU s) : Int) ≤ hi - lo)
  | none => false

/-- Whether a feedback is beyond PL_LIM of its prediction (10 R307). -/
def Dev.residual (d : Dev) (s j : Nat) (prev up fb : Int) : Bool :=
  let c := if s < 128 then s else d.fld (R.LOOP_L_CFG_FB_CH j)
  let k : Int := if d.flag (R.LOOP_L_CFG_PL_VF j) then d.fld (R.CH_BANK_VF_VF (c / 16)) else 13500
  let m := d.regInt (R.LOOP_L_PL_P1 j) * prev * 13500 + d.regInt (R.LOOP_L_PL_P2 j) * up * k * 2 ^ 12 +
    d.regInt (R.LOOP_L_PL_P3 j) * 2 ^ 28 * 13500
  decide (d.fld (R.LOOP_L_PL_LIM_PL_LIM j) * 2 ^ 28 * 13500 < (fb * 2 ^ 28 * 13500 - m).natAbs)

/-! ### Set-points and destinations (10 R289, R292, R299) -/

/-- Sets a slot's set-point, clamped to SP_MIN to SP_MAX. -/
def Dev.setSp (d : Dev) (s j : Nat) (v : Int) : Dev :=
  let x := clampI (d.regInt (R.LOOP_L_SP_MIN j)) (d.regInt (R.LOOP_L_SP_MAX j)) v
  let d := d.setReg (R.LOOP_L_SP j) (BitVec.ofInt 32 x)
  if x = v then d else d.loopEvent (R.LOOP_S_STAT_SP_CLAMP s)

/-- An output that is due by an MT is written: it becomes the slot's output and the set-point of its destination (10 R292). -/
def Dev.flushSlot (d : Dev) (s t : Nat) : Dev :=
  let x := d.slot s
  match x.next with
  | some (v, o) =>
    if o ≤ t then
      let d := d.setSlot s { x with out := v, next := none }
      let dst := d.fld (R.LOOP_S_CFG_DST s)
      if d.loopFeeds s dst && decide (x.st ≠ 0) then d.setSp dst (d.spLaw dst) v else d
    else d
  | none => d

/-- The outputs of the slots that feed a slot are written when due. -/
def Dev.flushInto (d : Dev) (t at_ : Nat) : Dev :=
  d.forAll ((List.range 32).map (· + 128)) fun k d => if d.loopFeeds k t then d.flushSlot k at_ else d

/-! ### The compensator (10 R294, R295, R298) -/

/-- Presets law l of a slot, which starts at an output from a feedback (10 R298). -/
def Dev.preset (d : Dev) (s l : Nat) (u : Int) (fb : Int) : LoopSlot :=
  let x := d.slot s
  let j := lawIdx s l
  let c := d.coeffs j
  let sa := c.1.1 + c.1.2.1 + c.1.2.2
  let sb := c.2.2.1 + c.2.2.2.1 + c.2.2.2.2
  let lim : Int := d.fld (R.LOOP_L_E_LIM_E_LIM j)
  let num := u * (2 ^ 28 - sa) * 2 ^ d.fld (R.LOOP_L_CFG_B_SHIFT j)
  let e := if sb = 0 then 0
    else clampI (-lim) lim (roundDiv (if sb < 0 then -num else num) (2 ^ 28 * sb.natAbs))
  { x with st := 1, law := l, w := if d.lawForm j = 2 then u else fb, u1 := u, u2 := u, u3 := u, e1 := e, e2 := e, e3 := e,
           out := u, next := none, fresh := true, catching := false, hist := [], resid := 0, prev := false, failed := false,
           okSince := none }

/-- One sample of the running law: the slot with its new working values, and the law's output (10 R294, R295). -/
def Dev.lawStep (d : Dev) (s : Nat) (x : LoopSlot) (fb : Int) : LoopSlot × Int :=
  let j := lawIdx s x.law
  let sp := d.regInt (R.LOOP_L_SP j)
  let ramp := (d.reg (R.LOOP_L_RAMP j)).toNat
  let w := if x.fresh then x.w else if ramp = 0 then sp else stepTo ramp x.w sp
  let lim := d.uLimits s j
  if d.lawForm j = 2 then ({ x with w := w }, clampI lim.1 lim.2 w)
  else
    let c := d.coeffs j
    let el : Int := d.fld (R.LOOP_L_E_LIM_E_LIM j)
    let e := clampI (-el) el (w - fb)
    let sh := d.fld (R.LOOP_L_CFG_B_SHIFT j)
    let num := (c.1.1 * x.u1 + c.1.2.1 * x.u2 + c.1.2.2 * x.u3) * 2 ^ sh +
      (c.2.1 * e + c.2.2.1 * x.e1 + c.2.2.2.1 * x.e2 + c.2.2.2.2 * x.e3) * 2 ^ 28
    let u := clampI lim.1 lim.2 (roundDiv num (2 ^ (28 + sh)))
    ({ x with w := w, u1 := u, u2 := x.u1, u3 := x.u2, e1 := e, e2 := x.e1, e3 := x.e2 }, u)

/-- The slot's output for a law's output: the start value at a preset's first sample, then by XSLEW until the two are equal
(10 R298). -/
def Dev.catchUp (d : Dev) (s : Nat) (x : LoopSlot) (u : Int) : LoopSlot × Int :=
  if x.fresh then ({ x with fresh := false, catching := decide (u ≠ x.out) }, x.out)
  else if x.catching then
    let o := stepTo (max 1 (d.fld (R.LOOP_S_XSLEW_XSLEW s))) x.out u
    ({ x with catching := decide (o ≠ u) }, o)
  else (x, u)

/-! ### Detections and feedback faults (10 R296, R304, R305, R307) -/

/-- A stored word fails: SAFE at once (10 R296). -/
def Dev.loopWordFail (d : Dev) (s : Nat) : Dev :=
  let d := d.setSlot s { d.slot s with st := 4, why := 2, out := d.regInt (R.LOOP_S_SAFE s), next := some (d.regInt (R.LOOP_S_SAFE s), d.now), catching := false }
  ((d.count R.LOOP_INTEG_CNT).loopEvent (R.LOOP_S_STAT_INTEG s)).raiseFault Src.loopInteg 0

/-- The slot enters HOLD (10 R304). -/
def Dev.loopHold (d : Dev) (s t : Nat) (lost : Bool) : Dev :=
  let d := d.setSlot s { d.slot s with st := 3, holdAt := t, lost := lost, good := 0 }
  let d := (d.setFlag (R.LOOP_S_STAT_LOST s) lost).setFlag (R.LOOP_S_STAT_FROZEN s) (!lost)
  ((d.count R.LOOP_FB_CNT).loopEvent (R.LOOP_S_STAT_FB_FAULT s)).raiseFault Src.loopFb 0

/-- The plausibility test at a sample: the slot, and whether the residual persists (10 R307). -/
def Dev.plausible (d : Dev) (s j : Nat) (fb : Int) : Dev × Bool :=
  let x := d.slot s
  if d.fld (R.LOOP_L_PL_LIM_PL_LIM j) = 0 then (d, false)
  else
    let n := if x.prev && d.residual s j x.fb x.out fb then x.resid + 1 else 0
    if max 1 (d.fld (R.LOOP_L_CFG_PL_N j)) ≤ n then
      let d := d.setSlot s { x with resid := 0 }
      (((d.count R.LOOP_PLAUS_CNT).loopEvent (R.LOOP_S_STAT_PLAUS s)).raiseFault Src.loopPlaus 0, d.flag (R.LOOP_L_CFG_PL_ACT j))
    else (d.setSlot s { x with resid := n }, false)

/-- The compute step of a CLOSED slot with its detections; the output is written 8,000 ticks after the sample (10 R292, R296). -/
def Dev.loopCompute (d : Dev) (s t : Nat) (before : LoopSlot) (fb : Int) (det : LoopDet) : Dev :=
  let twice := decide (det = .failed)
  let once := twice || decide (det = .recomputed)
  let d := if once then (d.count R.LOOP_RECOMP_CNT).loopEvent (R.LOOP_S_STAT_RECOMP s) else d
  if twice then
    let d := (d.setSlot s { before with failed := true }).count R.LOOP_INTEG_CNT
    if before.failed then d.raiseFault Src.loopInteg 0 else d
  else
    let r := d.lawStep s { d.slot s with fb := fb, prev := true, failed := false } fb
    let o := d.catchUp s r.1 r.2
    d.setSlot s { o.1 with next := some (o.2, t + 8000) }

/-- The output a slot holds or is about to write. -/
def LoopSlot.lastOut (x : LoopSlot) : Int := match x.next with | some (v, _) => v | none => x.out

/-- The FROZEN test of a sample that has been computed: its feedback and its output join the history; a sample that failed twice
counts as not taken (10 R296, R304; DEDUCED, notes/assumptions/28.md). -/
def Dev.loopFreeze (d : Dev) (s t : Nat) (fb : Int) : Dev :=
  let x := d.slot s
  if x.failed then d
  else
    let hist := (fb, x.lastOut) :: x.hist.take 254
    let d := d.setSlot s { x with hist := hist }
    if d.frozen s (lawIdx s x.law) hist then d.loopHold s t false else d

/-- A CLOSED slot's sample: plausibility and LOST, the law, then FROZEN over the computed outputs; PASS reads no feedback and runs
no test (10 R295, R304, R307). -/
def Dev.loopClosed (d : Dev) (s t : Nat) (before : LoopSlot) (fb : Int × Bool) (det : LoopDet) : Dev :=
  let j := lawIdx s (d.slot s).law
  if d.lawForm j = 2 then d.loopCompute s t before (d.slot s).fb det
  else
    let p := d.plausible s j fb.1
    let d := p.1
    if fb.2 || p.2 then (d.setSlot s { d.slot s with fb := fb.1 }).loopHold s t true
    else (d.loopCompute s t before fb.1 det).loopFreeze s t fb.1

/-! ### Transfers and latched actions (10 R302, R306, R308, R309) -/

/-- The sense values of a law, by law number; a law without values is LOST. -/
def senseOf (fbs : List (BitVec 32 × Bool)) (l : Nat) : BitVec 32 × Bool := fbs.getD l (0, true)

/-- A mode or a transfer takes effect at a sample (10 R308). -/
def Dev.loopTransfer (d : Dev) (s t l : Nat) (fbs : List (BitVec 32 × Bool)) : Dev :=
  let x := d.slot s
  match x.st with
  | 0 => if s < 128 then d else d.setFld (R.LOOP_S_CFG_LAW s) l
  | 4 => if s < 128 then d else d.setFld (R.LOOP_S_CFG_LAW s) l
  | 3 => d.loopEvent (R.LOOP_S_STAT_LATCH_DROP s)
  | 1 =>
    if l = x.law then d
    else
      let j := lawIdx s l
      let fb := d.feedback s j t (senseOf fbs l)
      if !d.flag (R.LOOP_L_CFG_LAW_EN j) || (fb.2 && decide (d.lawForm j ≠ 2)) then d.loopEvent (R.LOOP_S_STAT_XFER_REJ s)
      else
        let d := d.setSlot s (d.preset s l x.out fb.1)
        (d.count R.LOOP_XFER_CNT).loopEvent (R.LOOP_S_STAT_XFER_DONE s)
  | _ => d

/-- A latched action takes effect at a sample (10 R299, R306, R308). -/
def Dev.loopAct (d : Dev) (s t : Nat) (fbs : List (BitVec 32 × Bool)) (a : LoopAct) : Dev :=
  match a with
  | .sp v _ => if (d.slot s).st = 3 then d.loopEvent (R.LOOP_S_STAT_LATCH_DROP s) else d.setSp s (d.spLaw s) v
  | .mode l _ => d.loopTransfer s t l fbs

/-- The slot opens (10 R302). -/
def Dev.openSlot (d : Dev) (s : Nat) : Dev :=
  d.setSlot s { d.slot s with st := 0, why := 0, next := none, catching := false, okSince := none }

/-- The output a closing slot starts from (10 R298). -/
def Dev.closeFrom (d : Dev) (s : Nat) : Int :=
  let dst := d.fld (R.LOOP_S_CFG_DST s)
  let k := d.fld (R.LOOP_S_CFG_DST_KIND s)
  if 128 ≤ s ∧ (k = 1 ∨ k = 2) then d.regInt (R.LOOP_L_SP (d.spLaw dst)) else d.regInt (R.LOOP_S_UMAN s)

/-- A waiting command takes effect at a sample (10 R297, R302, R308). -/
def Dev.loopCmd (d : Dev) (s t : Nat) (fbs : List (BitVec 32 × Bool)) (c : LoopCmd) : Dev :=
  match c with
  | .opening => d.openSlot s
  | .closing _ =>
    if (d.slot s).st = 0 then
      let l := if s < 128 then 0 else d.fld (R.LOOP_S_CFG_LAW s)
      let d := d.setSlot s (d.preset s l (d.closeFrom s) (d.feedback s (lawIdx s l) t (senseOf fbs l)).1)
      (d.setFlag (R.LOOP_S_STAT_LOST s) false).setFlag (R.LOOP_S_STAT_FROZEN s) false
    else d
  | .xfer l _ => d.loopTransfer s t l fbs

/-- When a command may act. -/
def LoopCmd.due : LoopCmd → Nat → Bool
  | .opening, _ => true
  | .closing f, t => decide (f ≤ t)
  | .xfer _ f, t => decide (f ≤ t)

/-- When a latched action may act. -/
def LoopAct.due : LoopAct → Nat → Bool
  | .sp _ f, t => decide (f ≤ t)
  | .mode _ f, t => decide (f ≤ t)

/-! ### One sample (10 R292) -/

/-- The sample of a slot in HOLD (10 R305). -/
def Dev.loopHeld (d : Dev) (s t : Nat) (fb : Int × Bool) (det : LoopDet) : Dev :=
  let x := d.slot s
  let n := if x.lost && !fb.2 then x.good + 1 else 0
  if 4 ≤ n ∧ t < x.holdAt + 40000 * d.fld (R.LOOP_S_HOLD_HOLD s) then
    let d := d.setSlot s (d.preset s x.law x.out fb.1)
    let d := (d.setFlag (R.LOOP_S_STAT_LOST s) false).loopEvent (R.LOOP_S_STAT_RESUMED s)
    d.loopClosed s t (d.slot s) fb det
  else d.setSlot s { x with good := n, fb := fb.1 }

/-- The MT at which a slot's HOLD ends: HOLD × 10 µs after the detection (10 R305). -/
def Dev.holdUntil (d : Dev) (s : Nat) : Nat := (d.slot s).holdAt + 40000 * d.fld (R.LOOP_S_HOLD_HOLD s)

/-- A HOLD ends in SAFE, its output written to its destination until then; at once at SAFE_U without a ramp (10 R305). -/
def Dev.holdEnd (d : Dev) (s : Nat) : Dev :=
  let t := d.holdUntil s
  let d := d.flushSlot s t
  let x := d.slot s
  d.setSlot s { x with st := 4, why := 1
                       next := if d.reg (R.LOOP_S_SRAMP s) = 0 then some (d.regInt (R.LOOP_S_SAFE s), t) else x.next }

/-- The sample of a slot in SAFE: towards SAFE_U by SAFE_RAMP (10 R305). -/
def Dev.loopSafe (d : Dev) (s t : Nat) : Dev :=
  let x := d.slot s
  let ramp := (d.reg (R.LOOP_S_SRAMP s)).toNat
  let goal := d.regInt (R.LOOP_S_SAFE s)
  d.setSlot s { x with next := some (if ramp = 0 then goal else stepTo ramp x.out goal, t + 8000) }

/-- A suspended slot re-closes at its first sample at least 8,000 ticks after its channel is ready (10 R303). -/
def Dev.loopReclose (d : Dev) (s t : Nat) (fbs : List (BitVec 32 × Bool)) : Dev :=
  let x := d.slot s
  match x.okSince with
  | some k =>
    if x.st = 2 ∧ k + 8000 ≤ t then
      d.setSlot s (d.preset s x.law (d.regInt (R.LOOP_S_UMAN s)) (d.feedback s (lawIdx s x.law) t (senseOf fbs x.law)).1)
    else d
  | none => d

/-- One sample of a slot at its instant. -/
def Dev.loopSample (d : Dev) (s t : Nat) (fbs : List (BitVec 32 × Bool)) (det : LoopDet) : Dev :=
  let d := (d.flushSlot s t).flushInto s t
  let x := d.slot s
  let d := d.setSlot s { x with lastS := some t, fbAge := x.fbAge + 1, acts := x.acts.filter fun a => !a.due t
                                cmds := x.cmds.filter fun c => !c.due t }
  let d := (x.acts.filter fun a => a.due t).foldl (fun d a => d.loopAct s t fbs a) d
  let d := (x.cmds.filter fun c => c.due t).foldl (fun d c => d.loopCmd s t fbs c) d
  let d := d.loopReclose s t fbs
  let x := d.slot s
  let word := decide (det = .badWord) || d.injected 6 (some s)
  let step := if d.injected 5 (some s) then (if d.injectedTwice 5 (some s) then LoopDet.failed else .recomputed) else det
  let fb := d.feedback s (lawIdx s x.law) t (senseOf fbs x.law)
  if x.st ≠ 0 ∧ word then (d.injectDone 6 (some s)).loopWordFail s
  else
    match x.st with
    | 1 => (d.injectDone 5 (some s)).loopClosed s t x fb step
    | 3 => if d.holdUntil s ≤ t then ((d.holdEnd s).flushSlot s t).loopSafe s t else d.loopHeld s t fb step
    | 4 => d.loopSafe s t
    | _ => d

/-! ### Register writes (10 R289, R297, R301, R308) -/

/-- Whether a slot keeps the registers of R301. -/
def Dev.loopBusy (d : Dev) (s : Nat) : Bool := let k := (d.slot s).st; decide (1 ≤ k ∧ k ≤ 3)

/-- SPER and SPHASE of a slot keep R291. -/
def Dev.loopTimingOk (d : Dev) (s : Nat) : Bool :=
  let per := d.fld (R.LOOP_S_PER_SPER s)
  let ph := d.fld (R.LOOP_S_PHASE_SPHASE s)
  decide (per % 1000 = 0 ∧ per ≤ 1000000) &&
  (if s < 128 then
    let pwm := max 1000 (min 1000000 (d.fld (R.CH_PWM_PERIOD_PERIOD s)))
    decide (per % pwm = 0) && decide ((if s < 8 then 1000 else 2000) ≤ per) && decide (ph < pwm)
  else decide (10000 ≤ per) && decide (ph < per))

/-- Whether an inner slot's channel meets R288. -/
def Dev.loopChanOk (d : Dev) (s : Nat) : Bool :=
  d.domOn (chDom s) && decide (d.owner s = 1) && isOutput (d.mode s) && (decide (d.mode s ≠ 4) || decide (s % 2 = 0))

/-- Whether an outer slot's destination keeps R289 and no other outer slot writes it. -/
def Dev.loopDstOk (d : Dev) (s : Nat) : Bool :=
  let dst := d.fld (R.LOOP_S_CFG_DST s)
  let k := d.fld (R.LOOP_S_CFG_DST_KIND s)
  if k = 1 ∨ k = 2 then
    (if k = 1 then decide (dst < 128) else decide (128 ≤ dst ∧ dst < 160 ∧ s < dst)) &&
      !((List.range 32).any fun i => decide (128 + i ≠ s) && d.loopFeeds (128 + i) dst)
  else true

/-- Why a CLOSE is refused, 0 when it is not (10 R297). -/
def Dev.closeRefusal (d : Dev) (s : Nat) : Nat :=
  let j := lawIdx s (d.fld (R.LOOP_S_CFG_LAW s))
  if (d.slot s).st ≠ 0 then 6
  else if !d.flag (R.LOOP_L_CFG_LAW_EN j) || decide (5 ≤ d.fld (R.LOOP_L_CFG_FB_SRC j)) ||
      decide (d.regInt (R.LOOP_L_SP_MAX j) < d.regInt (R.LOOP_L_SP_MIN j)) ||
      decide (d.regInt (R.LOOP_L_U_MAX j) < d.regInt (R.LOOP_L_U_MIN j)) then 1
  else if !d.loopTimingOk s then 2
  else if decide (s < 128) && !d.loopChanOk s then 3
  else if 12 ≤ d.posTaken s then 4
  else if decide (128 ≤ s) && !d.loopDstOk s then 5
  else 0

/-- A CLOSE is accepted for 8,000 ticks ahead, or refused (10 R297). -/
def Dev.requestClose (d : Dev) (s : Nat) : Dev :=
  let r := d.closeRefusal s
  if r = 0 then d.setSlot s { d.slot s with cmds := (d.slot s).cmds ++ [.closing (d.now + 8000)] }
  else (d.setFld (R.LOOP_S_STAT_REJ_WHY s) r).loopEvent (R.LOOP_S_STAT_CLOSE_REJ s)

/-- A write to LOOP_Ss_CMD (10 R297, R302, R308). -/
def Dev.writeLoopCmd (d : Dev) (s : Nat) (v : Word) : Dev :=
  let d := if v.getLsbD 0 then d.requestClose s else d
  let d := if v.getLsbD 1 then d.setSlot s { d.slot s with cmds := (d.slot s).cmds ++ [.opening] } else d
  if v.getLsbD 2 && decide (128 ≤ s) then
    d.setSlot s { d.slot s with cmds := (d.slot s).cmds ++ [.xfer (bitsOf v 4 2) (d.now + 8000)] }
  else d

/-- A write to LOOP_CTRL (10 R302). -/
def Dev.writeLoopCtrl (d : Dev) (v : Word) : Dev :=
  if v.getLsbD 0 then d.forAll (List.range 160) fun s d => d.setSlot s { d.slot s with cmds := (d.slot s).cmds ++ [.opening] }
  else d

/-- A write to word w of a slot's block: R301; the words an inner slot lacks stay (10 R301, register fields). -/
def Dev.writeLoopSlot (d : Dev) (s w : Nat) (v : Word) : Dev :=
  let off := R.LOOP_S_CFG s + 4 * w
  match w with
  | 3 => d.setReg off v
  | 9 => if s < 128 then d else (d.setReg off v).setSlot s { d.slot s with fbAge := 0 }
  | 10 => d.writeLoopCmd s v
  | 11 => d.writeByCode off v
  | _ =>
    if 8 < w then d
    else if d.loopBusy s then d.loopEvent (R.LOOP_S_STAT_BAD_WR s)
    else if w = 0 ∧ s < 128 then d.writeByCode off (v &&& 0xFF00#32)
    else d.writeByCode off v

/-- A write to word w of a law block (10 R289, R299, R301). -/
def Dev.writeLoopLaw (d : Dev) (j w : Nat) (v : Word) : Dev :=
  let s := slotOfLaw j
  let off := R.LOOP_L_CFG j + 4 * w
  if w = 8 then
    if d.loopLocked s then d.loopEvent (R.LOOP_S_STAT_BAD_WR s) else d.setSp s j v.toInt
  else if decide (w ≠ 11) && d.loopBusy s then d.loopEvent (R.LOOP_S_STAT_BAD_WR s)
  else if w = 0 ∧ j < 128 then d.writeByCode off ((v &&& 0x3F1F0003#32) ||| BitVec.ofNat 32 (4 + 256 * j))
  else d.writeByCode off v

/-! ### Scheduled actions (10 R299, R300, R309) -/

/-- The target check of a LOOP_SP (10 R300). -/
def Dev.loopSpOk (d : Dev) (s : Nat) : Bool := !d.loopLocked s

/-- The target check of a LOOP_MODE (10 R300). -/
def Dev.loopModeOk (d : Dev) (s arg : Nat) : Bool := decide (arg ≤ 3) && d.flag (R.LOOP_L_CFG_LAW_EN (lawIdx s (arg % 4)))

/-- A LOOP_SP or LOOP_MODE is latched at its placed event; false when its slot can no longer take it (10 R300). -/
def Dev.loopLatch (d : Dev) (s : Nat) (a : LoopAct) (ok : Bool) : Dev × Bool :=
  if ok then (d.setSlot s { d.slot s with acts := (d.slot s).acts ++ [a] }, true)
  else (d.loopEvent (R.LOOP_S_STAT_LATCH_DROP s), false)

/-! ### Commands -/

/-- LOOP_SAMPLE (10 R291 to R309): the sample at the latest sample instant that the slot has not taken, with the sense values of
each law (value, sense fault). -/
def execLoopSample (n : Fin 160) (fbs : List (BitVec 32 × Bool)) (det : LoopDet) (s : State) :
    Host.Outcome State Fault Refusal :=
  onDev s fun d =>
    if d.domOn 6 && d.mt.loaded then
      match d.lastSample n with
      | some t =>
        let new := match (d.slot n).lastS with
          | some k => decide (k < t)
          | none => true
        if new then d.loopSample n t fbs det else d
      | none => d
    else d

/-- CLOSE (10 R297): the written word of LOOP_Ss_CMD. -/
def execLoopClose (n : Fin 160) (v : BitVec 32) (s : State) : Host.Outcome State Fault Refusal :=
  onDev s fun d => d.access (R.LOOP_S_CMD n) fun d => d.writeLoopCmd n v

/-- OPEN (10 R302): the written word of LOOP_Ss_CMD. -/
def execLoopOpen (n : Fin 160) (v : BitVec 32) (s : State) : Host.Outcome State Fault Refusal :=
  onDev s fun d => d.access (R.LOOP_S_CMD n) fun d => d.writeLoopCmd n v

/-- OPEN_ALL (10 R302): the written word of LOOP_CTRL. -/
def execOpenAll (v : BitVec 32) (s : State) : Host.Outcome State Fault Refusal :=
  onDev s fun d => d.access R.LOOP_CTRL fun d => d.writeLoopCtrl v

/-- XFER (10 R308): the written word of LOOP_Ss_CMD. -/
def execLoopXfer (n : Fin 160) (v : BitVec 32) (s : State) : Host.Outcome State Fault Refusal :=
  onDev s fun d => d.access (R.LOOP_S_CMD n) fun d => d.writeLoopCmd n v

/-- LOOP_HOLD_EXPIRY (10 R305): HOLD × 10 µs have passed since the detection. -/
def execLoopHoldExpiry (n : Fin 160) (s : State) : Host.Outcome State Fault Refusal :=
  onDev s fun d =>
    if (d.slot n).st = 3 ∧ d.holdUntil n ≤ d.now then d.holdEnd n else d

end Sys2Proof.Machine
end

