-- ==== Sys2Proof/Machine/Geometry.lean ====
section
/-! DEFINITION. The geometry of 06: body-frame offsets in the local frame, tiles and segments of the boundary map, the predicted path
of a lever point and its crossings. Angles enter the sine and the cosine in 2⁻⁶⁴ turn; lengths are in 1/1024 mm unless said
otherwise, and every quotient is rounded down. -/

namespace Sys2Proof.Machine

/-! ### Sine, cosine and azimuth

The spec names these functions and no rounding (DESIGN CHOICE, notes/assumptions/25.md): they are summed with 96 bits after the point
and rounded to nearest at the end. -/

/-- An angle in 2⁻⁶⁴ turn as rad in 2⁻⁹⁶, between minus and plus half a turn. -/
def radOf (a : Int) : Int := ((a + 2 ^ 63) % 2 ^ 64 - 2 ^ 63) * 497805226624462170461043889244 / 2 ^ 64

/-- The terms of the sine's power series from one on, k being the power of its angle: each follows from the one before by the square
of the angle. -/
def sineTerms (sq : Int) : Nat → Nat → Int → Int
  | 0, _, _ => 0
  | n + 1, k, t => t + sineTerms sq n (k + 2) (-(t * sq / 2 ^ 96) / ((k + 1) * (k + 2)))

/-- The sine of an angle in 2⁻⁶⁴ turn, in 2⁻⁶². -/
def sine (a : Int) : Int :=
  let x := radOf a
  (sineTerms (x * x / 2 ^ 96) 26 1 x + 2 ^ 33) / 2 ^ 34

/-- The cosine of an angle in 2⁻⁶⁴ turn, in 2⁻⁶². -/
def cosine (a : Int) : Int := sine (a + 2 ^ 62)

/-- The azimuth of a vector that does not point west, in 2⁻³³ turn, bit by bit from the highest: the greatest angle that the vector has
reached. -/
def azimuthBits (e n : Int) : Nat → Nat → Nat
  | 0, h => h
  | k + 1, h =>
    let g := h + 2 ^ k
    azimuthBits e n k (if 0 ≤ e * cosine (g * 2 ^ 31) - n * sine (g * 2 ^ 31) then g else h)

/-- The azimuth of a vector (east, north), clockwise from north, in 2⁻³² turn to nearest. -/
def azimuth (e n : Int) : Nat :=
  let h := if e < 0 ∨ (e = 0 ∧ n < 0) then 2 ^ 32 + azimuthBits (-e) (-n) 32 0 else azimuthBits e n 32 0
  (h + 1) / 2 % 2 ^ 32

/-! ### Offsets (06 R170) -/

/-- A product with a sine or a cosine, back in its own unit. -/
def unscale (x : Int) : Int := x / 2 ^ 62

/-- The angle of a heading. -/
def hdgAngle (hdg : Nat) : Int := hdg * 2 ^ 32

/-- A body-frame offset in mm, levelled: by pitch and roll when the pose unit holds them, else without z (06 R170). -/
def levelled (x : PoseEst) (att : Bool) (o : Int × Int × Int) : Int × Int × Int :=
  if att then Config.level x.pitch x.roll o else (1024 * o.1, 1024 * o.2.1, 0)

/-- A levelled offset turned by the heading: east, north, up (06 R170). -/
def turned (hdg : Nat) (o : Int × Int × Int) : Int × Int × Int :=
  let s := sine (hdgAngle hdg)
  let c := cosine (hdgAngle hdg)
  (unscale (o.1 * s - o.2.1 * c), unscale (o.1 * c + o.2.1 * s), o.2.2)

/-- A body-frame offset in mm, in the local frame (06 R170). -/
def bodyOffset (x : PoseEst) (att : Bool) (o : Int × Int × Int) : Int × Int × Int := turned x.hdg (levelled x att o)

/-! ### The map (06 R179) -/

/-- KEY of a map entry. -/
def mapKey (e : BitVec 128) : Nat := bitsOf e 0 24

/-- The key of the tile that holds a position, when the map reaches it. -/
def tileKey (e n : Int) : Option Nat :=
  let te := e / (8000 * 1024) + 2048
  let tn := n / (8000 * 1024) + 2048
  if 0 ≤ te ∧ te < 4096 ∧ 0 ≤ tn ∧ tn < 4096 then some (te.toNat + 4096 * tn.toNat) else none

/-- The segment of a map entry: its endpoints lie relative to the south-west corner of the entry's tile. -/
def segOf (e : BitVec 128) : BndSeg :=
  let te : Int := ((mapKey e % 4096 : Nat) - 2048) * 8000
  let tn : Int := ((mapKey e / 4096 : Nat) - 2048) * 8000
  { e0 := te + toInt 24 (bitsOf e 24 24), n0 := tn + toInt 24 (bitsOf e 48 24), e1 := te + toInt 24 (bitsOf e 72 24),
    n1 := tn + toInt 24 (bitsOf e 96 24), layer := bitsOf e 120 4, side := bitsOf e 124 1 }

/-- The cross product of the vector from one point to a second with that to a third: positive when the third lies to the left. -/
def turnOf (a b c : Int × Int) : Int := (b.1 - a.1) * (c.2 - a.2) - (b.2 - a.2) * (c.1 - a.1)

/-- The endpoints of a segment. -/
def BndSeg.p0 (g : BndSeg) : Int × Int := (1024 * g.e0, 1024 * g.n0)
def BndSeg.p1 (g : BndSeg) : Int × Int := (1024 * g.e1, 1024 * g.n1)

/-- Whether a point lies to the left of a segment, or on its line. -/
def BndSeg.left (g : BndSeg) (a : Int × Int) : Bool := decide (0 ≤ turnOf g.p0 g.p1 a)

/-- Whether a point lies on the inside of a segment's area. -/
def BndSeg.inside (g : BndSeg) (a : Int × Int) : Bool := g.left a == decide (g.side = 0)

/-- Whether a step from one point to another crosses a segment. -/
def BndSeg.crossed (g : BndSeg) (a b : Int × Int) : Bool :=
  (g.left a != g.left b) && decide (turnOf a b g.p0 * turnOf a b g.p1 ≤ 0)

/-! ### The predicted path (06 R188) -/

/-- Steps of 40 ticks in the horizon of 2.5 s. -/
def pathSteps : Nat := 250000000

/-- The step at which the machine stops, when it does inside the horizon. -/
def stopStep (v a : Int) : Option Nat := if v * a < 0 then some (-(v * 100000) / a).toNat else none

/-- The body path length after k steps, in 10⁻¹⁴ µm: v × t + a × t² ÷ 2, to where the machine stops. -/
def pathLen (x : PoseEst) (k : Nat) : Int :=
  let k : Int := match stopStep x.speed x.accel with
    | some m => min k m
    | none => k
  1000000 * x.speed * k + 5 * x.accel * k * k

/-- The heading change over a body path length, left positive: κ × s in 2⁻⁶⁴ turn, one turn being 2π rad. -/
def turnAngle (x : PoseEst) (s : Int) : Int := x.curv * s * 683565275576431 / 10 ^ 26

/-- The body origin after a path length, on the arc of curvature κ. -/
def bodyAt (x : PoseEst) (s : Int) : Int × Int :=
  let h := hdgAngle x.hdg
  if x.curv = 0 then
    (x.e + unscale (s * 1024 * sine h / 10 ^ 17), x.n + unscale (s * 1024 * cosine h / 10 ^ 17))
  else
    let g := h - turnAngle x s
    let arc := fun y : Int => unscale (y * 2 ^ 32 * 1024000 / x.curv)
    (x.e + arc (cosine g - cosine h), x.n + arc (sine h - sine g))

/-- A lever point after k steps: its offset turns with the body as a rigid part. -/
def pointAt (x : PoseEst) (q : Int × Int) (k : Nat) : Int × Int :=
  let s := pathLen x k
  let b := bodyAt x s
  let t := turnAngle x s
  (b.1 + unscale (q.1 * cosine t - q.2 * sine t), b.2 + unscale (q.1 * sine t + q.2 * cosine t))

/-- The first crossing of a path with a segment: the step at whose end it has come, and whether it enters the area. -/
def firstCross (path : Nat → Int × Int) (g : BndSeg) : Option (Nat × Bool) :=
  ((List.range pathSteps).find? fun k => g.crossed (path k) (path (k + 1))).map fun k => (k + 1, g.inside (path (k + 1)))

/-- Drops what has come before. -/
def onceEach {α : Type} [DecidableEq α] (l : List α) : List α :=
  l.foldl (fun r x => if r.contains x then r else r ++ [x]) []

/-- The tiles of a path, in order of distance. -/
def pathTiles (path : Nat → Int × Int) : List Nat :=
  onceEach ((List.range (pathSteps + 1)).filterMap fun k => tileKey (path k).1 (path k).2)

end Sys2Proof.Machine
end

