-- ==== Sys2Proof/Machine/Pose.lean ====
section
/-! DEFINITION. The pose unit of 06: its states, the inputs of the fusion, the track and its history, snapshots; and the commands of
that unit but for TRACK_POINT. -/

namespace Sys2Proof.Machine

/-! ### Pose states (06 R176) -/

/-- The pose STATE: 0 OFF, 1 ALIGNING, 2 NAV, 3 DEAD_RECKONING, 4 LOST. -/
def Dev.poseSt (d : Dev) : Nat := d.fld R.POSE_STAT_STATE

/-- FIX_TO in ticks. -/
def Dev.fixTo (d : Dev) : Nat := msTicks (max 1 (d.fld R.POSE_LIM_FIX_TO))

/-- Whether odometry input k is active (06 R173). -/
def Dev.odoActive (d : Dev) (k : Nat) : Bool :=
  d.flag (R.POSE_ODO_CFG_EN k) && decide (d.mode (d.fld (R.POSE_ODO_CFG_CH k)) = 10)

/-- Whether any odometry input is active. -/
def Dev.odoAny (d : Dev) : Bool := (List.range 4).any d.odoActive

/-- IMU_OK: a sample used within the last 20 ms (06 R174). -/
def Dev.imuOk (d : Dev) : Bool :=
  match d.pose.lastImu with
  | some t => decide (d.now < t + msTicks 20)
  | none => false

/-- Whether an odometry input or the IMU runs. -/
def Dev.drInputs (d : Dev) : Bool := d.imuOk || d.odoAny

/-- Whether a record was used within FIX_TO of an MT. -/
def Dev.fixFresh (d : Dev) (t : Nat) : Bool :=
  match d.pose.lastUse with
  | some u => decide (t < u + d.fixTo)
  | none => false

/-- The newest track point. -/
def Dev.lastPt (d : Dev) : Option PosePt := d.pose.hist.head?

/-- Writes part of the pose unit's own state. -/
def Dev.poseSet (d : Dev) (f : PoseState → PoseState) : Dev := { d with pose := f d.pose }

/-- Moves the pose unit to a state: STATE_CHG on a move, POSE_LOST on entry into LOST. -/
def Dev.setPoseSt (d : Dev) (k : Nat) : Dev :=
  if d.poseSt = k then d
  else
    let d := (d.setFld R.POSE_STAT_STATE k).poseEvent R.POSE_EVT_STATE_CHG
    let d := if k = 3 then d.poseSet fun x => { x with drEntry := d.now } else d
    if k = 4 then d.raiseFault Src.poseLost 0 else d

/-- The pose unit is LOST, by DR_LIMIT or for want of inputs (06 R176). -/
def Dev.poseLost (d : Dev) (limit : Bool) : Dev := (d.poseSet fun x => { x with drOver := limit }).setPoseSt 4

/-- The move that the conditions of R176 call for, but for the two time-outs. LOST for want of inputs becomes DEAD_RECKONING when
one runs again; LOST by DR_LIMIT lasts till a record is used. -/
def Dev.poseMove (d : Dev) (t : Nat) : Dev :=
  let st := d.poseSt
  if (st = 1 ∨ st = 3 ∨ st = 4) ∧ (d.pose.hdgAt.isSome && d.fixFresh t && d.pose.posAt.isSome) = true then d.setPoseSt 2
  else if st = 3 ∧ d.drInputs = false then d.poseLost false
  else if st = 4 ∧ d.pose.drOver = false ∧ d.drInputs = true then d.setPoseSt 3
  else d

/-! ### Boundary entries of an origin generation (06 R178) -/

/-- The boundary unit predicts nothing: its uncommitted entries are withdrawn, and it knows no crossing but those committed. -/
def Dev.withdrawAll (d : Dev) : Dev :=
  let d := d.withdraw fun _ => true
  { d with bnd := { d.bnd with cross := d.bnd.cross.filter fun x => x.ins.isSome } }

/-- Whether the active map was built for another origin generation (06 R178). -/
def Dev.orgMismatch (d : Dev) : Bool :=
  match d.bnd.act with
  | some m => decide (m.org ≠ d.fld R.POSE_STAT_ORG_GEN)
  | none => false

/-- ORG_MISMATCH, when it holds: set, and every uncommitted entry withdrawn (06 R178). -/
def Dev.checkOrg (d : Dev) : Dev := if d.orgMismatch then (d.bndEvent R.BND_EVT_ORG_MISMATCH).withdrawAll else d

/-! ### The fusion (06 R171 to R175) -/

/-- The estimate of which nothing is known. -/
def PoseEst.zero : PoseEst where
  e := 0
  n := 0
  u := 0
  hdg := 0
  pitch := 0
  roll := 0
  speed := 0
  curv := 0
  accel := 0
  sdPos := 0
  sdHdg := 0
  slip := 0

/-- Whether an input is a fix or a heading update, which the track enters by its slews (06 R175). -/
def isUpdate (x : PoseIn) : Bool :=
  match x with
  | .fix .. => true
  | .heading .. => true
  | .odo .. => false
  | .imu .. => false

/-- The distance that the active odometry inputs of a SIDE have gone in some inputs (06 R172, R173). -/
def Dev.sideDist (d : Dev) (side : Nat) (ins : List (Nat × PoseIn)) : Int :=
  (ins.map fun x => match x.2 with
    | .odo k _ s => if d.odoActive k && decide (d.fld (R.POSE_ODO_CFG_SIDE k) = side) then s else 0
    | _ => 0).sum

/-- Whether an odometry input of a SIDE is active. -/
def Dev.sideOn (d : Dev) (side : Nat) : Bool :=
  (List.range 4).any fun k => d.odoActive k && decide (d.fld (R.POSE_ODO_CFG_SIDE k) = side)

/-- Where yaw rate comes from in a step (06 R172): 1 is left, 2 right. -/
def Dev.yawFrom (d : Dev) (ins : List (Nat × PoseIn)) : YawFrom :=
  let w := d.fld R.POSE_TRACK_W_WIDTH
  if d.imuOk then .imu
  else if d.flag R.POSE_CTRL_ODO_DIFF && decide (w ≠ 0) && d.sideOn 1 && d.sideOn 2 then
    .odo (d.sideDist 2 ins - d.sideDist 1 ins) w
  else .fixes

/-- The fused estimate at an MT from the point before, with those of the step's inputs that satisfy a test: an input acts from its
MT on. -/
def Dev.fuseAt (d : Dev) (prev : PosePt) (t : Nat) (f : PoseIn → Bool) : PoseEst :=
  let ins := d.pose.ins.filter fun x => decide (prev.mt ≤ x.1 ∧ x.1 < t) && f x.2
  Config.fuse prev.est { prev := prev.mt, mt := t, yaw := d.yawFrom ins, odo := d.odoAny, pos := d.pose.posAt.isSome,
                         hdg := d.pose.hdgAt.isSome, ins := ins }

/-- The history, newest first, with the estimates after an MT computed again (06 R171). -/
def Dev.rerunFrom (d : Dev) (t : Nat) : List PosePt → List PosePt
  | [] => []
  | p :: l =>
    if p.mt ≤ t then p :: l
    else
      match d.rerunFrom t l with
      | q :: l' => { p with est := d.fuseAt q p.mt fun _ => true } :: q :: l'
      | [] => [p]

/-- A difference of two headings in 2⁻³² turn, by the shorter way. -/
def hdgDiff (a b : Nat) : Int := toInt 32 (((a : Int) - b) % 2 ^ 32).toNat

/-- The sum of the squares of the correction still to come in position. -/
def PoseState.lagSq (x : PoseState) : Nat := (x.lagE * x.lagE + x.lagN * x.lagN + x.lagU * x.lagU).toNat

/-- The part of the correction that the track has yet to take grows by the change of the fused estimate, except where no position or
no heading was known before; beyond JUMP_MM the track is to jump (06 R175). -/
def Dev.addLag (d : Dev) (pos hdg : Bool) (was now : PoseEst) : Dev :=
  let x := d.pose
  let x := if pos then { x with lagE := x.lagE + (now.e - was.e) * 100000, lagN := x.lagN + (now.n - was.n) * 100000
                                lagU := x.lagU + (now.u - was.u) * 100000 } else { x with lagE := 0, lagN := 0, lagU := 0 }
  let x := { x with lagH := if hdg then x.lagH + hdgDiff now.hdg was.hdg * 10 ^ 10 else 0 }
  { d with pose := { x with jump := x.jump || decide ((d.fld R.POSE_LIM_JUMP_MM * 102400000) ^ 2 < x.lagSq) } }

/-- Whether a position, and a heading, were known before an MT. -/
def Dev.knownBefore (d : Dev) (t : Nat) : Bool × Bool :=
  let b := fun o : Option Nat => match o with
    | some m => decide (m < t)
    | none => false
  (b d.pose.posAt, b d.pose.hdgAt)

/-- The MT of the oldest track point of the history. -/
def Dev.histStart (d : Dev) : Option Nat := d.pose.hist.getLast?.map (·.mt)

/-- Whether an MT lies within the history. -/
def Dev.inHistory (d : Dev) (t : Nat) : Bool :=
  match d.histStart with
  | some a => decide (a ≤ t ∧ t ≤ d.now)
  | none => false

/-- The history is run again from an MT; what a fix or heading update changes at the newest point is left to the slews (06 R171,
R175). -/
def Dev.rerun (d : Dev) (t : Nat) (upd : Bool) : Dev :=
  let new := d.rerunFrom t d.pose.hist
  let k := d.knownBefore t
  let d' := match upd, d.pose.hist, new with
    | true, p :: _, q :: _ => d.addLag k.1 k.2 p.est q.est
    | _, _, _ => d
  d'.poseSet fun x => { x with hist := new }

/-- An input enters the fusion at its MT; inputs older than the history are forgotten. -/
def Dev.useInput (d : Dev) (t : Nat) (x : PoseIn) : Dev :=
  let a := match d.histStart with
    | some a => a
    | none => 0
  (d.poseSet fun y => { y with ins := (t, x) :: y.ins.filter fun z => decide (a ≤ z.1) }).rerun t (isUpdate x)

/-! ### Records (06 R171, R172, R178) -/

/-- A new origin generation sends the pose unit to ALIGNING; the old track is not translated (06 R178). -/
def Dev.frameChange (d : Dev) (org : Nat) : Dev :=
  if d.fld R.POSE_STAT_ORG_GEN = org then d
  else
    let d := d.setFld R.POSE_STAT_ORG_GEN org
    let d := if d.poseSt = 0 then d
      else
        (((d.poseSet fun x => { x with posAt := none, hdgAt := none, pitchOk := false, rollOk := false, hdg2 := false, lastUse := none
                                       lagE := 0, lagN := 0, lagU := 0, lagH := 0, jump := false, antA := none
                                       ins := x.ins.filter fun y => !isUpdate y.2 }).setFlag R.POSE_STAT_HDG_2ANT false).setPoseSt
          1).poseEvent R.POSE_EVT_FRAME_CHANGE
    d.checkOrg

/-- The lever arm of an antenna in mm. -/
def Dev.leverArm (d : Dev) (ant : Nat) : Int × Int × Int :=
  if ant = 0 then (d.fldInt R.POSE_ANTA_XY_X, d.fldInt R.POSE_ANTA_XY_Y, d.fldInt R.POSE_ANTA_Z_Z)
  else (d.fldInt R.POSE_ANTB_XY_X, d.fldInt R.POSE_ANTB_XY_Y, d.fldInt R.POSE_ANTB_Z_Z)

/-- The point of the history that holds at an MT. -/
def Dev.ptAt (d : Dev) (t : Nat) : Option PosePt := d.pose.hist.find? fun p => decide (p.mt ≤ t)

/-- Heading from the vector from antenna B to antenna A: its azimuth less that of the same vector in the body frame, which runs
clockwise from forward; roll, where the body-frame vector has a lateral part of 1 m (06 R172). -/
def Dev.headingOf (d : Dev) (v : Int × Int × Int) : PoseIn :=
  let a := d.leverArm 0
  let b := d.leverArm 1
  let o := (a.1 - b.1, a.2.1 - b.2.1, a.2.2 - b.2.2)
  let h := ((azimuth v.1 v.2.1 : Int) - azimuth (-o.2.1) o.1) % 2 ^ 32
  .heading h.toNat (if 1000 ≤ o.2.1.natAbs then some (Config.rollFrom v o) else none)

/-- A heading is known from an MT, by two antennas or by the direction of travel. -/
def Dev.gotHeading (d : Dev) (t : Nat) (two : Bool) : Dev :=
  (d.poseSet fun x => { x with hdgAt := (match x.hdgAt with | some m => some m | none => some t)
                               hdg2 := two, pitchOk := x.pitchOk || !two }).setFlag R.POSE_STAT_HDG_2ANT two

/-- Both records of an epoch with FIX_TYPE 4 give heading (06 R172). -/
def Dev.twoAntennas (d : Dev) (t ty : Nat) (e n u : Int) : Dev :=
  match d.pose.antA with
  | some a =>
    if a.mt = t ∧ a.ty = 4 ∧ ty = 4 then
      let x := d.headingOf (a.e - e, a.n - n, a.u - u)
      let d := (d.gotHeading t true).useInput t x
      match x with
      | .heading _ (some _) => d.poseSet fun y => { y with rollOk := true }
      | _ => d
    else d
  | none => d

/-- A GNSS record reaches the pose unit: antenna, whether it has a position, origin generation, MT_EPOCH, FIX_TYPE, east, north and up
in 1/8 mm and its solution. A usable one puts the body origin where the antenna's lever arm leads to, and gives heading by the
direction of travel from 1 m/s on when a position was known before (06 R171, R172, R178). -/
def Dev.poseRecord (d : Dev) (ant : Nat) (ok : Bool) (org t ty : Nat) (enu : Int × Int × Int) (f : FixSol) : Dev :=
  let d := d.frameChange org
  if d.poseSt = 0 ∨ ok = false then d
  else if d.inHistory t then
    match d.ptAt t with
    | some p =>
      let a := (128 * enu.1, 128 * enu.2.1, 128 * enu.2.2)
      let o := bodyOffset p.est p.att (d.leverArm ant)
      let motion := decide (1000000 ≤ p.est.speed.natAbs) && (d.knownBefore t).1
      let d := if motion then d.gotHeading t false else d
      let d := d.poseSet fun x => { x with posAt := (match x.posAt with | some m => some m | none => some t), lastUse := some d.now }
      let d := d.useInput t (.fix ant (a.1 - o.1) (a.2.1 - o.2.1) (a.2.2 - o.2.2) f.sdE.toNat f.sdN.toNat f.sdU.toNat f.rho.toInt
        motion)
      let d := if ant = 0 then d.poseSet fun x => { x with antA := some { mt := t, ty := ty, e := a.1, n := a.2.1, u := a.2.2 } }
        else d.twoAntennas t ty a.1 a.2.1 a.2.2
      (d.count R.POSE_FIX_CNT).poseMove d.now
    | none => d
  else if (match d.histStart with | some a => decide (t < a) | none => false) then
    (d.count R.POSE_FIX_OLD_CNT).poseEvent R.POSE_EVT_FIX_OLD
  else d

/-! ### Odometry (06 R173, 08 R250, R251) -/

/-- The filtered level that a channel reads at an MT: the one after its last accepted edge at or before it (08 R250). -/
def Dev.levelAt (d : Dev) (c t : Nat) : Bool :=
  match (d.chan c).edges.find? fun e => decide (e.1 ≤ t) with
  | some (_, l) => l
  | none =>
    match (d.chan c).edges.getLast? with
    | some (_, l) => !l
    | none => (d.chan c).raw != d.flag (R.CH_IN_CFG_INV c)

/-- Adds to an odometry input's distance, in 2⁻¹⁶ mm. -/
def Dev.addOdo (d : Dev) (k : Nat) (x : Int) : Dev :=
  d.poseSet fun y => { y with odo := sparsePut (fun _ => 0) y.odo k (sparseGet (fun _ => 0) y.odo k + x) }

/-- The signed distance of one edge of an odometry input. -/
def Dev.odoStep (d : Dev) (k : Nat) (fwd : Bool) : Int :=
  let s : Int := (d.reg (R.POSE_ODO_SCALE k)).toNat
  if fwd then s else -s

/-- A counted edge of a channel advances every odometry input that names it, unless its stamp has left the history (06 R173,
08 R247, R250, R251). -/
def Dev.odoEdge (d : Dev) (c t : Nat) : Dev :=
  if d.inHistory t then
    d.forAll ((List.range 4).filter fun k => d.odoActive k && decide (d.fld (R.POSE_ODO_CFG_CH k) = c)) fun k d =>
      let fwd := if d.flag (R.POSE_ODO_CFG_DIR_EN k) then d.levelAt (d.fld (R.POSE_ODO_CFG_DIR_CH k)) t else true
      ((d.addOdo k (d.odoStep k fwd)).count R.POSE_ODO_EDGE_CNT).useInput t (.odo k fwd (d.odoStep k fwd))
  else d

/-- A direction edge of a channel, stamped within the history at or before odometry edges already used, decides those edges
(08 R250, R251). -/
def Dev.turnOdo (d : Dev) (c t : Nat) (level : Bool) : Dev :=
  if d.inHistory t then
    let hit := fun x : Nat × PoseIn => match x.2 with
      | .odo k fwd _ => d.flag (R.POSE_ODO_CFG_DIR_EN k) && decide (d.fld (R.POSE_ODO_CFG_DIR_CH k) = c) && decide (t ≤ x.1) &&
          (fwd != level) && (d.levelAt c x.1 == level)
      | _ => false
    let d' := (d.pose.ins.filter hit).foldl (fun d x => match x.2 with
      | .odo k _ _ => d.addOdo k (2 * d.odoStep k level)
      | _ => d) d
    (d'.poseSet fun y => { y with ins := y.ins.map fun x => if hit x then
      (match x.2 with
       | .odo k _ s => (x.1, .odo k level (-s))
       | z => (x.1, z)) else x }).rerun t false
  else d

/-! ### The IMU (06 R174) -/

/-- A SUBMIT of an IMU sample: used while IMU_EN is 1 and its MT lies within the history, else discarded with IMU_OLD. -/
def Dev.imuSubmit (d : Dev) (v : Word) : Dev :=
  if v.getLsbD 0 then
    let t := d.reg64 R.POSE_IMU_MT_LO R.POSE_IMU_MT_HI
    if d.flag R.POSE_CTRL_IMU_EN && d.inHistory t then
      ((((d.poseSet fun x => { x with lastImu := some d.now }).useInput t
        (.imu (d.reg R.POSE_IMU_W0) (d.reg R.POSE_IMU_W1) (d.reg R.POSE_IMU_W2))).count R.POSE_IMU_CNT)).poseMove d.now
    else d.poseEvent R.POSE_EVT_IMU_OLD
  else d

/-- A write to POSE_CTRL: EN moves the unit between OFF and ALIGNING (06 R176). -/
def Dev.writePoseCtrl (d : Dev) (v : Word) : Dev :=
  let was := d.flag R.POSE_CTRL_EN
  let d := d.writeByCode R.POSE_CTRL v
  let is := d.flag R.POSE_CTRL_EN
  if is && !was then
    (({ d with pose := { PoseState.init with enAt := d.now, seq := d.pose.seq, lastImu := d.pose.lastImu, odo := d.pose.odo } }).setFlag
      R.POSE_STAT_HDG_2ANT false).setPoseSt 1
  else if was && !is then (d.setPoseSt 0).withdrawAll
  else d

/-! ### Snapshots (06 R177) -/

/-- The 64 bytes of a track point as 16 words. -/
def ptWords (p : PosePt) : List Word :=
  let lo := fun x : Int => BitVec.ofInt 32 x
  let hi := fun x : Int => BitVec.ofInt 32 (x / 2 ^ 32)
  let two := fun a b : Int => BitVec.ofNat 32 (ofInt 16 a + 65536 * ofInt 16 b)
  let sat := fun a : Nat => min a 65535
  let x := p.trk
  [BitVec.ofNat 32 p.mt, BitVec.ofNat 32 (p.mt / 2 ^ 32), lo x.e, hi x.e, lo x.n, hi x.n, lo x.u, hi x.u, BitVec.ofNat 32 x.hdg,
   two x.pitch x.roll, lo x.speed, lo x.curv, two x.accel (sat x.sdPos), two (sat x.sdHdg) x.slip,
   BitVec.ofNat 32 (p.state + 8 * p.hdg2.toNat + 16 * p.imu.toNat + 256 * p.org + 65536 * (p.seq % 65536)), 0]

/-- A CAPTURE copies the newest track point into a snapshot set. -/
def Dev.poseCapture (d : Dev) (n : Nat) (v : Word) : Dev :=
  if v.getLsbD 0 then
    match d.lastPt with
    | some p => d.forAll (List.range 16) fun w d => d.setReg (R.POSE_SNAP_W n w) ((ptWords p).getD w 0)
    | none => d
  else d

/-! ### Track points (06 R169, R175, R176) -/

/-- The whole square root. -/
def isqrt (n : Nat) : Nat :=
  (List.range 160).foldl (fun r i => if (r + 2 ^ (159 - i)) ^ 2 ≤ n then r + 2 ^ (159 - i) else r) 0

/-- A number moved towards 0 by a step. -/
def towards0 (x : Int) (step : Nat) : Int := if x.natAbs ≤ step then 0 else x - x.sign * step

/-- One track point's share of the correction enters the track: CORR_SLEW mm/s in position, HDG_SLEW × 0.01 mrad/s in heading, for
10 µs; the unit moves at these rates (06 R175; DEDUCED, notes/assumptions/29.md). -/
def Dev.slewTrack (d : Dev) : Dev :=
  let s : Nat := 1024 * max 1 (d.fld R.POSE_CTRL_CORR_SLEW)
  let x := d.pose
  let m := isqrt x.lagSq
  let part := fun a : Int => if m ≤ s then 0 else a - Int.tdiv (a * s) (m + 1)
  { d with pose := { x with lagE := part x.lagE, lagN := part x.lagN, lagU := part x.lagU
                            lagH := towards0 x.lagH (683565275 * max 1 (d.fld R.POSE_CTRL_HDG_SLEW)) } }

/-- A jump: the track takes the new position at this point (06 R175). -/
def Dev.jumpTrack (d : Dev) : Dev :=
  if d.pose.jump then
    let mm := isqrt d.pose.lagSq / 102400000
    let d := d.poseSet fun x => { x with lagE := 0, lagN := 0, lagU := 0, jump := false }
    (d.setFld R.POSE_JUMP_LAST_MM (min mm 65535)).poseEvent R.POSE_EVT_JUMP
  else d.slewTrack

/-- The track: the fused estimate less the correction still to come. -/
def PoseState.track (x : PoseState) (y : PoseEst) : PoseEst :=
  { y with e := y.e - x.lagE / 100000, n := y.n - x.lagN / 100000, u := y.u - x.lagU / 100000
           hdg := (((y.hdg : Int) - x.lagH / 10 ^ 10) % 2 ^ 32).toNat }

/-- The point that a track point is computed from: the newest one, or before the first point one of which nothing is known. -/
def Dev.fromPt (d : Dev) (t : Nat) : PosePt :=
  match d.lastPt with
  | some p => p
  | none => { mt := t - 40000, seq := 0, state := 1, org := d.fld R.POSE_STAT_ORG_GEN, est := PoseEst.zero, trk := PoseEst.zero
              att := false, hdg2 := false, imu := false, way := 0 }

/-- A track point enters the track: fused, slewed or jumped, kept in the history, the state moved (06 R169, R171, R175, R176). -/
def Dev.addPoint (d : Dev) (t : Nat) : Dev :=
  let q := d.fromPt t
  let est := d.fuseAt q t fun _ => true
  let k := d.knownBefore q.mt
  let d := (if d.pose.ins.any fun x => decide (q.mt ≤ x.1 ∧ x.1 < t) && isUpdate x.2 then
      d.addLag k.1 k.2 (d.fuseAt q t fun x => !isUpdate x) est else d).jumpTrack
  let d := (d.poseSet fun x => { x with seq := x.seq + 1 }).poseMove t
  let trk := d.pose.track est
  let p : PosePt := { mt := t, seq := d.pose.seq, state := d.poseSt, org := d.fld R.POSE_STAT_ORG_GEN, est := est, trk := trk
                      att := d.pose.pitchOk && d.pose.rollOk, hdg2 := d.pose.hdg2, imu := d.imuOk
                      way := q.way + trk.speed.natAbs * ((t - q.mt) / 40000) }
  d.poseSet fun x => { x with hist := (p :: x.hist).take 1024 }

/-- The MT of the track point due: the last multiple of 40,000, when it is not before EN rose and no track point holds it yet. -/
def Dev.pointDue (d : Dev) : Option Nat :=
  let t := d.now / 40000 * 40000
  match d.lastPt with
  | some p => if p.mt < t then some t else none
  | none => if d.pose.enAt ≤ t then some t else none

/-! ### Commands -/

/-- FIX_TO_EXPIRY (06 R176). -/
def execFixToExpiry (s : State) : Host.Outcome State Fault Refusal :=
  onDev s fun d =>
    if d.poseSt = 2 ∧ d.fixFresh d.now = false then (if d.drInputs then d.setPoseSt 3 else d.poseLost false) else d

/-- DR_LIMIT_EXPIRY (06 R176). -/
def execDrLimitExpiry (s : State) : Host.Outcome State Fault Refusal :=
  onDev s fun d =>
    if d.poseSt = 3 ∧ d.pose.drEntry + max 1 (d.fld R.POSE_DR_DR_LIMIT) * secTicks < d.now then d.poseLost true else d

/-- IMU_SUBMIT (06 R174). -/
def execImuSubmit (v : BitVec 32) (s : State) : Host.Outcome State Fault Refusal :=
  onDev s fun d => d.access R.POSE_IMU_CMD fun d => d.imuSubmit v

/-- POSE_CAPTURE (06 R177). -/
def execPoseCapture (n : Fin 4) (v : BitVec 32) (s : State) : Host.Outcome State Fault Refusal :=
  onDev s fun d => d.access (R.POSE_SNAP_CMD n) fun d => d.poseCapture n v

end Sys2Proof.Machine
end

