-- ==== Sys2Proof/Machine/Boundary.lean ====
section
/-! DEFINITION. The boundary unit of 06: the crossings it knows and their entries, degraded points, the boundary map and its loads,
lever points; TRACK_POINT, and the commands of that unit. -/

namespace Sys2Proof.Machine

/-- Writes part of the boundary unit's own state. -/
def Dev.bndSet (d : Dev) (f : BndState → BndState) : Dev := { d with bnd := f d.bnd }

/-! ### Entries (06 R189, R190, R197) -/

/-- Pending entries of a lever point: those in the schedule (06 R190, R197). -/
def Dev.lpPending (d : Dev) (p : Nat) : List Entry := d.sch.ents.filter fun e => e.src == .bnd p

/-- BND_LPp_NEXT: the low 32 bits of the earliest pending fire time, all ones when none. -/
def Dev.lpNext (d : Dev) (p : Nat) : Nat :=
  match (d.lpPending p).map (·.fire) with
  | [] => 0xFFFFFFFF
  | x :: l => l.foldl min x % 2 ^ 32

/-- A lever point's lead in ticks for a direction; larger values act as 2 s (06 R189, R196). -/
def Dev.lpLead (d : Dev) (p : Nat) (enter : Bool) : Nat :=
  40 * min 200000000 (if enter then d.fld (R.BND_LP_W5_LEAD_ENTER p) else d.fld (R.BND_LP_W6_LEAD_LEAVE p))

/-- The action of a crossing, from the template (06 R189). -/
def Dev.lpAction (d : Dev) (p c : Nat) (enter : Bool) : ActFields where
  fire := c - d.lpLead p enter
  action := d.fld (R.BND_LP_W2_ACTION p)
  prio := d.fld (R.BND_LP_W2_PRIO p)
  policy := d.fld (R.BND_LP_W2_POLICY p) % 3
  target := d.fld (R.BND_LP_W2_TARGET p)
  arg := if enter then d.reg (R.BND_LP_W3 p) else d.reg (R.BND_LP_W4 p)
  maxLate := d.fld (R.BND_LP_W7_MAX_LATE p)
  group := 0
  imm := false
  resFlags := false
  res13 := false

/-- Whether the machine is slower than V_MIN at the newest track point (06 R192). -/
def Dev.tooSlow (d : Dev) : Bool :=
  match d.lastPt with
  | some p => decide (p.trk.speed.natAbs < d.fld R.BND_CTRL_V_MIN * 10000)
  | none => true

/-! ### Crossings of a lever point (06 R187, R188) -/

/-- A lever point's offset in mm. -/
def Dev.lpOffset (d : Dev) (p : Nat) : Int × Int × Int :=
  (d.fldInt (R.BND_LP_W0_X p), d.fldInt (R.BND_LP_W0_Y p), d.fldInt (R.BND_LP_W1_Z p))

/-- A lever point's predicted path from a track point. -/
def Dev.lpPath (d : Dev) (x : PosePt) (p : Nat) : Nat → Int × Int :=
  let o := bodyOffset x.trk x.att (d.lpOffset p)
  pointAt x.trk (o.1, o.2.1)

/-- The segments of the active map that lever point p tests in some tiles, each once: those whose layer is in LAYERS. -/
def Dev.segsIn (d : Dev) (p : Nat) (tiles : List Nat) : List BndSeg :=
  match d.bnd.act with
  | some m =>
    onceEach (((m.ents.filter fun e => tiles.contains (mapKey e)).map segOf).filter fun g =>
      (d.fld (R.BND_LP_W1_LAYERS p)).testBit g.layer)
  | none => []

/-- The crossings that the tests of some segments find on a path (06 R188). -/
def found (x : PosePt) (p : Nat) (path : Nat → Int × Int) (segs : List BndSeg) : List BndCross :=
  segs.filterMap fun g => (firstCross path g).map fun k =>
    { p := p, seg := g, enter := k.2, c := x.mt + 40 * k.1, s := pathLen x.trk k.1
      tile := tileKey (path k.1).1 (path k.1).2, ins := none, skip := false }

/-- The crossings known for a lever point. -/
def Dev.known (d : Dev) (p : Nat) : List BndCross := d.bnd.cross.filter fun x => x.p == p

/-- Whether a crossing's entry is in the schedule. -/
def Dev.isPending (d : Dev) (x : BndCross) : Bool :=
  match x.ins with
  | some i => (d.entry i).isSome
  | none => false

/-- Whether a crossing's entry is in the schedule and may still be revised. -/
def Dev.isOpen (d : Dev) (x : BndCross) : Bool :=
  match x.ins with
  | some i => (match d.entry i with | some e => e.uncommitted | none => false)
  | none => false

/-- Crossings in time order. -/
def byTime (l : List BndCross) : List BndCross := l.mergeSort fun a b => decide (a.c ≤ b.c)

/-- The nearest pending crossing of a lever point. -/
def Dev.nearest (d : Dev) (p : Nat) : Option BndCross := (byTime ((d.known p).filter d.isPending)).head?

/-- What stands after an element in a list; its head when the element is absent or last. -/
def nextIn (l : List Nat) (k : Option Nat) : Option Nat :=
  match k with
  | some k => (match (l.dropWhile fun x => x != k).tail.head? with | some y => some y | none => l.head?)
  | none => l.head?

/-- The tile that a lever point tests at a track point: on even-numbered ones that of its nearest pending crossing, else the one it
is in; on odd-numbered ones the next along its path (06 R187). -/
def Dev.tileFor (d : Dev) (x : PosePt) (p : Nat) (path : Nat → Int × Int) : Option Nat :=
  if x.seq % 2 = 0 then
    match (d.nearest p).bind (·.tile) with
    | some k => some k
    | none => tileKey (path 0).1 (path 0).2
  else nextIn (pathTiles path) (sparseGet (fun _ => none) d.bnd.scan p)

/-! ### Entries of a crossing (06 R189 to R191) -/

/-- Replaces what is known of a lever point's crossings. -/
def Dev.setKnown (d : Dev) (p : Nat) (l : List BndCross) : Dev :=
  d.bndSet fun b => { b with cross := b.cross.filter (fun x => x.p != p) ++ l }

/-- A crossing's entry is withdrawn while it is uncommitted (06 R190). -/
def Dev.withdrawCross (d : Dev) (x : BndCross) : Dev := d.withdraw fun e => x.ins == some e.ins

/-- A crossing's entry is revised while it is uncommitted; a revision that comes after the commit is discarded and counted
(01 R27, 06 R190). -/
def Dev.revise (d : Dev) (x : BndCross) : Dev :=
  match x.ins.bind d.entry with
  | some e =>
    if e.uncommitted then (d.setEntry { e with fire := x.c - d.lpLead x.p x.enter }).count R.BND_REVISE_CNT
    else (d.count R.SCH_BND_DISCARD_CNT).schEvent R.SCH_EVT_BND_DISCARD
  | none => d

/-- A test of a known crossing: found again, with a new time; or no longer there, and its uncommitted entry withdrawn. A crossing
whose entry has left the schedule by its outcome stays known till it is past, so that no second entry is made for it. -/
def Dev.retest (d : Dev) (segs : List BndSeg) (fnd : List BndCross) (x : BndCross) : Dev × Option BndCross :=
  if !segs.contains x.seg then (d, some x)
  else
    match fnd.find? fun y => y.seg == x.seg && y.enter == x.enter with
    | some y =>
      let z := { x with c := y.c, s := y.s, tile := y.tile }
      (d.revise z, some z)
    | none => if x.ins.isSome && !d.isOpen x then (d, some x) else (d.withdrawCross x, none)

/-- Tests every known crossing of a lever point. -/
def Dev.retestAll (d : Dev) (segs : List BndSeg) (fnd : List BndCross) : List BndCross → Dev × List BndCross
  | [] => (d, [])
  | x :: l =>
    let r := d.retest segs fnd x
    let r' := r.1.retestAll segs fnd l
    (r'.1, match r.2 with | some y => y :: r'.2 | none => r'.2)

/-- After a swap each uncommitted entry keeps a crossing of the new map on a segment of the same layer and in the same direction, the
one nearest in time (06 R185; DEDUCED, notes/assumptions/30.md). -/
def rebind (x : BndCross) (fnd : List BndCross) : Option BndCross :=
  let l := fnd.filter fun y => y.seg.layer == x.seg.layer && y.enter == x.enter
  ((l.mergeSort fun a b => decide (((a.c : Int) - x.c).natAbs ≤ ((b.c : Int) - x.c).natAbs)).head?).map fun y =>
    { y with ins := x.ins }

/-- Recomputes the entries of a lever point against the new generation; answers what stays known and what no entry holds. -/
def Dev.recompute (d : Dev) : List BndCross → List BndCross → Dev × List BndCross
  | [], fnd => (d, fnd)
  | x :: l, fnd =>
    match rebind x fnd with
    | some y =>
      let r := (d.revise y).recompute l (fnd.erase { y with ins := none })
      (r.1, y :: r.2)
    | none =>
      let r := (d.withdrawCross x).recompute l fnd
      (r.1, if x.ins.isSome && !d.isOpen x then x :: r.2 else r.2)

/-- Marks the pairs that R191 skips, in time order: two successive crossings of opposite directions within MIN_GAP mm of body path.
Answers also how many pairs are new. -/
def markPairs (gap : Int) : List BndCross → List BndCross × Nat
  | x :: y :: l =>
    if x.enter != y.enter && decide ((y.s - x.s).natAbs ≤ gap * 10 ^ 17) then
      let r := markPairs gap l
      ({ x with skip := true } :: { y with skip := true } :: r.1, r.2 + (if x.skip && y.skip then 0 else 1))
    else
      let r := markPairs gap (y :: l)
      ({ x with skip := false } :: r.1, r.2)
  | [x] => ([{ x with skip := false }], 0)
  | [] => ([], 0)

/-- A crossing loses its entry. -/
def Dev.freeCross (d : Dev) (x : BndCross) : Dev × BndCross :=
  if d.isOpen x then (d.withdrawCross x, { x with ins := none }) else (d, x)

/-- A crossing takes an entry, unless four are pending (06 R190). -/
def Dev.takeEntry (d : Dev) (x : BndCross) : Dev × BndCross :=
  if (d.lpPending x.p).length < 4 then
    let n := (d.reg R.SCH_INS_NUM).toNat
    let d := d.insertBnd x.p (d.lpAction x.p x.c x.enter)
    (d, if (d.entry n).isSome then { x with ins := some n } else x)
  else (d, x)

/-- Does something to each of some crossings. -/
def Dev.forCross (d : Dev) (f : Dev → BndCross → Dev × BndCross) (l : List BndCross) : Dev × List BndCross :=
  l.foldl (fun r x => let q := f r.1 x; (q.1, r.2 ++ [q.2])) (d, [])

/-- Entries follow the known crossings: skipped pairs lose theirs, and the next four others hold one each (06 R190, R191). -/
def Dev.placeEntries (d : Dev) (p : Nat) : Dev :=
  let m := markPairs (d.fld R.BND_CTRL_MIN_GAP) (byTime (d.known p))
  let d := d.forAll (List.range m.2) fun _ d => (d.count R.BND_PAIR_SKIP_CNT).bndEvent R.BND_EVT_PAIR_SKIP
  let next := (m.1.filter fun x => !x.skip && (x.ins.isNone || d.isPending x)).take 4
  let r := d.forCross (fun d x => if next.contains x then (d, x) else d.freeCross x) m.1
  let r := r.1.forCross (fun d x => if next.contains x && x.ins.isNone then d.takeEntry x else (d, x)) r.2
  r.1.setKnown p r.2

/-! ### Degraded points (06 R193, 01 R36) -/

/-- A detection of the boundary unit: counted, and when its redo met a second one, counted again with BND_INTEG (01 R36). -/
def Dev.bndDetect (d : Dev) (fails : Bool) : Dev :=
  let d := d.count R.BND_INTEG_CNT
  if fails then (d.count R.BND_INTEG_CNT).raiseFault Src.bndInteg 0 else d

/-- A tile is marked unusable, its segment's redo having met a second detection or host memory that cannot be read (01 R32,
R36). -/
def Dev.markTile (d : Dev) (key : Nat) (unread : Bool) : Dev :=
  if d.bnd.bad.contains key then d
  else
    let d := d.bndSet fun b => { b with bad := key :: b.bad }
    let d := if unread then ((d.bndDetect false).count R.HL_REDO_ABANDON_CNT).raiseFault Src.bndInteg 0 else d.bndDetect true
    d.bndEvent R.BND_EVT_TILE_UNUSABLE

/-- Whether the map has a segment in a tile. -/
def Dev.inMap (d : Dev) (key : Nat) : Bool :=
  match d.bnd.act with
  | some m => m.ents.any fun e => mapKey e == key
  | none => false

/-- What a detection in a crossing computation does but for the lever point it degrades (01 R36). -/
def Dev.calcDetect (d : Dev) (x : CalcDet) : Dev := if d.flag (R.BND_LP_W2_EN x.p) then d.bndDetect x.fails else d

/-- What a detection in a segment does: the redo reads the load buffer in host memory, which it cannot while the host link may not
master (01 R32, R36, 02 R84). -/
def Dev.segDetect (d : Dev) (x : SegDet) : Dev :=
  if d.inMap x.key.toNat then
    (if x.unread || !d.canMaster then d.markTile x.key.toNat true
     else if x.fails then d.markTile x.key.toNat false else d.bndDetect false)
  else d

/-- Whether a crossing computation of lever point p failed its redo. -/
def calcFails (p : Nat) (x : CalcDet) : Bool := x.fails && decide (x.p.val = p)

/-- ERR_LIM in 0.1 mm. -/
def Dev.errLim (d : Dev) (p : Nat) : Nat :=
  let lim := d.fld (R.BND_LP_W7_ERR_LIM p)
  if lim = 0 then 100 else lim

/-- Whether the predicted deviation at a lever point's nearest crossing exceeds ERR_LIM (06 R193). -/
def Dev.tooVague (d : Dev) (x : PosePt) (p : Nat) : Bool :=
  match (byTime ((d.known p).filter fun y => decide (x.mt ≤ y.c))).head? with
  | some y => decide (d.errLim p < Config.pointSd x.trk (d.lpOffset p) (y.c - x.mt))
  | none => false

/-- Whether a lever point's path enters a tile marked unusable. -/
def Dev.badTile (d : Dev) (path : Nat → Int × Int) : Bool :=
  !d.bnd.bad.isEmpty && (pathTiles path).any d.bnd.bad.contains

/-- The causes that hold for a lever point at a track point (06 R193). -/
def Dev.causes (d : Dev) (x : PosePt) (p : Nat) (calcs : List CalcDet) : List Nat :=
  let st := d.poseSt
  [(0, decide (st = 1 ∨ st = 4) || d.tooVague x p), (1, d.bnd.refused.contains p),
   (2, calcs.any (calcFails p) || d.badTile (d.lpPath x p)), (3, d.bnd.act.isNone || d.orgMismatch)].filterMap fun k =>
    if k.2 then some k.1 else none

/-- Brings a lever point's degraded state up to date; of several causes the lowest code shows (06 R193; DEDUCED,
notes/assumptions/30.md). -/
def Dev.judgePoint (d : Dev) (p : Nat) (causes : List Nat) : Dev :=
  match causes with
  | k :: _ => d.degrade p k
  | [] => d.undegrade p

/-! ### A track point's tests (06 R185, R187 to R193) -/

/-- An armed injection into a segment (3) or a crossing computation (4) meets the first active lever point's nearest pending
crossing: with DOUBLE its redo fails too (17 R486). -/
def Dev.injectDet (d : Dev) (calcs : List CalcDet) (segs : List SegDet) : Dev × List CalcDet × List SegDet :=
  match (List.range 256).findSome? fun p => if d.flag (R.BND_LP_W2_EN p) then (d.nearest p).map fun x => (p, x) else none with
  | some (p, x) =>
    if d.injected 3 none then
      (d.injectDone 3 none, calcs, ⟨BitVec.ofNat 24 (x.tile.getD 0), d.injectedTwice 3 none, false⟩ :: segs)
    else if d.injected 4 none then
      (d.injectDone 4 none, ⟨Fin.ofNat 256 p, d.injectedTwice 4 none⟩ :: calcs, segs)
    else (d, calcs, segs)
  | none => (d, calcs, segs)

/-- The crossings known of a lever point after its tests at a track point: those past and out of the schedule are forgotten. -/
def Dev.testPoint (d : Dev) (x : PosePt) (p : Nat) : Dev :=
  let path := d.lpPath x p
  let live := (d.known p).filter fun y => d.isPending y || decide (x.mt ≤ y.c)
  if d.bnd.recalc then
    let fnd := found x p path (d.segsIn p (pathTiles path))
    let r := d.recompute (byTime (live.filter fun y => y.ins.isSome)) (byTime fnd)
    r.1.setKnown p r.2
  else
    match d.tileFor x p path with
    | some tile =>
      let d := if x.seq % 2 = 1 then d.bndSet fun b => { b with scan := sparsePut (fun _ => none) b.scan p (some tile) } else d
      let segs := d.segsIn p [tile]
      let fnd := found x p path segs
      let r := d.retestAll segs fnd live
      r.1.setKnown p (r.2 ++ fnd.filter fun y => !r.2.any fun z => z.seg == y.seg && z.enter == y.enter)
    | none => d.setKnown p live

/-- One lever point at a track point: its tests, its degraded state, its entries. A point degraded by a refused insertion alone goes on
inserting (06 R193). -/
def Dev.lpPoint (d : Dev) (x : PosePt) (calcs : List CalcDet) (p : Nat) : Dev :=
  let predicts := (decide (d.poseSt = 2 ∨ d.poseSt = 3)) && !d.tooSlow && d.bnd.act.isSome && !d.orgMismatch
  let d := if predicts then d.testPoint x p else d
  let causes := d.causes x p calcs
  let d := d.judgePoint p causes
  if predicts && causes.all (· == 1) then d.placeEntries p
  else (d.withdrawPoint p).setKnown p ((d.known p).filter fun y => y.ins.isSome)

/-- The boundary unit's work on a track point (06 R187 to R193). -/
def Dev.bndPoint (d : Dev) (calcs : List CalcDet) (segs : List SegDet) : Dev :=
  match d.flag R.BND_CTRL_EN, d.lastPt with
  | true, some x =>
    let r := d.injectDet calcs segs
    let d := r.2.2.foldl Dev.segDetect (r.2.1.foldl Dev.calcDetect r.1.checkOrg)
    let d := d.forAll ((List.range 256).filter fun p => d.flag (R.BND_LP_W2_EN p)) fun p d => d.lpPoint x r.2.1 p
    d.bndSet fun b => { b with recalc := false }
  | _, _ => d

/-! ### The boundary map (06 R179 to R185) -/

/-- The REASON for which entry i of a map fails, given the entries before it (06 R180, BND_LOAD_ERR). -/
def mapReason (before : List (BitVec 128)) (e : BitVec 128) : Option Nat :=
  if (match before.head? with | some p => decide (mapKey e < mapKey p) | none => false) then some 1
  else if 8 ≤ (before.filter fun x => mapKey x == mapKey e).length then some 2
  else if before.contains e then some 3
  else if bitsOf e 24 48 = bitsOf e 72 48 then some 4
  else if bitsOf e 125 3 ≠ 0 then some 5
  else none

/-- The first failing entry and its reason; `before` holds the entries already seen, newest first. -/
def mapBad : List (BitVec 128) → List (BitVec 128) → Option (Nat × Nat)
  | _, [] => none
  | before, e :: t =>
    match mapReason before e with
    | some r => some (before.length, r)
    | none => mapBad (e :: before) t

/-- Shows the active and staged generations in their registers. -/
def Dev.showMaps (d : Dev) : Dev :=
  let a := d.bnd.act
  let s := d.bnd.stg.map (·.1)
  let d := (d.setFlag R.BND_STAT_ACT_VALID a.isSome).setFlag R.BND_STAT_STG_VALID s.isSome
  let d := d.setFld R.BND_STAT_ACT_HALF (match a with | some m => m.half | none => 0)
  let d := (d.setFld R.BND_GEN_ACT_GEN (match a with | some m => m.gen | none => 0)).setFld R.BND_GEN_STG_GEN
    (match s with | some m => m.gen | none => 0)
  let d := (d.setFld R.BND_ORG_ACT_ORG (match a with | some m => m.org | none => 0)).setFld R.BND_ORG_STG_ORG
    (match s with | some m => m.org | none => 0)
  let d := d.setFld R.BND_ACT_COUNT_COUNT (match a with | some m => m.ents.length | none => 0)
  (d.setFld R.BND_STG_COUNT_COUNT (match s with | some m => m.ents.length | none => 0)).setFlag R.BND_STAT_LOADING
    d.bnd.load.isSome

/-- A staged generation is discarded; its descriptor, if not completed yet, completes GENERATION_STALE with a generation in DETAIL: the
new one's, or by DROP_STG the current one's, the active generation (02 R66, 06 R184). -/
def Dev.dropStaged (d : Dev) (gen : Nat) : Dev :=
  match d.bnd.stg with
  | some (_, ref, _) =>
    let d := ({ d with bnd := { d.bnd with stg := none } }).showMaps
    match ref with
    | some r => d.complete r St.generationStale gen 0x06
    | none => d
  | none => d

/-- The staged generation becomes active at a swap point (06 R183). -/
def Dev.swapMap (d : Dev) (t : Nat) : Dev :=
  match d.bnd.stg with
  | some (m, ref, _) =>
    let d := (d.bndSet fun b => { b with act := some m, stg := none, bad := [], scan := [], recalc := true }).showMaps
    let d := (d.bndEvent R.BND_EVT_SWAPPED).checkOrg
    match ref with
    | some r => d.complete r St.ok (t % 2 ^ 32) 0x06
    | none => d
  | none => d

/-- The swap at a track point, when the staged generation's swap MT has come. -/
def Dev.swapIfDue (d : Dev) (t : Nat) : Dev :=
  match d.bnd.stg with
  | some (_, _, some u) => if u ≤ t then d.swapMap t else d
  | _ => d

/-- The first field of a map-load descriptor that fails (06 R182). -/
def Dev.mapDescBad (d : Dev) (w : BitVec 256) : Option Nat :=
  let n := descField w 12 4
  let g := descField w 16 2
  firstBad [(1, decide (bitsOf w 12 2 = 3 ∨ bitsOf w 14 2 ≠ 0)),
            (4, decide (descField w 4 8 % 16 ≠ 0)),
            (12, decide (n = 0 ∨ 65536 < n)),
            (16, decide (g = 0) || (match d.bnd.act with | some m => decide (m.gen = g) | none => false)),
            (19, decide (descField w 19 5 ≠ 0))]

/-- A map-load descriptor is checked and its load begins (06 R181, R182, R184). -/
def Dev.mapLoad (d : Dev) (a : AccDesc) : Dev :=
  let w := a.word
  if !d.domOn 3 then d.complete a.ref St.notPermitted 0x02 0x06
  else
    match d.mapDescBad w with
    | some off => d.completeBad a.ref off 0x06
    | none =>
      let n := descField w 12 4
      if 32768 < n ∧ d.bnd.act.isSome = true then d.complete a.ref St.notPermitted 0x05 0x06
      else
        let gen := descField w 16 2
        let half := if 32768 < n then 2 else match d.bnd.act with | some m => 1 - m.half | none => 0
        ({ d with bnd := { d.bnd with load := some { ref := a.ref, swap := bitsOf w 12 2, gen := gen, org := byteOf w 18,
                                                     count := n, half := half, addr := descField w 4 8 } } }).showMaps

/-- A map load finishes: the generation is staged in place of one that waits, or the first failing entry is recorded and no generation
changes (06 R180, R182 to R184). -/
def Dev.mapLoaded (d : Dev) (l : BndLoad) (ents : List (BitVec 128)) : Dev :=
  let d := { d with bnd := { d.bnd with load := none } }
  match mapBad [] ents with
  | some (i, r) =>
    let d := (d.setFld R.BND_LOAD_ERR_INDEX i).setFld R.BND_LOAD_ERR_REASON r
    (d.showMaps.bndEvent R.BND_EVT_LOAD_ERR).completeBad l.ref 4 0x06
  | none =>
    let m : BndMap := { gen := l.gen, org := l.org, half := l.half, ents := ents }
    let swapMt := d.reg64 R.BND_SWAP_MT_LO R.BND_SWAP_MT_HI
    let d := d.dropStaged l.gen
    match l.swap with
    | 0 => (({ d with bnd := { d.bnd with stg := some (m, none, none) } }).showMaps).complete l.ref St.ok 0 0x06
    | 1 => ({ d with bnd := { d.bnd with stg := some (m, some l.ref, some d.now) } }).showMaps
    | _ => ({ d with bnd := { d.bnd with stg := some (m, some l.ref, some (max d.now swapMt)) } }).showMaps

/-- A write to BND_CMD: SWAP, DROP_STG, DEACT in bit order (06 R183, R184). -/
def Dev.writeBndCmd (d : Dev) (v : Word) : Dev :=
  let d := if v.getLsbD 0 then
      match d.bnd.stg with
      | some (m, ref, _) =>
        { d with bnd := { d.bnd with stg := some (m, ref, some (d.reg64 R.BND_SWAP_MT_LO R.BND_SWAP_MT_HI)) } }
      | none => d
    else d
  let d := if v.getLsbD 1 then d.dropStaged (d.fld R.BND_GEN_ACT_GEN) else d
  if v.getLsbD 2 && d.bnd.act.isSome then (({ d with bnd := { d.bnd with act := none, bad := [] } }).showMaps).withdrawAll
  else d

/-- A write to BND_CTRL: with EN back at 0 the entries the unit owns and that are uncommitted are withdrawn
(DEDUCED, notes/assumptions/26.md). -/
def Dev.writeBndCtrl (d : Dev) (v : Word) : Dev :=
  let was := d.flag R.BND_CTRL_EN
  let d := d.writeByCode R.BND_CTRL v
  if was && !d.flag R.BND_CTRL_EN then d.withdrawAll else d

/-! ### Lever point registers (06 R186) -/

/-- Whether ACTION may stand in a template. -/
def isTemplate (a : Nat) : Bool := decide ((1 ≤ a ∧ a ≤ 6) ∨ a = 0x0B ∨ a = 0x0C ∨ a = 0x0F)

/-- A write to word w of lever point p. -/
def Dev.writeLever (d : Dev) (p w : Nat) (v : Word) : Dev :=
  let en := d.flag (R.BND_LP_W2_EN p)
  match w with
  | 2 =>
    if en then
      if v.getLsbD 15 then d else (((d.setFlag (R.BND_LP_W2_EN p) false).withdrawPoint p).bndSet fun b =>
        { b with refused := b.refused.filter fun q => q != p, cross := b.cross.filter fun x => x.p != p || x.ins.isSome }).undegrade p
    else
      let d := d.setReg (R.BND_LP_W2 p) (v &&& 0xFFFF1FFF#32)
      if v.getLsbD 15 then
        if isTemplate (bitsOf v 0 8) && targetOk (bitsOf v 0 8) (bitsOf v 16 16) then d.setFlag (R.BND_LP_W2_EN p) true
        else d.bndEvent R.BND_EVT_BAD_TPL
      else d
  | 5 => d.setReg (R.BND_LP_W5 p) (v &&& 0x0FFFFFFF#32)
  | 6 => d.setReg (R.BND_LP_W6 p) (v &&& 0x0FFFFFFF#32)
  | 7 => if en then d.setFld (R.BND_LP_W7_ERR_LIM p) (bitsOf v 16 16) else d.setReg (R.BND_LP_W7 p) v
  | _ => if en then d else d.writeByCode (R.BND_LP_W0 p + 4 * w) v

/-! ### Commands -/

/-- TRACK_POINT (06 R169 to R176, R183, R185, R187 to R193): the detections that the boundary unit meets. -/
def execTrackPoint (calcs : List CalcDet) (segs : List SegDet) (s : State) : Host.Outcome State Fault Refusal :=
  onDev s fun d =>
    if d.flag R.POSE_CTRL_EN && d.mt.loaded then
      match d.pointDue with
      | some t => ((d.addPoint t).swapIfDue t).bndPoint calcs segs
      | none => d
    else d

/-- BOUNDARY_MAP_LOAD (06 R181, R182, R184): the oldest map-load descriptor that may pass; one load at a time. -/
def execBoundaryMapLoad (s : State) : Host.Outcome State Fault Refusal :=
  onDev s fun d => if d.bnd.load.isSome then d else d.withDesc (fun w => descType w == 0x50) fun a d => d.mapLoad a

/-- MAP_LOAD_END (06 R182, R183): the COUNT entries read from the host. -/
def execMapLoadEnd (ents : List (BitVec 128)) (s : State) : Host.Outcome State Fault Refusal :=
  onDev s fun d =>
    match d.bnd.load with
    | some l => if d.canMaster && decide (ents.length = l.count) then d.mapLoaded l ents else d
    | none => d

/-- BND_SWAP (06 R183): the written word of BND_CMD. -/
def execBndSwap (v : BitVec 32) (s : State) : Host.Outcome State Fault Refusal :=
  onDev s fun d => d.access R.BND_CMD fun d => d.writeBndCmd v

/-- BND_DROP_STG (06 R184). -/
def execBndDropStg (v : BitVec 32) (s : State) : Host.Outcome State Fault Refusal :=
  onDev s fun d => d.access R.BND_CMD fun d => d.writeBndCmd v

/-- DEACT (06 R184). -/
def execDeact (v : BitVec 32) (s : State) : Host.Outcome State Fault Refusal :=
  onDev s fun d => d.access R.BND_CMD fun d => d.writeBndCmd v

/-- LEVER_POINT_WRITE (06 R186, R196). -/
def execLeverPointWrite (p : Fin 256) (w : Fin 8) (v : BitVec 32) (s : State) : Host.Outcome State Fault Refusal :=
  onDev s fun d => d.access (R.BND_LP_W0 p + 4 * w) fun d => d.writeLever p w v

end Sys2Proof.Machine
end

