-- ==== Sys2Proof/Machine/Inputs.lean ====
section
/-! DEFINITION. The field channels as inputs (08): edges, FIFO, analog windows, wire break and tag windows; and the commands of
that chapter but for the stop inputs and the wake inputs. -/

namespace Sys2Proof.Machine

/-! ### Edges (08 R244 to R247) -/

/-- The filter length L in ticks (08 R244). -/
def Dev.filtTicks (d : Dev) (c : Nat) : Nat :=
  let f := d.fld (R.CH_IN_FILT_FILT c)
  if d.flag (R.CH_IN_FILT_FILT_UNIT c) then 4000 * max 1 f else 40 * max 10 f

/-- The thresholds of a comparator in mV, rising and falling, with the tolerance of each: the table of R242; in PULSE_IN PTH_RISE and
PTH_FALL with 2 % and 50 mV (08 R242, R249). -/
def Dev.thresholds (d : Dev) (c : Nat) : (Int × Int) × (Int × Int) :=
  if d.mode c = 10 then
    let rise : Int := max 500 (min 30000 (d.fld (R.CH_IN_PTH_PTH_RISE c)))
    let f : Int := d.fld (R.CH_IN_PTH_PTH_FALL c)
    let fall := if rise ≤ f then rise - 100 else f
    ((rise, rise / 50 + 50), (fall, fall / 50 + 50))
  else if d.flag (R.CH_IN_CFG_THR c) then ((5500, 500), (4500, 500))
  else if d.mode c = 6 then ((10500, 1000), (9000, 1000))
  else ((8500, 800), (7000, 800))

/-- A threshold within its tolerance of the nominal value: where, the spec leaves open. -/
def atTolerance (nom tol err : Int) : Int := nom + max (-tol) (min tol err)

/-- The comparator's output at a terminal voltage in mV, given its output before (08 R242, R249). -/
def Dev.compare (d : Dev) (c : Nat) (mv : Int) : Bool :=
  let p := d.thresholds c
  if atTolerance p.1.1 p.1.2 (Config.thrError c true) < mv then true
  else if mv < atTolerance p.2.1 p.2.2 (Config.thrError c false) then false else (d.chan c).raw

/-- Whether a run of the comparator's output that began at a stamp has lasted for L by now without a break, as far as the state shows:
it began after the filter's last restart, and L or more after the last accepted edge (08 R244, R248). -/
def Dev.runHeld (d : Dev) (c stamp : Nat) : Bool :=
  let x := d.chan c
  let l := d.filtTicks c
  decide (stamp + l + 400 ≤ d.now ∧ x.filtAt ≤ stamp) &&
    (match x.edges with | (t, _) :: _ => decide (t + l ≤ stamp) | [] => true)

/-- Pushes a counted edge into the FIFO, or drops and counts it (08 R246). -/
def Dev.pushFifo (d : Dev) (c t : Nat) (level : Bool) : Dev :=
  let x := d.chan c
  if !d.flag (R.CH_IN_CFG_FIFO_EN c) then d
  else if x.fifo.length < 16 then (d.setChan c { x with fifo := x.fifo ++ [(t, level)] }).showFifo c
  else (d.addFld (R.CH_IN_STAT_DROP c) 1).chEvent c (R.CH_IN_STAT_FIFO_OVF c)

/-- A counted edge joins the tag window whose end is the first at or after its stamp (08 R256). -/
def tagEdge (t : Nat) (x : Chan) : Chan :=
  match x.tags.findIdx? fun w => decide (t ≤ w.fin) with
  | some i => { x with tags := x.tags.modify i fun w => { w with cnt := w.cnt + 1 } }
  | none => { x with tag := { x.tag with cnt := x.tag.cnt + 1 } }

/-- An analog window joins the tag window in which its centre lies (08 R256). -/
def tagMean (t : Nat) (v : Int) (x : Chan) : Chan :=
  match x.tags.findIdx? fun w => decide (t ≤ w.fin) with
  | some i => { x with tags := x.tags.modify i fun w => { w with sum := w.sum + v, num := w.num + 1 } }
  | none => { x with tag := { x.tag with sum := x.tag.sum + v, num := x.tag.num + 1 } }

/-- What a counted edge does (08 R246, R247). -/
def Dev.countEdge (d : Dev) (c t : Nat) (level : Bool) : Dev :=
  let d := d.setReg (R.CH_IN_CNT c) (d.reg (R.CH_IN_CNT c) + 1)
  let d := match (d.chan c).lastCnt with
    | some u => d.setReg (R.CH_IN_PER c) (BitVec.ofNat 32 (min ((t - u) / 40) 0xFFFFFFFF))
    | none => d
  let x := d.chan c
  let d := d.setChan c (tagEdge t { x with lastCnt := some t })
  (d.pushFifo c t level).odoEdge c t

/-- An accepted edge: the level, the count when it matches EDGE, and odometry directions (08 R242, R245, R247, R250). -/
def Dev.inputEdge (d : Dev) (c t : Nat) (raw : Bool) : Dev :=
  let level := raw != d.flag (R.CH_IN_CFG_INV c)
  let x := d.chan c
  let recent := x.edges.filter fun e => decide (d.now < e.1 + 40960000)
  let d := d.setChan c { x with raw := raw, edges := (t, level) :: recent }
  let d := (d.showLevel c).turnOdo c t level
  if (d.reg (R.CH_IN_CFG c)).getLsbD (if level then 2 else 3) then d.countEdge c t level else d

/-- A write to CH_IN_POP (08 R246). -/
def Dev.popFifo (d : Dev) (c : Nat) (v : Word) : Dev :=
  if v.getLsbD 0 then (d.setChan c { d.chan c with fifo := (d.chan c).fifo.tail }).showFifo c else d

/-- A write to CH_IN_STAT: its W1C bits clear, and FIFO_OVF clears DROP too. -/
def Dev.writeInStat (d : Dev) (c : Nat) (v : Word) : Dev :=
  let d := d.writeByCode (R.CH_IN_STAT c) v
  if v.getLsbD 9 then d.setFld (R.CH_IN_STAT_DROP c) 0 else d

/-! ### Analog windows and wire break (08 R252 to R254) -/

/-- The length of an averaging window in ticks (08 R253). -/
def Dev.ainTicks (d : Dev) (c : Nat) : Nat := 40000 * max 10 (min 10000 (d.fld (R.CH_IN_AIN_AIN_PERIOD c)))

/-- WB_T in ticks. -/
def Dev.wbTicks (d : Dev) (c : Nat) : Nat := msTicks (max 1 (d.fld (R.CH_IN_WB_WB_T c)))

/-- An averaging window ends with a mean in mV, or in µA in AIN_I (08 R252, R253). -/
def Dev.ainWindow (d : Dev) (c : Nat) (mean : Word) : Dev :=
  let len := d.ainTicks c
  let centre := d.now / len * len - len / 2 - 4800
  let v := if (d.chan c).burden.isSome then 0 else mean
  let d := ((d.setReg (R.CH_IN_VAL c) v).setReg (R.CH_IN_VAL_MT c) (BitVec.ofNat 32 centre)).setChan c
    { d.chan c with ainAt := d.now / len * len }
  let x := tagMean centre v.toInt (d.chan c)
  let low := decide (v.toInt < d.fld (R.CH_IN_WB_WB_LIM c))
  d.setChan c { x with
    wbLow := if low then (match x.wbLow with | some t => some t | none => some d.now) else none
    wbHigh := if low then none else (match x.wbHigh with | some t => some t | none => some d.now) }

/-! ### Tag windows (08 R255, R256) -/

/-- The tag window end that is due in time mode: the last multiple of TAG_PERIOD ms. -/
def Dev.tagDue (d : Dev) (c : Nat) : Nat :=
  let p := msTicks (max 1 (min 60000 (d.fld (R.CH_IN_TAG_TAG_PERIOD c))))
  d.now / p * p

/-- Rounds units of 1/1024 mm to the nearest mm, ties upwards. -/
def toMm (x : Int) : Int := (x + 512) / 1024

/-- The position that a tag at a track point takes: the body origin, or lever point TAG_LP under 06 R170. -/
def Dev.tagPos (d : Dev) (c : Nat) (p : PosePt) : Int × Int :=
  if d.flag (R.CH_IN_CFG_TAG_USE_LP c) then
    let o := bodyOffset p.trk p.att (d.lpOffset (d.fld (R.CH_IN_CFG_TAG_LP c)))
    (toMm (p.trk.e + o.1), toMm (p.trk.n + o.2.1))
  else (toMm p.trk.e, toMm p.trk.n)

/-- The pose STATE and the position that a tag takes at an MT: those of the track point there; with the pose unit off, OFF and 0. None
while the pose unit has yet to compute that point (08 R256). -/
def Dev.tagPose (d : Dev) (c t : Nat) : Option (Nat × Int × Int) :=
  if d.poseSt = 0 then some (0, 0, 0)
  else
    match d.lastPt with
    | some q =>
      if q.mt < t then none
      else
        match d.ptAt t with
        | some p => some (p.state, if p.state = 2 ∨ p.state = 3 then d.tagPos c p else (0, 0))
        | none => some (1, 0, 0)
    | none => some (d.poseSt, 0, 0)

/-- The open tag window ends at an MT; its record waits for L + 2 µs. -/
def Dev.closeTag (d : Dev) (c t : Nat) : Dev :=
  match d.tagPose c t with
  | some (st, e, n) =>
    let x := d.chan c
    let w := { x.tag with fin := t, e := BitVec.ofInt 32 e, n := BitVec.ofInt 32 n, state := st }
    d.setChan c { x with tags := x.tags ++ [w], tag := { TagWin.init with fin := t } }
  | none => d

/-- TAG_PERIOD in mm for distance windows, in units of the path length (08 R255). -/
def Dev.tagWay (d : Dev) (c : Nat) : Nat := 10 ^ 8 * max 10 (min 1000000 (d.fld (R.CH_IN_TAG_TAG_PERIOD c)))

/-- The first track point after an MT at which the path length has passed a multiple of TAG_PERIOD mm, from a history that runs newest
first (08 R255). -/
def firstPass (m after : Nat) : List PosePt → Option Nat
  | p :: q :: l =>
    match firstPass m after (q :: l) with
    | some t => some t
    | none => if after < p.mt ∧ (p.state = 2 ∨ p.state = 3) ∧ q.way / m < p.way / m then some p.mt else none
  | _ => none

/-- The mean of a tag window's analog windows, rounded to nearest with ties upwards; with none in the window the spec states
no value and it is free. -/
def Dev.tagMeanValue (d : Dev) (w : TagWin) : Word × Dev :=
  if w.num = 0 then
    let r := d.draw
    (BitVec.ofNat 32 r.1.toNat, r.2)
  else (BitVec.ofInt 32 ((2 * w.sum + w.num) / (2 * w.num)), d)

/-- Writes the record of a closed window (08 R256). -/
def Dev.writeTag (d : Dev) (c : Nat) (w : TagWin) : Dev :=
  let r := if d.mode c = 8 ∨ d.mode c = 9 then d.tagMeanValue w else (BitVec.ofNat 32 w.cnt, d)
  let d := r.2.setReg64 (R.CH_IN_TAG_MT_LO c) (R.CH_IN_TAG_MT_HI c) w.fin
  let d := ((d.setReg (R.CH_IN_TAG_E c) w.e).setReg (R.CH_IN_TAG_N c) w.n).setReg (R.CH_IN_TAG_VAL c) r.1
  let d := d.setFld (R.CH_IN_TAG_SEQ_SEQ c) (d.fld (R.CH_IN_TAG_SEQ_SEQ c) + 1)
  let d := (d.setFld (R.CH_IN_TAG_SEQ_STATE c) w.state).setFlag (R.CH_IN_TAG_SEQ_POS_OK c)
    (decide (w.state = 2 ∨ w.state = 3))
  d.chEvent c (R.CH_IN_STAT_TAG_NEW c)

/-! ### Commands -/

/-- INPUT_EDGE (08 R242, R244, R245, R249): a run of the comparator's output at a terminal voltage in mV that began at a stamp; the
filter of a DIN1, DIN3 or PULSE_IN channel accepts a new level L + 0.1 µs after it. -/
def execInputEdge (c : Fin 128) (stamp : BitVec 64) (mv : BitVec 32) (s : State) : Host.Outcome State Fault Refusal :=
  onChan s c fun d =>
    let raw := d.compare c mv.toInt
    if hasLevel (d.mode c) && (raw != (d.chan c).raw) && d.runHeld c stamp.toNat then d.inputEdge c stamp.toNat raw else d

/-- CH_IN_POP (08 R246). -/
def execChInPop (c : Fin 128) (v : BitVec 32) (s : State) : Host.Outcome State Fault Refusal :=
  onDev s fun d => d.access (R.CH_IN_POP c) fun d => d.popFifo c v

/-- AIN_WINDOW_END (08 R253): the end of an averaging window that has come, and was not taken yet. -/
def execAinWindowEnd (c : Fin 128) (mean : BitVec 32) (s : State) : Host.Outcome State Fault Refusal :=
  onChan s c fun d =>
    if isInput (d.mode c) && decide ((d.chan c).ainAt < d.now / d.ainTicks c * d.ainTicks c) then d.ainWindow c mean else d

/-- AIN_OVR (08 R252): the current of an AIN_I channel in µA. -/
def execAinOvr (c : Fin 128) (ua : BitVec 32) (s : State) : Host.Outcome State Fault Refusal :=
  onChan s c fun d =>
    if d.mode c = 9 ∧ 25000 < ua.toInt then
      let d := (d.chEvent c (R.CH_IN_STAT_AIN_OVR c)).raiseFault Src.chAinOvr (bankMask (c / 16))
      if 50000 < ua.toInt then
        (d.setChan c { d.chan c with burden := some (d.now + msTicks 100) }).setReg (R.CH_IN_VAL c) 0
      else d
    else d

/-- BURDEN_CLOSE (08 R252). -/
def execBurdenClose (c : Fin 128) (s : State) : Host.Outcome State Fault Refusal :=
  onChan s c fun d =>
    match (d.chan c).burden with
    | some t => if t ≤ d.now then d.setChan c { d.chan c with burden := none } else d
    | none => d

/-- WIRE_BREAK (08 R254): the window mean has stayed below WB_LIM for WB_T. -/
def execWireBreak (c : Fin 128) (s : State) : Host.Outcome State Fault Refusal :=
  onChan s c fun d =>
    match (d.chan c).wbLow with
    | some t =>
      if isInput (d.mode c) && d.flag (R.CH_IN_CFG_WB_EN c) && !d.flag (R.CH_IN_STAT_WB_NOW c) &&
          decide (t + d.wbTicks c ≤ d.now) then
        let d := ((d.setFlag (R.CH_IN_STAT_WB_NOW c) true).showLevel c).chEvent c (R.CH_IN_STAT_WIRE_BREAK c)
        d.setLine Src.chWire (bankMask (c / 16))
      else d
    | none => d

/-- WB_CLEAR (08 R254): the mean has stayed at or above WB_LIM for WB_T. -/
def execWbClear (c : Fin 128) (s : State) : Host.Outcome State Fault Refusal :=
  onChan s c fun d =>
    match (d.chan c).wbHigh with
    | some t =>
      if d.flag (R.CH_IN_STAT_WB_NOW c) && decide (t + d.wbTicks c ≤ d.now) then
        (d.wireWhole c).showLevel c
      else d
    | none => d

/-- TAG_WINDOW_END (08 R255): in time mode at the multiple of TAG_PERIOD ms that has come; in distance mode at the first track point at
which the body path length has passed a multiple of TAG_PERIOD mm, in NAV or DEAD_RECKONING. -/
def execTagWindowEnd (c : Fin 128) (s : State) : Host.Outcome State Fault Refusal :=
  onChan s c fun d =>
    if isInput (d.mode c) && d.flag (R.CH_IN_CFG_TAG_EN c) then
      if d.flag (R.CH_IN_CFG_TAG_MODE c) then
        match firstPass (d.tagWay c) (d.chan c).tag.fin d.pose.hist with
        | some t => d.closeTag c t
        | none => d
      else if (d.chan c).tag.fin < d.tagDue c then d.closeTag c (d.tagDue c) else d
    else d

/-- TAG_RECORD (08 R256): the record of the oldest closed window, at its end + L + 2 µs. -/
def execTagRecord (c : Fin 128) (s : State) : Host.Outcome State Fault Refusal :=
  onChan s c fun d =>
    match (d.chan c).tags with
    | w :: l =>
      if w.fin + d.filtTicks c + 8000 ≤ d.now then (d.setChan c { d.chan c with tags := l }).writeTag c w else d
    | [] => d

end Sys2Proof.Machine
end

