-- ==== Sys2Proof/Machine/Psq.lean ====
section
/-! DEFINITION. The profile sequencers of 09: images, phases, instructions, starts, valve groups, the coil model; and the
commands of that chapter but PSQ_START. -/

namespace Sys2Proof.Machine

/-! ### Images (09 R263, R264, R266) -/

/-- A word of a half of a bank's store; a word past 511 is END. -/
def Dev.psqWord (d : Dev) (b h w : Nat) : Word :=
  if w < 512 then sparseGet (fun _ => 0) (d.psqBank b).store (512 * h + w) else 0

/-- The two words of profile-table entry p. -/
def Dev.psqEntry (d : Dev) (b h p : Nat) : BitVec 64 :=
  BitVec.ofNat 64 ((d.psqWord b h (2 * p)).toNat + (d.psqWord b h (2 * p + 1)).toNat * 2 ^ 32)

/-- Fields of a profile-table entry. -/
def entAddr (e : BitVec 64) : Nat := bitsOf e 0 9
def entRelease (e : BitVec 64) : Bool := e.getLsbD 9
def entPeakUs (e : BitVec 64) : Nat := bitsOf e 16 16
def entPeakA (e : BitVec 64) : Nat := bitsOf e 32 12
def entHoldA (e : BitVec 64) : Nat := bitsOf e 48 12

/-- OP and the operands of a microcode word. -/
def psqOp (w : Word) : Nat := bitsOf w 28 4
def psqI (w : Word) : Nat := bitsOf w 16 12
def psqT (w : Word) : Nat := bitsOf w 0 16
def psqAddr (w : Word) : Nat := bitsOf w 0 9

/-- Whether word k of a table entry breaks R264 on a bank with a given peak and continuous current in 10 mA units. -/
def entryWordBad (e : BitVec 64) (k peak cont : Nat) : Bool :=
  if e = 0 then false
  else if k = 0 then
    decide (entAddr e < 64 ∨ bitsOf e 10 6 ≠ 0) || (entRelease e && decide (entPeakUs e ≠ 0))
  else
    decide (bitsOf e 44 4 ≠ 0 ∨ bitsOf e 60 4 ≠ 0 ∨ peak < entPeakA e ∨ entPeakA e < entHoldA e ∨ cont < entHoldA e) ||
      (entRelease e && decide (entPeakA e ≠ 0 ∨ entHoldA e ≠ 0))

/-- Whether a microcode word breaks R266: a reserved bit set or a jump address below 64. -/
def instrBad (w : Word) : Bool :=
  match psqOp w with
  | 0x0 => decide (bitsOf w 0 28 ≠ 0)
  | 0x7 => decide (bitsOf w 1 27 ≠ 0)
  | 0x8 => decide (bitsOf w 20 8 ≠ 0)
  | 0x9 => decide (bitsOf w 24 4 ≠ 0)
  | 0xA => decide (bitsOf w 25 3 ≠ 0 ∨ bitsOf w 16 9 < 64)
  | 0xC => decide (bitsOf w 16 12 ≠ 0)
  | 0xD => decide (bitsOf w 9 19 ≠ 0 ∨ psqAddr w < 64)
  | 0xE => decide (bitsOf w 9 19 ≠ 0 ∨ psqAddr w < 64)
  | 0xF => decide (bitsOf w 8 20 ≠ 0)
  | _ => false

/-- The first failing word of an image for a set of banks, with its REASON (09 R282). -/
def imageBad (img : List Word) (heavy std : Bool) : Option (Nat × Nat) :=
  let peak := if std then 1200 else 3000
  let cont := if std then 300 else 800
  let ok := heavy || std
  (List.range 512).findSome? fun k =>
    let w := img.getD k 0
    if k < 64 then
      let e := BitVec.ofNat 64 ((img.getD (k / 2 * 2) 0).toNat + (img.getD (k / 2 * 2 + 1) 0).toNat * 2 ^ 32)
      if ok && entryWordBad e (k % 2) peak cont then some (k, 2) else none
    else if instrBad w then some (k, 3) else none

/-! ### Phases (09 R266 to R269, R277) -/

/-- The abort sequence after DITHER 0: QUENCH FAST with I = 5 and t = 10,000, then END (09 R272). -/
def abortWord (k : Nat) : Word := if k = 0 then 0x6005A710#32 else 0

/-- The word a context executes now. -/
def Dev.ctxWord (d : Dev) (c : Nat) : Word :=
  let x := d.ctx c
  match x.abort with
  | some k => abortWord k
  | none => d.psqWord (c / 16) x.half x.pc

/-- Whether a context's leave window is open at an MT: its booking is held and the window has not ended (09 R268). -/
def Ctx.inWindow (x : Ctx) (t : Nat) : Bool := x.booking.isSome && decide (t < x.winEnd)

/-- The largest target that a context's phase may have at an MT, in 10 mA units: PEAK_A in a peak-class phase, HOLD_A in a hold-class
phase or outside the leave window, and HOLD_MIN in a hold-class phase while COIL_HOT is 1 (09 R268, R277). -/
def Dev.targetLimit (d : Dev) (c t : Nat) : Nat :=
  let x := d.ctx c
  match x.cls with
  | .peak => if x.inWindow t then x.peakA else x.holdA
  | .hold => if d.flag (R.PSQ_CH_STAT_COIL_HOT c) then min x.holdA (d.fld (R.PSQ_CH_COIL_LIM_HOLD_MIN c)) else x.holdA
  | _ => 0

/-- A context's target without its dither. -/
def Dev.ctxTarget (d : Dev) (c : Nat) : Nat := min (d.ctx c).tgt (d.targetLimit c d.now)

/-- A triangle of ±a with a period of p ticks, e ticks after it began to rise from 0, rounded to the nearest unit with ties upwards (09
R266; where in its period it begins is a DESIGN CHOICE, notes/assumptions/27.md). -/
def triangle (a p e : Nat) : Int :=
  let h : Int := e % p
  let y : Int := if 4 * h < p then 4 * a * h else if 4 * h < 3 * p then 2 * a * p - 4 * a * h else 4 * a * h - 4 * a * p
  (2 * y + p) / (2 * p)

/-- The target of a regulation period that starts at t, its dither included (09 R266, R268, R277). -/
def Dev.aimAt (d : Dev) (c t : Nat) : Nat :=
  let x := d.ctx c
  if x.ditA = 0 ∨ t < x.ditAt then min x.tgt (d.targetLimit c t)
  else min ((x.tgt : Int) + triangle x.ditA (40000 * x.ditP) (t - x.ditAt)).toNat (d.targetLimit c t)

/-- The class a word's phase has, none for an untimed instruction, given the present class (WAIT extends it). -/
def wordClass (w : Word) (holdA : Nat) (now : PhClass) : PhClass :=
  match psqOp w with
  | 0x1 => .peak
  | 0x2 => .peak
  | 0x3 => .hold
  | 0x4 => if holdA < psqI w then .peak else .hold
  | 0x6 => .quench
  | 0x9 => now
  | 0xA => .peak
  | _ => .none

/-- Whether an OP is timed. -/
def isTimed (op : Nat) : Bool := decide ((1 ≤ op ∧ op ≤ 4) ∨ op = 6 ∨ op = 9 ∨ op = 0xA)

/-- Moves a context to a word of its image at its time cursor. -/
def Dev.setPc (d : Dev) (c pc : Nat) : Dev :=
  (d.setCtx c { d.ctx c with pc := pc }).setFld (R.PSQ_CH_STAT_PC c) pc

/-- Sets PROG_ERR with its cause and raises PSQ_PROG (09 R267, R281). -/
def Dev.progErr (d : Dev) (c why : Nat) : Dev :=
  ((d.setFld (R.PSQ_CH_STAT_PROG_WHY c) why).ctxEvent c (R.PSQ_CH_STAT_PROG_ERR c)).raiseFault Src.psqProg
    (bankMask (c / 16))

/-- The drive and target with which a phase begins. -/
def beginDrive (w : Word) (x : Ctx) (present : Nat) : Ctx :=
  match psqOp w with
  | 0x1 => { x with drive := .full, tgt := psqI w }
  | 0x2 => { x with drive := .reg, tgt := psqI w }
  | 0x3 => { x with drive := .reg, tgt := psqI w }
  | 0x4 => { x with drive := .reg, rampT0 := present, tgt := present }
  | 0x6 => { x with drive := .off (w.getLsbD 15), tgt := 0 }
  | 0xA => { x with drive := .full, tgt := 4095 }
  | _ => x

/-- The feeder of a group is driven on with a member's first edge (09 R279). -/
def Dev.feederOn (d : Dev) (c : Nat) : Dev :=
  match d.groupOfMember c with
  | some g =>
    let f := d.feederOf (c / 16) g
    (d.setFlag (R.CH_STAT_CMD_ON f) true).stageOn f (d.ctx c).cur
  | none => d

/-- The first phase of a profile that drives turns the output on, and its group's feeder with it (07 R566, 09 R279). -/
def Dev.firstEdge (d : Dev) (c : Nat) : Dev :=
  if (d.ctx c).drive.isOff || (d.chan c).on then d else (d.stageOn c (d.ctx c).cur).feederOn c

/-- Begins the phase of the word a context has come to, at its time cursor; an untimed word waits for its command. -/
def Dev.beginPhase (d : Dev) (c : Nat) : Dev :=
  let x := d.ctx c
  let w := d.ctxWord c
  if !isTimed (psqOp w) then d
  else
    let cls := wordClass w x.holdA x.cls
    let y := beginDrive w x (d.ctxTarget c)
    let d := d.setCtx c { y with cls := cls, untimed := 0, hDrive := x.drive, hTgt := x.tgt, hCls := x.cls,
                                 leftPeak := x.leftPeak || decide (cls = .hold ∨ cls = .quench) }
    let d := d.setCtx c { d.ctx c with aim := d.aimAt c x.cur }
    let d := (d.firstEdge c).setFlag (R.PSQ_CH_STAT_PEAK_CLASS c) (decide (cls = .peak))
    let d := match cls with
      | .hold => d.returnBooking c
      | .quench => d.returnBooking c
      | .peak => if (d.ctx c).inWindow x.cur then d else d.ctxEvent c (R.PSQ_CH_STAT_PEAK_OVR c)
      | .none => d
    d.updateHeld (c / 16) x.cur

/-- Moves a context to the abort sequence from an MT (09 R272). -/
def Dev.toAbort (d : Dev) (c t : Nat) : Dev :=
  (d.setCtx c { d.ctx c with abort := some 0, ditA := 0, ditNext := none, cur := t, stall := none }).beginPhase c

/-- A context's leave window is over at t: its booking is returned, and a peak-class phase that still runs has overrun it (09 R268). -/
def Dev.closeWindow (d : Dev) (c t : Nat) : Dev :=
  let x := d.ctx c
  if x.booking.isSome && decide (x.winEnd < t) then
    let d := d.returnBooking c
    if x.cls = .peak then d.ctxEvent c (R.PSQ_CH_STAT_PEAK_OVR c) else d
  else d

/-- A microcode word meets a detection: counted, and the context holds its drive and target (09 R284). -/
def Dev.microDetect (d : Dev) (c : Nat) (fails : Bool) : Dev :=
  let b := c / 16
  let x := d.ctx c
  let d := d.setCtx c { x with stall := some (d.now, fails), drive := x.hDrive, tgt := x.hTgt, cls := x.hCls }
  let d := (d.count (R.PSQ_BANK_INTEG_CNT b)).psqEvent b (R.PSQ_BANK_EVT_INTEG b)
  d.ctxEvent c (R.PSQ_CH_STAT_REDO c)

/-- A context comes to its next word: an armed injection corrupts it, a repeated peak of a group member ends the profile
(09 R281), else its phase begins. -/
def Dev.enterWord (d : Dev) (c : Nat) : Dev :=
  let x := d.ctx c
  let w := d.ctxWord c
  let sel := some (c / 16)
  if d.injected 9 sel && x.abort.isNone then
    let twice := d.injectedTwice 9 sel
    let d := (d.injectDone 9 sel).setCtx c { x with hDrive := x.drive, hTgt := x.tgt, hCls := x.cls }
    d.microDetect c twice
  else if wordClass w x.holdA x.cls == .peak && psqOp w != 9 && x.leftPeak && x.abort.isNone &&
      (d.groupOfMember c).isSome then
    (d.toAbort c x.cur).progErr c 2
  else d.beginPhase c

/-- Goes on at a word from an MT. -/
def Dev.goTo (d : Dev) (c pc t : Nat) : Dev :=
  let d := d.closeWindow c t
  match (d.ctx c).abort with
  | some k => (d.setCtx c { d.ctx c with abort := some (k + 1), cur := t }).beginPhase c
  | none => ((d.setCtx c { d.ctx c with cur := t }).setPc c pc).enterWord c

/-- Goes on at the next word. -/
def Dev.goNext (d : Dev) (c t : Nat) : Dev := d.goTo c ((d.ctx c).pc + 1) t

/-- After an untimed instruction: the 32nd in a row ends the profile (09 R267), else the context goes on. -/
def Dev.afterUntimed (d : Dev) (c pc : Nat) : Dev :=
  let x := d.ctx c
  if 32 ≤ x.untimed + 1 then (d.toAbort c x.cur).progErr c 1
  else (d.setCtx c { x with untimed := x.untimed + 1 }).goTo c pc x.cur

/-- The present MT on the 10 ns grid. -/
def Dev.grid10 (d : Dev) : Nat := d.now / 40 * 40

/-- An instruction command: the context runs, is not stalled, and stands at a word of this OP; a detection in the word stalls
it, else it executes. -/
def Dev.psqExec (d : Dev) (c op : Nat) (det : Bool) (f : Ctx → Word → Dev) : Dev :=
  let x := d.ctx c
  let w := d.ctxWord c
  if d.domOn 6 && d.running c && x.stall.isNone && decide (psqOp w = op) && decide (x.cur ≤ d.now) then
    if det && x.abort.isNone then d.microDetect c false else f x w
  else d

/-- Whether a channel's profile stands at an END that is due: its end takes place in this step (04 R139). -/
def Dev.endDue (d : Dev) (c : Nat) : Bool :=
  let x := d.ctx c
  d.domOn 6 && d.running c && x.stall.isNone && decide (psqOp (d.ctxWord c) = 0) && decide (x.cur ≤ d.now)

/-- Whether a duration in µs from a context's time cursor has passed. -/
def Dev.phaseOver (d : Dev) (x : Ctx) (us : Nat) : Bool := decide (x.cur + usTicks us ≤ d.now)

/-- A timed phase of t µs ends at its start plus t. -/
def Dev.endTimed (d : Dev) (c : Nat) (x : Ctx) (us : Nat) : Dev :=
  if d.phaseOver x us then d.goNext c (x.cur + usTicks us) else d

/-- The target of a RAMP at e ticks of t µs, rounded to the nearest 10 mA with ties upwards (09 R266). -/
def rampTarget (t0 i e t : Nat) : Nat :=
  let n : Int := ((i : Int) - t0) * e
  let q : Int := t * 4000
  ((t0 : Int) + (2 * n + q) / (2 * q)).toNat

/-- The RAMP target at a regulation period start (09 R266). -/
def Dev.rampStep (d : Dev) (c t : Nat) : Dev :=
  let x := d.ctx c
  let w := d.ctxWord c
  if psqOp w = 4 ∧ x.drive = .reg ∧ x.stall = none then
    let us := psqT w
    if us = 0 ∨ x.cur + usTicks us ≤ t then d.setCtx c { x with tgt := psqI w }
    else d.setCtx c { x with tgt := rampTarget x.rampT0 (psqI w) (t - x.cur) us }
  else d

/-- A regulation period starts at t: a new period and a new dither take effect, the RAMP target moves, and the period has its target (09
R266, R268, R269). -/
def Dev.regPeriod (d : Dev) (c t : Nat) : Dev :=
  let d := d.closeWindow c (t + 1)
  let x := d.ctx c
  let x := match x.perNext with
    | some p => { x with period := p, perNext := none }
    | none => x
  let x := match x.ditNext with
    | some (a, p) => { x with ditA := a, ditP := p, ditAt := t, ditNext := none }
    | none => x
  let d := (d.setCtx c x).rampStep c t
  d.setCtx c { d.ctx c with aim := d.aimAt c t }

/-! ### Closing detection (09 R274, R275) -/

/-- The state of the detection loop: imax, and after a dip imin with tmin. -/
def kinkLoop (krise kdrop : Int) : Int → Option (Int × Nat) → List KinkSample → Option (Nat × Nat)
  | _, _, [] => none
  | imax, none, s :: l =>
    let i := s.i.toInt
    let m := max imax i
    if i < m - kdrop * 10 then kinkLoop krise kdrop m (some (i, s.t.toNat)) l else kinkLoop krise kdrop m none l
  | imax, some (imin, tmin), s :: l =>
    let i := s.i.toInt
    let p := if i < imin then (i, s.t.toNat) else (imin, tmin)
    if p.1 + krise ≤ i then some (p.2, s.t.toNat) else kinkLoop krise kdrop imax (some p) l

/-- The close MT and the MT of the confirming sample. -/
def kink (x : Ctx) (l : List KinkSample) : Option (Nat × Nat) :=
  kinkLoop x.krise x.kdrop 0 none (l.filter fun s => decide (x.cur + usTicks (100 * x.kblank) ≤ s.t.toNat))

/-- Records a detection (09 R275). -/
def Dev.recordClose (d : Dev) (c t : Nat) : Dev :=
  let d := d.setReg64 (R.PSQ_CH_CLOSE_LO c) (R.PSQ_CH_CLOSE_HI c) t
  (d.setReg (R.PSQ_CH_CLOSE_T c) (BitVec.ofNat 32 ((t - (d.ctx c).start) / 4000))).ctxEvent c (R.PSQ_CH_STAT_CLOSED c)

/-! ### Starts (09 R265, R271, R278 to R280) -/

/-- The half of a bank that will be active at an MT (09 R283). -/
def Dev.halfAt (d : Dev) (b t : Nat) : Nat :=
  let h := d.fld (R.PSQ_BANK_STAT_ACT_HALF b)
  match (d.psqBank b).swapAt with
  | some s => if s ≤ t then 1 - h else h
  | none => h

/-- Whether an image will be active at an MT. -/
def Dev.imageAt (d : Dev) (b t : Nat) : Bool :=
  d.flag (R.PSQ_BANK_STAT_ACT_VALID b) || (match (d.psqBank b).swapAt with | some s => decide (s ≤ t) | none => false)

/-- Whether a mode can run a profile: HS, LS or HB. -/
def profMode (m : Nat) : Bool := decide (m = 1 ∨ m = 2 ∨ m = 3)

/-- The target check of a PSQ_START for an entry fired at an MT (09 R265, 07 R204). -/
def Dev.psqAccepts (d : Dev) (c : Nat) (arg policy fire : Nat) : Bool :=
  let b := c / 16
  let e := d.psqEntry b (d.halfAt b fire) arg
  d.acceptsProfile c && decide (arg < 32) && d.imageAt b fire && decide (e ≠ 0) && profMode (d.mode c) &&
    (entRelease e || !d.flag (R.PSQ_CH_STAT_COIL_HOT c)) && (d.groupOfFeeder c).isNone &&
    (match d.groupOfMember c with
     | some g =>
       let f := d.feederOf b g
       decide (policy ≠ 2) && decide (d.mode f = 1) && decide (d.owner f = 2) && !d.flag (R.CH_STAT_SAFE f) &&
         !d.flag (R.CH_STAT_LATCHED f)
     | none => true)

/-- The length in µs of a start's leave window (09 R265). -/
def Dev.psqWindow (d : Dev) (c : Nat) (e : BitVec 64) (policy maxLate : Nat) : Nat :=
  (if (d.groupOfMember c).isSome ∧ policy = 1 then maxLate else 0) + entPeakUs e

/-- The current booking of a KIND 0 start, if any (09 R265, 16 R458, R462). -/
def Dev.psqLeave (d : Dev) (x : Entry) : Option LeaveReq :=
  let b := x.target / 16
  let e := d.psqEntry b (d.halfAt b x.final) (bitsOf x.arg 0 8)
  if entRelease e then none
  else some { bank := some b, amount := entPeakA e, mw := 0, start := x.final, us := d.psqWindow x.target e x.policy x.maxLate,
              safety := d.flag (R.CH_CFG_SAFETY x.target), req := 0, owner := x.ins }

/-- The booking made at the commit of an entry. -/
def Dev.bookingOf (d : Dev) (ins : Nat) : Option Nat := (d.pwr.books.find? fun k => k.req == 0 && k.owner == ins).map (·.id)

/-- The context with which a profile starts (09 R266). -/
def Dev.freshCtx (d : Dev) (c : Nat) (e : BitVec 64) (x : Entry) (edge : Nat) : Ctx :=
  let m := d.mode c
  let noPath := (m = 1 ∨ m = 2) ∧ d.flag (R.PSQ_CH_CFG_FW_EXT c) = false
  { Ctx.init with
    half := d.halfAt (c / 16) edge
    pc := entAddr e
    cur := edge
    drive := (d.ctx c).drive
    fast := decide noPath
    period := max 1000 (min 1000000 (d.fld (R.CH_PWM_PERIOD_PERIOD c)))
    start := edge
    winEnd := x.final + usTicks (d.psqWindow c e x.policy x.maxLate)
    peakA := entPeakA e
    holdA := entHoldA e
    booking := d.bookingOf x.ins
    op := d.sch.nextOp
    tw := (d.ctx c).tw
    coilAt := (d.ctx c).coilAt
    rmAt := (d.ctx c).rmAt }

/-- A KIND 0 start places its first edge: a running profile ends in that step, the new context begins (09 R271, R279). -/
def Dev.beginProfile (d : Dev) (c : Nat) (e : BitVec 64) (x : Entry) (edge : Nat) : Dev :=
  let d := if d.running c then (d.returnBooking c).endOp (d.ctx c).op edge else d
  let d := if (d.ctx c).drive.isOff then d.stageOff c edge else d
  let y := d.freshCtx c e x edge
  let d := d.setCtx c y
  let ref := match x.src with | .host r _ => some r | _ => none
  let d := (d.startOp ref 0x04 c).count (R.PSQ_CH_START_CNT c)
  let d := (d.setFlag (R.PSQ_CH_STAT_RUN c) true).setFlag (R.PSQ_CH_STAT_OLD_IMG c) false
  let d := (d.setFld (R.PSQ_CH_STAT_PC c) (entAddr e)).freeOldHalf (c / 16)
  (d.setFlag (R.CH_STAT_CMD_ON c) true).enterWord c

/-- A KIND 1 start moves a running profile to its release code (09 R271). -/
def Dev.releaseProfile (d : Dev) (c addr edge : Nat) : Dev :=
  ((d.setCtx c { d.ctx c with abort := none, stall := none, cur := edge }).setPc c addr).enterWord c

/-- Drops a held-back or refused start of a group member: counted (09 R280). -/
def Dev.countDrop (d : Dev) (b : Nat) : Dev := (d.count (R.PSQ_BANK_DROP_CNT b)).psqEvent b (R.PSQ_BANK_EVT_DROP b)

/-- Removes a held-back start. -/
def Dev.unhold (d : Dev) (c : Nat) : Dev :=
  let b := c / 16
  let x := d.psqBank b
  (d.setPsqBank b { x with held := x.held.filter fun h => h.chan != c }).setFlag (R.PSQ_CH_STAT_WAITING c) false

/-- The held-back start of a channel. -/
def Dev.heldOf (d : Dev) (c : Nat) : Option HeldStart := (d.psqBank (c / 16)).held.find? fun h => h.chan == c

/-- The bookings of an entry end (16 R460). -/
def Dev.endLeave (d : Dev) (ins : Nat) : Dev := d.endBookingsOf 0 ins

/-- A start that its target does not begin completes DROPPED_LATE (09 R272, R280). -/
def Dev.dropStart (d : Dev) (x : Entry) (detail : Nat) : Dev :=
  let d := ((d.endLeave x.ins).count R.SCH_DROP_CNT).schEvent R.SCH_EVT_DROP
  (d.raiseFault Src.schDrop 0).outcome x St.droppedLate detail

/-- The placed event of a PSQ_START that the channel still accepts (09 R271, R280); a swap since the commit may have left its
entry undefined, and the start then has no effect (07 R206). -/
def Dev.placeStart (d : Dev) (x : Entry) (placed : Nat) : Dev :=
  let c := x.target
  let b := c / 16
  let p := bitsOf x.arg 0 8
  let e := d.psqEntry b (d.halfAt b placed) p
  if e = 0 then ((d.chEvent c (R.CH_STAT_IGN c)).endLeave x.ins).firedInVain x
  else if entRelease e then
    if d.running c then
      let r := d.psqEntry b (d.ctx c).half p
      if entRelease r && decide (r ≠ 0) then (d.releaseProfile c (entAddr r) placed).fired x placed else d.fired x placed
    else (d.chEvent c (R.CH_STAT_IGN c)).firedInVain x
  else
    let held := match d.groupOfMember c with | some g => d.heldBack c g (entHoldA e) | none => false
    if held then
      if x.policy = 1 then
        let y := d.psqBank b
        let d := d.setPsqBank b { y with held := y.held ++ [{ chan := c, ent := x, holdA := entHoldA e, free := none }] }
        (d.setFlag (R.PSQ_CH_STAT_WAITING c) true).count (R.PSQ_BANK_WAIT_CNT b)
      else (d.countDrop b).dropStart x 0
    else (d.beginProfile c e x placed).fired x placed

/-- A held-back start begins at its free MT, unless its channel has become unable to accept it (09 R280, 07 R206). -/
def Dev.beginHeld (d : Dev) (h : HeldStart) (edge : Nat) : Dev :=
  let c := h.chan
  let b := c / 16
  let e := d.psqEntry b (d.halfAt b edge) (bitsOf h.ent.arg 0 8)
  let d := d.unhold c
  let x := { h.ent with late := h.ent.late + (edge - h.ent.final) }
  if d.acceptsProfile c && decide (e ≠ 0) then (d.beginProfile c e h.ent edge).fired x edge
  else (((d.chEvent c (R.CH_STAT_IGN c)).endLeave x.ins).firedInVain x).updateHeld b edge

/-- Whether a held-back start is the first of its group in schedule order. -/
def Dev.heldFirst (d : Dev) (h : HeldStart) : Bool :=
  (d.psqBank (h.chan / 16)).held.all fun k =>
    k.chan == h.chan || d.groupOfMember k.chan != d.groupOfMember h.chan || !k.ent.before h.ent

/-! ### The coil model (09 R276, R277) -/

/-- The ambient of a channel's coil in 10⁻⁶ °C. -/
def Dev.coilAmb (d : Dev) (c : Nat) : Int :=
  if d.flag (R.PSQ_BANK_CTRL_AMB_SRC (c / 16)) then d.fldInt (R.PSQ_BANK_AMB_AMB (c / 16)) * 100000
  else (Config.dieTemp (dieOf c) d.now).toInt * 1000000

/-- One step of the winding estimate: tw in 10⁻⁶ °C, ambient, R20 in mΩ, mean of current squared in mA², RTH in 0.01 K/W, TAU
in 0.1 s, a new measured resistance; each quotient is rounded towards minus infinity (DESIGN CHOICE, notes/assumptions/27.md). -/
def coilStep (tw amb : Int) (r20 i2 rth tau : Nat) (rm : Option Nat) : Int :=
  let k : Int := 10 ^ 11 + 393 * (tw - 20000000)
  let tw := tw + ((amb - tw) * 10 ^ 16 + (i2 * r20 * rth : Nat) * k) / (10 ^ 18 * (tau : Int))
  match rm with
  | some m => tw + ((20000000 - tw) * (393 * r20 : Nat) + ((m : Int) - r20) * 10 ^ 11) / (16 * 393 * r20 : Nat)
  | none => tw

/-- TW_WARN as it acts, in 10⁻⁶ °C. -/
def Dev.twWarn (d : Dev) (c : Nat) : Int :=
  let l : Int := d.fld (R.PSQ_CH_COIL_LIM_TW_LIM c)
  let w : Int := d.fld (R.PSQ_CH_COIL_LIM_TW_WARN c)
  (if l ≤ w then l - 10 else w) * 1000000

/-- TW_LIM in 10⁻⁶ °C. -/
def Dev.twLim (d : Dev) (c : Nat) : Int := (d.fld (R.PSQ_CH_COIL_LIM_TW_LIM c) : Int) * 1000000

/-- The winding estimate in 10⁻⁶ °C: it starts at the ambient when PD6 powers on, which is the die's temperature then (09 R276). -/
def Dev.twOf (d : Dev) (c : Nat) : Int :=
  match (d.ctx c).tw with
  | some t => t
  | none => (Config.dieTemp (dieOf c) d.psq.onAt).toInt * 1000000

/-- The measured resistance in mΩ, from the mean terminal voltage in mV and the mean current in mA of 10 ms of a hold phase without
dither that had lasted 20 ms: the coil voltage is against VF in LS; rounded to nearest with ties upwards (09 R276). -/
def Dev.coilRm (d : Dev) (c mv ma : Nat) : Option Nat :=
  let x := d.ctx c
  let v := if d.mode c = 2 then d.fld (R.CH_BANK_VF_VF (c / 16)) - mv else mv
  if d.running c && decide (x.cls = .hold ∧ x.drive = .reg ∧ x.ditA = 0 ∧ ma ≠ 0) &&
      decide (max (x.cur + msTicks 20) x.rmAt + msTicks 10 ≤ d.now) then some (min 65535 ((2000 * v + ma) / (2 * ma)))
  else none

/-- A new winding estimate: shown, warned of and limited (09 R277). -/
def Dev.setTw (d : Dev) (c : Nat) (tw : Int) : Dev :=
  let old := d.twOf c
  let d := d.setCtx c { d.ctx c with tw := some tw }
  let d := d.setFld (R.PSQ_CH_COIL_TW_TW c) (ofInt 16 (tw / 100000))
  let d := if old < d.twWarn c ∧ d.twWarn c ≤ tw then d.ctxEvent c (R.PSQ_CH_STAT_COIL_WARN c) else d
  if d.twLim c ≤ tw then
    if d.flag (R.PSQ_CH_STAT_COIL_HOT c) then d
    else (d.setFlag (R.PSQ_CH_STAT_COIL_HOT c) true).setLine Src.psqCoilOt (bankMask (c / 16))
  else if tw < d.twLim c - 10000000 then
    let d := d.setFlag (R.PSQ_CH_STAT_COIL_HOT c) false
    d.settleLine Src.psqCoilOt ((List.range 128).any fun k => d.flag (R.PSQ_CH_STAT_COIL_HOT k))
  else d

/-! ### Loading and swapping (09 R282, R283) -/

/-- The banks a load names. -/
def Dev.loadBanks (d : Dev) : List Nat := (List.range 8).filter fun b => (d.reg R.PSQ_LD_CFG).getLsbD b

/-- A write to PSQ_LD_CMD: GO is ignored while BUSY. -/
def Dev.writeLdCmd (d : Dev) (v : Word) : Dev :=
  if v.getLsbD 0 && !d.flag R.PSQ_LD_STAT_BUSY then d.setFlag R.PSQ_LD_STAT_BUSY true else d

/-- REASON and failing word of a load, if it fails. -/
def Dev.loadFault (d : Dev) (img : Option (List Word)) : Option (Nat × Nat) :=
  let banks := d.loadBanks
  match img with
  | none => some (0, 1)
  | some ws =>
    match imageBad ws (banks.any fun b => decide (b < 2)) (banks.any fun b => decide (2 ≤ b)) with
    | some r => some r
    | none =>
      let g := d.fld R.PSQ_LD_CFG_GEN
      if g = 0 ∨ banks.any (fun b => decide (d.fld (R.PSQ_BANK_GEN_ACT_GEN b) = g)) = true then some (0, 4)
      else if banks.any fun b => d.flag (R.PSQ_BANK_STAT_OLD_BUSY b) then some (0, 5) else none

/-- Writes an image into the second half of a bank and stages it. -/
def Dev.stageImage (d : Dev) (b : Nat) (ws : List Word) : Dev :=
  let h := 1 - d.fld (R.PSQ_BANK_STAT_ACT_HALF b)
  let x := d.psqBank b
  let store := (ws.zipIdx).foldl (fun l p => sparsePut (fun _ => 0) l (512 * h + p.2) p.1) x.store
  let at_ := if d.flag R.PSQ_LD_CFG_SRC then some (d.reg R.PSQ_LD_ADDR_LO).toNat else none
  let d := d.setPsqBank b { x with store := store, src := sparsePut (fun _ => none) x.src h at_, swapAt := none }
  let d := (d.setFlag (R.PSQ_BANK_STAT_STG_VALID b) true).setFld (R.PSQ_BANK_GEN_STG_GEN b) (d.fld R.PSQ_LD_CFG_GEN)
  d.psqEvent b (R.PSQ_BANK_EVT_LOADED b)

/-- A load finishes. -/
def Dev.endPsqLoad (d : Dev) (img : Option (List Word)) : Dev :=
  let d' := (d.setFlag R.PSQ_LD_STAT_BUSY false).setFlag R.PSQ_LD_STAT_DONE true
  match d.loadFault img with
  | some (k, r) =>
    let d' := ((d'.setFlag R.PSQ_LD_STAT_ERR true).setFld R.PSQ_LD_STAT_REASON r).setFld R.PSQ_LD_STAT_WORD k
    d'.forAll d.loadBanks fun b d => d.psqEvent b (R.PSQ_BANK_EVT_LOAD_ERR b)
  | none => d'.forAll d.loadBanks fun b d => d.stageImage b (img.getD [])

/-- Discards a staged image. -/
def Dev.dropStaged09 (d : Dev) (b : Nat) : Dev :=
  let d := d.setPsqBank b { d.psqBank b with swapAt := none }
  (d.setFlag (R.PSQ_BANK_STAT_STG_VALID b) false).setFld (R.PSQ_BANK_GEN_STG_GEN b) 0

/-- A write to PSQ_BANK_CMD. -/
def Dev.writeBankCmd (d : Dev) (b : Nat) (v : Word) : Dev :=
  let t := max (d.reg64 (R.PSQ_BANK_SWAP_MT_LO b) (R.PSQ_BANK_SWAP_MT_HI b)) (d.now + usTicks 100)
  let d := if v.getLsbD 0 && d.flag (R.PSQ_BANK_STAT_STG_VALID b) then
      d.setPsqBank b { d.psqBank b with swapAt := some ((t + 39) / 40 * 40) }
    else d
  if v.getLsbD 1 then d.dropStaged09 b else d

/-- The staged image becomes active; profiles that run finish in the old one. -/
def Dev.swapImage (d : Dev) (b : Nat) : Dev :=
  let g := d.fld (R.PSQ_BANK_GEN_STG_GEN b)
  let h := d.fld (R.PSQ_BANK_STAT_ACT_HALF b)
  let run := (bankChans b).filter fun c => d.running c && decide ((d.ctx c).half = h)
  let d := d.dropStaged09 b
  let d := (d.setFld (R.PSQ_BANK_STAT_ACT_HALF b) (1 - h)).setFlag (R.PSQ_BANK_STAT_ACT_VALID b) true
  let d := d.setFld (R.PSQ_BANK_GEN_ACT_GEN b) g
  let d := d.forAll run fun c d => d.setFlag (R.PSQ_CH_STAT_OLD_IMG c) true
  (d.setFlag (R.PSQ_BANK_STAT_OLD_BUSY b) (!run.isEmpty)).psqEvent b (R.PSQ_BANK_EVT_SWAPPED b)

/-! ### Valve groups (09 R278) -/

/-- Whether a write to a group register is ignored. -/
def Dev.grpRefused (d : Dev) (b g : Nat) (lim : Bool) (v : Word) : Bool :=
  let busy := (d.feederOf b g :: d.membersOf b g).any d.running
  if lim then busy
  else
    let m := bitsOf v 4 16
    let f := bitsOf v 0 4
    let new := f :: ((List.range 16).filter fun i => m.testBit i)
    busy || decide (4 < ((List.range 16).filter fun i => m.testBit i).length) || m.testBit f ||
      new.any (fun i => d.running (16 * b + i)) ||
      (v.getLsbD 31 && (List.range 4).any fun k => decide (k ≠ g) && d.flag (R.PSQ_GRP_CFG_EN b k) &&
        (d.feederOf b k :: d.membersOf b k).any fun c => new.contains (c - 16 * b))

/-- A write to PSQ_GRPg_CFG or PSQ_GRPg_LIM. -/
def Dev.writeGrp (d : Dev) (b g : Nat) (lim : Bool) (v : Word) : Dev :=
  if d.grpRefused b g lim v then d.psqEvent b (R.PSQ_BANK_EVT_GRP_ERR b)
  else d.writeByCode (if lim then R.PSQ_GRP_LIM b g else R.PSQ_GRP_CFG b g) v

/-! ### Commands -/

/-- END (09 R266): all switches off, the profile ends at its time cursor. -/
def execPsqEnd (c : Fin 128) (det : Bool) (s : State) : Host.Outcome State Fault Refusal :=
  onDev s fun d => d.psqExec c 0x0 det fun x _ => d.finishAt c x.cur

/-- BOOST (09 R266, R267, R268): full drive until the current, in mA, has reached the smaller of I and the limit of the phase, or t has
passed. -/
def execPsqBoost (c : Fin 128) (ma : BitVec 32) (det : Bool) (s : State) : Host.Outcome State Fault Refusal :=
  onDev s fun d => d.psqExec c 0x1 det fun x w =>
    let t := if psqT w = 0 then 65535 else psqT w
    if 10 * (d.ctxTarget c : Int) ≤ ma.toInt then d.goNext c d.grid10
    else if d.phaseOver x t then (d.ctxEvent c (R.PSQ_CH_STAT_BOOST_TO c)).goNext c (x.cur + usTicks t) else d

/-- PEAK (09 R266). -/
def execPsqPeak (c : Fin 128) (det : Bool) (s : State) : Host.Outcome State Fault Refusal :=
  onDev s fun d => d.psqExec c 0x2 det fun x w => d.endTimed c x (max 1 (psqT w))

/-- HOLD (09 R266): with t = 0 it lasts until release, replacement, abort or kill. -/
def execPsqHold (c : Fin 128) (det : Bool) (s : State) : Host.Outcome State Fault Refusal :=
  onDev s fun d => d.psqExec c 0x3 det fun x w => if psqT w = 0 then d else d.endTimed c x (psqT w)

/-- RAMP (09 R266): at the end of t the target is I. -/
def execPsqRamp (c : Fin 128) (det : Bool) (s : State) : Host.Outcome State Fault Refusal :=
  onDev s fun d => d.psqExec c 0x4 det fun x w =>
    if d.phaseOver x (psqT w) then (d.setCtx c { x with tgt := psqI w }).goNext c (x.cur + usTicks (psqT w)) else d

/-- DITHER (09 R266): from the next regulation period. -/
def execPsqDither (c : Fin 128) (det : Bool) (s : State) : Host.Outcome State Fault Refusal :=
  onDev s fun d => d.psqExec c 0x5 det fun x w =>
    (d.setCtx c { x with ditNext := some (psqI w, max 200 (min 2000 (psqT w))) }).afterUntimed c (x.pc + 1)

/-- QUENCH (09 R266, R267): drive off until the magnitude of the current, in mA, is below I, or t has passed. -/
def execPsqQuench (c : Fin 128) (ma : BitVec 32) (det : Bool) (s : State) : Host.Outcome State Fault Refusal :=
  onDev s fun d => d.psqExec c 0x6 det fun x w =>
    let t := bitsOf w 0 15
    if ma.toInt.natAbs < 10 * psqI w then d.goNext c d.grid10
    else if d.phaseOver x t then (d.ctxEvent c (R.PSQ_CH_STAT_QUENCH_TO c)).goNext c (x.cur + usTicks t) else d

/-- DECAY (09 R266). -/
def execPsqDecay (c : Fin 128) (det : Bool) (s : State) : Host.Outcome State Fault Refusal :=
  onDev s fun d => d.psqExec c 0x7 det fun x w => (d.setCtx c { x with fast := w.getLsbD 0 }).afterUntimed c (x.pc + 1)

/-- PERIOD (09 R266): from the next period start. -/
def execPsqPeriod (c : Fin 128) (det : Bool) (s : State) : Host.Outcome State Fault Refusal :=
  onDev s fun d => d.psqExec c 0x8 det fun x w =>
    (d.setCtx c { x with perNext := some (max 1000 (min 100000 (bitsOf w 0 20))) }).afterUntimed c (x.pc + 1)

/-- WAIT (09 R266): keeps the present drive and target. -/
def execPsqWait (c : Fin 128) (det : Bool) (s : State) : Host.Outcome State Fault Refusal :=
  onDev s fun d => d.psqExec c 0x9 det fun x w => d.endTimed c x (bitsOf w 0 24)

/-- WKINK (09 R266, R267, R274, R275): the samples read so far; on a kink that is known before t has passed the next word, 1.20 µs
after the confirming sample at the soonest; on a timeout a jump. -/
def execPsqWkink (c : Fin 128) (samples : List KinkSample) (det : Bool) (s : State) : Host.Outcome State Fault Refusal :=
  onDev s fun d => d.psqExec c 0xA det fun x w =>
    let t := if psqT w = 0 then 65535 else psqT w
    match (kink x samples).filter fun p => decide (p.2 + 4800 ≤ x.cur + usTicks t) with
    | some (tmin, conf) => if conf + 4800 ≤ d.now then (d.recordClose c tmin).goNext c d.grid10 else d
    | none =>
      if d.phaseOver x t then
        let d := ((d.ctxEvent c (R.PSQ_CH_STAT_NO_CLOSE c)).count (R.PSQ_CH_NOCLOSE_CNT c)).raiseFault Src.psqNoclose
          (bankMask (c / 16))
        d.goTo c (bitsOf w 16 9) (x.cur + usTicks t)
      else d

/-- KSET (09 R266). -/
def execPsqKset (c : Fin 128) (det : Bool) (s : State) : Host.Outcome State Fault Refusal :=
  onDev s fun d => d.psqExec c 0xB det fun x w =>
    (d.setCtx c { x with kblank := bitsOf w 20 8, krise := bitsOf w 8 12, kdrop := bitsOf w 0 8 }).afterUntimed c (x.pc + 1)

/-- LDC (09 R266). -/
def execPsqLdc (c : Fin 128) (det : Bool) (s : State) : Host.Outcome State Fault Refusal :=
  onDev s fun d => d.psqExec c 0xC det fun x w => (d.setCtx c { x with lc := psqT w }).afterUntimed c (x.pc + 1)

/-- DJNZ (09 R266): LC wraps from 0 to 65,535. -/
def execPsqDjnz (c : Fin 128) (det : Bool) (s : State) : Host.Outcome State Fault Refusal :=
  onDev s fun d => d.psqExec c 0xD det fun x w =>
    let lc := (x.lc + 65535) % 65536
    (d.setCtx c { x with lc := lc }).afterUntimed c (if lc = 0 then x.pc + 1 else psqAddr w)

/-- JMP (09 R266). -/
def execPsqJmp (c : Fin 128) (det : Bool) (s : State) : Host.Outcome State Fault Refusal :=
  onDev s fun d => d.psqExec c 0xE det fun _ w => d.afterUntimed c (psqAddr w)

/-- MARK of a profile (09 R266): the time cursor and TAG. -/
def execPsqMark (c : Fin 128) (det : Bool) (s : State) : Host.Outcome State Fault Refusal :=
  onDev s fun d => d.psqExec c 0xF det fun x w =>
    let d := d.setReg (R.PSQ_CH_MARK_LO c) (BitVec.ofNat 32 x.cur)
    let d := d.setReg (R.PSQ_CH_MARK_HI c) (BitVec.ofNat 32 (x.cur / 2 ^ 32 % 2 ^ 24 + bitsOf w 0 8 * 2 ^ 24))
    (d.ctxEvent c (R.PSQ_CH_STAT_MARK c)).afterUntimed c (x.pc + 1)

/-- COIL_MODEL_UPDATE (09 R276, R277): at each multiple of 1 ms the mean of the current squared over the last 1 ms in mA², and the mean
terminal voltage in mV and current in mA over the last 10 ms, which give a resistance in a hold phase. -/
def execCoilModelUpdate (c : Fin 128) (i2mean : BitVec 64) (x : CoilMean) (s : State) : Host.Outcome State Fault Refusal :=
  onDev s fun d =>
    let t := d.now / msTicks 1 * msTicks 1
    if d.domOn 6 && decide ((d.ctx c).coilAt < t) then
      let rm := d.coilRm c x.mv.toNat x.ma.toNat
      let d := match rm with
        | some m => (d.setFld (R.PSQ_CH_COIL_RM_RM c) m).setCtx c { d.ctx c with coilAt := t, rmAt := d.now }
        | none => d.setCtx c { d.ctx c with coilAt := t }
      let r20 := d.fld (R.PSQ_CH_COIL_R_R20 c)
      if r20 = 0 then d
      else d.setTw c (coilStep (d.twOf c) (d.coilAmb c) r20 i2mean.toNat (d.fld (R.PSQ_CH_COIL_TH_RTH c))
        (max 1 (d.fld (R.PSQ_CH_COIL_TH_TAU c))) rm)
    else d

/-- HELD_START_RELEASE (09 R280): the start of a channel begins at its free MT. -/
def execHeldStartRelease (c : Fin 128) (s : State) : Host.Outcome State Fault Refusal :=
  onDev s fun d =>
    match d.heldOf c with
    | some h =>
      match h.free with
      | some t => if t ≤ d.now ∧ d.heldFirst h = true then d.beginHeld h t else d
      | none => d
    | none => d

/-- HELD_START_DROP (09 R280): a start still held back at fire time + MAX_LATE − 2.00 µs. -/
def execHeldStartDrop (c : Fin 128) (s : State) : Host.Outcome State Fault Refusal :=
  onDev s fun d =>
    match d.heldOf c with
    | some h =>
      if h.free = none ∧ h.ent.final + usTicks h.ent.maxLate ≤ d.now + 8000 then
        ((d.unhold c).countDrop (c / 16)).dropStart h.ent (h.ent.maxLate * 100)
      else d
    | none => d

/-- GO (09 R282): the written word of PSQ_LD_CMD. -/
def execGo (v : BitVec 32) (s : State) : Host.Outcome State Fault Refusal :=
  onDev s fun d => d.access R.PSQ_LD_CMD fun d => d.writeLdCmd v

/-- PSQ_SWAP (09 R283): the written word of PSQ_BANK_CMD. -/
def execPsqSwap (b : Fin 8) (v : BitVec 32) (s : State) : Host.Outcome State Fault Refusal :=
  onDev s fun d => d.access (R.PSQ_BANK_CMD b) fun d => d.writeBankCmd b v

/-- PSQ_SWAP_POINT (09 R283). -/
def execPsqSwapPoint (b : Fin 8) (s : State) : Host.Outcome State Fault Refusal :=
  onDev s fun d =>
    match (d.psqBank b).swapAt with
    | some t => if t ≤ d.now then d.swapImage b else d
    | none => d

/-- PSQ_DROP_STG (09 R283). -/
def execPsqDropStg (b : Fin 8) (v : BitVec 32) (s : State) : Host.Outcome State Fault Refusal :=
  onDev s fun d => d.access (R.PSQ_BANK_CMD b) fun d => d.writeBankCmd b v

/-- GRP_CFG_WRITE (09 R278). -/
def execGrpCfgWrite (b : Fin 8) (g : Fin 4) (lim : Bool) (v : BitVec 32) (s : State) : Host.Outcome State Fault Refusal :=
  onDev s fun d => d.access (R.PSQ_GRP_CFG b g) fun d => d.writeGrp b g lim v

/-- PWM_PERIOD_START (07 R207, R208, R205, R223, 09 R269, 15 R445): a period start that has come and was not taken yet: a regulation
period of a profile, or a PWM period, whose duty waits while a pulse runs; t is its MT, the newest one at which a period starts. -/
def execPwmPeriodStart (c : Fin 128) (t : BitVec 64) (s : State) : Host.Outcome State Fault Refusal :=
  onChan s c fun d =>
    let t := t.toNat
    let x := d.chan c
    if t = d.pwmStart c d.now ∧ x.perAt < t then
      if d.running c then
        let d := d.setChan c { x with perAt := t, offEdge := none }
        (if d.pwmEn c then d.judgePeriod c else d).regPeriod c t
      else if isOutput (d.mode c) && decide (d.leader c = c) && d.pwmRuns c && x.on && decide (x.pwmFrom ≤ t) then
        d.pwmPeriod c t
      else d
    else d

end Sys2Proof.Machine
end

