-- ==== Sys2Proof/Machine/Commit.lean ====
section
/-! DEFINITION. The sowing schedule of 04 from the commit on: commit, redo, dispatch, the placed events of every action, cancel
and abort; and their commands. -/

namespace Sys2Proof.Machine

/-! ### Commit (04 R124 to R127) -/

/-- Whether a target accepts an entry's action (04 R124; 03 R107, 07 R204, 09 R265, 10 R300, 11 R333, 13 R397, 14 R421, R423,
15 R441). -/
def Dev.targetAccepts (d : Dev) (e : Entry) : Bool :=
  let t := e.target
  let v := e.arg.toNat
  match e.action with
  | 0x01 => if v = 0 then d.acceptsOff t else if v = 1 then d.acceptsOn t else true
  | 0x02 => d.acceptsDuty t
  | 0x03 => d.acceptsPulse t
  | 0x04 => d.psqAccepts t (bitsOf e.arg 0 8) e.policy e.final
  | 0x05 => d.loopSpOk t
  | 0x06 => d.loopModeOk t v
  | 0x07 => decide (d.mode t ≠ 0)
  | 0x08 =>
    if e.src = .mt then decide (d.canMode (t % 16) = 1 ∨ d.canMode (t % 16) = 3) && (d.canc (t % 16)).modePend.isNone
    else d.canTxOk (t % 16) (t / 16)
  | 0x09 => d.ethTxOk t v
  | 0x0A => d.flipOk e.final && !d.flipCommitted
  | 0x0B => d.flag (R.MT_SYNC_CFG_OE t)
  | 0x0C => d.flag (R.MT_SYNC_CFG_OE t)
  | 0x0D => d.wakeKind t != .refuse
  | _ => true

/-- The leave of a lamp's turn-on (07 R220, R221). -/
def Dev.lampLeave (d : Dev) (e : Entry) : Option LeaveReq :=
  let c := e.target
  let a := min (d.fld (R.CH_LAMP_INRUSH_A c)) (peakUnits c)
  if a = 0 then none
  else some { bank := some (c / 16), amount := a, mw := 0, start := e.final, us := 1000 * max 1 (d.fld (R.CH_LAMP_INRUSH_MS c)),
              safety := d.flag (R.CH_CFG_SAFETY (d.leader c)), req := 0, owner := e.ins }

/-- The leave of an entry (04 R121), an ENG_WAKE's cluster leave apart. -/
def Dev.entryLeave (d : Dev) (e : Entry) : Option LeaveReq :=
  match e.action with
  | 0x01 => if e.arg = 1 then d.lampLeave e else none
  | 0x03 => d.lampLeave e
  | 0x04 => d.psqLeave e
  | 0x0A =>
    if d.fld R.LT_LEAVE_AMOUNT = 0 then none
    else some { bank := none, amount := 0, mw := 10 * d.fld R.LT_LEAVE_AMOUNT, start := e.final,
                us := 1000 * max 1 (d.fld R.LT_LEAVE_MS), safety := false, req := 0, owner := e.ins }
  | _ => none

/-- Whether an entry's late policy drops it for a lateness in ticks (04 R127). -/
def Entry.tooLate (e : Entry) (late : Nat) : Bool :=
  decide (late ≠ 0) && (decide (e.policy = 0) || (decide (e.policy = 1) && decide (e.maxLate * 4000 < late)))

/-- Fixing: the entry is committed. -/
def Dev.fixEntry (d : Dev) (e : Entry) : Dev := d.setEntry { e with st := .committed }

/-- An ENG_WAKE whose cluster is off: the cluster leave is booked and the cluster switched on, unless another request did so
(04 R124, 11 R353). -/
def Dev.commitWake (d : Dev) (e : Entry) : Dev :=
  let k := d.roleHolder e.target / 8
  let e := { e with clu := true }
  if d.pwr.on.getLsbD (4 + k) then d.fixEntry e
  else
    let r : LeaveReq := { bank := none, amount := 0, mw := 1300, start := d.now, us := 1000, safety := false, req := 4, owner := k }
    match d.decideLeave r with
    | (none, d) => (d.switchOn (4 + k)).fixEntry e
    | (some c, d) => d.denyLeave e c

/-- Steps 3 to 6 of a commit (04 R124). -/
def Dev.commitRest (d : Dev) (e : Entry) : Dev :=
  if e.action = 0x0D ∧ d.wakeKind e.target = .cluster then (if e.tooLate e.late then d.dropLate e e.late else d.commitWake e)
  else if e.action ≠ 0x0D ∧ (d.targetDoms e.action e.target).all d.domOn = false then d.notPermitted e 0x02
  else if d.targetAccepts e = false then d.notPermitted e 0x05
  else if e.tooLate e.late then d.dropLate e e.late
  else
    match d.entryLeave e with
    | none => d.fixEntry e
    | some r =>
      match d.decideLeave r with
      | (none, d) => d.fixEntry e
      | (some c, d) => d.denyLeave e c

/-- A detection in an entry or in a copy of it: counted (SCH_INTEG_CNT, SCH_EVT). -/
def Dev.schDetect (d : Dev) : Dev := (d.count R.SCH_INTEG_CNT).schEvent R.SCH_EVT_INTEG

/-- A redo fails: the entry does not fire (01 R36). -/
def Dev.redoFail (d : Dev) (e : Entry) (reason : Nat) : Dev :=
  let d := d.schEvent R.SCH_EVT_REDO_FAIL
  let d := match e.src with
    | .bnd p => (d.degrade p 2).raiseFault Src.bndInteg 0
    | _ => d.raiseFault Src.schInteg 0
  d.outcome e St.badDescriptor reason true

/-- Both copies of a committed entry fail: it does not fire, whatever its source (04 R141). -/
def Dev.copiesFail (d : Dev) (e : Entry) : Dev :=
  ((d.schEvent R.SCH_EVT_REDO_FAIL).raiseFault Src.schInteg 0).outcome e St.badDescriptor 0x06 true

/-- A commit begins: the window place, then the fire time under R126, then the detection check (04 R124 to R126). An immediate
entry keeps the fire time of its insertion and is never late (04 R133). -/
def Dev.beginCommit (d : Dev) (e : Entry) (det : Bool) : Dev :=
  let late := !e.imm && decide (e.fire < d.now + immDelay)
  let e := { e with win := true, final := if late then d.now + immDelay else e.fire
                    late := if late then d.now + immDelay - e.fire else 0 }
  let d := { d with sch := { d.sch with lastCommit := some d.mt.cyc } }
  let d := d.setEntry e
  let d := d.setFld R.SCH_WIN_PEAK_PEAK (max (d.fld R.SCH_WIN_PEAK_PEAK) d.windowUsed)
  if det || d.injected 1 none then
    let dm := d.injectedTwice 1 none
    (d.schDetect.injectDone 1 none).setEntry { e with st := .redo, doomed := dm }
  else d.commitRest e

/-- Whether it is this entry's turn to commit: immediate entries first, then the schedule order from the horizon on (04 R124,
R125, R133). -/
def Dev.commitTurn (d : Dev) (e : Entry) : Bool :=
  let w := d.sch.ents.filter fun x => x.st == .waiting
  e.st == .waiting && (e.imm || decide (e.fire ≤ d.now + horizon)) &&
    w.all fun x => x.ins == e.ins || (if x.imm == e.imm then !x.before e else e.imm)

/-- Whether a commit may begin in this REF100 cycle: one per cycle (04 R125). -/
def Dev.commitFree (d : Dev) : Bool := d.sch.lastCommit != some d.mt.cyc

/-- Whether an entry's commit finds a window place: an immediate entry always does (04 R125, R133). -/
def Dev.commitRoom (d : Dev) (e : Entry) : Bool := e.imm || decide (d.windowUsed < 960)

/-- COMMIT (04 R124, R125): one commit per REF100 cycle; with 960 places in use a commit of an entry that is not immediate
waits. -/
def execCommit (ins : BitVec 32) (det : Bool) (s : State) : Host.Outcome State Fault Refusal :=
  onDev s fun d =>
    match d.entry ins.toNat with
    | some e =>
      if d.commitTurn e && d.commitFree then
        if d.commitRoom e then d.beginCommit e det else (d.schEvent R.SCH_EVT_WIN_FULL).raiseFault Src.schWin 0
      else d
    | none => d

/-- A refetch is abandoned (01 R32, R40). -/
def Dev.abandonRedo (d : Dev) (e : Entry) : Dev := (d.count R.HL_REDO_ABANDON_CNT).redoFail e 0x06

/-- A redo succeeds: counted, and the commit goes on (01 R36, 04 R141). -/
def Dev.redoOk (d : Dev) (e : Entry) : Dev :=
  let e := { e with refetched := true, st := .waiting }
  ((d.count R.SCH_REFETCH_CNT).setEntry e).commitRest e

/-- ENTRY_REFETCH (01 R32, R33, R36, R40): the redo of an entry's commit check ends; a host entry's refetched descriptor must carry
the recorded SEQ and COOKIE and pass before the entry's dispatch instant. -/
def execEntryRefetch (ins : BitVec 32) (r : Redo) (s : State) : Host.Outcome State Fault Refusal :=
  onDev s fun d =>
    match d.entry ins.toNat with
    | some e =>
      if e.st ≠ .redo then d
      else
        match e.src, r with
        | .host ref seq, .desc w det2 =>
          if d.canMaster = false ∨ e.final < d.now + leadOf e.action then d.abandonRedo e
          else if descSeq w ≠ seq ∨ descCookie w ≠ ref.cookie then d.outcome e St.badDescriptor 0x05
          else if det2 || e.doomed then (d.schDetect).redoFail e 0x06
          else d.redoOk e
        | .host _ _, .readErr => d.abandonRedo e
        | .host _ _, .inside _ => d
        | _, .inside det2 => if det2 || e.doomed then (d.schDetect).redoFail e 0x06 else d.redoOk e
        | _, _ => d
    | none => d

/-! ### Dispatch and placement (04 R130 to R132, R141) -/

/-- DISPATCH (04 R130, R141): a committed entry at its fire time less its target's lead; the first copy is read, and on a detection
the second. -/
def execDispatch (ins : BitVec 32) (det1 det2 : Bool) (s : State) : Host.Outcome State Fault Refusal :=
  onDev s fun d =>
    match d.entry ins.toNat with
    | some e =>
      if e.st = .committed ∧ e.final ≤ d.now + leadOf e.action then
        if det1 || d.injected 2 none then
          let both := det2 || d.injectedTwice 2 none
          let d := d.schDetect.injectDone 2 none
          if both then ((d.schDetect).endLeave e.ins).copiesFail e else d.setEntry { e with st := .dispatched }
        else d.setEntry { e with st := .dispatched }
      else d
    | none => d

/-- The MT of an entry's placed event: the fire time rounded to the target's step (04 R131). -/
def Entry.placed (e : Entry) : Nat := roundTo (stepOf e.action) e.final

/-- What kind of target an action has: channel, slot, controller, port, chain, pin, role, none. -/
def targetKind (a : Nat) : Nat :=
  match a with
  | 0x05 => 1
  | 0x06 => 1
  | 0x08 => 2
  | 0x09 => 3
  | 0x0A => 4
  | 0x0B => 5
  | 0x0C => 5
  | 0x0D => 6
  | 0x0F => 7
  | _ => 0

/-- Whether a held-back start of a profile sequencer is this entry (09 R280). -/
def Dev.isHeld (d : Dev) (e : Entry) : Bool :=
  e.action == 0x04 && (d.psqBank (e.target / 16)).held.any fun h => h.ent.ins == e.ins

/-- Whether an entry may be placed now: dispatched, its placed event reached, and no earlier action on its target still to be
placed (04 R132). -/
def Dev.placeable (d : Dev) (e : Entry) (a : Nat) : Bool :=
  e.st == .dispatched && e.action == a && e.win && decide (e.placed ≤ d.now) && !d.isHeld e &&
    d.sch.ents.all fun x =>
      x.ins == e.ins || x.uncommitted || !x.win || d.isHeld x || decide (targetKind x.action ≠ targetKind e.action) ||
        decide (x.target ≠ e.target) || decide (e.placed < x.placed) || (decide (x.placed = e.placed) && e.before x)

/-- The placed event of an entry with an action code. -/
def Dev.place (d : Dev) (ins a : Nat) (f : Entry → Dev → Dev) : Dev :=
  match d.entry ins with
  | some e => if d.placeable e a then f e d else d
  | none => d

/-- A committed entry that has no effect at its placed event: its leave ends (16 R460). -/
def Dev.inVain (d : Dev) (e : Entry) : Dev := (d.endLeave e.ins).firedInVain e

/-- A channel that became unable to accept a committed action: IGN (07 R206). -/
def Dev.ignored (d : Dev) (e : Entry) : Dev := (d.chEvent e.target (R.CH_STAT_IGN e.target)).inVain e

/-- Whether a pending configuration covers a channel. -/
def CfgPend.covers (p : CfgPend) (c : Nat) : Bool := decide (p.first ≤ c ∧ c < p.first + p.recs.length)

/-- Whether a configuration of an entry's step, or of an earlier one, is still to apply to its channel (07 R237). -/
def Dev.cfgWaits (d : Dev) (e : Entry) : Bool := d.ch.cfgs.any fun p => p.covers e.target && decide (p.apply ≤ e.placed)

/-- The placed event of a channel action: a configuration of the same step applies first (07 R237); then its die's acknowledgement, then
whether the channel still accepts it (07 R206, R567). -/
def Dev.placeChan (d : Dev) (ins a : Nat) (ack : Bool) (f : Entry → Dev → Dev) : Dev :=
  d.place ins a fun e d =>
    if d.cfgWaits e then d
    else if !ack then d.inVain e
    else if a = 0x04 then (if d.acceptsProfile e.target then f e d else d.ignored e)
    else if d.targetAccepts e then f e d else d.ignored e

/-- The completion an operation of an entry can be aborted by. -/
def Entry.ref (e : Entry) : Option CplRef :=
  match e.src with
  | .host r _ => some r
  | _ => none

/-- CH_SET (07 R204, R205, R206, R567): at the entry's placed event. -/
def execChSet (ins : BitVec 32) (ack : Bool) (s : State) : Host.Outcome State Fault Refusal :=
  onDev s fun d => d.placeChan ins.toNat 0x01 ack fun e d =>
    let c := e.target
    let t := e.placed
    (if e.arg = 0 then d.commandOff c t else if e.arg = 1 then d.commandOn c t
     else Dev.feedFault (d.safeChanAt c t) c).fired e t

/-- CH_DUTY (07 R204, R205, R208): the duty that the next PWM periods take. -/
def execChDuty (ins : BitVec 32) (ack : Bool) (s : State) : Host.Outcome State Fault Refusal :=
  onDev s fun d => d.placeChan ins.toNat 0x02 ack fun e d =>
    (d.setFld (R.CH_DUTY_DUTY (d.leader e.target)) e.arg.toNat).fired e e.placed

/-- CH_PULSE (07 R204, R205): on from the fire time until fire time + width. -/
def execChPulse (ins : BitVec 32) (ack : Bool) (s : State) : Host.Outcome State Fault Refusal :=
  onDev s fun d => d.placeChan ins.toNat 0x03 ack fun e d =>
    let op := d.sch.nextOp
    ((d.startOp e.ref 0x03 (d.leader e.target)).beginPulse e.target e.placed (e.placed + 40 * e.arg.toNat) op).fired e e.placed

/-- PSQ_START (09 R265, R271, R280): the start, the release or the hold-back at the placed event. -/
def execPsqStart (ins : BitVec 32) (ack : Bool) (s : State) : Host.Outcome State Fault Refusal :=
  onDev s fun d => d.placeChan ins.toNat 0x04 ack fun e d => d.placeStart e e.placed

/-- ADC_SNAP (07 R211, R212): the filter outputs centred on the sample instant, in µA and mV before calibration. -/
def execAdcSnap (ins : BitVec 32) (ack : Bool) (cur volt : BitVec 32) (s : State) : Host.Outcome State Fault Refusal :=
  onDev s fun d => d.placeChan ins.toNat 0x07 ack fun e d =>
    let c := e.target
    let d := if e.arg.getLsbD 0 then d.setReg (R.CH_SNAP_I c) (BitVec.ofInt 32 (d.calI c cur.toInt)) else d
    let d := if e.arg.getLsbD 1 then d.setFld (R.CH_SNAP_V_V c) (d.calV c volt.toInt) else d
    (d.setReg64 (R.CH_SNAP_MT_LO c) (R.CH_SNAP_MT_HI c) e.placed).fired e e.placed

/-- A loop action is latched by its slot, or has no effect (10 R299, R300, R308). -/
def Dev.placeLoop (d : Dev) (e : Entry) (a : LoopAct) : Dev :=
  match d.loopLatch e.target a (d.targetAccepts e) with
  | (d, true) => d.fired e e.placed
  | (d, false) => d.inVain e

/-- LOOP_SP (10 R299, R300). -/
def execLoopSp (ins : BitVec 32) (s : State) : Host.Outcome State Fault Refusal :=
  onDev s fun d => d.place ins.toNat 0x05 fun e d => d.placeLoop e (.sp e.arg.toInt e.final)

/-- LOOP_MODE (10 R300, R308). -/
def execLoopMode (ins : BitVec 32) (s : State) : Host.Outcome State Fault Refusal :=
  onDev s fun d => d.place ins.toNat 0x06 fun e d => d.placeLoop e (.mode e.arg.toNat e.final)

/-- CAN_TX (14 R418, R421, R423): the frame becomes pending; the entry completes when the frame has left. -/
def execCanTx (ins : BitVec 32) (det : Bool) (s : State) : Host.Outcome State Fault Refusal :=
  onDev s fun d => d.place ins.toNat 0x08 fun e d => d.placeCan e det

/-- ETH_TX (13 R397). -/
def execEthTx (ins : BitVec 32) (s : State) : Host.Outcome State Fault Refusal :=
  onDev s fun d => d.place ins.toNat 0x09 fun e d =>
    match d.launchEth e.target e.arg.toNat with
    | (d, true) => d.fired e e.placed
    | (d, false) => d.inVain e

/-- LT_FLIP (15 R440, R441): the chain is latched; a flip whose shift has not ended yet waits for SHIFT_END. -/
def execLtFlip (ins : BitVec 32) (s : State) : Host.Outcome State Fault Refusal :=
  onDev s fun d => d.place ins.toNat 0x0A fun e d =>
    if d.flag R.LT_CTRL_EN && d.flag R.LT_STAT_SEALED then
      if d.backReady then (d.flip e.placed).fired e e.placed else d
    else d.inVain e

/-- The placed event of a SYNC action: nothing happens on a pin whose OE is 0 (03 R107); else a running pulse's operation ends at
this edge (03 R106). -/
def Dev.placeSync (d : Dev) (e : Entry) (f : Dev → Dev) : Dev :=
  if d.flag (R.MT_SYNC_CFG_OE e.target) then (f (d.syncCut e.target e.placed)).fired e e.placed else d.inVain e

/-- SYNC_LVL (03 R106). -/
def execSyncLvl (ins : BitVec 32) (s : State) : Host.Outcome State Fault Refusal :=
  onDev s fun d => d.place ins.toNat 0x0B fun e d =>
    d.placeSync e fun d => d.setSync e.target { d.sync e.target with lvl := e.arg.getLsbD 0 }

/-- The width of a SYNC_PULSE in ticks: its ARG, or DEFW with 0 (03 R106, MT_SYNCn_CFG). -/
def Dev.syncWidth (d : Dev) (e : Entry) : Nat :=
  40 * (if e.arg = 0 then max 1 (d.fld (R.MT_SYNC_CFG_DEFW e.target)) else e.arg.toNat)

/-- SYNC_PULSE (03 R106). -/
def execSyncPulse (ins : BitVec 32) (s : State) : Host.Outcome State Fault Refusal :=
  onDev s fun d => d.place ins.toNat 0x0C fun e d =>
    d.placeSync e fun d =>
      let op := d.sch.nextOp
      (d.startOp e.ref 0x0C e.target).setSync e.target
        { lvl := !d.flag (R.MT_SYNC_CFG_IDLE e.target), pulse := some (e.placed + d.syncWidth e, op) }

/-- A wake that waited for its cluster: once the engine is loaded it starts, or the engine that runs already takes the event bits,
under the entry's late policy (04 R124, 11 R353). -/
def Dev.clusterWake (d : Dev) (e : Entry) (n : Nat) : Dev :=
  let late := if e.placed < d.now then d.now - e.fire else e.late
  let e := { e with late := late }
  let run := decide (d.engSt n = 1 ∨ d.engSt n = 2)
  if d.domOn (engDom n) = false ∨ d.engSt n = 3 then d
  else if run || (decide (d.engSt n = 0) && d.flag (R.ENG_STAT_IMG_VALID n)) then
    if e.tooLate late then d.dropLate e late
    else if run then (d.orEvb n (e.arg &&& 0xFFFF#32)).fired e d.now
    else (d.startEng n (d.engEntry n true) (e.arg &&& 0xFFFF#32) d.now).fired e d.now
  else d.inVain e

/-- ENG_WAKE (11 R333, R350, R353): the event bits reach the engine that holds the role, or it starts at WENTRY. -/
def execEngWake (ins : BitVec 32) (s : State) : Host.Outcome State Fault Refusal :=
  onDev s fun d => d.place ins.toNat 0x0D fun e d =>
    let n := d.roleHolder e.target
    let v := e.arg &&& 0xFFFF#32
    if e.clu then d.clusterWake e n
    else
      match d.wakeKind e.target with
      | .deliver => (d.orEvb n v).fired e (if d.now < (d.engine n).notBefore then (d.engine n).notBefore else e.placed)
      | .start => (d.startEng n (d.engEntry n true) v d.now).fired e e.placed
      | _ => d.inVain e

/-- MARK (04 R121). -/
def execMark (ins : BitVec 32) (s : State) : Host.Outcome State Fault Refusal :=
  onDev s fun d => d.place ins.toNat 0x0F fun e d => d.fired e e.placed

/-! ### Cancel and abort (04 R135 to R139) -/

/-- The field at which a schedule-cancel descriptor fails (04 R135). -/
def cancelBad (w : BitVec 256) : Option Nat :=
  let m := bitsOf w 32 2
  firstBad [(1, decide (bitsOf w 13 3 ≠ 0)), (4, decide (m = 3 ∨ bitsOf w 34 6 ≠ 0) || (w.getLsbD 12 && decide (m ≠ 0))),
            (5, decide (bitsOf w 40 24 ≠ 0)), (16, decide (m = 1 ∧ descField w 16 2 = 0)), (18, decide (descField w 18 6 ≠ 0))]

/-- Whether an owed completion belongs to an entry of the ring that carries a descriptor, with a cookie (04 R136). -/
def CplRef.mine (r : CplRef) (a : AccDesc) (epoch : Nat) : Bool := r.sq == a.ref.sq && decide (r.epoch = epoch) && decide (a.ref.epoch = epoch)

/-- Whether a cancel names an entry (04 R135, R136). -/
def Dev.cancelNames (d : Dev) (a : AccDesc) (e : Entry) : Bool :=
  match e.src with
  | .host r _ =>
    r.mine a d.hl.epoch &&
      (match bitsOf a.word 32 2 with
       | 0 => decide (r.cookie.toNat = descField a.word 8 8)
       | 1 => decide (e.group = descField a.word 16 2)
       | _ => true)
  | _ => false

/-- A cancel reaches one entry: removed while uncommitted; a CAN_TX by its controller, which sees it one step later; any other
is left to fire (04 R136, R138; 14 R422). -/
def Dev.cancelOne (d : Dev) (c : WaitCancel) (e : Entry) : Dev × WaitCancel :=
  if e.uncommitted then (d.cancelEntry e, { c with removed := c.removed + 1 })
  else if e.action = 0x08 then
    let n := e.target % 16
    let m := e.target / 16
    if e.win then ((d.count R.SCH_CANCEL_CNT).outcome e St.cancelled ((d.now + 40) % 2 ^ 32), { c with removed := c.removed + 1 })
    else
      match d.cancelCan n m (d.now + 40) with
      | (d, .withdrawn) => (d, { c with removed := c.removed + 1 })
      | (d, .held) => (d, { c with frames := c.frames ++ [(n, m)] })
      | (d, .none) => (d, { c with left := c.left + 1 })
  else (d, { c with left := c.left + 1 })

/-- The entry, among those that satisfy a test, whose commit falls in this very step (04 R137). -/
def Dev.commitDue (d : Dev) (p : Entry → Bool) : Option Entry :=
  if d.commitFree then d.sch.ents.find? fun e => p e && d.commitTurn e && d.commitRoom e else none

/-- The commit that takes place in this step takes place before a cancel of its entry (04 R137). Answers the entry's number. -/
def Dev.commitFirst (d : Dev) (p : Entry → Bool) : Dev × Option Nat :=
  match d.commitDue p with
  | some e => (d.beginCommit e false, some e.ins)
  | none => (d, none)

/-- Whether an entry's commit has begun in this step and is still in its redo: a cancel of this step does not remove it. -/
def Entry.keptBy (e : Entry) (first : Option Nat) : Bool := first == some e.ins && e.uncommitted

/-- A schedule-cancel descriptor without ABORT (04 R136 to R138). -/
def Dev.cancelDesc (d : Dev) (a : AccDesc) : Dev :=
  let c : WaitCancel := { ref := a.ref, mode := bitsOf a.word 32 2, removed := 0, left := 0, frames := [], sof := none }
  let q := d.commitFirst (d.cancelNames a)
  let r := (q.1.sch.ents.filter (q.1.cancelNames a)).foldl
    (fun p e => if e.keptBy q.2 then (p.1, { p.2 with left := p.2.left + 1 }) else p.1.cancelOne p.2 e) (q.1, c)
  if r.2.frames.isEmpty then r.1.finishCancel r.2
  else { r.1 with sch := { r.1.sch with cancels := r.1.sch.cancels ++ [r.2] } }

/-- The running pulse of a channel that belongs to an operation, whose trailing edge is not dispatched yet. -/
def Dev.pulseOf (d : Dev) (o : RunOp) : Option Nat :=
  if o.action = 0x03 then
    match (d.chan o.target).pulse with
    | some (t, op) => if op = o.id then some t else none
    | none => none
  else if o.action = 0x0C then
    match (d.sync o.target).pulse with
    | some (t, op) => if op = o.id then some t else none
    | none => none
  else none

/-- The abort of a running operation: the pulse or the profile is cut now, unless its end is committed already or falls in this step
(04 R139, 09 R272). Answers the MT for DETAIL and whether the abort is ignored. -/
def Dev.abortRun (d : Dev) (o : RunOp) : Dev × Nat × Bool :=
  match d.pulseOf o with
  | some t =>
    if t ≤ d.now + leadOf o.action then (d, t, true)
    else if o.action = 0x03 then
      let c := o.target
      let d := d.cutPulse c d.now
      let d := (d.endRetry c).stageOff c d.now
      (d.forAll (d.group c) fun k d => d.setFlag (R.CH_STAT_CMD_ON k) false, d.now, false)
    else (((d.syncCut o.target d.now).setSync o.target { lvl := d.flag (R.MT_SYNC_CFG_IDLE o.target), pulse := none }), d.now, false)
  | none =>
    if o.action = 0x04 ∧ d.running o.target = true ∧ (d.ctx o.target).op = o.id then
      if d.endDue o.target then (d.finishAt o.target (d.ctx o.target).cur, (d.ctx o.target).cur, true)
      else (if (d.ctx o.target).abort.isNone then d.toAbort o.target d.now else d, d.now, false)
    else (d, 0, true)

/-- A schedule-cancel descriptor with ABORT (04 R139, 09 R272). -/
def Dev.abortDesc (d : Dev) (a : AccDesc) : Dev :=
  let names := fun r : Option CplRef => match r with
    | some r => r.mine a d.hl.epoch && decide (r.cookie.toNat = descField a.word 8 8)
    | none => false
  let helds := (List.range 8).flatMap fun b => (d.psqBank b).held
  match helds.find? fun h => names h.ent.ref with
  | some h =>
    let d := ((d.unhold h.chan).countDrop (h.chan / 16)).dropStart h.ent (lateUnits (h.ent.late + (d.now - h.ent.final)))
    d.complete a.ref St.ok (d.now % 2 ^ 32) 0x04
  | none =>
    let ops := (d.sch.ops.filter fun o => names o.ref).reverse
    match ops.find? fun o => o.fin.isNone with
    | some o =>
      let r := d.abortRun o
      r.1.complete a.ref St.ok (r.2.1 % 2 ^ 32) 0x04 (if r.2.2 then 1 else 0)
    | none =>
      match ops.head? with
      | some o => d.complete a.ref St.ok (o.fin.getD 0 % 2 ^ 32) 0x04 1
      | none => d.complete a.ref St.ok 0 0x04 1

/-- A schedule-cancel descriptor's share of SCHEDULE_CANCEL and of ABORT: the check of R135, then the effect. -/
def Dev.cancelAny (d : Dev) (a : AccDesc) : Dev :=
  match cancelBad a.word with
  | some off => d.completeBad a.ref off 0x04
  | none => if a.word.getLsbD 12 then d.abortDesc a else d.cancelDesc a

/-- SCHEDULE_CANCEL (04 R135 to R138): the oldest cancel that may pass, with ABORT at 0. -/
def execScheduleCancel (s : State) : Host.Outcome State Fault Refusal :=
  onDev s fun d => d.withSched (fun w => descType w == 0x11 && !w.getLsbD 12) fun a d => d.cancelAny a

/-- ABORT (04 R139): the oldest cancel that may pass, with ABORT at 1. -/
def execAbort (s : State) : Host.Outcome State Fault Refusal :=
  onDev s fun d => d.withSched (fun w => descType w == 0x11 && w.getLsbD 12) fun a d => d.cancelAny a

/-! ### EMIT blocks (04 R123, 11 R334, R335) -/

/-- A group cancel of an engine: its uncommitted entries of the group, named by bytes 16 and 17 of the block, are removed; its
notice counts them and those found committed (04 R123, 11 R335). -/
def Dev.groupCancel (d : Dev) (n addr : Nat) (f : ActFields) : Dev :=
  let g := f.maxLate
  match firstBad [(1, f.resFlags), (13, f.res13), (20, decide (g = 0))] with
  | some off => d.failEmit n addr St.badDescriptor (badAt off)
  | none =>
    let p := fun e : Entry => decide (e.group = g) && (match e.src with | .eng k _ => k == n | _ => false)
    let q := d.commitFirst p
    let d := q.1
    let mine := d.sch.ents.filter p
    let gone := mine.filter fun e => e.uncommitted && !e.keptBy q.2
    let d := gone.foldl (fun d e => d.cancelEntry e) d
    d.pushNotice n { addr := addr, status := St.ok, failed := false
                     detail := BitVec.ofNat 32 (gone.length + 65536 * (mine.length - gone.length)) }

/-- The schedule reads an EMIT block: a group cancel, or an entry (04 R123). -/
def Dev.takeBlock (d : Dev) (n addr : Nat) : Dev :=
  let f := actOfEmit (BitVec.ofNat 192 ((d.engine n).num addr 24))
  if f.action = 0 then d.groupCancel n addr f else d.insertEmit n addr f

end Sys2Proof.Machine
end

