-- ==== Sys2Proof/Machine/Keys.lean ====
section
/-! DEFINITION. The key vault of 18: the functions of the named standards over those of Machine/Crypto.lean, slots, the key table of 19
R523, key operations, the entropy source and tamper; and the commands of those sections. -/

namespace Sys2Proof.Machine

/-! ### Functions of the named standards (18 R489 to R492) -/

/-- A block from bytes, most significant first. -/
def blockOf (l : List Byte) : BitVec 128 := BitVec.ofNat 128 (beBytesVal l)

/-- The bytes of a block, most significant first. -/
def blockBytes (x : BitVec 128) : List Byte := beBytes 16 x.toNat

/-- SHA-256 as bytes. -/
def hashOf (l : List Byte) : List Byte := digestBytes (sha256Of l)

/-- HMAC-SHA-256 (FIPS 198-1). -/
def hmacOf (k m : List Byte) : List Byte :=
  let k := if 64 < k.length then hashOf k else k
  let k := k ++ List.replicate (64 - k.length) 0
  hashOf (k.map (· ^^^ 0x5C) ++ hashOf (k.map (· ^^^ 0x36) ++ m))

/-- Blocks of 16 bytes; the last may be short. -/
def blocksOf (l : List Byte) : List (List Byte) := (List.range ((l.length + 15) / 16)).map fun i => (l.drop (16 * i)).take 16

/-- Doubling in the field of CMAC (NIST SP 800-38B). -/
def cmacDouble (x : BitVec 128) : BitVec 128 := if x.getLsbD 127 then (x <<< 1) ^^^ 0x87#128 else x <<< 1

/-- AES-CMAC (NIST SP 800-38B): 16 bytes. -/
def cmacOf (k m : List Byte) : List Byte :=
  let k1 := cmacDouble (aesEnc k 0)
  let n := if m = [] then 1 else (m.length + 15) / 16
  let last := m.drop (16 * (n - 1))
  let tail := if last.length = 16 then blockOf last ^^^ k1
    else blockOf (last ++ 0x80#8 :: List.replicate (15 - last.length) 0) ^^^ cmacDouble k1
  let x := (blocksOf (m.take (16 * (n - 1)))).foldl (fun x b => aesEnc k (x ^^^ blockOf b)) 0
  blockBytes (aesEnc k (x ^^^ tail))

/-- AES in counter mode from an initial counter block, which counts up as one 128-bit number (PRESUMED, notes/assumptions/47.md). -/
def ctrOf (k : List Byte) (iv : BitVec 128) (l : List Byte) : List Byte :=
  l.zipIdx.map fun p =>
    p.1 ^^^ ((blockBytes (aesEnc k (iv + BitVec.ofNat 128 (p.2 / 16)))).getD (p.2 % 16) 0)

/-- One step of the unwrapping of AES Key Wrap: register A and the semiblocks, with the step number from 1 (NIST SP 800-38F). -/
def unwrapStep (k : List Byte) (n : Nat) (x : Nat × List Nat) (t : Nat) : Nat × List Nat :=
  let i := (t - 1) % n
  let b := (aesDec k (BitVec.ofNat 128 (Nat.xor x.1 t * 2 ^ 64 + x.2.getD i 0))).toNat
  (b / 2 ^ 64, x.2.set i (b % 2 ^ 64))

/-- AES Key Wrap removed: the plaintext, or none when the integrity check fails (NIST SP 800-38F, KW). -/
def unwrapOf (k c : List Byte) : Option (List Byte) :=
  let n := c.length / 8 - 1
  let r := (List.range n).map fun i => beAt c (8 + 8 * i) 8
  let x := (List.range (6 * n)).foldl (fun x j => unwrapStep k n x (6 * n - j)) (beAt c 0 8, r)
  if x.1 = 0xA6A6A6A6A6A6A6A6 then some (x.2.flatMap (beBytes 8)) else none

/-- The counter-mode KDF of R491: n bytes from a parent key, label and context. -/
def kdfOf (k label context : List Byte) (n : Nat) : List Byte :=
  (hmacOf k (beBytes 4 1 ++ label ++ 0#8 :: context ++ beBytes 4 (8 * n))).take n

/-! ### Slots (R489, R490, R503) -/

/-- The length of a key of a KIND. -/
def keyLen (kind : Nat) : Nat :=
  match kind with
  | 1 => 16
  | 2 => 32
  | 3 => 32
  | 4 => 64
  | _ => 0

/-- Events of the vault. -/
def Dev.keyEvent (d : Dev) (f : Fld) : Dev := d.event R.KEY_EVT f.lo R.KEY_IEN R.KEY_VEC

/-- The key in a slot. -/
def Dev.slotKey (d : Dev) (s : Nat) : List Byte := sparseGet (fun _ => []) d.key.keys s

/-- A bit of a slot's USAGE. -/
def Dev.slotUse (d : Dev) (s bit : Nat) : Bool := (d.fld (R.KEY_SLOT_USAGE s)).testBit bit

/-- Whether a slot may be used: VALID, not REVOKED, and not in RETIRED (R490, 00 R6). -/
def Dev.slotLive (d : Dev) (nv : Nv) (s : Nat) : Bool :=
  d.flag (R.KEY_SLOT_VALID s) && !d.flag (R.KEY_SLOT_REVOKED s) && decide (nv.life ≠ 2)

/-- Whether a slot may be used for a KIND and a USAGE bit. -/
def Dev.slotFits (d : Dev) (nv : Nv) (s : Nat) (kinds uses : List Nat) : Bool :=
  d.slotLive nv s && kinds.contains (d.fld (R.KEY_SLOT_KIND s)) && uses.all (d.slotUse s)

/-- Whether a slot stands below another slot. -/
def Dev.hasParent (d : Dev) (s : Nat) : Bool :=
  decide (d.fld (R.KEY_SLOT_ORIGIN s) ≠ 0) && !d.flag (R.KEY_SLOT_PARENT_ROOT s)

/-- The slots above a slot, nearest first, over at most k links. -/
def Dev.ancestors (d : Dev) : Nat → Nat → List Nat
  | 0, _ => []
  | k + 1, s =>
    if d.hasParent s then d.fld (R.KEY_SLOT_PARENT s) :: d.ancestors k (d.fld (R.KEY_SLOT_PARENT s)) else []

/-- The levels of a slot below the root; a slot without a parent slot lies on the first. -/
def Dev.depth (d : Dev) (s : Nat) : Nat := (d.ancestors 128 s).length + 1

/-- The VALID slots that descend from a slot and do not read REVOKED yet. -/
def Dev.descendants (d : Dev) (s : Nat) : List Nat :=
  (List.range 128).filter fun k =>
    k != s && d.flag (R.KEY_SLOT_VALID k) && !d.flag (R.KEY_SLOT_REVOKED k) && (d.ancestors 128 k).contains s

/-- Whether the release stream's keys may be used (R517). -/
def Dev.relKeys (d : Dev) (nv : Nv) : Bool :=
  d.slotFits nv (d.fld R.ACC_KEYS_KEYE) [1, 2] [0, 6] && d.slotFits nv (d.fld R.ACC_KEYS_KEYM) [1, 2] [2, 6]

/-- The stream stops when one of its keys has become unusable (R503, R518). -/
def Dev.streamKeys (d : Dev) (nv : Nv) : Dev := if d.acc.next.isSome && !d.relKeys nv then d.stopStream 3 else d

/-- Every slot that descends from a slot reads REVOKED, and a stream that uses one stops (R503). -/
def Dev.revokeBelow (d : Dev) (nv : Nv) (s : Nat) : Dev :=
  let l := d.descendants s
  let d := d.forAll l fun k d => d.setFlag (R.KEY_SLOT_REVOKED k) true
  (if l = [] then d else d.keyEvent R.KEY_EVT_REVOKED).streamKeys nv

/-- A slot's redo fails, or it has no source: unusable, INTEG, KEY_INTEG (R495, R503). -/
def Dev.killSlot (d : Dev) (nv : Nv) (s : Nat) : Dev :=
  let d := { d with key := { d.key with keys := sparsePut (fun _ => []) d.key.keys s [] } }
  let d := (d.setFlag (R.KEY_SLOT_VALID s) false).setFlag (R.KEY_SLOT_INTEG s) true
  ((d.keyEvent R.KEY_EVT_INTEG).raiseFault Src.keyInteg 0).revokeBelow nv s

/-- What the use of a slot meets: with a detection the key is redone from its source, or the slot is lost; `det` says whether
the redo succeeds, an armed injection detects by itself (R495, 17 R486). -/
def Dev.useSlot (d : Dev) (nv : Nv) (s : Nat) (det : Option Bool) : Dev :=
  let inj := d.injected 14 (some s)
  let twice := d.injectedTwice 14 (some s)
  let seen := inj || det.isSome
  let d := d.injectDone 14 (some s)
  if seen && d.flag (R.KEY_SLOT_VALID s) then
    let d := d.count R.KEY_INTEG_CNT
    if twice || det == some false || (sparseGet (fun _ => none) d.key.src s).isNone then d.killSlot nv s else d
  else d

/-- The ATTR word of a KIND and a USAGE. -/
def attrWord (kind usage : Nat) : Word := BitVec.ofNat 32 (kind + 256 * usage)

/-- Writes a slot: its key, its ATTR, its origin and parent (none: the root) and its source; in SEALED the WRITTEN fuse is blown and
the ATTR word fused (R489, R493). -/
def Dev.writeSlot (d : Dev) (nv : Nv) (s : Nat) (kind usage origin : Nat) (parent : Option Nat) (key : List Byte)
    (src : Option KeyRec) : Dev × Nv :=
  let nv := if nv.life = 1 then { nv with written := sparsePut (fun _ => none) nv.written s (some (attrWord kind usage)) } else nv
  let d := { d with key := { d.key with keys := sparsePut (fun _ => []) d.key.keys s key
                                        src := sparsePut (fun _ => none) d.key.src s src
                                        filled := if d.key.filled.contains s then d.key.filled else s :: d.key.filled } }
  let d := ((d.setFld (R.KEY_SLOT_KIND s) kind).setFld (R.KEY_SLOT_USAGE s) usage).setFld (R.KEY_SLOT_ORIGIN s) origin
  let d := (d.setFld (R.KEY_SLOT_PARENT s) (parent.getD 0)).setFlag (R.KEY_SLOT_PARENT_ROOT s) (parent.isNone && decide (origin ≠ 0))
  let d := (d.setFlag (R.KEY_SLOT_VALID s) true).setFlag (R.KEY_SLOT_REVOKED s) (nv.revoked.getLsbD s)
  (d.setFlag (R.KEY_SLOT_FUSED s) (sparseGet (fun _ => none) nv.written s).isSome, nv)

/-- Whether R493 lets DERIVE and UNWRAP write a slot with an ATTR word, once the lifecycle state and the slot's VALID bit do. -/
def Dev.attrOk (d : Dev) (nv : Nv) (s : Nat) (attr : Word) : Bool :=
  match sparseGet (fun _ => none) nv.written s with
  | some a => decide (nv.life = 0) || (decide (a = attr) && !d.key.filled.contains s)
  | none => true

/-! ### The key table (19 R523) -/

/-- Whether a later record takes an earlier one's place: the latest of a slot, of a token (an ENROL stays beside its TOK_REVOKE, whose
ID it holds), of the verifier, of the reservation. -/
def KeyRec.supersedes (r q : KeyRec) : Bool :=
  let slotRec := fun (x : KeyRec) => decide (x.type = 1 ∨ x.type = 2 ∨ x.type = 6)
  let tokRec := fun (x : KeyRec) => decide (x.type = 3 ∨ x.type = 5)
  (slotRec r && slotRec q && r.target == q.target) ||
  (tokRec r && tokRec q && r.target == q.target && decide (r.type = 3 ∨ q.type = 5)) ||
  decide (r.type = 4 ∧ q.type = 4) || decide (r.type = 7 ∧ q.type = 7)

/-- The latest records of a table, in their order. -/
def latestRecs : List KeyRec → List KeyRec
  | [] => []
  | r :: t => if t.any fun q => q.supersedes r then latestRecs t else r :: latestRecs t

/-- Records that a half of the key table holds. -/
def halfRecs : Nat := 1024

/-- Appends a record; a full half is first copied, as far as its records are the latest, into the other half. -/
def Nv.append (nv : Nv) (r : KeyRec) : Nv :=
  let nv := if halfRecs ≤ nv.keyTab.length then { nv with keyTab := latestRecs nv.keyTab, keyHalf := 1 - nv.keyHalf } else nv
  { nv with keyTab := nv.keyTab ++ [{ r with seq := nv.keySeq % 65536 }], keySeq := nv.keySeq + 1 }

/-- An append asks leave; refused, it waits (16 R462). -/
def Dev.appendRec (d : Dev) (nv : Nv) (r : KeyRec) : Dev × Nv :=
  match d.askJob (.append r) with
  | (true, d) => (d, nv.append r)
  | (false, d) => (d.waitJob (.append r), nv)

/-! ### Operations (R504, R505) -/

/-- OP of a key-operation descriptor. -/
def keyOp (w : BitVec 256) : Nat := byteOf w 4

/-- SLOT. -/
def keySlot (w : BitVec 256) : Nat := byteOf w 5

/-- AUX. -/
def keyAux (w : BitVec 256) : Nat := byteOf w 6

/-- ADDR. -/
def keyAddr (w : BitVec 256) : Nat := descField w 8 8

/-- IN_LEN. -/
def keyIn (w : BitVec 256) : Nat := descField w 16 4

/-- OUT_OFS. -/
def keyOut (w : BitVec 256) : Nat := descField w 20 4

/-- The operations of R504. -/
def isKeyOp (op : Nat) : Bool :=
  [0x01, 0x02, 0x03, 0x04, 0x10, 0x11, 0x12, 0x13, 0x14, 0x15, 0x16, 0x17, 0x18, 0x20, 0x30, 0x31, 0x32].contains op

/-- Whether SLOT lies in the table. -/
def keySlotOk (op s : Nat) : Bool :=
  match op with
  | 0x02 => decide (s < 128 ∨ s = 0xFF)
  | 0x16 => decide (s = 0xFF)
  | 0x18 => decide (s = 0xFF)
  | 0x20 => decide (s = 0xFF)
  | 0x31 => decide (s = 0xFF)
  | _ => decide (s < 128)

/-- Whether AUX lies in the table. -/
def keyAuxOk (op x : Nat) : Bool :=
  match op with
  | 0x02 => decide (x < 128)
  | 0x03 => decide (x < 128)
  | 0x30 => decide (x < 16)
  | 0x31 => decide (x < 16)
  | _ => decide (x = 0)

/-- Whether IN_LEN lies in the table. -/
def keyInOk (op n : Nat) : Bool :=
  match op with
  | 0x01 => decide (n = 24 ∨ n = 40 ∨ n = 72)
  | 0x02 => decide (n = 40)
  | 0x03 => decide (n = 32 ∨ n = 48 ∨ n = 80)
  | 0x10 => decide (17 ≤ n ∧ n ≤ 16400)
  | 0x11 => decide (17 ≤ n ∧ n ≤ 16400)
  | 0x12 => decide (n ≤ 16384)
  | 0x13 => decide (16 ≤ n ∧ n ≤ 16400)
  | 0x14 => decide (n ≤ 16384)
  | 0x15 => decide (32 ≤ n ∧ n ≤ 16416)
  | 0x16 => decide (n ≤ 16384)
  | 0x17 => decide (n = 96)
  | 0x18 => decide (1 ≤ n ∧ n ≤ 4096)
  | 0x30 => decide (n = 40)
  | 0x32 => decide (n = 16)
  | _ => decide (n = 0)

/-- The bytes of an operation's output. -/
def keyOutLen (op n : Nat) : Nat :=
  match op with
  | 0x10 => n - 16
  | 0x11 => n - 16
  | 0x12 => 16
  | 0x14 => 32
  | 0x16 => 32
  | 0x18 => n
  | _ => 0

/-- Whether OUT_OFS lies in the table. -/
def keyOutOk (op n out : Nat) : Bool :=
  if [0x10, 0x11, 0x12, 0x14, 0x16, 0x18].contains op then decide (out % 16 = 0 ∧ n ≤ out) else decide (out = 0)

/-- The lowest offset of a field that fails (R505, first row). -/
def Dev.keyBad (d : Dev) (w : BitVec 256) : Option Nat :=
  let op := keyOp w
  let s := keySlot w
  firstBad [(1, decide (bitsOf w 12 4 ≠ 0)), (4, !isKeyOp op),
            (5, !keySlotOk op s || (decide ((op = 0x02 ∨ op = 0x03) ∧ s < 128) && d.flag (R.KEY_SLOT_VALID s) && decide (8 ≤ d.depth s))),
            (6, !keyAuxOk op (keyAux w)), (7, decide (byteOf w 7 ≠ 0)), (8, decide (keyAddr w % 16 ≠ 0)),
            (16, !keyInOk op (keyIn w)), (20, !keyOutOk op (keyIn w) (keyOut w))]

/-- Whether R493 refuses the operation in the lifecycle state, as far as its input does not matter. -/
def Dev.keyRefused (d : Dev) (nv : Nv) (w : BitVec 256) : Bool :=
  match keyOp w with
  | 0x01 => decide (nv.life ≠ 0)
  | 0x02 => decide (nv.life = 2) || (decide (nv.life = 1) && d.flag (R.KEY_SLOT_VALID (keyAux w)))
  | 0x03 => decide (nv.life = 2) || (decide (nv.life = 1) && d.flag (R.KEY_SLOT_VALID (keyAux w)))
  | 0x04 => decide (nv.life = 2)
  | 0x20 => decide (nv.life ≠ 0)
  | _ => false

/-- Whether KIND and USAGE of the slot fit the operation, and the slot or the root may be used (R490, R504). -/
def Dev.keyFits (d : Dev) (nv : Nv) (w : BitVec 256) : Bool :=
  let s := keySlot w
  match keyOp w with
  | 0x02 => if s = 0xFF then d.root.root.isSome else d.slotFits nv s [2, 3] [4]
  | 0x03 => d.slotFits nv s [1, 2] [5]
  | 0x04 => d.slotLive nv s
  | 0x10 => d.slotFits nv s [1, 2] [0]
  | 0x11 => d.slotFits nv s [1, 2] [1]
  | 0x12 => d.slotFits nv s [1, 2] [2]
  | 0x13 => d.slotFits nv s [1, 2] [3]
  | 0x14 => d.slotFits nv s [3] [2]
  | 0x15 => d.slotFits nv s [3] [3]
  | 0x17 => d.slotFits nv s [4] [3]
  | 0x30 => d.slotFits nv s [1, 2] [5, 6]
  | 0x32 => d.slotFits nv s [3] [2, 6]
  | _ => true

/-- Whether the operation runs although TAMPER_LOCKED is 1 (R502). -/
def keyOpen (op : Nat) : Bool := decide (op = 0x16 ∨ op = 0x18 ∨ op = 0x20)

/-- Whether ENROL, TOK_REVOKE or CODE_SET lacks its authorisation (R513). -/
def Dev.keyUnauth (d : Dev) (nv : Nv) (op : Nat) : Bool :=
  decide (op = 0x30 ∨ op = 0x31 ∨ op = 0x32) &&
    (d.flag R.ACC_STAT_LOCKOUT || (decide (nv.life ≠ 0) && !d.flag R.ACC_STAT_AUTH))

/-- The completion that the checks of R505 give before the input is read. -/
def Dev.keyCheck (d : Dev) (nv : Nv) (w : BitVec 256) : Option (Nat × Nat) :=
  let op := keyOp w
  match d.keyBad w with
  | some o => some (St.badDescriptor, badAt o)
  | none =>
    if d.keyRefused nv w then some (St.notPermitted, 0x03)
    else if decide (nv.life = 2) || (d.tampLock && !keyOpen op) || !d.keyFits nv w then some (St.notPermitted, 0x04)
    else if d.keyUnauth nv op then some (St.notPermitted, 0x05)
    else if !d.flag R.KEY_STAT_TRNG_OK && decide (op = 0x18 ∨ op = 0x20) then some (St.busy, 0)
    else none

/-- A key operation completes: counted, its completion handed to the host link (R501, R504). -/
def Dev.keyDone (d : Dev) (a : AccDesc) (status detail : Nat) (cflags : Nat := 0) : Dev :=
  (d.count R.KEY_OP_CNT).complete a.ref status detail 0x10 cflags

/-- A key operation's output is written and the operation completes OK. -/
def Dev.keyOutput (d : Dev) (a : AccDesc) (l : List Byte) : Dev :=
  (d.memWrite (keyAddr a.word + keyOut a.word) l).keyDone a St.ok l.length

/-- Whether a signature verification waits for leave, which holds the vault (R506). -/
def Dev.vaultBusy (d : Dev) : Bool := d.pwr.jobs.any fun j => match j.1 with | .verify _ _ => true | _ => false

/-- Key operations held (R505). -/
def Dev.keysHeld (d : Dev) : Nat := d.key.held.length + d.vaultBusy.toNat

/-- A key operation arrives: held, or, with 16 held, completed by the first failing check or BUSY. -/
def Dev.holdKey (d : Dev) (nv : Nv) (a : AccDesc) : Dev :=
  if d.keysHeld < 16 then { d with key := { d.key with held := d.key.held ++ [a] } }
  else
    match d.keyCheck nv a.word with
    | some (st, x) => d.keyDone a st x
    | none => d.keyDone a St.busy 0

/-- Key operations that may pass come from the host link in order, at most n. -/
def Dev.pullKeys (nv : Nv) : Nat → Dev → Dev
  | 0, d => d
  | n + 1, d =>
    match d.nextDesc fun w => descType w == 0x30 with
    | some a => Dev.pullKeys nv n ((d.takeDesc a).holdKey nv a)
    | none => d

/-- The held operation at the front leaves. -/
def Dev.popKey (d : Dev) : Dev := { d with key := { d.key with held := d.key.held.tail } }

/-- Operations of unknown OP at the front complete (R505). -/
def Dev.dropUnknown (nv : Nv) : Nat → Dev → Dev
  | 0, d => d
  | n + 1, d =>
    match d.key.held with
    | a :: _ =>
      if isKeyOp (keyOp a.word) then d
      else
        match d.keyCheck nv a.word with
        | some (st, x) => Dev.dropUnknown nv n (d.popKey.keyDone a st x)
        | none => d
    | [] => d

/-- Whether the input of an operation is at hand: its IN_LEN bytes as the host gives them. -/
def Dev.keyInput (d : Dev) (a : AccDesc) (data : List Byte) : Bool :=
  d.canMaster && decide (data.length = if keyOp a.word = 0x18 then 0 else keyIn a.word)

/-- One key operation of an OP: the vault takes the oldest operation when it has that OP, checks it and runs it with its input;
without its input it waits (R504 to R506). -/
def runKey (op : Nat) (data : List Byte) (det : Option Bool) (f : AccDesc → Dev → Nv → Dev × Nv) (s : State) :
    Host.Outcome State Fault Refusal :=
  let d := (s.dev.pullKeys s.nv s.dev.hl.handed.length)
  let d := if d.vaultBusy then d else d.dropUnknown s.nv d.key.held.length
  match d.key.held with
  | a :: _ =>
    if d.vaultBusy = false ∧ keyOp a.word = op ∧ d.domOn 2 = true then
      match d.keyCheck s.nv a.word with
      | some (st, x) => .next { s with dev := d.popKey.keyDone a st x }
      | none =>
        if d.keyInput a data then
          let d := d.popKey
          let d := if keySlot a.word < 128 ∧ op ≠ 0x01 then d.useSlot s.nv (keySlot a.word) det else d
          if d.keyFits s.nv a.word then
            let r := f a d s.nv
            .next { s with dev := r.1, nv := r.2 }
          else .next { s with dev := d.keyDone a St.notPermitted 0x04 }
        else .next { s with dev := d }
    else .next { s with dev := d }
  | [] => .next { s with dev := d }

/-- The header of an input (R492, R504): KIND and USAGE, when its reserved bits are 0. -/
def keyHeader (l : List Byte) : Option (Nat × Nat) :=
  let a := BitVec.ofNat 32 (ofBytes (l.take 4))
  if a &&& ~~~0x7F07#32 = 0 ∧ ofBytes ((l.drop 4).take 4) = 0 ∧ keyLen (a.toNat % 8) ≠ 0 then some (a.toNat % 8, bitsOf a 8 7) else none

/-- WRITE_CLEAR: header and key. -/
def writeClear (data : List Byte) (a : AccDesc) (d : Dev) (nv : Nv) : Dev × Nv :=
  match keyHeader data with
  | none => (d.keyDone a St.badDescriptor (badAt 8), nv)
  | some (kind, usage) =>
    if keyLen kind + 8 ≠ data.length then (d.keyDone a St.badDescriptor (badAt 16), nv)
    else
      let r := d.writeSlot nv (keySlot a.word) kind usage 0 none (data.drop 8) none
      (r.1.keyDone a St.ok 0, r.2)

/-- The record of a key operation. -/
def keyRecOf (type : Nat) (a : AccDesc) (target : Nat) (data : List Byte) : KeyRec :=
  { type := type, target := target, source := keySlot a.word, seq := 0, input := data }

/-- A slot's key and origin from the plaintext of R492 or a header with its key, in the slot that AUX names (R493), and its record. -/
def fillSlot (type : Nat) (data : List Byte) (kind usage : Nat) (key : List Byte) (a : AccDesc) (d : Dev) (nv : Nv) : Dev × Nv :=
  let t := keyAux a.word
  if !d.attrOk nv t (attrWord kind usage) then (d.keyDone a St.notPermitted 0x03, nv)
  else
    let rec_ := keyRecOf type a t data
    let p := if keySlot a.word = 0xFF then none else some (keySlot a.word)
    let r := d.writeSlot nv t kind usage type p key (some rec_)
    (r.1.keyDone a St.ok 0).appendRec r.2 rec_

/-- The key that a slot number or 0xFF for the root names. -/
def Dev.parentKey (d : Dev) (s : Nat) : List Byte :=
  if s = 0xFF then (d.root.root.map digestBytes).getD [] else d.slotKey s

/-- DERIVE: header, label, context (R491). -/
def deriveKey (data : List Byte) (a : AccDesc) (d : Dev) (nv : Nv) : Dev × Nv :=
  match keyHeader data with
  | none => (d.keyDone a St.badDescriptor (badAt 8), nv)
  | some (kind, usage) =>
    if kind = 4 then (d.keyDone a St.badDescriptor (badAt 8), nv)
    else
      let k := kdfOf (d.parentKey (keySlot a.word)) ((data.drop 8).take 16) (data.drop 24) (keyLen kind)
      fillSlot 1 data kind usage k a d nv

/-- UNWRAP: the wrapped key (R492). -/
def unwrapKey (data : List Byte) (a : AccDesc) (d : Dev) (nv : Nv) : Dev × Nv :=
  match unwrapOf (d.slotKey (keySlot a.word)) data with
  | none => (d.keyDone a St.badDescriptor (badAt 8), nv)
  | some p =>
    match keyHeader p with
    | none => (d.keyDone a St.badDescriptor (badAt 8), nv)
    | some (kind, usage) =>
      if keyLen kind + 8 ≠ p.length then (d.keyDone a St.badDescriptor (badAt 16), nv)
      else fillSlot 2 data kind usage (p.drop 8) a d nv

/-- REVOKE (R493, R503): the slot and what descends from it read REVOKED; in SEALED the slot's fuse is blown, in OPEN a record is
appended. -/
def revokeKey (a : AccDesc) (d : Dev) (nv : Nv) : Dev × Nv :=
  let s := keySlot a.word
  let n := (d.descendants s).length
  let nv := if nv.life = 1 then { nv with revoked := nv.revoked ||| BitVec.ofNat 128 (2 ^ s) } else nv
  let d := ((d.setFlag (R.KEY_SLOT_REVOKED s) true).keyEvent R.KEY_EVT_REVOKED).revokeBelow nv s
  let d := d.keyDone a St.ok n
  if nv.life = 0 then d.appendRec nv { type := 6, target := s, source := 0, seq := 0, input := [] } else (d, nv)

/-- A check of a tag completes with 1 for a match. -/
def Dev.keyVerdict (d : Dev) (a : AccDesc) (ok : Bool) (cflags : Nat := 0) : Dev := d.keyDone a St.ok ok.toNat cflags

/-- The verdict on a signature: digest, r and s under the slot's key; the FLAGS bit of R503 when the slot reads REVOKED by now. -/
def Dev.verifySig (d : Dev) (a : AccDesc) (data : List Byte) : Dev :=
  let s := keySlot a.word
  d.keyVerdict a (ecdsaOk (d.slotKey s) (data.take 32) (data.drop 32)) (if d.flag (R.KEY_SLOT_REVOKED s) then 2 else 0)

/-- ECDSA_VER asks leave first; refused, it waits and holds the vault (R506, 16 R462). -/
def Dev.askVerify (d : Dev) (a : AccDesc) (data : List Byte) : Dev :=
  match d.askJob (.verify a data) with
  | (true, d) => d.verifySig a data
  | (false, d) => d.waitJob (.verify a data)

/-- n bytes from the entropy source. -/
def Dev.drawBytes (d : Dev) : Nat → List Byte × Dev
  | 0 => ([], d)
  | n + 1 =>
    let v := d.draw
    let r := v.2.drawBytes n
    (v.1.setWidth 8 :: r.1, r.2)

/-- ROOT_GEN (R498, R502). -/
def Dev.rootGen (d : Dev) : Dev :=
  let r := d.drawBytes 32
  let d := { r.2 with root := { r.2.root with root := some (BitVec.ofNat 256 (beBytesVal r.1)) }, tampLock := false }
  ((d.setReg R.KEY_TAMP_REC 0).setReg R.KEY_TAMP_RTC_LO 0).setReg R.KEY_TAMP_RTC_HI 0

/-- ACC_STAT.ENROLLED follows the token records. -/
def Dev.showTokens (d : Dev) : Dev :=
  d.setFld R.ACC_STAT_ENROLLED (((List.range 16).map fun i =>
    if d.flag (R.ACC_TOK_STAT_ENROLLED i) && !d.flag (R.ACC_TOK_STAT_REVOKED i) then 2 ^ i else 0).sum)

/-- A token record takes an ID and a key (R514). -/
def Dev.setToken (d : Dev) (i : Nat) (id key : List Byte) : Dev :=
  let d := { d with key := { d.key with tokKeys := sparsePut (fun _ => []) d.key.tokKeys i key } }
  let d := (d.setReg (R.ACC_TOK_ID_LO i) (BitVec.ofNat 32 (ofBytes (id.take 4)))).setReg (R.ACC_TOK_ID_HI i)
    (BitVec.ofNat 32 (ofBytes (id.drop 4)))
  ((d.setReg (R.ACC_TOK_STAT i) 0).setFlag (R.ACC_TOK_STAT_ENROLLED i) true).showTokens

/-- A token record is marked revoked: its ID stays (R514). -/
def Dev.revokeToken (d : Dev) (i : Nat) : Dev := (d.setFlag (R.ACC_TOK_STAT_REVOKED i) true).showTokens

/-- The key in the AES-128 plaintext of R492. -/
def tokenKey (p : List Byte) : Option (List Byte) :=
  match keyHeader p with
  | some (1, _) => if p.length = 24 then some (p.drop 8) else none
  | _ => none

/-- ENROL: token ID and wrapped key (R514). -/
def enrolToken (data : List Byte) (a : AccDesc) (d : Dev) (nv : Nv) : Dev × Nv :=
  match (unwrapOf (d.slotKey (keySlot a.word)) (data.drop 8)).bind tokenKey with
  | none => (d.keyDone a St.badDescriptor (badAt 8), nv)
  | some k =>
    let d := (d.setToken (keyAux a.word) (data.take 8) k).accEvent R.ACC_EVT_ENROLLED
    (d.keyDone a St.ok 0).appendRec nv (keyRecOf 3 a (keyAux a.word) data)

/-! ### Entropy source (R497) -/

/-- A health test fails. -/
def Dev.trngFails (d : Dev) : Dev :=
  let d := { d with key := { d.key with trngAt := some (d.now + msTicks 10) } }
  (((d.setFlag R.KEY_STAT_TRNG_OK false).count R.KEY_TRNG_FAIL_CNT).keyEvent R.KEY_EVT_TRNG_FAIL).raiseFault Src.keyTrng 0

/-! ### Tamper (R499 to R501) -/

/-- Every slot and token key is zeroed and invalid; what descended from a slot reads REVOKED (R500, R503). -/
def Dev.zeroSlots (d : Dev) : Dev :=
  let d := { d with key := { d.key with keys := [], src := [], tokKeys := [] } }
  let d := d.forAll (List.range 128) fun s d =>
    if d.flag (R.KEY_SLOT_VALID s) then
      (d.setFlag (R.KEY_SLOT_VALID s) false).setFlag (R.KEY_SLOT_REVOKED s) (d.flag (R.KEY_SLOT_REVOKED s) || d.hasParent s)
    else d
  (d.forAll (List.range 16) fun i d => d.setFlag (R.ACC_TOK_STAT_ENROLLED i) false).showTokens

/-- A key operation aborts: zeros over its output region, completed TAMPER (R501). -/
def Dev.abortKey (d : Dev) (a : AccDesc) : Dev :=
  let n := keyOutLen (keyOp a.word) (keyIn a.word)
  let d := if d.canMaster then d.memWrite (keyAddr a.word + keyOut a.word) (List.replicate n 0) else d
  d.keyDone a St.tamper 0

/-- The operation in progress at a tamper aborts: a verification that waits for leave, or the one at the front when the command says
that it is in progress. -/
def Dev.abortKeys (d : Dev) (nv : Nv) (inOp : Bool) : Dev :=
  match d.pwr.jobs.find? fun j => match j.1 with | .verify _ _ => true | _ => false with
  | some (.verify a _, _, _) =>
    let d := { d with pwr := { d.pwr with jobs := d.pwr.jobs.filter fun j => match j.1 with | .verify _ _ => false | _ => true } }
    d.abortKey a
  | _ =>
    match d.key.held with
    | a :: _ => if inOp && (d.keyCheck nv a.word).isNone then d.popKey.abortKey a else d
    | [] => d

/-- A session ends. -/
def Dev.endSession (d : Dev) : Dev := { d with acc := { d.acc with sess := none } }.setFld R.ACC_STAT_SESSION 0

/-- What PD0 does at a tamper: root zeroed, record latched, TAMPER_LOCKED (R500). -/
def Dev.lockTamper (d : Dev) (src : Nat) (rtc : Nat) : Dev :=
  let d := { d with root := { d.root with root := none }, tampLock := true }
  let d := if d.flag R.KEY_TAMP_REC_VALID then d
    else (d.setReg R.KEY_TAMP_RTC_LO (BitVec.ofNat 32 rtc)).setReg R.KEY_TAMP_RTC_HI (BitVec.ofNat 32 (rtc / 2 ^ 32))
  (d.setFld R.KEY_TAMP_REC_SRC (Nat.lor (d.fld R.KEY_TAMP_REC_SRC) src)).setFlag R.KEY_TAMP_REC_VALID true

/-- What the rest of the module does at a tamper while PD2 is on (R500). -/
def Dev.runTamper (d : Dev) (nv : Nv) (inOp : Bool) : Dev :=
  if d.flag R.KEY_STAT_READY then
    let d := (d.abortKeys nv inOp).zeroSlots
    let d := if d.acc.sess.isSome then d.endSession else d
    let d := if d.acc.next.isSome then d.stopStream 4 else { d with acc := { d.acc with wait := false } }
    (d.keyEvent R.KEY_EVT_TAMPER).setLine Src.keyTamper 0
  else d.zeroSlots

/-- A compare of the mesh pattern, every 1 ms (32 whole RTC cycles); answers whether the pattern is in its tamper condition: it differs on
two compares in a row; with no compare the condition stays (R499; DEDUCED, notes/assumptions/49.md). -/
def Dev.meshSample (d : Dev) (mesh : Option Bool) (rtc : Nat) : Bool × Dev :=
  let was := (d.fld R.KEY_TAMP_STAT_NOW).testBit 0
  let last := sparseGet (fun _ => 0) d.pwr.samp 8
  match mesh with
  | none => (was, d)
  | some x => (x && (was || decide (last ≠ 0 ∧ last + 30 ≤ rtc)),
      { d with pwr := { d.pwr with samp := sparsePut (fun _ => 0) d.pwr.samp 8 (if x then rtc + 2 else 0) } })

/-- A sample of lid switch n; answers whether it is in its tamper condition: at LIDn_POL on two samples in a row (R499). -/
def Dev.lidSample (d : Dev) (n : Nat) (level : Bool) (rtc : Nat) : Bool × Dev :=
  let active := level == d.flag (if n = 0 then R.KEY_TAMP_CFG_LID0_POL else R.KEY_TAMP_CFG_LID1_POL)
  let r := d.landSample (9 + n) rtc active
  (r.1 || (active && (d.fld R.KEY_TAMP_STAT_NOW).testBit (1 + n)), r.2)

/-- The enabled sources that are in their tamper condition at a sample (R499), as KEY_TAMP_STAT shows them. -/
def Dev.tampSources (d : Dev) (mesh : Option Bool) (lids : BitVec 2) (vbat tj : BitVec 16) (rtc : Nat) : Nat × Dev :=
  let m := d.meshSample mesh rtc
  let a := m.2.lidSample 0 (lids.getLsbD 0) rtc
  let b := a.2.lidSample 1 (lids.getLsbD 1) rtc
  let v := !d.pwr.vaon && decide (vbat.toNat < 2200)
  let t := decide (tj.toInt < -500 ∨ 1250 < tj.toInt)
  let now : BitVec 5 := BitVec.ofNat 5 (m.1.toNat + 2 * a.1.toNat + 4 * b.1.toNat + 8 * v.toNat + 16 * t.toNat)
  ((now &&& BitVec.ofNat 5 (d.fld R.KEY_TAMP_CFG_EN)).toNat, b.2)

/-- The monitor looks at its sources: one that acts zeroes the root and locks the vault, and the rest of the module acts by R500; the
line of KEY_TAMPER stays active while a source is in its condition (R500, R519, 17 R472). -/
def Dev.tamper (d : Dev) (nv : Nv) (mesh : Option Bool) (lids : BitVec 2) (vbat tj : BitVec 16) (rtc : Nat) (inOp : Bool) : Dev :=
  let old := d.fld R.KEY_TAMP_STAT_NOW
  let r := d.tampSources mesh lids vbat tj rtc
  let d := r.2.setFld R.KEY_TAMP_STAT_NOW r.1
  if r.1 = 0 then d.dropLine Src.keyTamper
  else
    let fresh := !d.tampLock || decide (Nat.lor old r.1 ≠ old)
    let d := d.lockTamper r.1 rtc
    if d.domOn 2 && fresh then d.runTamper nv inOp else d

/-! ### Commands -/

/-- WRITE_CLEAR (R504): the input as the host gives it. -/
def execWriteClear (data : List (BitVec 8)) (s : State) : Host.Outcome State Fault Refusal :=
  runKey 0x01 data none (writeClear data) s

/-- DERIVE (R491). -/
def execDerive (data : List (BitVec 8)) (det : Option Bool) (s : State) : Host.Outcome State Fault Refusal :=
  runKey 0x02 data det (deriveKey data) s

/-- UNWRAP (R492). -/
def execUnwrap (data : List (BitVec 8)) (det : Option Bool) (s : State) : Host.Outcome State Fault Refusal :=
  runKey 0x03 data det (unwrapKey data) s

/-- REVOKE (R503). -/
def execRevoke (s : State) : Host.Outcome State Fault Refusal := runKey 0x04 [] none revokeKey s

/-- Counter mode under the slot's key: a counter block, then the data. -/
def ctrData (data : List Byte) (a : AccDesc) (d : Dev) (nv : Nv) : Dev × Nv :=
  (d.keyOutput a (ctrOf (d.slotKey (keySlot a.word)) (blockOf (data.take 16)) (data.drop 16)), nv)

/-- CTR_ENC (R504). -/
def execCtrEnc (data : List (BitVec 8)) (det : Option Bool) (s : State) : Host.Outcome State Fault Refusal :=
  runKey 0x10 data det (ctrData data) s

/-- CTR_DEC (R504). -/
def execCtrDec (data : List (BitVec 8)) (det : Option Bool) (s : State) : Host.Outcome State Fault Refusal :=
  runKey 0x11 data det (ctrData data) s

/-- CMAC_GEN (R504). -/
def execCmacGen (data : List (BitVec 8)) (det : Option Bool) (s : State) : Host.Outcome State Fault Refusal :=
  runKey 0x12 data det (fun a d nv => (d.keyOutput a (cmacOf (d.slotKey (keySlot a.word)) data), nv)) s

/-- CMAC_VER (R504): the tag is the last 16 bytes. -/
def execCmacVer (data : List (BitVec 8)) (det : Option Bool) (s : State) : Host.Outcome State Fault Refusal :=
  runKey 0x13 data det (fun a d nv =>
    (d.keyVerdict a (cmacOf (d.slotKey (keySlot a.word)) (data.take (data.length - 16)) == data.drop (data.length - 16)), nv)) s

/-- HMAC_GEN (R504). -/
def execHmacGen (data : List (BitVec 8)) (det : Option Bool) (s : State) : Host.Outcome State Fault Refusal :=
  runKey 0x14 data det (fun a d nv => (d.keyOutput a (hmacOf (d.slotKey (keySlot a.word)) data), nv)) s

/-- HMAC_VER (R504): the tag is the last 32 bytes. -/
def execHmacVer (data : List (BitVec 8)) (det : Option Bool) (s : State) : Host.Outcome State Fault Refusal :=
  runKey 0x15 data det (fun a d nv =>
    (d.keyVerdict a (hmacOf (d.slotKey (keySlot a.word)) (data.take (data.length - 32)) == data.drop (data.length - 32)), nv)) s

/-- SHA256 (R504). -/
def execSha256 (data : List (BitVec 8)) (s : State) : Host.Outcome State Fault Refusal :=
  runKey 0x16 data none (fun a d nv => (d.keyOutput a (hashOf data), nv)) s

/-- ECDSA_VER (R504, R506). -/
def execEcdsaVer (data : List (BitVec 8)) (det : Option Bool) (s : State) : Host.Outcome State Fault Refusal :=
  runKey 0x17 data det (fun a d nv => (d.askVerify a data, nv)) s

/-- RANDOM (R504): IN_LEN bytes of the entropy source. -/
def execRandom (s : State) : Host.Outcome State Fault Refusal :=
  runKey 0x18 [] none (fun a d nv => let r := d.drawBytes (keyIn a.word); (r.2.keyOutput a r.1, nv)) s

/-- ROOT_GEN (R498). -/
def execRootGen (s : State) : Host.Outcome State Fault Refusal :=
  runKey 0x20 [] none (fun a d nv => (d.rootGen.keyDone a St.ok 0, nv)) s

/-- ENROL (R514). -/
def execEnrol (data : List (BitVec 8)) (det : Option Bool) (s : State) : Host.Outcome State Fault Refusal :=
  runKey 0x30 data det (enrolToken data) s

/-- TOK_REVOKE (R514). -/
def execTokRevoke (s : State) : Host.Outcome State Fault Refusal :=
  runKey 0x31 [] none (fun a d nv =>
    ((d.revokeToken (keyAux a.word)).keyDone a St.ok 0).appendRec nv (keyRecOf 5 a (keyAux a.word) [])) s

/-- CODE_SET (R514): the verifier. -/
def execCodeSet (data : List (BitVec 8)) (s : State) : Host.Outcome State Fault Refusal :=
  runKey 0x32 data none (fun a d nv =>
    (({ d with key := { d.key with verifier := some data } }).keyDone a St.ok 0).appendRec nv (keyRecOf 4 a 0 data)) s

/-- REMASK_PASS (R496, R497): MT has passed a multiple of 100 ms, for which no pass was due yet. The masks themselves are not in the
model: no command shows them (notes/assumptions/8.md). -/
def execRemaskPass (s : State) : Host.Outcome State Fault Refusal :=
  onDev s fun d =>
    if d.domOn 2 && d.mt.loaded && decide (d.mt.prev / msTicks 100 ≠ d.now / msTicks 100 ∧ d.key.maskAt ≠ d.now / msTicks 100) then
      let d := { d with key := { d.key with maskAt := d.now / msTicks 100 } }
      if d.flag R.KEY_STAT_TRNG_OK then d.count R.KEY_REMASK_CNT else d.keyEvent R.KEY_EVT_REMASK_SKIP
    else d

/-- TRNG_FAIL (R497). -/
def execTrngFail (s : State) : Host.Outcome State Fault Refusal :=
  onDev s fun d => if d.domOn 2 && d.flag R.KEY_STAT_TRNG_OK then d.trngFails else d

/-- TRNG_STARTUP_TEST (R497): the test at the power-on of PD2, or 10 ms after a failure. -/
def execTrngStartupTest (pass : Bool) (s : State) : Host.Outcome State Fault Refusal :=
  onDev s fun d =>
    if d.domOn 2 && !d.flag R.KEY_STAT_TRNG_OK && (d.key.trngAt.all fun t => decide (t ≤ d.now)) then
      if pass then { d with key := { d.key with trngAt := none } }.setFlag R.KEY_STAT_TRNG_OK true else d.trngFails
    else d

/-- TAMPER (R499 to R501): what the PD0 monitor sees at an RTC count: a compare of the mesh pattern (differing or not, none for no
compare), the levels of the lid switches, VBAT in mV, the junction temperature in 0.1 °C; and whether the key operation at the front is
in progress. -/
def execTamper (x : TampSense) (rtc : BitVec 48) (inOp : Bool) (s : State) : Host.Outcome State Fault Refusal :=
  onDev s fun d => if d.pwr.vaon || d.pwr.vbat then d.tamper s.nv x.mesh x.lids x.vbat x.tj rtc.toNat inOp else d

end Sys2Proof.Machine
end

