-- ==== Sys2Proof/Machine/Access.lean ====
section
/-! DEFINITION. The access block of 18: sessions, distances, lockout, code check, and the release stream with its counter; and the
commands of those sections. -/

namespace Sys2Proof.Machine

/-! ### Windows and lockout (R512 to R514) -/

/-- The authorisation window opens for 60 s. -/
def Dev.openAuth (d : Dev) : Dev :=
  { d with acc := { d.acc with auth := some (d.now + 60 * secTicks) } }.setFlag R.ACC_STAT_AUTH true

/-- The authorisation window closes. -/
def Dev.closeAuth (d : Dev) : Dev := { d with acc := { d.acc with auth := none } }.setFlag R.ACC_STAT_AUTH false

/-- An invalid answer or a bad code: the eighth within 60 s starts a lockout of 30 s (R513; DEDUCED, notes/assumptions/48.md). -/
def Dev.accBad (d : Dev) : Dev :=
  let l := (d.acc.bads.filter fun t => decide (d.now < t + 60 * secTicks)) ++ [d.now]
  if l.length < 8 then { d with acc := { d.acc with bads := l } }
  else
    let d := { d with acc := { d.acc with bads := [], lock := some (d.now + 30 * secTicks) } }
    (((d.setFlag R.ACC_STAT_LOCKOUT true).closeAuth).accEvent R.ACC_EVT_LOCKOUT).raiseFault Src.accLockout 0

/-- The digits in ACC_CODE_LO and _HI, the first lowest. -/
def Dev.codeDigits (d : Dev) : List Nat :=
  let x := d.reg64 R.ACC_CODE_LO R.ACC_CODE_HI
  (List.range 12).map fun i => x / 16 ^ i % 16

/-- The code is compared and both code registers are zeroed; ignored in lockout or without a verifier (R513, R514). -/
def Dev.checkCode (d : Dev) (nv : Nv) : Dev :=
  match d.key.verifier, d.flag R.ACC_STAT_LOCKOUT with
  | some v, false =>
    let k := d.fld R.ACC_KEYS_CODE_KEY
    let d := d.useSlot nv k none
    let msg := d.codeDigits.map fun x => BitVec.ofNat 8 (0x30 + x)
    let ok := d.codeDigits.all (· ≤ 9) && d.slotFits nv k [3] [2, 6] && (hmacOf (d.slotKey k) msg).take 16 == v
    let d := (d.setReg R.ACC_CODE_LO 0).setReg R.ACC_CODE_HI 0
    if ok then d.openAuth.accEvent R.ACC_EVT_CODE_OK else (d.accEvent R.ACC_EVT_CODE_BAD).accBad
  | _, _ => d

/-! ### The release stream (R515 to R518) -/

/-- CTR. -/
def Dev.relCtr (d : Dev) : Nat := d.fld R.ACC_REL_CTR_CTR

/-- Whether controller and buffer meet R517. -/
def Dev.relCan (d : Dev) : Bool :=
  let n := d.fld R.ACC_REL_CFG_CAN
  d.domOn 9 && decide (d.canMode n = 1) && !d.busOff n && d.flag (R.CAN_CTRL_FD_EN n) &&
    decide (d.mbMode n (d.fld R.ACC_REL_CFG_MB) = 2)

/-- An append of a reservation begins, unless one is being made: RES = CTR + 65,536, at most 0xFFFF_FFFF (R516). -/
def Dev.reserve (d : Dev) : Dev :=
  if d.acc.resNew.isSome then d
  else
    let d := { d with acc := { d.acc with resNew := some (min (d.relCtr + 65536) 0xFFFFFFFF) } }
    match d.askJob .reserve with
    | (true, d) => d
    | (false, d) => d.waitJob .reserve

/-- The append that a low margin asks for: RES − CTR at most 32,768 (R516). -/
def Dev.reserveLow (d : Dev) : Dev := if d.acc.res ≤ d.relCtr + 32768 then d.reserve else d

/-- The stream runs: its first message is due now, REL_TO counts from now. -/
def Dev.runStream (d : Dev) : Dev :=
  { d with acc := { d.acc with next := some d.now, relFrom := d.now, wait := false } }.setFlag R.ACC_STAT_STREAM true

/-- The stream starts under R517, waits for a reservation being written, or cannot start; CTR at its end is STOP_WHY 6. -/
def Dev.startStream (d : Dev) (nv : Nv) : Dev :=
  if d.flag R.ACC_REL_CFG_REL_EN && d.relKeys nv && d.relCan && !d.tampLock then
    if d.relCtr = 0xFFFFFFFF then d.stopStream 6
    else if d.acc.resNew.isSome then { d with acc := { d.acc with wait := true } }
    else d.runStream
  else d

/-- The identifier of the release message as its calculations take it: ID with IDE in bit 29. -/
def Dev.relId (d : Dev) : List Byte := leBytes 4 ((d.reg R.ACC_REL_ID).toNat % 2 ^ 30)

/-- The 16 bytes of a release message (R515). -/
def Dev.relBytes (d : Dev) : List Byte :=
  let ctr := leBytes 4 d.relCtr
  let p := leBytes 3 (d.fld R.ACC_REL_DATA_DATA) ++ leBytes 1 d.acc.token
  let k := d.slotKey (d.fld R.ACC_KEYS_KEYE)
  let body := ctr ++ ctrOf k (blockOf (d.relId ++ ctr ++ List.replicate 8 0)) p
  body ++ (cmacOf (d.slotKey (d.fld R.ACC_KEYS_KEYM)) (d.relId ++ body)).take 8

/-- A release frame: CTR advances, the buffer's words are written and its request is made (R515, R516). -/
def Dev.sendRelease (d : Dev) : Dev :=
  let n := d.fld R.ACC_REL_CFG_CAN
  let m := d.fld R.ACC_REL_CFG_MB
  let d := d.setFld R.ACC_REL_CTR_CTR (d.relCtr + 1)
  let d := d.setReg (mbOff n m 0) (BitVec.ofNat 32 ((d.reg R.ACC_REL_ID).toNat % 2 ^ 30))
  let d := ((d.setFlag (mbFld n m 1 2 1) true).setFlag (mbFld n m 1 3 1) (d.flag R.ACC_REL_CFG_BRS)).setFld (mbFld n m 1 8 4) 10
  let d := d.mbStore n m d.relBytes
  (d.addPend n (.req m) (d.mbFrame n m)).count R.ACC_REL_SENT_CNT

/-- A release message falls due (R515 to R518). -/
def Dev.relMessage (d : Dev) (nv : Nv) (t : Nat) (detE detM : Option Bool) : Dev :=
  let d := { d with acc := { d.acc with next := some (t + msTicks 100) } }
  let d := (d.useSlot nv (d.fld R.ACC_KEYS_KEYE) detE).useSlot nv (d.fld R.ACC_KEYS_KEYM) detM
  if d.acc.next.isNone then d
  else if !d.relKeys nv then d.stopStream 3
  else if !d.relCan then d.stopStream 7
  else if 0xFFFFFFFF ≤ d.relCtr + 1 then d.stopStream 6
  else if d.mbPending (d.fld R.ACC_REL_CFG_CAN) (d.fld R.ACC_REL_CFG_MB) then d.count R.ACC_REL_SKIP_CNT
  else if d.relCtr + 1 < d.acc.res then d.sendRelease.reserveLow
  else d.reserve

/-- A write to ACC_REL_CFG: REL_EN going to 1 with a low margin makes an append at once (R516). -/
def Dev.writeRelCfg (d : Dev) (v : Word) : Dev :=
  let was := d.flag R.ACC_REL_CFG_REL_EN
  let d := d.writeByCode R.ACC_REL_CFG v
  if !was && d.flag R.ACC_REL_CFG_REL_EN then d.reserveLow else d

/-! ### Sessions (R508 to R511) -/

/-- SLOT or REPLY in ticks: values outside the limits act as the nearer limit (ACC_TIMING). -/
def Dev.accSlot (d : Dev) : Nat := usTicks (min 2000 (max 200 (d.fld R.ACC_TIMING_SLOT)))

/-- REPLY in ticks. -/
def Dev.accReply (d : Dev) : Nat := usTicks (min 5000 (max 500 (d.fld R.ACC_TIMING_REPLY)))

/-- The time from POLL to FINAL, and from FINAL to the decision. -/
def Dev.accHalf (d : Dev) : Nat := d.accReply + 16 * d.accSlot

/-- The oldest rising edge of a token marker line (R508). -/
def Dev.takeMark (d : Dev) (n : Nat) : Option Nat × Dev :=
  match (d.marker n).fifo.dropWhile fun e => !e.2 with
  | (t, _) :: r => (some t, (d.setMarker n { d.marker n with fifo := r }).showMarker n)
  | [] => (none, d)

/-- Sets the session and SESSION. -/
def Dev.setSess (d : Dev) (x : AccSess) (phase : Nat) : Dev :=
  { d with acc := { d.acc with sess := some x } }.setFld R.ACC_STAT_SESSION phase

/-- The stamp of the module's own frame, once there: t_p of POLL, t_f of FINAL (R508, R510). -/
def Dev.stampOwn (d : Dev) (x : AccSess) : Dev :=
  if x.tp.isSome && (!x.sent || x.tf.isSome) then d
  else
    match d.takeMark 6 with
    | (some t, d) =>
      let t := t - d.fld R.ACC_RADIO_DLY_TX_DLY
      if x.sent then d.setSess { x with tf := some t } 4 else d.setSess { x with tp := some t } 2
    | (none, d) => d

/-- The records of a radio profile: SECTION, OP and data (19 R529; every record holds LEN data bytes, a wait too: DEDUCED,
notes/assumptions/41.md). -/
def radioRecs : Nat → List Byte → List (Nat × Nat × List Byte)
  | n + 1, s :: op :: a :: b :: t =>
    let len := a.toNat + 256 * b.toNat
    (s.toNat, op.toNat, t.take len) :: radioRecs n (t.drop len)
  | _, _ => []

/-- What the compare records of a section expect: section 1 INIT, 2 SEND, 3 RECV, 4 SLEEP; the profile is loaded at step 7 of a start
with a valid active set (19 R527, R529). -/
def Dev.radioWants (d : Dev) (nv : Nv) (sec : Nat) : List (List Byte) :=
  match (manifestParts nv.active).find? fun p => p.type == 3 with
  | some p =>
    if d.flag R.UPD_STAT_RECOVERY || decide (d.upd.phase < 7) then []
    else ((radioRecs p.len (flashBytes nv.active p.off p.len)).filter fun r => decide (r.1 = sec ∧ r.2.1 = 2)).map (·.2.2)
  | none => []

/-- Whether the bytes that the radio returns agree with a section's compares, in order; the first that fails stops the section. -/
def radioAgrees : List (List Byte) → List Byte → Bool
  | [], _ => true
  | w :: t, l => l.take w.length == w && radioAgrees t (l.drop w.length)

/-- A compare of a section fails: DENIED, and ACC_STREAM while a stream runs (19 R529). -/
def Dev.radioFail (d : Dev) : Dev :=
  let d := d.accEvent R.ACC_EVT_DENIED
  if d.acc.next.isSome then d.raiseFault Src.accStream 0 else d

/-- A section runs with the bytes that the radio returns; without them they are free values. Answers whether it ran to its end. -/
def Dev.radioRun (d : Dev) (nv : Nv) (sec : Nat) (reads : Option (List Byte)) : Bool × Dev :=
  let w := d.radioWants nv sec
  let r := match reads with
    | some l => (l, d)
    | none => d.drawBytes (w.map List.length).sum
  if radioAgrees w r.1 then (true, r.2) else (false, r.2.radioFail)

/-- A session starts with its POLL, which the SEND section gives to the radio, or is denied (R509, 19 R529). -/
def Dev.startSession (d : Dev) (nv : Nv) (reads : Option (List Byte)) : Dev :=
  if d.flag R.ACC_CTRL_EN && d.acc.sess.isNone then
    if d.tampLock || !d.flag R.KEY_STAT_TRNG_OK || decide (nv.life = 2) then d.accEvent R.ACC_EVT_DENIED
    else
      let t := d.radioRun nv 2 reads
      let r := t.2.drawBytes 16
      let d := (r.2.setMarker 6 { r.2.marker 6 with fifo := [] }).setMarker 7 { r.2.marker 7 with fifo := [] }
      let d := ((d.showMarker 6).showMarker 7).count R.ACC_SESS_CNT
      if t.1 then d.setSess { nonce := r.1, tp := none, tf := none, sent := false, ans := [] } 1 else t.2
  else d

/-- What token i has sent. -/
def AccSess.tok (x : AccSess) (i : Nat) : TokAns := sparseGet (fun _ => { resp := none, report := none }) x.ans i

/-- Sets what token i has sent. -/
def AccSess.setTok (x : AccSess) (i : Nat) (a : TokAns) : AccSess :=
  { x with ans := sparsePut (fun _ => { resp := none, report := none }) x.ans i a }

/-- A RESP arrives with its stamp (R509, R510). -/
def Dev.takeResp (d : Dev) (x : AccSess) (i : Nat) (l : List Byte) : Dev :=
  match d.takeMark 7 with
  | (some t, d) =>
    if (x.tok i).resp.isNone then
      d.setSess (x.setTok i { x.tok i with resp := some (t - d.fld R.ACC_RADIO_DLY_RX_DLY, l) }) (d.fld R.ACC_STAT_SESSION)
    else d
  | (none, d) => d

/-- A REPORT arrives; its stamp is taken and not used. -/
def Dev.takeReport (d : Dev) (x : AccSess) (i : Nat) (l : List Byte) : Dev :=
  let d := (d.takeMark 7).2
  if (x.tok i).report.isNone then d.setSess (x.setTok i { x.tok i with report := some l }) (d.fld R.ACC_STAT_SESSION) else d

/-- The distance in cm of a token from the module's three times in ticks and the token's Da and Rb (R510), in exact arithmetic; none
where the formula divides by 0. -/
def distanceOf (tp tf tr : Nat) (da rb : Nat) : Option Int :=
  let ra : Int := (tr : Int) - tp
  let db : Int := (tf : Int) - tr
  let num : Int := 40000 * (ra * rb - da * db)
  let den : Int := 638976 * (ra + db) + 40000 * ((da : Int) + rb)
  if den = 0 then none else some ((2 * num * 74948 + 10000 * den) / (2 * 10000 * den))

/-- How an answer is judged (R511). -/
inductive Answer where
  | absent
  | invalid
  | far (dist : Int)
  | valid (dist : Int)
  deriving DecidableEq, Repr

/-- Whether the record, the IDs and the TAG of an answer are right. -/
def Dev.answerOk (d : Dev) (x : AccSess) (i : Nat) (r l : List Byte) : Bool :=
  let id := leBytes 4 (d.reg (R.ACC_TOK_ID_LO i)).toNat ++ leBytes 4 (d.reg (R.ACC_TOK_ID_HI i)).toNat
  decide (r.length = 8 ∧ l.length = 26) && d.flag (R.ACC_TOK_STAT_ENROLLED i) && !d.flag (R.ACC_TOK_STAT_REVOKED i) &&
    r == id && l.take 8 == id &&
    (cmacOf (sparseGet (fun _ => []) d.key.tokKeys i) (x.nonce ++ l.take 18)).take 8 == l.drop 18

/-- Judges token i's answer: without a RESP and a REPORT there is none; an open distance is a free value. -/
def Dev.judge (d : Dev) (x : AccSess) (tp tf i : Nat) : Answer × Dev :=
  match (x.tok i).resp, (x.tok i).report with
  | some (tr, r), some l =>
    if d.answerOk x i r l then
      let v := d.draw
      let p := match distanceOf tp tf tr (ofBytes ((l.drop 8).take 5)) (ofBytes ((l.drop 13).take 5)) with
        | some k => (k, d)
        | none => (v.1.toInt, v.2)
      if (d.fld R.ACC_DIST_DIST_MAX : Int) < p.1 then (.far p.1, p.2) else (.valid p.1, p.2)
    else (.invalid, d)
  | _, _ => (.absent, d)

/-- A distance in its 16-bit field; one that the field does not hold leaves a free value there. -/
def Dev.distField (d : Dev) (k : Int) : Nat × Dev :=
  if 0 ≤ k ∧ k < 65536 then (k.toNat, d) else (d.draw.1.toNat % 65536, d.draw.2)

/-- Records a token's valid answer (ACC_TOKi_STAT, ACC_TOKi_MT). -/
def Dev.noteToken (d : Dev) (tp i : Nat) (k : Int) : Dev :=
  let r := d.distField k
  (r.2.setFld (R.ACC_TOK_STAT_DIST i) r.1).setReg (R.ACC_TOK_MT i) (BitVec.ofNat 32 tp)

/-- Takes token i's answer into the session's records and counts (R511, R513). -/
def Dev.takeAnswer (d : Dev) (x : AccSess) (tp tf i : Nat) : Dev :=
  match d.judge x tp tf i with
  | (.absent, d) => d
  | (.invalid, d) => (((d.setFlag ⟨R.ACC_LAST, 16 + i, 1⟩ true).count R.ACC_INVALID_CNT).accEvent R.ACC_EVT_INVALID).accBad
  | (.far k, d) => ((d.setFlag ⟨R.ACC_FAR, i, 1⟩ true).count R.ACC_FAR_CNT).noteToken tp i k
  | (.valid k, d) => (d.setFlag ⟨R.ACC_LAST, i, 1⟩ true).noteToken tp i k

/-- A grant to token i (R511, R512). -/
def Dev.grant (d : Dev) (nv : Nv) (tp i : Nat) : Dev :=
  let d := ((d.setFld R.ACC_GRANT_TOKEN i).setFld R.ACC_GRANT_DIST (d.fld (R.ACC_TOK_STAT_DIST i))).setFlag R.ACC_GRANT_VALID true
  let d := (d.setReg64 R.ACC_GRANT_MT_LO R.ACC_GRANT_MT_HI tp).count R.ACC_GRANT_CNT
  let d := (d.accEvent R.ACC_EVT_GRANTED).openAuth
  let d := { d with acc := { d.acc with token := i } }
  if d.acc.next.isSome then { d with acc := { d.acc with relFrom := d.now } } else d.startStream nv

/-- The decision of a session (R511, R512). -/
def Dev.decideSession (d : Dev) (nv : Nv) (x : AccSess) (tp tf : Nat) : Dev :=
  let d := (d.setReg R.ACC_LAST 0).setReg R.ACC_FAR 0
  let d := (d.forAll (List.range 16) fun i d => d.takeAnswer x tp tf i).endSession
  match (List.range 16).find? fun i => d.flag ⟨R.ACC_LAST, i, 1⟩ with
  | some i => d.grant nv tp i
  | none => d.accEvent R.ACC_EVT_DENIED

/-- A write to ACC_CTRL: while EN is 1 the access block holds SRC = 1 on MK6 and MK7; INIT runs at each EN and SLEEP
when EN falls; a session ends then (R508, 19 R529; DEDUCED, notes/assumptions/48.md). -/
def Dev.writeAccCtrl (d : Dev) (nv : Nv) (v : Word) : Dev :=
  let was := d.flag R.ACC_CTRL_EN
  let d := d.writeByCode R.ACC_CTRL v
  if d.flag R.ACC_CTRL_EN then
    let d := (d.setFlag (R.MT_MK_CFG_SRC 6) true).setFlag (R.MT_MK_CFG_SRC 7) true
    if was then d else (d.radioRun nv 1 none).2
  else if was then (if d.acc.sess.isSome then d.endSession else d).radioRun nv 4 none |>.2
  else d

/-- A write to ACC_CMD: START, REL_STOP, CODE_CHECK; with the bytes that the radio returns, where the command has them. -/
def Dev.writeAccCmd (d : Dev) (nv : Nv) (v : Word) (reads : Option (List Byte)) : Dev :=
  let d := if v.getLsbD 0 then d.startSession nv reads else d
  let d := if v.getLsbD 1 && (d.acc.next.isSome || d.acc.wait) then d.stopStream 1 else d
  if v.getLsbD 2 then d.checkCode nv else d

/-! ### Commands -/

/-- ACC_START (R509): the written word of ACC_CMD. -/
def execAccStart (v : BitVec 32) (radio : List (BitVec 8)) (s : State) : Host.Outcome State Fault Refusal :=
  onDev s fun d => d.access R.ACC_CMD fun d => d.writeAccCmd s.nv v (some radio)

/-- TOK_IRQ (R509): the radio's interrupt starts a session when IRQ_START is set. -/
def execTokIrq (radio : List (BitVec 8)) (s : State) : Host.Outcome State Fault Refusal :=
  onDev s fun d => if d.domOn 2 && d.flag R.ACC_CTRL_IRQ_START then d.startSession s.nv (some radio) else d

/-- A frame that the radio has received comes through the RECV section; one whose compare fails is lost (R509, 19 R529). -/
def Dev.radioTake (d : Dev) (nv : Nv) (radio : List Byte) (f : Dev → Dev) : Dev :=
  let r := d.radioRun nv 3 (some radio)
  if r.1 then f r.2 else (r.2.takeMark 7).2

/-- RESP (R509): with the bytes that the radio returns. -/
def execResp (i : Fin 16) (f : TokFrame) (s : State) : Host.Outcome State Fault Refusal :=
  onDev s fun d =>
    match d.acc.sess with
    | some x =>
      let d := d.stampOwn x
      match d.acc.sess with
      | some x => if x.tp.isSome && !x.sent then d.radioTake s.nv f.radio fun d => d.takeResp x i f.payload else d
      | none => d
    | none => d

/-- FINAL (R509): t_f has come; with the bytes that the radio returns to the SEND section. -/
def execFinalFrame (radio : List (BitVec 8)) (s : State) : Host.Outcome State Fault Refusal :=
  onDev s fun d =>
    match d.acc.sess with
    | some x =>
      let d := d.stampOwn x
      match d.acc.sess with
      | some x =>
        match x.tp with
        | some tp =>
          if x.sent || decide (d.now < tp + d.accHalf) then d
          else
            let r := d.radioRun s.nv 2 (some radio)
            if r.1 then r.2.setSess { x with sent := true } 3 else r.2.endSession
        | none => d
      | none => d
    | none => d

/-- REPORT (R509): with the bytes that the radio returns. -/
def execReport (i : Fin 16) (f : TokFrame) (s : State) : Host.Outcome State Fault Refusal :=
  onDev s fun d =>
    match d.acc.sess with
    | some x =>
      let d := d.stampOwn x
      match d.acc.sess with
      | some x => if x.sent then d.radioTake s.nv f.radio fun d => d.takeReport x i f.payload else d
      | none => d
    | none => d

/-- SESSION_DECISION (R511, R512): t_f + REPLY + 16 × SLOT has passed. -/
def execSessionDecision (s : State) : Host.Outcome State Fault Refusal :=
  onDev s fun d =>
    match d.acc.sess with
    | some x =>
      let d := d.stampOwn x
      match d.acc.sess with
      | some x =>
        match x.tp, x.tf with
        | some tp, some tf => if x.sent && decide (tf + d.accHalf ≤ d.now) then d.decideSession s.nv x tp tf else d
        | _, _ => d
      | none => d
    | none => d

/-- AUTH_WINDOW_EXPIRY (R512). -/
def execAuthWindowExpiry (s : State) : Host.Outcome State Fault Refusal :=
  onDev s fun d => if d.acc.auth.any fun t => decide (t ≤ d.now) then d.closeAuth else d

/-- LOCKOUT_EXPIRY (R513). -/
def execLockoutExpiry (s : State) : Host.Outcome State Fault Refusal :=
  onDev s fun d =>
    if d.acc.lock.any fun t => decide (t ≤ d.now) then
      { d with acc := { d.acc with lock := none } }.setFlag R.ACC_STAT_LOCKOUT false
    else d

/-- CODE_CHECK (R514): the written word of ACC_CMD. -/
def execCodeCheck (v : BitVec 32) (s : State) : Host.Outcome State Fault Refusal :=
  onDev s fun d => d.access R.ACC_CMD fun d => d.writeAccCmd s.nv v none

/-- REL_STOP (R518): the written word of ACC_CMD. -/
def execRelStop (v : BitVec 32) (s : State) : Host.Outcome State Fault Refusal :=
  onDev s fun d => d.access R.ACC_CMD fun d => d.writeAccCmd s.nv v none

/-- REL_EN_SET (R516): the written word of ACC_REL_CFG. -/
def execRelEnSet (v : BitVec 32) (s : State) : Host.Outcome State Fault Refusal :=
  onDev s fun d => d.access R.ACC_REL_CFG fun d => d.writeRelCfg v

/-- RELEASE_MESSAGE (R515): a send time has come; detections in the two keys. -/
def execReleaseMessage (detE detM : Option Bool) (s : State) : Host.Outcome State Fault Refusal :=
  onDev s fun d =>
    match d.acc.next with
    | some t => if t ≤ d.now then d.relMessage s.nv t detE detM else d
    | none => d

/-- REL_TO_EXPIRY (R518). -/
def execRelToExpiry (s : State) : Host.Outcome State Fault Refusal :=
  onDev s fun d =>
    let n := d.fld R.ACC_REL_CFG_REL_TO
    if d.acc.next.isSome && decide (n ≠ 0 ∧ d.acc.relFrom + n * secTicks ≤ d.now) then d.stopStream 2 else d

/-- RESERVATION_WRITE_END (R516): the record is in flash; a stream that waits for it starts. -/
def execReservationWriteEnd (s : State) : Host.Outcome State Fault Refusal :=
  let d := s.dev
  match d.acc.resNew with
  | some r =>
    if d.pwr.jobs.any fun j => j.1 == .reserve then .next s
    else
      let nv := s.nv.append { type := 7, target := 0, source := 0, seq := 0, input := leBytes 4 r }
      let w := d.acc.wait
      let d := { d with acc := { d.acc with res := r, resNew := none, wait := false } }
      .next { s with dev := if w then d.startStream nv else d, nv := nv }
  | none => .next s

end Sys2Proof.Machine
end

