-- ==== Sys2Proof/Machine/Gnss.lean ====
section
/-! DEFINITION. The GNSS baseband of 05: corrections, fix epochs and their records, the fix log, Forager bursts, kept data,
the origin, streams and trackers; and the commands of that chapter. -/

namespace Sys2Proof.Machine

/-- An event of the GNSS block. -/
def Dev.gnEvent (d : Dev) (f : Fld) : Dev := d.event R.GN_EVT f.lo R.GN_IEN R.GN_VEC

/-- Updates the GNSS block's hidden state. -/
def Dev.gnSet (d : Dev) (f : GnState → GnState) : Dev := { d with gn := f d.gn }

/-! ### Streams and signals (05 R143 to R149) -/

/-- The stream of a band and antenna. -/
def streamOf (l5 antB : Bool) : Nat := l5.toNat + 2 * antB.toNat

/-- The magnitude of a sample code; −8 is taken as −7 (05 R143). -/
def codeAbs (c : BitVec 4) : Nat := min 7 c.toInt.natAbs

/-- LEVEL and CLIP of sample codes: the mean magnitude in 1/16 LSB, rounded down, and those at ±7 per 1,024, at most 255
(05 GN_IFn_STAT; DESIGN CHOICE, notes/assumptions/31.md). -/
def levelClip (l : List (BitVec 4)) : Nat :=
  if l.isEmpty then 0
  else 16 * (l.map codeAbs).sum / l.length + 256 * min 255 (1024 * (l.filter fun c => codeAbs c == 7).length / l.length)

/-- The rate in samples per second of an FS code; code 3 is as code 2 (05 R144). -/
def fsRate (code : Nat) : Nat := 20460000 * 2 ^ min code 2

/-- The rate at which the streams of a band are sampled. -/
def Dev.bandRate (d : Dev) (l5 : Bool) : Nat := fsRate (d.fld (if l5 then R.GN_IF_CFG_FS_L5 else R.GN_IF_CFG_FS_L1))

/-- The clock that the module drives on GN_SCLK_L1 or GN_SCLK_L5, while SCLK_OE is 1 (05 R144). -/
def Dev.sclk (d : Dev) (l5 : Bool) : Option Nat := if d.flag R.GN_IF_CFG_SCLK_OE then some (d.bandRate l5) else none

/-- The signal centre of a stream in Hz, within ±FS/4 (05 R146). -/
def Dev.centre (d : Dev) (n : Nat) : Int :=
  let lim : Int := d.bandRate (decide (n % 2 = 1)) / 4
  max (-lim) (min lim (d.fldInt (R.GN_IF_FC_FC n)))

/-- The antenna time of a sample of a stream captured at an MT (05 R145). -/
def Dev.antennaTime (d : Dev) (n t : Nat) : Int := (t : Int) - d.fldInt (R.GN_IF_BIAS_BIAS n)

/-- How far the capture of an antenna instant lies behind it on the slowest enabled stream: an epoch is solved when its samples are
there (05 R145). -/
def Dev.captureLag (d : Dev) : Nat :=
  (((List.range 4).filter fun n => (d.fld R.GN_IF_CFG_IFEN).testBit n).foldl
    (fun x n => max x (d.fldInt (R.GN_IF_BIAS_BIAS n))) 0).toNat

/-- A signal of 05 R147: its bit of GN_SIG_EN, system, band L5, code rate in chips per second, chips and ms of its primary code,
tracked as BOC(1,1), with a pilot component that gives the carrier. -/
structure GnSignal where
  bit : Nat
  sys : Nat
  l5 : Bool
  chipRate : Nat
  chips : Nat
  ms : Nat
  boc : Bool
  pilot : Bool
  deriving DecidableEq, Repr

/-- The signals that the block tracks (05 R147). -/
def gnSignals : List GnSignal := [
  { bit := 0, sys := 0, l5 := false, chipRate := 1023000, chips := 1023, ms := 1, boc := false, pilot := false },
  { bit := 1, sys := 0, l5 := false, chipRate := 1023000, chips := 10230, ms := 10, boc := true, pilot := true },
  { bit := 2, sys := 0, l5 := true, chipRate := 10230000, chips := 10230, ms := 1, boc := false, pilot := true },
  { bit := 3, sys := 1, l5 := false, chipRate := 1023000, chips := 4092, ms := 4, boc := true, pilot := true },
  { bit := 4, sys := 1, l5 := true, chipRate := 10230000, chips := 10230, ms := 1, boc := false, pilot := true },
  { bit := 5, sys := 2, l5 := false, chipRate := 1023000, chips := 10230, ms := 10, boc := true, pilot := true },
  { bit := 6, sys := 2, l5 := true, chipRate := 10230000, chips := 10230, ms := 1, boc := false, pilot := true }]

/-- The enabled signals of a system on a band: those that a tracker of such a satellite runs (05 R147). -/
def Dev.signals (d : Dev) (sys : Nat) (l5 : Bool) : List GnSignal :=
  gnSignals.filter fun x => x.sys == sys && x.l5 == l5 && (d.fld R.GN_SIG_EN_SIG).testBit x.bit

/-- Whether a signal of a system on a band is enabled (05 R147). -/
def Dev.sigOn (d : Dev) (sys : Nat) (l5 : Bool) : Bool := !(d.signals sys l5).isEmpty

/-- The coherent integration limit in ms: 0 acts as 1, above 20 as 20 (05 R149). -/
def Dev.intMs (d : Dev) : Nat := min 20 (max 1 (d.fld R.GN_TRK_CFG_INT_MS))

/-- The early–late spacing in use on a band, in 0.05 chip: the programmed one, or one sample rounded up when that is more; 0 acts as
1, above 20 as 20 (05 R149). -/
def Dev.spacing (d : Dev) (l5 : Bool) : Nat :=
  let x := min 20 (max 1 (d.fld (if l5 then R.GN_TRK_CFG_SPACING_L5 else R.GN_TRK_CFG_SPACING_L1)))
  let chip := if l5 then 10230000 else 1023000
  max x ((20 * chip + d.bandRate l5 - 1) / d.bandRate l5)

/-- How a tracker works on a stream: its signals, spacing, integration limit, sample rate, signal centre (05 R144 to R149). -/
structure TrkSet where
  signals : List GnSignal
  spacing : Nat
  intMs : Nat
  rate : Nat
  centre : Int
  deriving DecidableEq, Repr

/-- The settings that a tracker of a satellite's system on a band and antenna follows. -/
def Dev.trkSet (d : Dev) (sys : Nat) (l5 antB : Bool) : TrkSet where
  signals := d.signals sys l5
  spacing := d.spacing l5
  intMs := d.intMs
  rate := d.bandRate l5
  centre := d.centre (streamOf l5 antB)

/-- The elevation mask in degrees; above 90 acts as 90 (GN_MASK). -/
def Dev.elevMask (d : Dev) : Nat := min 90 (d.fld R.GN_MASK_ELEV)

/-- Whether a satellite stands above the elevation mask (05 R148). -/
def Dev.aboveMask (d : Dev) (x : GnSat) : Bool := decide (d.elevMask ≤ x.elev.toNat)

/-- The number of a satellite. -/
def satKey (sys id : Nat) : Nat := 64 * sys + id

/-- The number of a satellite as an antenna sees it. -/
def satOf (x : GnSat) : Nat := satKey x.sys x.id

/-! ### Corrections (05 R155 to R157) -/

/-- One bit of CRC-24Q. -/
def crc24Bit (c : Nat) : Nat := if c / 2 ^ 23 % 2 = 1 then Nat.xor (2 * c) 0x1864CFB % 2 ^ 24 else 2 * c

/-- CRC-24Q over bytes (05 R156). -/
def crc24 (l : List Byte) : Nat :=
  l.foldl (fun c b => (List.range 8).foldl (fun c _ => crc24Bit c) (Nat.xor c (b.toNat * 2 ^ 16))) 0

/-- A bit field of bytes in bus order: first bit and length. -/
def rtcmBits (l : List Byte) (lo len : Nat) : Nat := beBytesVal l / 2 ^ (8 * l.length - lo - len) % 2 ^ len

/-- Whether the block takes an RTCM message type (05 R157). -/
def rtcmTaken (t : Nat) : Bool :=
  [1005, 1006, 1033, 1019, 1045, 1046, 1042].contains t || decide (1074 ≤ t ∧ t ≤ 1077) || decide (1094 ≤ t ∧ t ≤ 1097) ||
    decide (1124 ≤ t ∧ t ≤ 1127)

/-- Milliseconds of a GPS week. -/
def weekMs : Nat := 604800000

/-- The epoch of a message with base observations, in ms of the GPS week: the header's epoch field, with BeiDou time 14 s behind
(RTCM 10403.3; PRESUMED, notes/assumptions/46.md). -/
def rtcmEpoch (t : Nat) (body : List Byte) : Option Nat :=
  if body.length < 7 then none
  else if (1074 ≤ t ∧ t ≤ 1077) ∨ (1094 ≤ t ∧ t ≤ 1097) then some (rtcmBits (body.take 7) 24 30 % weekMs)
  else if 1124 ≤ t ∧ t ≤ 1127 then some ((rtcmBits (body.take 7) 24 30 + 14000) % weekMs)
  else none

/-- The position of the base in 0.1 mm that a message 1005 or 1006 gives: three signed fields of 38 bits (RTCM 10403.3; PRESUMED,
notes/assumptions/46.md). -/
def rtcmBase (t : Nat) (body : List Byte) : Option (Int × Int × Int) :=
  let at_ := fun lo => toInt 38 (rtcmBits (body.take 19) lo 38)
  if (t = 1005 ∨ t = 1006) ∧ 19 ≤ body.length then some (at_ 34, at_ 74, at_ 114) else none

/-- The satellite whose ephemeris a message carries: the 6 bits after its number (RTCM 10403.3; PRESUMED,
notes/assumptions/46.md). -/
def rtcmEph (t : Nat) (body : List Byte) : Option Nat :=
  if body.length < 3 then none
  else
    let id := rtcmBits (body.take 3) 12 6
    if t = 1019 then some (satKey 0 id) else if t = 1045 ∨ t = 1046 then some (satKey 1 id)
    else if t = 1042 then some (satKey 2 id) else none

/-- What a buffer of frames gives: taken, rejected, rejected for their type alone, the epoch of the last base observations, the base's
position, its antenna descriptor, ephemerides by satellite (05 R157). -/
structure RtcmCount where
  taken : Nat
  rej : Nat
  ign : Nat
  base : Option Nat
  pos : Option (Int × Int × Int)
  ant : Option (List Byte)
  eph : Sparse (List Byte)
  deriving DecidableEq, Repr

/-- Nothing read yet. -/
def RtcmCount.init : RtcmCount := { taken := 0, rej := 0, ign := 0, base := none, pos := none, ant := none, eph := [] }

/-- A taken message is put to its use (05 R157). -/
def RtcmCount.use (r : RtcmCount) (t : Nat) (body : List Byte) : RtcmCount :=
  { r with taken := r.taken + 1
           base := (rtcmEpoch t body).orElse fun _ => r.base
           pos := (rtcmBase t body).orElse fun _ => r.pos
           ant := if t = 1033 then some body else r.ant
           eph := match rtcmEph t body with | some k => sparsePut (fun _ => []) r.eph k body | none => r.eph }

/-- Reads a buffer of RTCM 3 frames back to back, at most n of them: a frame whose length runs past the buffer, or bytes that are
no frame, are one rejected piece that ends at the next preamble; after a frame whose CRC fails the next one is looked for behind it,
by its own length field (05 R156, R157; DESIGN CHOICE, notes/assumptions/46.md). -/
def rtcmRead : Nat → List Byte → RtcmCount → RtcmCount
  | 0, _, r => r
  | _ + 1, [], r => r
  | n + 1, b :: t, r =>
    let l := b :: t
    let len := beAt l 1 2 % 1024
    if b.toNat ≠ 0xD3 ∨ l.length < 3 then
      rtcmRead n (t.dropWhile fun x => x.toNat ≠ 0xD3) { r with rej := r.rej + 1 }
    else if l.length < len + 6 then { r with rej := r.rej + 1 }
    else
      let body := (l.drop 3).take len
      let rest := l.drop (len + 6)
      if crc24 (l.take (len + 3)) ≠ beAt l (len + 3) 3 then rtcmRead n rest { r with rej := r.rej + 1 }
      else
        let ty := if body.length < 2 then 0 else rtcmBits (body.take 2) 0 12
        if rtcmTaken ty then rtcmRead n rest (r.use ty body)
        else rtcmRead n rest { r with rej := r.rej + 1, ign := r.ign + 1 }

/-- The offset of GNSS time from MT by the block's own estimate: the solved one, else that of MT (05 R159, R160). -/
def Dev.gtOfs (d : Dev) : Int :=
  match d.gn.grid with
  | some o => o
  | none => if d.flag R.MT_STATE_OFS_VALID then d.ofsTicks else 0

/-- The instant in ms of GNSS time that a ms of the week stands for: the one nearest to now (DEDUCED, notes/assumptions/31.md). -/
def Dev.weekAbs (d : Dev) (b : Nat) : Int :=
  let ms : Int := ((d.now : Int) + d.gtOfs) / 4000000
  let w : Int := weekMs
  b + (ms - b + w / 2) / w * w

/-- Sets every listed item of a table. -/
def putAll (t new : Sparse (List Byte)) : Sparse (List Byte) := new.foldl (fun t x => sparsePut (fun _ => []) t x.1 x.2) t

/-- A corrections descriptor's frames are read and put to their uses (05 R155 to R157, R167). -/
def Dev.corrections (d : Dev) (a : AccDesc) (data : List Byte) : Dev :=
  let n := rtcmRead data.length data RtcmCount.init
  let d := d.gnSet fun g => { g with base := (n.base.map d.weekAbs).orElse fun _ => g.base
                                     basePos := n.pos.orElse fun _ => g.basePos
                                     baseAnt := n.ant.getD g.baseAnt
                                     eph := putAll g.eph n.eph }
  let d := (d.addFld R.GN_CORR_FRAME_CNT_COUNT n.taken).addFld R.GN_CORR_REJ_CNT_COUNT n.rej
  let d := d.addFld R.GN_CORR_IGN_CNT_COUNT n.ign
  let d := if n.rej = 0 then d else d.gnEvent R.GN_EVT_CORR_REJ
  d.complete a.ref St.ok (n.taken % 65536 + 65536 * (n.rej % 65536)) 0x05

/-- How a corrections descriptor fails before its buffer is read: status and DETAIL (05 R155, R167). -/
def Dev.correctionsFail (d : Dev) (w : BitVec 256) : Option (Nat × Nat) :=
  let len := descField w 12 2
  if !d.domOn 10 then some (St.notPermitted, 0x02)
  else if !d.flag R.GN_CTRL_EN then some (St.notPermitted, 0x05)
  else
    match firstBad [(1, decide (bitsOf w 12 4 ≠ 0)), (12, decide (len < 6 ∨ 4096 < len)),
                    (14, decide (descField w 14 10 ≠ 0))] with
    | some off => some (St.badDescriptor, badAt off)
    | none => if d.gn.swap.isSome then some (St.busy, 0) else none

/-! ### Trackers (05 R146, R150) -/

/-- The number of a tracker. -/
def trkNo (slot : Nat) (l5 antB : Bool) : Nat := 4 * slot + streamOf l5 antB

/-- Whether the block tracks on a stream. -/
def Dev.streamOn (d : Dev) (n : Nat) : Bool :=
  (d.fld R.GN_IF_CFG_IFEN).testBit n && !d.flag (R.GN_IF_STAT_NO_DATA n)

/-- Whether a tracker is locked and has not lost its lock. -/
def Dev.trkLocked (d : Dev) (k : Nat) : Bool := d.gn.locks.contains k && !d.gn.out.any fun x => x.1 == k

/-- The system of the satellite in a slot. -/
def Dev.slotSys (d : Dev) (slot : Nat) : Nat := (sparseGet (fun _ => 0) d.gn.slots slot) / 64

/-- Shows the counts of satellites and locked trackers, and the STATE that follows from them. -/
def Dev.showTrk (d : Dev) : Dev :=
  let slots := (List.range 64).filter fun s => d.gn.runs.any fun k => k / 4 == s
  let locked := d.gn.locks.filter d.trkLocked
  let d := (d.setFld R.GN_STAT_NSV slots.length).setFld R.GN_STAT_NTRK locked.length
  let st := d.fld R.GN_STAT_STATE
  if st = 0 ∨ st = 4 then d
  else if locked.isEmpty then (if st = 3 then d.setFld R.GN_STAT_STATE 2 else d)
  else d.setFld R.GN_STAT_STATE 3

/-- Drops the trackers that satisfy a test; a slot without a tracker is free. -/
def Dev.dropTrk (d : Dev) (p : Nat → Bool) : Dev :=
  (d.gnSet fun g =>
    let runs := g.runs.filter fun k => !p k
    { g with runs := runs, locks := g.locks.filter fun k => !p k, out := g.out.filter fun x => !p x.1
             slots := g.slots.filter fun x => runs.any fun k => k / 4 == x.1 }).showTrk

/-- Drops the trackers whose stream is off or whose satellite has no enabled signal on their band (05 R146, R147). -/
def Dev.dropDisabled (d : Dev) : Dev :=
  d.dropTrk fun k => !d.streamOn (k % 4) || !d.sigOn (d.slotSys (k / 4)) (decide (k % 2 = 1))

/-- A write to GN_IF_CFG or GN_SIG_EN. -/
def Dev.writeSignals (d : Dev) (off : Nat) (v : Word) : Dev := (d.writeByCode off v).dropDisabled

/-- Adds numbers to a list without repeats. -/
def addNew (l new : List Nat) : List Nat := new.foldl (fun l k => if l.contains k then l else l ++ [k]) l

/-- Whether a tracker may be locked: its satellite above the mask, in this slot or in none, the slot free or its own (05 R148). -/
def Dev.trkFits (d : Dev) (t : GnTrk) : Bool :=
  d.aboveMask t.sat && d.gn.slots.all fun x => (x.1 == t.slot.val) == (x.2 == satOf t.sat)

/-- A tracker locks, its satellite leaves the acquisition list; on antenna A its satellite's trackers on antenna B and the other band
start by prediction (05 R150). -/
def Dev.lockTrk (d : Dev) (t : GnTrk) : Dev :=
  let me := trkNo t.slot t.l5 t.antB
  let sib := if t.antB then [] else
    ([(t.l5, true), (!t.l5, false), (!t.l5, true)].filter fun x => d.sigOn t.sat.sys x.1 && d.streamOn (streamOf x.1 x.2)).map
      fun x => trkNo t.slot x.1 x.2
  (d.gnSet fun g => { g with runs := addNew g.runs (me :: sib), locks := addNew g.locks [me]
                             out := g.out.filter fun x => x.1 != me
                             slots := sparsePut (fun _ => 1000) g.slots t.slot (satOf t.sat)
                             acq := g.acq.filter fun k => k != satOf t.sat }).showTrk

/-- Locked trackers that have lost lock, with the MT of the loss. -/
def Dev.loseLock (d : Dev) (l : List (Fin 256 × BitVec 64)) : Dev :=
  (d.gnSet fun g => { g with out := g.out ++ (l.filter fun x => d.trkLocked x.1 && decide (x.2.toNat ≤ d.now)).map fun x =>
                                       (x.1.val, x.2.toNat) }).showTrk

/-- A tracker that has been out of lock for 1 s is released and its satellite returns to the acquisition list (05 R150). -/
def Dev.releaseTrk (d : Dev) (t : GnTrk) : Dev :=
  let me := trkNo t.slot t.l5 t.antB
  let key := sparseGet (fun _ => 0) d.gn.slots t.slot
  (d.gnSet fun g => { g with acq := addNew g.acq [key] }).dropTrk fun k => k == me

/-- Whether a tracker has been out of lock for 1 s. -/
def Dev.lostFor (d : Dev) (t : GnTrk) : Bool :=
  d.gn.out.any fun x => x.1 == trkNo t.slot t.l5 t.antB && decide (x.2 + secTicks ≤ d.now)

/-! ### Kept data (05 R165, R166) -/

/-- Shows in the registers whether kept data is present. -/
def Dev.showKept (d : Dev) : Dev :=
  (d.setFlag R.GN_STAT_KEPT_VALID d.kept.isSome).setFlag R.GN_KEPT_STAT_VALID d.kept.isSome

/-- Kept data without an item. -/
def GnKept.drop (k : GnKept) : KeptItem → GnKept
  | .eph sys id => { k with eph := sparsePut (fun _ => []) k.eph (satKey sys id) [] }
  | .alm sys id => { k with alm := sparsePut (fun _ => []) k.alm (satKey sys id) [] }
  | .pos => { k with pos := none }
  | .utc => { k with utc := 0 }

/-- Saves the kept data; what the block has not collected since its start stays as it was kept (05 R165). -/
def Dev.saveKept (d : Dev) : Dev :=
  let old := d.kept.getD { at_ := 0, pos := none, utc := 0, eph := [], alm := [] }
  let k : GnKept := { at_ := d.now, pos := d.gn.pos.orElse fun _ => old.pos
                      utc := if d.flag R.GN_UTC_VALID then d.reg R.GN_UTC else old.utc
                      eph := putAll old.eph d.gn.eph, alm := putAll old.alm d.gn.alm }
  let d := { d with kept := some k }
  ((d.gnSet fun g => { g with saveAt := d.now }).showKept).gnEvent R.GN_EVT_KEPT_SAVED

/-- Seconds since the last save (GN_KEPT_STAT.AGE). -/
def Dev.keptAge (d : Dev) : Nat :=
  match d.kept with
  | some k => min ((d.now - k.at_) / secTicks) 0xFFFFFF
  | none => 0

/-- A write to GN_KEPT_CMD: SAVE, then DISCARD (05 R165). -/
def Dev.writeKept (d : Dev) (v : Word) : Dev :=
  let d := if v.getLsbD 0 then d.saveKept else d
  if v.getLsbD 1 then ({ d with kept := none }).showKept else d

/-! ### Forager bursts (05 R151 to R153) -/

/-- Ends a burst: PD11 off, its leave returned. -/
def Dev.endBurst (d : Dev) : Dev :=
  match d.gn.burst with
  | some (k, _) =>
    let d := (d.endBooking k).gnSet fun g => { g with burst := none }
    let off : BitVec 14 := ~~~(BitVec.ofNat 14 (2 ^ 11))
    ({ d with pwr := { d.pwr with on := d.pwr.on &&& off, good := d.pwr.good &&& off } }).setFlag R.GN_STAT_FORAGER_ON false
  | none => d

/-- The block asks leave for a burst: granted, PD11 is switched on; refused, it is asked again after RETRY ms. -/
def Dev.askBurst (d : Dev) (us : Nat) : Dev :=
  let r : LeaveReq := { bank := none, amount := 0, mw := 1100, start := d.now, us := us, safety := false, req := 3, owner := 0 }
  let id := d.pwr.nextBook
  match d.decideLeave r with
  | (none, d) =>
    let d := (d.gnSet fun g => { g with burst := some (id, d.now + usTicks us), retry := none }).count R.GN_ACQ_BURST_CNT
    let d := { d with pwr := { d.pwr with on := d.pwr.on ||| BitVec.ofNat 14 (2 ^ 11) } }
    let d := if d.fld R.GN_STAT_STATE = 1 then d.setFld R.GN_STAT_STATE 2 else d
    d.setFlag R.GN_STAT_FORAGER_ON true
  | (some _, d) =>
    let ms := max 1 (d.fld R.GN_ACQ_CFG_RETRY)
    let d := (d.gnSet fun g => { g with retry := some (d.now + msTicks ms, us) }).count R.GN_ACQ_DENY_CNT
    (if d.fld R.GN_STAT_STATE = 1 then d.setFlag R.GN_STAT_HOT_START false else d).gnEvent R.GN_EVT_ACQ_DENIED

/-- NCOH as it acts: passes of 1 ms that a search sums (GN_ACQ_CFG). -/
def Dev.ncoh (d : Dev) : Nat := min 100 (max 1 (d.fld R.GN_ACQ_CFG_NCOH))

/-- Whether a burst of so many µs holds one pass at least and is no longer than 100 ms (05 R151). -/
def Dev.burstOk (d : Dev) (us : Nat) : Bool := decide (1000 * d.ncoh ≤ us ∧ us ≤ 100000)

/-- Whether the block may ask for a burst. -/
def Dev.mayBurst (d : Dev) : Bool :=
  d.domOn 10 && d.flag R.GN_CTRL_EN && d.gn.loaded && d.gn.burst.isNone && d.gn.swap.isNone && d.pwr.park == .run

/-! ### Enable and disable (05 R159, R165, R166) -/

/-- FIX_RATE as it acts (05 R159). -/
def fixRate (x : Nat) : Nat := (([1, 2, 4, 5, 10, 20, 25, 50].filter fun r => decide (r ≤ x)).getLast?).getD 1

/-- The kept data that a start restores: items that fail their code are counted and dropped (05 R165, 01 R36). -/
def Dev.restoreKept (d : Dev) (bad : List KeptItem) : Dev :=
  match d.kept with
  | some k =>
    let k := bad.foldl GnKept.drop k
    let d := ({ d with kept := some k }).addFld R.GN_INTEG_CNT_COUNT bad.length
    let d := d.gnSet fun g => { g with pos := g.pos.orElse fun _ => k.pos, eph := putAll k.eph g.eph, alm := putAll k.alm g.alm }
    if d.flag R.GN_UTC_VALID then d else d.setReg R.GN_UTC k.utc
  | none => d

/-- The conditions of R166 that hold at a start, the Forager's first leave apart. -/
def Dev.hotSky (d : Dev) (x : GnSky) : Bool :=
  match d.kept with
  | some k =>
    let n := fun p => (x.sats.filter p).length
    decide (d.now - k.at_ ≤ 4 * 3600 * secTicks) && x.near && k.pos.isSome && decide (d.terr < 2000000000) &&
      decide (5 ≤ n fun y => d.aboveMask y && decide (sparseGet (fun _ => []) k.eph (satOf y) ≠ [])) &&
      decide (5 ≤ n fun y => decide (35 ≤ y.cn0.toNat))
  | none => false

/-- The block starts: the kept data restored, the conditions of a hot start but for its first leave, the acquisition list of the
satellites above the mask (05 R148, R165, R166; DEDUCED, notes/assumptions/31.md). -/
def Dev.gnStart (d : Dev) (x : GnSky) (bad : List KeptItem) : Dev :=
  let d := d.restoreKept bad
  let d := d.setFlag R.GN_STAT_HOT_START (d.hotSky x)
  let d := d.gnSet fun g => { g with acq := addNew [] ((x.sats.filter d.aboveMask).map satOf) }
  d.setFld R.GN_STAT_STATE 1

/-- The block stops: kept data saved, a burst ended, every tracker released (05 R153, R165). -/
def Dev.gnStop (d : Dev) : Dev :=
  let d := d.saveKept.endBurst
  let d := d.gnSet fun g => { g with runs := [], locks := [], out := [], slots := [], acq := [], retry := none, grid := none
                                     last := none, lastGt := none, ratePend := [] }
  (((d.setFld R.GN_STAT_STATE 0).setFld R.GN_STAT_NSV 0).setFld R.GN_STAT_NTRK 0).setFlag R.GN_STAT_HOT_START false

/-- A write to GN_CTRL (05 R159, R165, R166). -/
def Dev.writeGnCtrl (d : Dev) (v : Word) (sky : GnSky) (bad : List KeptItem) : Dev :=
  let was := d.flag R.GN_CTRL_EN
  let old := d.fld R.GN_CTRL_FIX_RATE
  let d := d.writeByCode R.GN_CTRL v
  let is := d.flag R.GN_CTRL_EN
  let rate := d.fld R.GN_CTRL_FIX_RATE
  if is && !was then
    let d := d.gnSet fun g => { g with since := d.now, saveAt := d.now, rate := fixRate rate, ratePend := [] }
    if d.gn.loaded then d.gnStart sky bad else d
  else if was && !is then d.gnStop
  else if is && decide (rate ≠ old) then d.gnSet fun g => { g with ratePend := g.ratePend ++ [(fixRate rate, d.now)] }
  else d

/-! ### The origin (05 R163) -/

/-- A write to GN_ORG_CMD. -/
def Dev.writeOrgCmd (d : Dev) (v : Word) : Dev :=
  if v.getLsbD 0 then
    let gen := (d.fld R.GN_ORG_CMD_GEN + 1) % 256
    let o : GnOrg := { gen := gen, from_ := d.now + msTicks 1,
                       lat := toInt 64 (d.reg64 R.GN_ORG_LAT_LO R.GN_ORG_LAT_HI),
                       lon := toInt 64 (d.reg64 R.GN_ORG_LON_LO R.GN_ORG_LON_HI),
                       hgt := (d.reg R.GN_ORG_HGT).toInt }
    (d.gnSet fun g => { g with orgs := o :: g.orgs }).setFld R.GN_ORG_CMD_GEN gen
  else d

/-- The origin in force for an epoch. -/
def Dev.orgAt (d : Dev) (t : Nat) : GnOrg :=
  (d.gn.orgs.find? fun o => decide (o.from_ ≤ t)).getD { gen := 0, from_ := 0, lat := 0, lon := 0, hgt := 0 }

/-! ### Fix epochs (05 R158 to R162) -/

/-- The offset of the grid in use from MT: that of solved GNSS time once a record had a valid time (05 R159). -/
def Dev.gridOfs (d : Dev) : Int := d.gn.grid.getD 0

/-- The point of the grid from which a rate written at an MT takes effect: the first whole second at least one period of the old
rate after the write (05 R159). -/
def Dev.rateFrom (d : Dev) (old w : Nat) : Int :=
  let s : Int := secTicks
  let p : Int := secTicks / old
  let k : Int := ((w : Int) + d.gridOfs + p + s - 1) / s
  k * s

/-- The fix rate at a point of the grid, and the rates that still wait there: each waits by the rate before it (05 R159). -/
def Dev.ratesAt (d : Dev) (g : Int) : Nat → List (Nat × Nat) → Nat × List (Nat × Nat)
  | r, [] => (r, [])
  | r, (x, w) :: t => if d.rateFrom r w ≤ g then d.ratesAt g x t else (r, (x, w) :: t)

/-- The fix rate at a point of the grid. -/
def Dev.rateAt (d : Dev) (g : Int) : Nat := (d.ratesAt g d.gn.rate d.gn.ratePend).1

/-- The epoch due now: its grid point and its MT, when its samples are there and it has not been solved yet (05 R145, R159, R167). -/
def Dev.epochDue (d : Dev) : Option (Int × Nat) :=
  let ofs := d.gridOfs
  let gn : Int := (d.now : Int) - d.captureLag + ofs
  let p : Int := secTicks / d.rateAt gn
  let g := gn / p * p
  let mt := (g - ofs).toNat
  let new := match d.gn.last with
    | none => true
    | some l =>
      if d.gn.grid.isSome then
        (match d.gn.lastGt with
         | some k => decide (k < g)
         | none => decide ((l : Int) + p ≤ mt))
      else decide (l < mt)
  let swapOk := match d.gn.swap with
    | some (some l) => decide (l + d.lossTicks + msTicks 100 ≤ mt)
    | _ => true
  if new && swapOk && decide (ofs ≤ g) && decide (d.gn.since ≤ mt) then some (g, mt) else none

/-- The age of the base observations at a GNSS time, in ms. -/
def Dev.corrAge (d : Dev) (gt : Nat) : Option Nat := d.gn.base.map fun b => ((gt / 4000000 : Nat) - b : Int).toNat

/-- MAX_AGE in ms (GN_CORR_CFG). -/
def Dev.maxAge (d : Dev) : Nat := min 60 (max 1 (d.fld R.GN_CORR_CFG_MAX_AGE)) * 1000

/-- Whether an antenna tracks a satellite in lock on a band. -/
def Dev.satLocked (d : Dev) (ant : Nat) (x : GnSat) : Bool :=
  d.gn.slots.any fun s => s.2 == satOf x && [false, true].any fun l5 => d.trkLocked (trkNo s.1 l5 (decide (ant = 1)))

/-- The satellites of a solution that an antenna may use: in lock, above the elevation and C/N0 masks, each once (05 R148,
GN_MASK). -/
def Dev.usable (d : Dev) (ant : Nat) (f : FixSol) : List Nat :=
  addNew [] ((f.used.filter fun x => d.satLocked ant x && d.aboveMask x && decide (d.fld R.GN_MASK_CN0 ≤ x.cn0.toNat)).map
    satOf)

/-- NSAT of an antenna's solution. -/
def Dev.nsat (d : Dev) (ant : Nat) (f : FixSol) : Nat := (d.usable ant f).length

/-- Whether an antenna's solution gives a position: satellites enough (05 R161). -/
def Dev.posOk (d : Dev) (ant : Nat) (f : FixSol) : Bool := f.valid && decide (4 + f.others.toNat ≤ d.nsat ant f)

/-- East, north and up of a position from an origin, in 1/8 mm: none from the origin itself (05 R160, R162). -/
def enuOf (f : FixSol) (o : GnOrg) : Int × Int × Int :=
  if f.lat.toInt = o.lat ∧ f.lon.toInt = o.lon ∧ f.hgt.toInt = o.hgt then (0, 0, 0)
  else Config.localEnu f.lat.toInt f.lon.toInt f.hgt.toInt o.lat o.lon o.hgt

/-- Whether a record carries a valid time (05 R161). -/
def Dev.timeOk (d : Dev) (ant : Nat) (f : FixSol) : Bool :=
  d.posOk ant f && f.timeSolved && decide (5 ≤ d.nsat ant f) && decide (f.sdT.toNat ≤ d.fld R.MT_MEAS_CFG_GOOD_TERR)

/-- FIX_TYPE of an antenna's record at a GNSS time (05 R158). FIX_TYPE 2 (DGNSS), for which the spec gives no condition, is never
given: 05 R158 names RTK fixed, RTK float and standalone (DEDUCED, notes/assumptions/31.md). -/
def Dev.fixType (d : Dev) (ant gt : Nat) (f : FixSol) : Nat :=
  let rtk := d.flag R.GN_CTRL_RTK_EN && (match d.corrAge gt with | some a => decide (a ≤ d.maxAge) | none => false)
  if d.posOk ant f then (if rtk then (if f.fixed then 4 else 3) else 1) else 0

/-- The 16 words of a record: antenna, MT_EPOCH, GT_EPOCH (05 R160). -/
def Dev.recWords (d : Dev) (ant mt gt : Nat) (f : FixSol) : List Word :=
  let age := d.corrAge gt
  let ok := d.posOk ant f
  let ty := d.fixType ant gt f
  let o := d.orgAt mt
  let enu := enuOf f o
  let p := fun x : Nat => if ok then x else 0
  let w := fun x : Nat => BitVec.ofNat 32 x
  let b58 := ty + 16 * (d.timeOk ant f).toNat + 32 * ok.toNat + 64 * ant
  let sdT := if ok then f.sdT.toNat else 0xFFFF
  let ageF := match age with | some a => min (a / 100) 0xFFFE | none => 0xFFFF
  [w mt, w (mt / 2 ^ 32), w gt, w (gt / 2 ^ 32), w (p f.lat.toNat), w (p f.lat.toNat / 2 ^ 32), w (p f.lon.toNat),
   w (p f.lon.toNat / 2 ^ 32), w (p f.hgt.toNat), w (p (ofInt 32 enu.1)), w (p (ofInt 32 enu.2.1)), w (p (ofInt 32 enu.2.2)),
   w (p (f.sdE.toNat + 65536 * f.sdN.toNat)), w (p (f.sdU.toNat + 65536 * f.rho.toNat) + 2 ^ 24 * o.gen),
   w (sdT + 65536 * b58 + 2 ^ 24 * p (d.nsat ant f)), w (ageF + 65536 * (d.gn.seq % 65536))]

/-- The bytes of words. -/
def wordBytes (l : List Word) : List Byte := l.flatMap fun w => leBytes 4 w.toNat

/-- Slots of the fix log; a SIZE_LOG2 outside 4 to 12 acts as the nearer limit (DESIGN CHOICE, notes/assumptions/31.md). -/
def Dev.logSize (d : Dev) : Nat := 2 ^ min 12 (max 4 (d.fld R.GN_LOG_CFG_SIZE_LOG2))

/-- A record goes to the fix log, or is dropped and counted (05 R164). -/
def Dev.logRecord (d : Dev) (ws : List Word) (err : Bool) : Dev :=
  let t := d.fld R.GN_LOG_TAIL_INDEX
  let size := d.logSize
  if !d.flag R.GN_LOG_CFG_EN then d
  else if !d.canMaster then d.count R.GN_LOG_DROP_CNT
  else if (t + 1) % size = d.fld R.GN_LOG_HEAD_INDEX then (d.count R.GN_LOG_DROP_CNT).gnEvent R.GN_EVT_LOG_FULL
  else if err then (d.count R.GN_LOG_DROP_CNT).gnEvent R.GN_EVT_LOG_ERR
  else
    let ph := d.fld R.GN_LOG_TAIL_PHASE
    let w14 := (ws.getD 14 0) ||| BitVec.ofNat 32 (ph * 2 ^ 23)
    let a := d.reg64 R.GN_LOG_BASE_LO R.GN_LOG_BASE_HI + 64 * t
    let d := d.memWrite a (wordBytes (ws.set 14 w14))
    let wrap := decide (t + 1 = size)
    let d := d.setFld R.GN_LOG_TAIL_INDEX (if wrap then 0 else t + 1)
    let d := if wrap then d.setFld R.GN_LOG_TAIL_PHASE (1 - ph) else d
    if d.flag R.GN_LOG_CFG_IEN then d.raiseVector (d.fld R.GN_LOG_CFG_VECTOR) else d

/-- POS_VALID of an antenna's latest record. -/
def Dev.lastPosValid (d : Dev) (ant : Nat) : Bool := (d.reg (R.GN_FIX_W ant 14)).getLsbD 21

/-- Posts one record: the pose unit first, for antenna A the MT block, then the snapshot and the log (05 R161, R162, R164). -/
def Dev.postRecord (d : Dev) (ant mt gt : Nat) (f : FixSol) (err : Bool) : Dev :=
  let ws := d.recWords ant mt gt f
  let ok := d.posOk ant f
  let tok := d.timeOk ant f
  let lost := d.lastPosValid ant && !ok
  let o := d.orgAt mt
  let d := d.poseRecord ant ok o.gen mt (d.fixType ant gt f) (enuOf f o) f
  let d := if ant = 0 then d.measure 1 (toInt 64 (gt % 2 ^ 64)) mt (if ok then f.sdT.toNat else 0xFFFF) tok else d
  let d := d.forAll (List.range 16) fun w d => d.setReg (R.GN_FIX_W ant w) (ws.getD w 0)
  let d := if ok && decide (ant = 0) then d.gnSet fun g => { g with pos := some (f.lat, f.lon, f.hgt, mt) } else d
  let d := (d.count R.GN_FIX_CNT).gnEvent R.GN_EVT_FIX
  let d := if lost then d.gnEvent R.GN_EVT_FIX_LOST else d
  d.logRecord ws err

/-- CORR_STALE when the base observations have grown older than MAX_AGE (05 R158). -/
def Dev.judgeStale (d : Dev) (gt : Nat) : Dev :=
  match d.corrAge gt with
  | some a =>
    if d.flag R.GN_CTRL_RTK_EN && decide (d.maxAge < a) then
      if d.gn.stale then d
      else ((d.gnSet fun g => { g with stale := true }).gnEvent R.GN_EVT_CORR_STALE).setLine Src.gnCorr 0
    else (d.gnSet fun g => { g with stale := false }).dropLine Src.gnCorr
  | none => d

/-- The first record of new navigation firmware ends the swap (05 R167). -/
def Dev.endNavSwap (d : Dev) : Dev :=
  if d.gn.swap.isSome then
    let d := (d.gnSet fun g => { g with swap := none }).setFlag R.UPD_STAT_NAV_SWAP false
    let d := d.setFld R.GN_STAT_STATE (if d.gn.locks.isEmpty then 2 else 3)
    d.gnEvent R.GN_EVT_SWAP_DONE
  else d

/-- A detection in the tracker or navigation state: counted; when its redo fails the fix is withheld (01 R36). -/
def Dev.gnDetect (d : Dev) (x : FixEnv) : Dev × Bool :=
  let det := match x.det with
    | some r => some r
    | none => if d.injected 13 none then some (d.injectedTwice 13 none) else none
  match det with
  | some r =>
    let d := (d.injectDone 13 none).count R.GN_INTEG_CNT
    (if r then d.raiseFault Src.gnInteg 0 else d, r)
  | none => (d, false)

/-- What an epoch brings beside its solutions: levels of the enabled streams, the leap second, items of the navigation messages, lost
locks (05 R143, R150, R165). -/
def Dev.epochNews (d : Dev) (x : FixEnv) : Dev :=
  let d := d.forAll (List.range 4) fun n d =>
    match (d.fld R.GN_IF_CFG_IFEN).testBit n, x.codes[n]? with
    | true, some l => d.setReg (R.GN_IF_STAT n) (BitVec.ofNat 32 (levelClip l + (d.reg (R.GN_IF_STAT n)).toNat / 65536 * 65536))
    | _, _ => d
  let d := match x.leap with
    | some l => (d.setFld R.GN_UTC_LEAP l.toNat).setFlag R.GN_UTC_VALID true
    | none => d
  let items := fun alm => (x.nav.filter fun i => i.alm == alm).map fun i => (satKey i.sys i.id, i.data)
  (d.gnSet fun g => { g with eph := putAll g.eph (items false), alm := putAll g.alm (items true) }).loseLock x.lost

/-- One epoch at its grid point and MT. Both records carry the time that antenna A's solution gives, else antenna B's; a record without
a position carries the estimate of R160 (DEDUCED, notes/assumptions/31.md). -/
def Dev.fixAt (d : Dev) (g : Int) (mt : Nat) (a b : FixSol) (x : FixEnv) : Dev :=
  let rates := d.ratesAt g d.gn.rate d.gn.ratePend
  let r := d.gnDetect x
  let a : FixSol := if r.2 then { a with valid := false } else a
  let b : FixSol := if r.2 then { b with valid := false } else b
  let two := decide (d.fld R.GN_IF_CFG_IFEN / 4 ≠ 0)
  let d := r.1.epochNews x
  let okA := d.posOk 0 a
  let okB := two && d.posOk 1 b
  let est := if d.flag R.MT_STATE_OFS_VALID then ofInt 64 ((mt : Int) + d.ofsTicks) else mt
  let gt := if okA then a.gt.toNat else b.gt.toNat
  let tok := d.timeOk 0 a || (two && d.timeOk 1 b)
  let d := (d.judgeStale (if okA || okB then gt else est)).endNavSwap
  let d := d.postRecord 0 mt (if okA then gt else est) a x.logErr
  let d := if two then d.postRecord 1 mt (if okB then gt else est) b x.logErr else d
  d.gnSet fun s => { s with last := some mt, lastGt := if s.grid.isSome then some g else none
                            grid := if tok then some (toInt 64 gt - mt) else s.grid
                            rate := rates.1, ratePend := rates.2, seq := s.seq + 1, lastRec := some mt }

/-! ### The fix log's registers (05 R164) -/

/-- A write to GN_LOG_CFG: SIZE_LOG2 is written only while EN is 0. -/
def Dev.writeLogCfg (d : Dev) (v : Word) : Dev :=
  let was := d.flag R.GN_LOG_CFG_EN
  let size := if was then d.fld R.GN_LOG_CFG_SIZE_LOG2 else R.GN_LOG_CFG_SIZE_LOG2.ext v
  let d := (d.writeByCode R.GN_LOG_CFG v).setFld R.GN_LOG_CFG_SIZE_LOG2 size
  if v.getLsbD 0 && !was then
    ((d.setFld R.GN_LOG_TAIL_INDEX 0).setFlag R.GN_LOG_TAIL_PHASE true).setFld R.GN_LOG_HEAD_INDEX 0
  else d

/-- A write to GN_LOG_HEAD. -/
def Dev.writeLogHead (d : Dev) (v : Word) : Dev :=
  let i := bitsOf v 0 12
  let size := d.logSize
  let h := d.fld R.GN_LOG_HEAD_INDEX
  let t := d.fld R.GN_LOG_TAIL_INDEX
  if i < size ∧ (i + size - h) % size ≤ (t + size - h) % size then d.setFld R.GN_LOG_HEAD_INDEX i else d

/-! ### Commands -/

/-- GNSS_CORRECTIONS (05 R155 to R157): the oldest corrections descriptor that may pass, with the bytes of its buffer. -/
def execGnssCorrections (data : List (BitVec 8)) (s : State) : Host.Outcome State Fault Refusal :=
  onDev s fun d =>
    match d.nextDesc fun w => descType w == 0x90 with
    | some a =>
      match d.correctionsFail a.word with
      | some (st, det) => (d.takeDesc a).complete a.ref st det 0x05
      | none =>
        if d.canMaster && decide (data.length = descField a.word 12 2) then (d.takeDesc a).corrections a data else d
    | none => d

/-- FIX_EPOCH (05 R145, R158 to R162, 06 R171, R178). -/
def execFixEpoch (a b : FixSol) (x : FixEnv) (s : State) : Host.Outcome State Fault Refusal :=
  onDev s fun d =>
    if d.domOn 10 && d.mt.loaded && d.flag R.GN_CTRL_EN && d.gn.loaded then
      match d.epochDue with
      | some (g, mt) => d.fixAt g mt a b x
      | none => d
    else d

/-- GN_LOG_HEAD_WRITE (05 R164). -/
def execGnLogHeadWrite (v : BitVec 32) (s : State) : Host.Outcome State Fault Refusal :=
  onDev s fun d => d.access R.GN_LOG_HEAD fun d => d.writeLogHead v

/-- GN_LOG_ENABLE (05 R164): the written word of GN_LOG_CFG. -/
def execGnLogEnable (v : BitVec 32) (s : State) : Host.Outcome State Fault Refusal :=
  onDev s fun d => d.access R.GN_LOG_CFG fun d => d.writeLogCfg v

/-- FORAGER_BURST (05 R151, R152): a burst of so many µs, of one pass at least and at most 100 ms; while a refusal waits, ACQ_RETRY
asks. -/
def execForagerBurst (us : BitVec 17) (s : State) : Host.Outcome State Fault Refusal :=
  onDev s fun d =>
    if d.mayBurst && d.gn.retry.isNone && d.burstOk us.toNat then d.askBurst us.toNat else d

/-- ACQ_RETRY (05 R152). -/
def execAcqRetry (s : State) : Host.Outcome State Fault Refusal :=
  onDev s fun d =>
    match d.gn.retry with
    | some (t, us) => if d.mayBurst && decide (t ≤ d.now) then d.askBurst us else d
    | none => d

/-- FORAGER_BURST_END (05 R151): the length that the burst has leave for has passed. -/
def execForagerBurstEnd (s : State) : Host.Outcome State Fault Refusal :=
  onDev s fun d =>
    match d.gn.burst with
    | some (_, t) => if t ≤ d.now then d.endBurst else d
    | none => d

/-- GN_ENABLE (05 R159, R166): the written word of GN_CTRL. -/
def execGnEnable (v : BitVec 32) (sky : GnSky) (bad : List KeptItem) (s : State) : Host.Outcome State Fault Refusal :=
  onDev s fun d => d.access R.GN_CTRL fun d => d.writeGnCtrl v sky bad

/-- GN_DISABLE (05 R153, R165): the written word of GN_CTRL. A word with EN 1 is GN_ENABLE's, with an open sky. -/
def execGnDisable (v : BitVec 32) (s : State) : Host.Outcome State Fault Refusal :=
  onDev s fun d => d.access R.GN_CTRL fun d =>
    if v.getLsbD 0 then d.draw.2.writeGnCtrl v (Config.freeSky d.free) (Config.freeBad d.free)
    else d.writeGnCtrl v { sats := [], near := false } []

/-- Whether a stream shows no data: what holds GN_IF active (05 R146, 17 R472). -/
def Dev.noDataAny (d : Dev) : Bool := (List.range 4).any fun n => d.flag (R.GN_IF_STAT_NO_DATA n)

/-- A stream shows transitions again (05 R146). -/
def Dev.clearNoData (d : Dev) (n : Nat) : Dev :=
  let d := d.setFlag (R.GN_IF_STAT_NO_DATA n) false
  d.settleLine Src.gnIf d.noDataAny

/-- A write to GN_EVT: CORR_STALE and IF_FAULT are set again while their cause is present (00 R14). -/
def Dev.writeGnEvt (d : Dev) (v : Word) : Dev :=
  let d := d.writeByCode R.GN_EVT v
  let d := if v.getLsbD 3 && d.gn.stale then d.gnEvent R.GN_EVT_CORR_STALE else d
  if v.getLsbD 9 && d.noDataAny then d.gnEvent R.GN_EVT_IF_FAULT else d

/-- SAVE (05 R165): the written word of GN_KEPT_CMD. -/
def execSave (v : BitVec 32) (s : State) : Host.Outcome State Fault Refusal :=
  onDev s fun d => d.access R.GN_KEPT_CMD fun d => d.writeKept v

/-- KEPT_PERIODIC_SAVE (05 R165): 60 s of tracking since the last save. -/
def execKeptPeriodicSave (s : State) : Host.Outcome State Fault Refusal :=
  onDev s fun d =>
    if d.domOn 10 && decide (d.fld R.GN_STAT_STATE = 3) && decide (d.gn.saveAt + 60 * secTicks ≤ d.now) then d.saveKept else d

/-- DISCARD (05 R165). -/
def execDiscard (v : BitVec 32) (s : State) : Host.Outcome State Fault Refusal :=
  onDev s fun d => d.access R.GN_KEPT_CMD fun d => d.writeKept v

/-- APPLY (05 R163): the written word of GN_ORG_CMD. -/
def execOrgApply (v : BitVec 32) (s : State) : Host.Outcome State Fault Refusal :=
  onDev s fun d => d.access R.GN_ORG_CMD fun d => d.writeOrgCmd v

/-- NO_DATA (05 R146): an enabled stream shows no transition for 1 ms since the last one's MT; nothing is tracked on it. -/
def execNoData (x : QuietStream) (s : State) : Host.Outcome State Fault Refusal :=
  onDev s fun d =>
    if d.domOn 10 && d.streamOn x.n && decide (x.last.toNat + msTicks 1 ≤ d.now) then
      let d := ((d.setFlag (R.GN_IF_STAT_NO_DATA x.n) true).gnEvent R.GN_EVT_IF_FAULT).setLine Src.gnIf 0
      d.dropTrk fun k => k % 4 == x.n.val
    else d

/-- NO_DATA_CLEAR (05 R146). -/
def execNoDataClear (n : Fin 4) (s : State) : Host.Outcome State Fault Refusal :=
  onDev s fun d => if d.domOn 10 then d.clearNoData n else d

/-- TRACKER_LOCK (05 R150). -/
def execTrackerLock (t : GnTrk) (s : State) : Host.Outcome State Fault Refusal :=
  onDev s fun d =>
    if d.domOn 10 && d.flag R.GN_CTRL_EN && d.gn.loaded && d.streamOn (streamOf t.l5 t.antB) && d.sigOn t.sat.sys t.l5 &&
        d.trkFits t then
      d.lockTrk t
    else d

/-- TRACKER_RELEASE (05 R150): a tracker has been out of lock for 1 s. -/
def execTrackerRelease (t : GnTrk) (s : State) : Host.Outcome State Fault Refusal :=
  onDev s fun d => if d.domOn 10 && d.lostFor t then d.releaseTrk t else d

end Sys2Proof.Machine
end

