-- ==== Sys2Proof/Machine/Power.lean ====
section
/-! DEFINITION. Power of 16: domains on and off with their close-outs, Fallow entry, wakes, supply and clock events, heat; and the
commands of that chapter but for LEAVE_RETRY. -/

namespace Sys2Proof.Machine

/-! ### Close-outs (R455, R463) -/

/-- The channels of a die. -/
def dieChans (k : Nat) : List Nat := (List.range 64).map (64 * k + ·)

/-- A channel die is parked: every channel in its safe state, whose drive the die holds from here on, its watchdog disarmed (07 R239). -/
def Dev.parkDie (d : Dev) (k : Nat) : Dev :=
  let d := d.forAll (dieChans k) fun c d => Dev.feedFault (d.safeChan c) c
  let d := d.forAll (dieChans k) fun c d => d.setChan c { d.chan c with hold := d.side c }
  d.setDie k { d.die k with armed := false }

/-- The calibration record of a channel is loaded from the configuration area (07 R239, 19 R522). -/
def Dev.loadCalib (d : Dev) (nv : Nv) (c : Nat) : Dev :=
  let w := fun k => sparseGet (fun i => if i % 2 = 0 then 0x40000000#32 else 0) nv.calib (4 * c + k)
  (((d.writeByCode (R.CH_CAL_IG c) (w 0)).writeByCode (R.CH_CAL_IO c) (w 1)).writeByCode (R.CH_CAL_VG c)
    (w 2)).writeByCode (R.CH_CAL_VO c) (w 3)

/-- A channel die comes on: its hold ends, its link carries traffic while REF100 runs, and once the start is over its calibration records
are loaded at once; during the start step 8 loads them (07 R239, 19 R527). -/
def Dev.dieGood (d : Dev) (nv : Nv) (k : Nat) : Dev :=
  let d := d.forAll (dieChans k) fun c d => d.setChan c { d.chan c with hold := none }
  let d := d.setFlag (R.CH_DIE_STAT_LINK_UP k) d.mt.refOk
  if d.upd.phase = 12 then d.forAll (dieChans k) fun c d => d.loadCalib nv c else d

/-- Every loop slot opens (10 R302). -/
def Dev.openSlots (d : Dev) : Dev := d.forAll (List.range 160) fun s d => d.openSlot s

/-- The CAN controllers enter CONFIG and the lighting port holds LT_BLANK high (14 R427, 15 R447). -/
def Dev.closePorts (d : Dev) : Dev :=
  let d := d.forAll (List.range 16) fun n d => d.canClose n
  { d with lt := { d.lt with dark := true } }

/-- The close-out of a domain before it switches off (R455). -/
def Dev.closeOut (d : Dev) (k : Nat) : Dev :=
  match k with
  | 6 => d.openSlots.forAll (List.range 128) fun c d => d.killProfile c
  | 7 => d.swClose
  | 9 => d.closePorts
  | 10 => d.gnStop
  | 12 => d.parkDie 0
  | 13 => d.parkDie 1
  | _ => d

/-! ### Domain requests (R454, R455) -/

/-- The domains that PWR_DOM_CTRL switches. -/
def switchable : List Nat := [6, 7, 9, 10, 12, 13]

/-- PEND of a domain. -/
def domPend (k : Nat) : Fld := ⟨R.PWR_DOM_PEND, k, 1⟩

/-- A request for ON: withdraws a pending switch-off; switches on a domain that is off, PD3 before it; ignored during Fallow entry. -/
def Dev.askOn (d : Dev) (k : Nat) : Dev :=
  if d.pwr.park != .run then d
  else
    let d := d.setFlag (domPend k) false
    if d.pwr.on.getLsbD k then d else (if d.pwr.on.getLsbD 3 then d else d.switchOn 3).switchOn k

/-- A request for OFF of a domain that is on. -/
def Dev.askOff (d : Dev) (k : Nat) : Dev := if d.pwr.on.getLsbD k then d.setFlag (domPend k) true else d

/-- A write to PWR_DOM_CTRL. -/
def Dev.writeDomCtrl (d : Dev) (v : Word) : Dev :=
  d.forAll switchable fun k d =>
    match v.getLsbD k, v.getLsbD (16 + k) with
    | true, false => d.askOn k
    | false, true => d.askOff k
    | _, _ => d

/-- Whether a domain's prerequisites are power-good (R454). -/
def Dev.domReady (d : Dev) (k : Nat) : Bool :=
  match k with
  | 2 => d.pwr.mainEn && d.domOn 1
  | 3 => d.domOn 2
  | _ => decide (4 ≤ k) && d.domOn 3

/-- The fuses as the vault's registers show them from PD2 power-on (18 R493). -/
def Dev.showFuses (d : Dev) (nv : Nv) : Dev :=
  let d := d.forAll (List.range 128) fun s d =>
    if (sparseGet (fun _ => none) nv.written s).isSome then d.setFlag (R.KEY_SLOT_FUSED s) true else d
  d.forAll (List.range 128) fun s d => if nv.revoked.getLsbD s then d.setFlag (R.KEY_SLOT_REVOKED s) true else d

/-- A domain reaches power-good: its registers and hidden state take their values at power-on (R453). -/
def Dev.domGood (d : Dev) (nv : Nv) (k : Nat) : Dev :=
  let d := d.powerReset k
  let d := { d with pwr := { d.pwr with good := d.pwr.good ||| domBit k } }
  match k with
  | 2 =>
    let d := { d with pwr := { d.pwr with pll := true }, mt := { d.mt with refOk := true } }
    let d := ((d.setFlag R.PWR_CLK_CFG_PLL_LOCK true).setFlag R.PWR_STAT_MAIN_OK true).showFuses nv
    if d.pwr.supply then { d with pwr := { d.pwr with supply := false } }.raiseFault Src.pwrSupply 0 else d
  | 4 => d.clusterGood 0
  | 5 => d.clusterGood 1
  | 10 => d.showKept
  | 12 => d.dieGood nv 0
  | 13 => d.dieGood nv 1
  | _ => d

/-- Whether a pending domain may switch off now: no committed entry targets it, and an engine cluster has all its engines stopped
(R455, 11 R353). -/
def Dev.mayPowerOff (d : Dev) (k : Nat) : Bool :=
  d.flag (domPend k) && d.pwr.on.getLsbD k && !d.domBusy k &&
    (match k with
     | 4 => (clusterEngines 0).all fun n => d.engSt n == 0
     | 5 => (clusterEngines 1).all fun n => d.engSt n == 0
     | _ => true)

/-- The order in which the domains switch off (R463). -/
def offOrder : List Nat := [11, 10, 4, 5, 6, 7, 9, 12, 13, 8, 3, 2]

/-- Every domain above PD1 switches off. -/
def Dev.dropAll (d : Dev) : Dev :=
  let d := (d.forAll offOrder fun k d => if d.pwr.on.getLsbD k then d.switchOff k else d).setReg R.PWR_DOM_PEND 0
  let d := { d with pwr := { d.pwr with pll := false } }
  (d.setFlag R.PWR_CLK_CFG_PLL_LOCK false).setFlag R.PWR_STAT_MAIN_OK false

/-! ### Fallow entry (R463) -/

/-- The host link completes every descriptor it has not yet passed. -/
def Dev.refuseHanded (d : Dev) : Dev :=
  let l := d.hl.handed
  l.foldl (fun d a => (d.takeDesc a).complete a.ref St.notPermitted 0x02 ((descOwner (descType a.word)).elim 0 (·.1))) d

/-- A write of PARK: the first step of entry. -/
def Dev.writePark (d : Dev) (v : Word) : Dev :=
  if v.getLsbD 0 && d.pwr.park == .run then
    let d := { d with pwr := { d.pwr with park := .closing, parkAt := d.now, mtRec := false } }.setFlag R.PWR_STAT_PARKING true
    let d := (d.refuseHanded.flushEntries fun _ => true).forAll (List.range 16) fun n d => d.stopCmd n
    let d := if d.domOn 10 then d.gnStop else d
    if d.acc.next.isSome || d.acc.wait then d.stopStream 5 else d
  else d

/-- The second step, once the last committed entry has fired. -/
def Dev.closeEntry (d : Dev) : Dev :=
  let d := if d.domOn 12 then d.parkDie 0 else d
  let d := if d.domOn 13 then d.parkDie 1 else d
  let d := if d.domOn 6 then d.openSlots else d
  let d := if d.domOn 7 then d.swClose else d
  let d := if d.domOn 9 then d.closePorts else d
  { d with pwr := { d.pwr with park := .closed } }

/-- The domains switch off in order, then REF_EN and PWR_EN_MAIN fall. -/
def Dev.enterFallow (d : Dev) : Dev :=
  let d := d.dropAll.setFlag R.PWR_STAT_PARKING false
  { d with pwr := { d.pwr with park := .fallow, mainEn := false, strobe := 0 } }

/-! ### Wakes (R465 to R467) -/

/-- A wake begins: its record, the supplies' enables, PD2 switched on. -/
def Dev.beginWake (d : Dev) (src idx rtc : Nat) : Dev :=
  let d := (((d.setReg R.PWR_WAKE_REC 0).setFld R.PWR_WAKE_REC_SOURCE src).setFld R.PWR_WAKE_REC_INDEX idx).setRtc rtc
  let d := (d.setReg R.PWR_WAKE_RTC_LO (BitVec.ofNat 32 rtc)).setReg R.PWR_WAKE_RTC_HI (BitVec.ofNat 32 (rtc / 2 ^ 32))
  let d := match d.carry with
    | some c => (d.setReg R.PWR_PARK_RTC_LO (BitVec.ofNat 32 c.rtc)).setReg R.PWR_PARK_RTC_HI (BitVec.ofNat 32 (c.rtc / 2 ^ 32))
    | none => d
  let d := { d with pwr := { d.pwr with park := .run, mainEn := true, mtRec := false, strobe := 0, wakePend := none } }
  (d.setFlag R.PWR_STAT_PARKING false).switchOn 2

/-- A source joins the wake that runs (R466). -/
def Dev.joinWake (d : Dev) (src : Nat) : Dev := d.setFlag ⟨R.PWR_WAKE_REC, 16 + (src - 1), 1⟩ true

/-- A wake source acts: in Fallow the wake begins, with the source recorded during entry if there is one; during entry it is recorded;
while a wake runs it joins the others. -/
def Dev.wakeBy (d : Dev) (src idx rtc : Nat) : Dev :=
  match d.pwr.park with
  | .fallow =>
    match d.pwr.wakePend with
    | some (s, i) => let d := d.beginWake s i rtc; if s = src then d else d.joinWake src
    | none => d.beginWake src idx rtc
  | .run => if d.mt.loaded then d else d.joinWake src
  | _ => if d.pwr.wakePend.isSome then d else { d with pwr := { d.pwr with wakePend := some (src, idx) } }

/-- Whether a source of R465 that is no wake input and no CAN port is enabled and its condition holds. -/
def Dev.wakeEnabled (d : Dev) (src rtc : Nat) : Bool :=
  match src with
  | 3 => d.flag R.PWR_WAKE_EN_WK_TOK
  | 4 => d.flag R.PWR_WAKE_EN_WK_HOST
  | 5 => d.flag R.PWR_WAKE_EN_WK_ALARM && decide (rtc = d.reg64 R.PWR_ALARM_LO R.PWR_ALARM_HI)
  | 6 => d.flag R.PWR_WAKE_EN_WK_TAMPER && d.tampLock
  | _ => false

/-- The active level of a sampled land: TOK_IRQ (bit 0) at TOK_POL, HOST_WAKE (bit 1) low (R465). -/
def Dev.landActive (d : Dev) (src : Nat) (pins : BitVec 2) : Bool :=
  if src = 3 then pins.getLsbD 0 == d.flag R.PWR_WAKE_LVL_TOK_POL else !pins.getLsbD 1

/-- Whether a source of WAKE acts at an RTC count: an enabled land at its second active sample, or the alarm or the tamper monitor. -/
def Dev.wakeActs (d : Dev) (src rtc : Nat) (pins : BitVec 2) : Bool × Dev :=
  if src = 3 ∨ src = 4 then d.landSample src rtc (d.wakeEnabled src rtc && d.landActive src pins)
  else (d.wakeEnabled src rtc, d)

/-- A wake that waits in Fallow, recorded during entry or by a cold start. -/
def Dev.wakeWaits (d : Dev) : Bool := d.pwr.park == .fallow && d.pwr.wakePend.isSome

/-! ### Loss of VAON and VBAT (R452, 03 R115, 18 R498) -/

/-- PD0 loses its contents: the RTC, the root, the counter and the tamper registers. TAMPER_LOCKED stays (18 R502;
DEDUCED, notes/assumptions/49.md). -/
def Dev.losePd0 (d : Dev) : Dev :=
  let d := d.resetRegs keptPd0
  { d with rtc := Rtc.init, root := { root := none, lost := true }
           pwr := { d.pwr with xtal := false, on := d.pwr.on &&& ~~~domBit 0, good := d.pwr.good &&& ~~~domBit 0 } }

/-- PD1 loses its contents: its registers, the AON retained memory. -/
def Dev.losePd1 (d : Dev) : Dev :=
  let d := (d.dropAll).resetRegs fun o => domOf o == 1
  { d with kept := none, carry := none, stg := none
           pwr := { d.pwr with park := .fallow, mainEn := false, strobe := 0, wakePend := none, mtRec := false, vaon := false,
                               samp := d.pwr.samp.filter fun p => decide (8 ≤ p.1 ∧ p.1 < 16),
                               on := d.pwr.on &&& ~~~domBit 1, good := d.pwr.good &&& ~~~domBit 1 } }

/-- VAON is applied: PD0 and PD1 are on. -/
def Dev.applyVaon (d : Dev) : Dev :=
  { d with pwr := { d.pwr with vaon := true, on := d.pwr.on ||| 3#14, good := d.pwr.good ||| 3#14, wakePend := some (7, 0) } }

/-! ### Heat (R468) -/

/-- Whether PWR_TEMP exceeds TEMP_LIM. -/
def Dev.tooHot (d : Dev) : Bool := decide (10 * (d.fld R.PWR_THERM_CFG_TEMP_LIM : Int) < toInt 16 (d.fld R.PWR_TEMP_TEMP))

/-- PWR_TEMP or TEMP_LIM has changed: since when the temperature is above the limit; at or below it the cause of PWR_THERM is gone. -/
def Dev.judgeHeat (d : Dev) : Dev :=
  if d.tooHot then
    if d.pwr.hotSince.isNone then { d with pwr := { d.pwr with hotSince := some d.now } } else d
  else { d with pwr := { d.pwr with hotSince := none } }.dropLine Src.pwrTherm

/-- Whether the temperature has been above the limit for 100 ms. -/
def Dev.hotLong (d : Dev) : Bool := match d.pwr.hotSince with | some t => decide (t + msTicks 100 ≤ d.now) | none => false

/-- Above the limit for 100 ms: THERM is set and PWR_THERM held active. -/
def Dev.heatFault (d : Dev) : Dev :=
  if d.hotLong && !d.flt.lines.getLsbD Src.pwrTherm then (d.pwrEvent R.PWR_EVT_THERM).setLine Src.pwrTherm 0 else d

/-- A write to PWR_THERM_CFG. -/
def Dev.writeThermCfg (d : Dev) (v : Word) : Dev := (d.writeByCode R.PWR_THERM_CFG v).judgeHeat

/-! ### Commands -/

/-- PARK (R463): the written word of PWR_CMD. -/
def execParkWrite (v : BitVec 32) (s : State) : Host.Outcome State Fault Refusal :=
  onDev s fun d => d.access R.PWR_CMD fun d => d.writePark v

/-- FALLOW_CLOSE_OUT (R463): the last committed entry has left. -/
def execFallowCloseOut (s : State) : Host.Outcome State Fault Refusal :=
  onDev s fun d => if d.pwr.park == .closing && d.sch.ents.all (·.uncommitted) then d.closeEntry else d

/-- FALLOW_POWER_DOWN (R463): MT's record is written. An entry committed since the close-out fires first (01 R29, 04 R142). -/
def execFallowPowerDown (s : State) : Host.Outcome State Fault Refusal :=
  onDev s fun d => if d.pwr.park == .closed && d.pwr.mtRec && d.sch.ents.all (·.uncommitted) then d.enterFallow else d

/-- WAKE (R465): a source other than a wake input or a CAN port, the RTC count, and the levels of TOK_IRQ (bit 0) and HOST_WAKE (bit 1)
at this sample. -/
def execWake (source : Fin 9) (x : WakeSample) (s : State) : Host.Outcome State Fault Refusal :=
  onDev s fun d =>
    if d.pwr.vaon then
      let r := d.wakeActs source x.rtc.toNat x.pins
      if r.1 then r.2.wakeBy source 0 x.rtc.toNat
      else if r.2.wakeWaits then
        match r.2.pwr.wakePend with
        | some (k, i) => r.2.beginWake k i x.rtc.toNat
        | none => r.2
      else r.2
    else d

/-- Whether 50 ms have passed since the last strobe: 1,638 whole RTC cycles (08 R259; DEDUCED, notes/assumptions/37.md). -/
def Dev.strobeDue (d : Dev) (rtc : Nat) : Bool :=
  let last := sparseGet (fun _ => 0) d.pwr.samp 1
  decide (last = 0 ∨ last + 1636 ≤ rtc)

/-- WAKE_STROBE (08 R259, R260): the levels of the wake inputs at a strobe, every 50 ms; one active in two consecutive strobes wakes the
module. -/
def execWakeStrobe (levels : BitVec 16) (rtc : BitVec 48) (s : State) : Host.Outcome State Fault Refusal :=
  onDev s fun d =>
    if d.pwr.vaon && d.pwr.park == .fallow && d.strobeDue rtc.toNat then
      let d := (d.landSample 1 rtc.toNat true).2
      let en := BitVec.ofNat 16 (d.fld R.PWR_WAKE_EN_WK_IN)
      let act := en &&& ~~~(levels ^^^ BitVec.ofNat 16 (d.fld R.PWR_WAKE_LVL_LVL))
      let twice := act &&& d.pwr.strobe
      let d := { d with pwr := { d.pwr with strobe := act } }
      match (List.range 16).find? twice.getLsbD with
      | some w => d.wakeBy 1 w rtc.toNat
      | none => d
    else d

/-- CAN_WAKE (14 R428): a sample of CANn_RX; an enabled port that reads dominant on two consecutive samples wakes the module. -/
def execCanWake (x : RxSample) (rtc : BitVec 48) (s : State) : Host.Outcome State Fault Refusal :=
  onDev s fun d =>
    if d.pwr.vaon && d.pwr.park != .run then
      let r := d.landSample (16 + x.n) rtc.toNat (x.dominant && (d.reg R.PWR_WAKE_EN).getLsbD (16 + x.n))
      if r.1 then r.2.wakeBy 2 x.n rtc.toNat else r.2
    else d

/-- DOMAIN_ON (R454): the written word of PWR_DOM_CTRL. -/
def execDomainOn (v : BitVec 32) (s : State) : Host.Outcome State Fault Refusal :=
  onDev s fun d => d.access R.PWR_DOM_CTRL fun d => d.writeDomCtrl v

/-- DOMAIN_OFF_REQUEST (R455). -/
def execDomainOffRequest (v : BitVec 32) (s : State) : Host.Outcome State Fault Refusal :=
  onDev s fun d => d.access R.PWR_DOM_CTRL fun d => d.writeDomCtrl v

/-- DOMAIN_SWITCH_OFF (R455, 01 R29): close-out, switch-off, PEND clear; DOM_DONE for a domain of PWR_DOM_CTRL. -/
def execDomainSwitchOff (k : Fin 14) (s : State) : Host.Outcome State Fault Refusal :=
  onDev s fun d =>
    if d.mayPowerOff k then
      let d := ((d.closeOut k).switchOff k).setFlag (domPend k) false
      if switchable.contains k then d.pwrEvent R.PWR_EVT_DOM_DONE else d
    else d

/-- Whether REF100 has had REF_SETTLE µs since REF_EN rose, which PD2 waits for (R456). -/
def Dev.refSettled (d : Dev) (k us : Nat) : Bool := decide (k = 2 → min 50000 (max 10 (d.fld R.PWR_CLK_CFG_REF_SETTLE)) ≤ us)

/-- POWER_GOOD (R453, R456): with the µs since REF_EN rose. -/
def execPowerGood (x : GoodDom) (s : State) : Host.Outcome State Fault Refusal :=
  onDev s fun d =>
    if d.pwr.on.getLsbD x.k && !d.pwr.good.getLsbD x.k && d.domReady x.k && d.refSettled x.k x.us.toNat then d.domGood s.nv x.k else d

/-- SUPPLY_RESTART (R452): outside Fallow a main supply fails; PD2 to PD13 reset, and with the supplies' return the module starts
as from a wake. -/
def execSupplyRestart (s : State) : Host.Outcome State Fault Refusal :=
  onDev s fun d =>
    if d.pwr.vaon && d.pwr.mainEn then
      let d := d.dropAll.pwrEvent R.PWR_EVT_SUPPLY
      let r := d.draw
      let d := { r.2 with pwr := { r.2.pwr with supply := true } }
      d.beginWake 8 0 (r.1.toNat % 2 ^ 48)
    else d

/-- COLD_START (03 R115, R465): VAON is applied. -/
def execColdStart (rtc : BitVec 48) (s : State) : Host.Outcome State Fault Refusal :=
  onDev s fun d =>
    let d := if d.pwr.vaon then d else d.applyVaon
    if d.pwr.park == .fallow && d.pwr.wakePend == some (7, 0) then d.beginWake 7 0 rtc.toNat else d

/-- PLL_LOCK_LOSS (R456): lock lost for more than 1 µs. -/
def execPllLockLoss (s : State) : Host.Outcome State Fault Refusal :=
  onDev s fun d => if d.pwr.pll then (d.pwrEvent R.PWR_EVT_CLK).raiseFault Src.pwrClk 0 else d

/-- XTAL32_START (R457): the crystal oscillator runs. -/
def execXtal32Start (s : State) : Host.Outcome State Fault Refusal :=
  onDev s fun d => if d.pwr.vaon || d.pwr.vbat then { d with pwr := { d.pwr with xtal := true } } else d

/-- THERM (R468): a reading of the baseplate temperature; above TEMP_LIM for 100 ms, it sets THERM and holds PWR_THERM active. -/
def execTherm (temp : BitVec 16) (s : State) : Host.Outcome State Fault Refusal :=
  onDev s fun d => if d.domOn 2 then ((d.setFld R.PWR_TEMP_TEMP temp.toNat).judgeHeat).heatFault else d

/-- BOOKING_END (R460, 09 R268): the end of a booking's interval has come; a burst ends with its booking, a peak phase runs on
outside its window. -/
def execBookingEnd (id : BitVec 32) (s : State) : Host.Outcome State Fault Refusal :=
  onDev s fun d =>
    match d.pwr.books.find? fun k => decide (k.id = id.toNat ∧ k.fin ≤ d.now) with
    | some k =>
      let d := if (d.gn.burst.map Prod.fst) == some k.id then d.endBurst else d.endBooking k.id
      match (List.range 128).find? fun c => (d.ctx c).booking == some k.id with
      | some c =>
        let d := d.setCtx c { d.ctx c with booking := none }
        if d.running c && (d.ctx c).cls == .peak then d.ctxEvent c (R.PSQ_CH_STAT_PEAK_OVR c) else d
      | none => d
    | none => d

/-- VAON_LOSS: PD1 and every domain above it lose power; PD0 stays on VBAT (03 R115, R453). -/
def execVaonLoss (s : State) : Host.Outcome State Fault Refusal :=
  onDev s fun d =>
    if d.pwr.vaon then
      let d := d.losePd1
      if d.pwr.vbat then d else d.losePd0
    else d

/-- VBAT_LOSS: PD0 loses its contents when VAON is absent too (18 R498). -/
def execVbatLoss (s : State) : Host.Outcome State Fault Refusal :=
  onDev s fun d =>
    let d := { d with pwr := { d.pwr with vbat := false } }
    if d.pwr.vaon then d else d.losePd0

end Sys2Proof.Machine
end

