-- ==== Sys2Proof/Machine/Update.lean ====
section
/-! DEFINITION. Staging sessions, live replacement of the navigation firmware, the lifecycle fuses and the public JTAG instructions
of 19, the operations that wait for leave (16 R462); and the commands of those sections. -/

namespace Sys2Proof.Machine

/-! ### Staging sessions (R531 to R534) -/

/-- OP of a staging descriptor. -/
def stgOp (w : BitVec 256) : Nat := byteOf w 4

/-- The lowest offset of a field outside the table of R531. -/
def Dev.stgBad (d : Dev) (w : BitVec 256) : Option Nat :=
  let op := stgOp w
  let slot := byteOf w 5
  let n := descField w 6 2
  let addr := descField w 8 8
  let off := descField w 16 4
  firstBad [(1, decide (bitsOf w 12 4 ≠ 0)), (4, !decide (1 ≤ op ∧ op ≤ 4)),
            (5, if op = 1 then !decide (slot < 128 ∨ slot = 0xFF) else decide (slot ≠ 0)),
            (6, if op = 2 then !decide (1 ≤ n ∧ n ≤ 16) else decide (n ≠ 0)),
            (8, if op = 1 then false else if op = 2 then decide (addr % 64 ≠ 0) else decide (addr ≠ 0)),
            (16, if op = 2 then !decide (off % 4096 = 0 ∧ off + 4096 * n ≤ d.flashHalf) else decide (off ≠ 0)),
            (20, decide (op = 1 ∧ descField w 20 4 ≠ 0))]

/-- A staging descriptor completes. -/
def Dev.stgDone (d : Dev) (a : AccDesc) (status detail : Nat) : Dev := d.complete a.ref status detail 0x10

/-- A descriptor that loses to the holder of the session. -/
def Dev.stgBusy (d : Dev) (a : AccDesc) : Dev := (d.count R.UPD_BUSY_CNT).stgDone a St.busy 0

/-- A fresh session nonce. -/
def Dev.newNonce (d : Dev) : Dev :=
  d.forAll (List.range 4) fun i d =>
    let r := d.draw
    r.2.setReg (R.UPD_NONCE i) (r.1.setWidth 32)

/-- The 16 bytes of the nonce. -/
def Dev.nonceBytes (d : Dev) : List Byte := (List.range 4).flatMap fun i => leBytes 4 (d.reg (R.UPD_NONCE i)).toNat

/-- Whether an OPEN carries a valid credential (R532). -/
def Dev.credOk (d : Dev) (nv : Nv) (slot : Nat) (cred : List Byte) : Bool :=
  if slot = 0xFF then decide (nv.life = 0)
  else d.slotFits nv slot [3] [3] && hmacOf (d.slotKey slot) d.nonceBytes == cred

/-- A session starts: a new number other than 0; a committed set not yet activated is withdrawn (R532). -/
def Dev.openSession (d : Dev) (nv : Nv) (a : AccDesc) : Dev × Nv :=
  let r := d.draw
  let num := 1 + r.1.toNat % (2 ^ 32 - 1)
  let d := { r.2 with stg := some { num := num, last := r.2.now } }
  let p := if nv.journal = 1 then
      (((d.setReg R.UPD_STG_BUILD_LO 0).setReg R.UPD_STG_BUILD_HI 0).updEvent R.UPD_EVT_COMMIT_DROPPED, { nv with journal := 0 })
    else (d, nv)
  (p.1.stgDone a St.ok num, p.2)

/-- The use of the credential's slot, which an armed injection may corrupt (18 R495, 17 R486). -/
def Dev.credSlot (d : Dev) (nv : Nv) (a : AccDesc) : Dev := if byteOf a.word 5 = 0xFF then d else d.useSlot nv (byteOf a.word 5) none

/-- OPEN (R532): a fresh nonce follows every OPEN. -/
def Dev.stgOpen (d : Dev) (nv : Nv) (a : AccDesc) (cred : List Byte) : Dev × Nv :=
  if d.stg.isSome then ((d.stgBusy a).newNonce, nv)
  else if (d.credSlot nv a).credOk nv (byteOf a.word 5) cred then
    let d := d.credSlot nv a
    let r := d.openSession nv a
    (r.1.newNonce, r.2)
  else (((d.credSlot nv a).stgDone a St.notPermitted 0x05).newNonce, nv)

/-- WRITE, COMMIT or ABANDON from the holder is accepted and runs; else it is refused (R532). -/
def Dev.withHolder (d : Dev) (nv : Nv) (a : AccDesc) (f : Dev → Dev × Nv) : Dev × Nv :=
  match d.stg with
  | none => (d.stgDone a St.notPermitted 0x05, nv)
  | some x =>
    if descField a.word 20 4 = x.num then f { d with stg := some { x with last := d.now } } else (d.stgBusy a, nv)

/-- The sectors of a WRITE are erased and programmed; after a failure they hold open values (R534). -/
def Dev.program (d : Dev) (nv : Nv) (a : AccDesc) (off : Nat) (data : List Byte) (fail : Bool) : Dev × Nv :=
  if fail then
    let r := d.drawBytes data.length
    ((r.2.flashFail).stgDone a St.notPermitted 0x05, { nv with staging := flashWrite nv.staging off r.1 })
  else (d.stgDone a St.ok 0, { nv with staging := flashWrite nv.staging off data })

/-- WRITE (R534): one booking covers the command's steps; refused, it waits. -/
def Dev.stgWrite (d : Dev) (nv : Nv) (a : AccDesc) (data : List Byte) (fail : Bool) : Dev × Nv :=
  let off := descField a.word 16 4
  match d.askJob (.stage a off data) with
  | (true, d) => d.program nv a off data fail
  | (false, d) => (d.waitJob (.stage a off data), nv)

/-- Whether a manifest is accepted without an anchor (R526). -/
def Nv.unanchored (nv : Nv) : Bool := decide (nv.life = 0) && nv.pkh.isNone

/-- A manifest has verified: UNANCHORED says whether without an anchor. -/
def Dev.anchored (d : Dev) (nv : Nv) : Dev := if nv.unanchored then d.setFlag R.UPD_STAT_UNANCHORED true else d

/-- COMMIT (R534): the staged manifest and every live-class part are verified. -/
def Dev.stgCommit (d : Dev) (nv : Nv) (a : AccDesc) (flashErr : Bool) : Dev × Nv :=
  match setFail nv nv.staging d.flashHalf livePart flashErr with
  | some r => ((d.verifyFail r 1).completeBad a.ref 4 0x10, nv)
  | none =>
    let b := manifestBuild nv.staging
    let d := (({ d with stg := none }).anchored nv).setReg64 R.UPD_STG_BUILD_LO R.UPD_STG_BUILD_HI b
    ((d.updEvent R.UPD_EVT_COMMITTED).stgDone a St.ok (b % 2 ^ 32), { nv with journal := 1 })

/-- The staging share of a descriptor: the oldest one is taken when it has an OP or none of the four; without its data an operation
waits. `len` says how many bytes it reads. -/
def runStaging (op : Nat) (data : List Byte) (len : BitVec 256 → Nat) (f : AccDesc → Dev → Nv → Dev × Nv) (s : State) :
    Host.Outcome State Fault Refusal :=
  let d := s.dev
  match d.nextDesc fun w => descType w == 0x70 with
  | some a =>
    match d.stgBad a.word with
    | some o =>
      if stgOp a.word = op ∨ ¬(1 ≤ stgOp a.word ∧ stgOp a.word ≤ 4) then
        .next { s with dev := (d.takeDesc a).completeBad a.ref o 0x10 }
      else .next s
    | none =>
      if stgOp a.word = op ∧ (len a.word = 0 ∨ (data.length = len a.word ∧ d.canMaster = true)) then
        let r := f a (d.takeDesc a) s.nv
        .next { s with dev := r.1, nv := r.2 }
      else .next s
  | none => .next s

/-! ### Live replacement of the navigation firmware (R538) -/

/-- The navigation part of a set. -/
def navPart (a : Sparse Byte) : Option Part := (manifestParts a).find? fun p => p.type == 4

/-- NAV_FIRMWARE_LOADED (05 R166): the navigation part of the active set is in PD10; GN_NAV_VER shows its version. An EN that was
written before starts the block now. -/
def execNavFirmwareLoaded (sky : GnSky) (bad : List KeptItem) (s : State) : Host.Outcome State Fault Refusal :=
  onDev s fun d =>
    match navPart s.nv.active with
    | some p =>
      if d.domOn 10 && !d.gn.loaded then
        let d := (d.gnSet fun g => { g with loaded := true }).setReg R.GN_NAV_VER (BitVec.ofNat 32 p.version)
        if d.flag R.GN_CTRL_EN then d.gnStart sky bad else d
      else d
    | none => d

/-- A write to UPD_CMD (R538, 05 R167). -/
def Dev.writeUpdCmd (d : Dev) (nv : Nv) (v : Word) : Dev :=
  if v.getLsbD 0 then
    match navPart nv.staging with
    | some p =>
      if nv.journal = 1 ∧ d.domOn 10 = true ∧ d.gn.swap.isNone = true then
        let d := (d.gnSet fun g => { g with swap := some g.lastRec }).setFlag R.UPD_STAT_NAV_SWAP true
        (d.setFld R.GN_STAT_STATE 4).setReg R.GN_NAV_VER (BitVec.ofNat 32 p.version)
      else d.updEvent R.UPD_EVT_LIVE_ERR
    | none => d.updEvent R.UPD_EVT_LIVE_ERR
  else d

/-- The image that a profile load has read: from flash, or from the host as the command gives it; none when the read failed
(09 R282). -/
def Dev.psqImage (d : Dev) (nv : Nv) (img : Option (List Word)) : Option (List Word) :=
  if d.flag R.PSQ_LD_CFG_SRC then
    img.map fun _ => wordsOf (flashBytes nv.active (d.reg R.PSQ_LD_ADDR_LO).toNat 2048)
  else img

/-- A profile load ends; a host image that the policy refuses fails as a failed read does (09 R282, R539). -/
def Dev.psqLoadEnd (d : Dev) (nv : Nv) (img : Option (List Word)) : Dev :=
  let img := d.psqImage nv img
  let refused := !d.flag R.PSQ_LD_CFG_SRC && img.any fun ws => !d.codeOk nv 6 (ws.flatMap fun w => leBytes 4 w.toNat)
  if refused then (d.endPsqLoad none).updEvent R.UPD_EVT_CODE_REFUSED else d.endPsqLoad img

/-! ### Lifecycle fuses (R540) -/

/-- The key hash that UPD_PKH0–7 hold: bytes 4i to 4i + 3 in word i. -/
def Dev.pkhValue (d : Dev) : BitVec 256 :=
  BitVec.ofNat 256 (beBytesVal ((List.range 8).flatMap fun i => leBytes 4 (d.reg (R.UPD_PKH i)).toNat))

/-- Whether a fuse command is permitted. -/
def Dev.lifeOk (d : Dev) (nv : Nv) (cmd : Nat) : Bool :=
  match cmd with
  | 1 => decide (nv.life = 0) && nv.pkh.isNone
  | 2 => decide (nv.life = 0) && nv.pkh.isSome && d.root.root.isSome && d.stg.isNone
  | 3 => decide (nv.life = 1)
  | 4 => true
  | _ => false

/-- The seal: the injection's fields are cleared, the fuse is blown, WRITTEN and ATTR of every VALID slot are fused (R540, 18 R493,
17 R486). -/
def Dev.sealPart (d : Dev) (nv : Nv) : Dev × Nv :=
  let d := d.setReg R.FLT_INJ_CFG 0
  let l := (List.range 128).filter fun s => d.flag (R.KEY_SLOT_VALID s)
  let nv := l.foldl (fun (nv : Nv) s =>
    { nv with written := sparsePut (fun _ => none) nv.written s
                (some (attrWord (d.fld (R.KEY_SLOT_KIND s)) (d.fld (R.KEY_SLOT_USAGE s)))) }) { nv with sealFuse := true }
  (d.forAll l fun s d => d.setFlag (R.KEY_SLOT_FUSED s) true, nv)

/-- A permitted fuse command, its leave granted; a fuse that cannot be blown leaves things as they are. -/
def Dev.blowFuse (d : Dev) (nv : Nv) (cmd : Nat) (fail : Bool) : Dev × Nv :=
  if fail || !d.lifeOk nv cmd then (d.updEvent R.UPD_EVT_LIFE_ERR, nv)
  else
    let r := match cmd with
      | 1 => (d, { nv with pkh := some d.pkhValue })
      | 2 => d.sealPart nv
      | 3 => let nv := { nv with retireFuse := true }; (d.streamKeys nv, nv)
      | _ => (d, { nv with dbgKill := true })
    (r.1.updEvent R.UPD_EVT_LIFE_DONE, r.2)

/-- A write to UPD_LIFE_CMD (R540). -/
def Dev.writeLife (d : Dev) (nv : Nv) (v : Word) (fail : Bool) : Dev × Nv :=
  let cmd := bitsOf v 0 3
  if bitsOf v 16 16 ≠ 0x0A5C then (d, nv)
  else if !d.lifeOk nv cmd then (d.updEvent R.UPD_EVT_LIFE_ERR, nv)
  else
    match d.askJob (.life cmd) with
    | (true, d) => d.blowFuse nv cmd fail
    | (false, d) => (d.waitJob (.life cmd), nv)

/-- A command that writes UPD_LIFE_CMD. -/
def lifeWrite (v : BitVec 32) (fail : Bool) (s : State) : Host.Outcome State Fault Refusal :=
  if s.dev.domOn 2 then
    let r := s.dev.writeLife s.nv v fail
    .next { s with dev := r.1, nv := r.2 }
  else .next { s with dev := s.dev.count R.PWR_OFFACC_CNT }

/-! ### Operations that wait for leave (16 R462) -/

/-- An operation whose leave is granted runs. -/
def Dev.runJob (d : Dev) (nv : Nv) (j : LeaveJob) (fail : Bool) : Dev × Nv :=
  match j with
  | .verify a l => (d.verifySig a l, nv)
  | .append r => (d, nv.append r)
  | .reserve => (d, nv)
  | .stage a off l => d.program nv a off l fail
  | .life cmd => d.blowFuse nv cmd fail

/-- An operation that got no leave within 100 ms. -/
def Dev.dropJob (d : Dev) (nv : Nv) (j : LeaveJob) : Dev :=
  match j with
  | .verify a _ => d.keyDone a St.busy 0
  | .append _ => d
  | .reserve =>
    let w := d.acc.wait
    let d := { d with acc := { d.acc with resNew := none, wait := false } }
    if w then d.startStream nv else d
  | .stage a _ _ => d.stgDone a St.busy 0
  | .life _ => d.updEvent R.UPD_EVT_LIFE_ERR

/-- The first operation that is due asks again. -/
def Dev.retryJob (d : Dev) (nv : Nv) (fail : Bool) : Dev × Nv :=
  match d.pwr.jobs.find? fun x => decide (x.2.2 ≤ d.now) with
  | some (j, t0, t) =>
    let without := fun (d : Dev) => { d with pwr := { d.pwr with jobs := d.pwr.jobs.erase (j, t0, t) } }
    match d.askJob j with
    | (true, d) => (without d).runJob nv j fail
    | (false, d) =>
      if t0 + msTicks 100 ≤ d.now then ((without d).dropJob nv j, nv)
      else ({ d with pwr := { d.pwr with jobs := d.pwr.jobs.map fun x => if x = (j, t0, t) then (j, t0, d.now + msTicks 1) else x } }, nv)
  | none => (d, nv)

/-! ### JTAG (R541, R542; the model's numbers of the instructions: DESIGN CHOICE, notes/assumptions/50.md) -/

/-- Whether the TAP takes only BYPASS and IDCODE (R542). -/
def Nv.tapShut (nv : Nv) : Bool := nv.dbgKill || decide (nv.life = 2)

/-- An instruction enters the TAP's instruction register; where it is not available it acts as BYPASS. -/
def Dev.tapLoad (d : Dev) (nv : Nv) (ir : Nat) (f : TapState → TapState) : Dev :=
  if nv.tapShut && decide (ir ≠ 1 ∧ ir ≠ 2) then { d with tap := { d.tap with ir := 1, dr := 0, dbg := false } }
  else { d with tap := f { d.tap with ir := ir, dbg := decide (ir = 5) } }

/-! ### Commands -/

/-- STAGING_OPEN (R532): the credential as the host gives it; none is read for SLOT 0xFF. -/
def execStagingOpen (cred : List (BitVec 8)) (s : State) : Host.Outcome State Fault Refusal :=
  runStaging 1 cred (fun w => if byteOf w 5 = 0xFF then 0 else 32) (fun a d nv => d.stgOpen nv a cred) s

/-- STAGING_WRITE (R534): the data as the host gives it, and whether a sector fails. -/
def execStagingWrite (data : List (BitVec 8)) (fail : Bool) (s : State) : Host.Outcome State Fault Refusal :=
  runStaging 2 data
    (fun w => if (s.dev.stg.any fun x => decide (descField w 20 4 = x.num)) then 4096 * descField w 6 2 else 0)
    (fun a d nv => d.withHolder nv a fun d => d.stgWrite nv a data fail) s

/-- STAGING_COMMIT (R534). -/
def execStagingCommit (flashErr : Bool) (s : State) : Host.Outcome State Fault Refusal :=
  runStaging 3 [] (fun _ => 0) (fun a d nv => d.withHolder nv a fun d => d.stgCommit nv a flashErr) s

/-- STAGING_ABANDON (R533). -/
def execStagingAbandon (s : State) : Host.Outcome State Fault Refusal :=
  runStaging 4 [] (fun _ => 0) (fun a d nv => d.withHolder nv a fun d => (({ d with stg := none }).stgDone a St.ok 0, nv)) s

/-- SESSION_IDLE_EXPIRY (R533): 30 min after the holder's last accepted descriptor. -/
def execSessionIdleExpiry (s : State) : Host.Outcome State Fault Refusal :=
  onDev s fun d =>
    if d.domOn 2 && d.mt.loaded && (d.stg.any fun x => decide (x.last + 1800 * secTicks ≤ d.now)) then
      ({ d with stg := none }).updEvent R.UPD_EVT_ABANDONED
    else d

/-- PSQ_LOAD_END (09 R282, R539): the 512 words that the host gives (only their presence counts for an image in flash), or a read
that failed. The module reads host memory only while the link may master (02 R84). -/
def execPsqLoadEnd (img : Option (List (BitVec 32))) (s : State) : Host.Outcome State Fault Refusal :=
  onDev s fun d =>
    let ok := match img with | some ws => d.flag R.PSQ_LD_CFG_SRC || decide (ws.length = 512) | none => true
    let read := d.flag R.PSQ_LD_CFG_SRC || img.isNone || d.canMaster
    if d.flag R.PSQ_LD_STAT_BUSY && ok && read then d.psqLoadEnd s.nv img else d

/-- MICROCODE_REFETCH (09 R284, 01 R32, R36, R37): the word refetched from the image's load source, from flash or as the host gives it;
a second detection, counted; or host memory that cannot be read. -/
def execMicrocodeRefetch (c : Fin 128) (y : WordRefetch) (s : State) : Host.Outcome State Fault Refusal :=
  onDev s fun d =>
    let x := d.ctx c
    match x.stall with
    | some (t, fails) =>
      let bank := d.psqBank (c / 16)
      let src := sparseGet (fun _ => none) bank.src x.half
      let read := src.isSome || d.canMaster
      if y.r = .ok ∧ fails = false ∧ read = true then
        let w := match src with
          | some a => BitVec.ofNat 32 (flashField s.nv.active (a + 4 * x.pc) 4)
          | none => y.word
        let d := d.setPsqBank (c / 16) { bank with store := sparsePut (fun _ => 0) bank.store (512 * x.half + x.pc) w }
        let d := (d.count (R.PSQ_BANK_REFETCH_CNT (c / 16))).setCtx c { x with stall := none, cur := x.cur + (d.now - t) }
        d.beginPhase c
      else
        let d := d.setCtx c { x with stall := none }
        let d := if src.isNone ∧ (y.r = .unread ∨ read = false) then d.count R.HL_REDO_ABANDON_CNT
          else (d.count (R.PSQ_BANK_INTEG_CNT (c / 16))).psqEvent (c / 16) (R.PSQ_BANK_EVT_INTEG (c / 16))
        (Dev.feedFault (d.safeChan c) c).raiseFault Src.psqInteg (bankMask (c / 16))
    | none => d

/-- NAV_SWAP (R538): the written word of UPD_CMD. -/
def execNavSwap (v : BitVec 32) (s : State) : Host.Outcome State Fault Refusal :=
  onDev s fun d => d.access R.UPD_CMD fun d => d.writeUpdCmd s.nv v

/-- FUSE_PKH (R540): the written word of UPD_LIFE_CMD, and whether the fuse fails. -/
def execFusePkh (v : BitVec 32) (fail : Bool) (s : State) : Host.Outcome State Fault Refusal := lifeWrite v fail s

/-- SEAL (R540). -/
def execSealLife (v : BitVec 32) (fail : Bool) (s : State) : Host.Outcome State Fault Refusal := lifeWrite v fail s

/-- RETIRE (R540). -/
def execRetireLife (v : BitVec 32) (fail : Bool) (s : State) : Host.Outcome State Fault Refusal := lifeWrite v fail s

/-- DBG_KILL (R540). -/
def execDbgKill (v : BitVec 32) (fail : Bool) (s : State) : Host.Outcome State Fault Refusal := lifeWrite v fail s

/-- LEAVE_RETRY (16 R462): an operation asks for leave again; whether its fuse or sector fails. -/
def execLeaveRetry (fail : Bool) (s : State) : Host.Outcome State Fault Refusal :=
  let r := s.dev.retryJob s.nv fail
  .next { s with dev := r.1, nv := r.2 }

/-- BYPASS (R541). -/
def execBypass (s : State) : Host.Outcome State Fault Refusal :=
  onDev s fun d => d.tapLoad s.nv 1 fun t => { t with dr := 0 }

/-- IDCODE (R541). -/
def execIdcode (s : State) : Host.Outcome State Fault Refusal :=
  onDev s fun d => d.tapLoad s.nv 2 fun t => { t with dr := 0x18128FC3 }

/-- A number from bits, the first lowest. -/
def ofBits (l : List Bool) : Nat := l.foldr (fun b n => b.toNat + 2 * n) 0

/-- SAMPLE_PRELOAD (R541): the pins' levels are captured, then the boundary register takes the preload. -/
def execSamplePreload (pins preload : List Bool) (s : State) : Host.Outcome State Fault Refusal :=
  onDev s fun d => d.tapLoad s.nv 3 fun t => { t with dr := BitVec.ofNat 32 (ofBits pins), bsr := preload }

/-- EXTEST (R541): the boundary register drives the pins. -/
def execExtest (s : State) : Host.Outcome State Fault Refusal := onDev s fun d => d.tapLoad s.nv 4 id

end Sys2Proof.Machine
end

