-- ==== Sys2Proof/Machine/Bus.lean ====
section
/-! DEFINITION. The register bus: what a 32-bit write or read at a BAR0 offset does, whether the host, an engine, the debug
port or the settings list makes it. A register with an action of its own takes it; every other register follows its access
codes (00 R11, R13, 01 R23, R24). -/

namespace Sys2Proof.Machine

/-! ### Matching offsets -/

/-- The index of a register of one range, when an offset is one of its instances. -/
def at1 (o : Nat → Nat) (n off : Nat) : Option Nat :=
  let st := o 1 - o 0
  if o 0 ≤ off ∧ (off - o 0) % st = 0 ∧ (off - o 0) / st < n then some ((off - o 0) / st) else none

/-- The two indices of a register of two ranges, the outer with the larger stride. -/
def at2 (o : Nat → Nat → Nat) (n m off : Nat) : Option (Nat × Nat) :=
  let st := o 1 0 - o 0 0
  if o 0 0 ≤ off ∧ (off - o 0 0) / st < n then
    (at1 (o 0) m (o 0 0 + (off - o 0 0) % st)).map fun j => ((off - o 0 0) / st, j)
  else none

/-- A register of one channel, by its channel number. -/
def atChan (o : Nat → Nat) (off : Nat) : Option Nat :=
  (at2 (fun b i => o (16 * b + i)) 8 16 off).map fun p => 16 * p.1 + p.2

/-- A register without an index. -/
def at0 (o off : Nat) : Option Unit := if off = o then some () else none

/-- A register of one range, with what a write to it does. -/
def on1 (o : Nat → Nat) (n off : Nat) (f : Nat → Dev) : Option Dev := (at1 o n off).map f

/-- A register of two ranges, with what a write to it does. -/
def on2 (o : Nat → Nat → Nat) (n m off : Nat) (f : Nat → Nat → Dev) : Option Dev := (at2 o n m off).map fun p => f p.1 p.2

/-- A channel's register, with what a write to it does. -/
def onCh (o : Nat → Nat) (off : Nat) (f : Nat → Dev) : Option Dev := (atChan o off).map f

/-- A register without an index, with what a write to it does. -/
def on0 (o off : Nat) (x : Dev) : Option Dev := if off = o then some x else none

/-- The first row that answers. -/
def firstOf {α : Type} : List (Option α) → Option α
  | [] => none
  | some x :: _ => some x
  | none :: t => firstOf t

/-! ### Writes -/

/-- A write to a block's W1C register whose cause may still be present: such a bit is set again at once (00 R14). -/
def Dev.writeCause (d : Dev) (off : Nat) (v : Word) (still : Dev → Bool) (again : Dev → Dev) : Dev :=
  let d := d.writeByCode off v
  if still d then again d else d

/-- A write to a field coded RWS: taken only while the lifecycle state is OPEN (00 R13). -/
def Dev.writeOpen (d : Dev) (nv : Nv) (off : Nat) (v : Word) : Dev := if nv.life = 0 then d.writeByCode off v else d

/-- Writes of the host link. -/
def Dev.busHl (d : Dev) (off : Nat) (v : Word) : Option Dev := firstOf [
  on1 R.HL_SQDB 64 off fun n => d.writeSqDb n v,
  on1 R.HL_CQDB 64 off fun n => d.writeCqDb n v,
  on1 R.HL_SQ_CFG 64 off fun n => d.writeSqCfg n v,
  on1 R.HL_SQ_HEAD 64 off fun n => d.writeSqHead n v,
  on1 R.HL_CQ_CFG 64 off fun n => d.writeCqCfg n v,
  on1 R.HL_SQ_BASE_LO 64 off fun n => d.writeRingBase (R.HL_SQ_CFG_EN n) off v,
  on1 R.HL_SQ_BASE_HI 64 off fun n => d.writeRingBase (R.HL_SQ_CFG_EN n) off v,
  on1 R.HL_CQ_BASE_LO 64 off fun n => d.writeRingBase (R.HL_CQ_CFG_EN n) off v,
  on1 R.HL_CQ_BASE_HI 64 off fun n => d.writeRingBase (R.HL_CQ_CFG_EN n) off v,
  on0 R.HL_RING_CTRL off (d.writeRingCtrl v)]

/-- Writes of Machine Time. -/
def Dev.busMt (d : Dev) (off : Nat) (v : Word) : Option Dev := firstOf [
  on0 R.MT_SNAP_CMD off (d.writeSnap v),
  on0 R.MT_RATE off (d.writeMtRate v),
  on0 R.MT_STEP off (d.writeMtStep v),
  on0 R.MT_SLEW off (d.writeSlew v),
  on0 R.MT_SRC_CFG off (d.writeSrcCfg v),
  on0 R.MT_PAIR_CMD off (d.writePair v),
  on0 R.MT_RTC_CMD off (d.writeRtcCmd v),
  on0 R.MT_CANREF_CFG off (d.writeCanref v),
  on1 R.MT_SYNC_CFG 8 off fun n => d.writeSyncCfg n v,
  on1 R.MT_MK_CFG 8 off fun n =>
    let d' := d.writeMkCfg n v
    if decide (6 ≤ n) && d.flag R.ACC_CTRL_EN then d'.setFlag (R.MT_MK_CFG_SRC n) true else d',
  on1 R.MT_MK_STAT 8 off fun n => d.writeMkStat n v,
  on1 R.MT_MK_POP 8 off fun n => if v.getLsbD 0 then d.popMarker n else d]

/-- Writes of the schedule. -/
def Dev.busSch (d : Dev) (off : Nat) (v : Word) : Option Dev := firstOf [
  on0 R.SCH_CTRL off (d.writeSchCtrl v),
  on0 R.SCH_QUOTA_HOST off (d.writeQuota 0 off v),
  on0 R.SCH_QUOTA_ENG off (d.writeQuota 1 off v),
  on0 R.SCH_QUOTA_BND off (d.writeQuota 2 off v),
  on0 R.SCH_WIN_PEAK off (d.setReg off 0)]

/-- Writes of the GNSS baseband; what the sky and the kept data give to a start is not known here: a free value. -/
def Dev.busGn (d : Dev) (off : Nat) (v : Word) : Option Dev := firstOf [
  on0 R.GN_CTRL off (d.draw.2.writeGnCtrl v (Config.freeSky d.free) (Config.freeBad d.free)),
  on0 R.GN_IF_CFG off (d.writeSignals off v),
  on0 R.GN_SIG_EN off (d.writeSignals off v),
  on0 R.GN_EVT off (d.writeGnEvt v),
  on0 R.GN_ORG_CMD off (d.writeOrgCmd v),
  on0 R.GN_KEPT_CMD off (d.writeKept v),
  on0 R.GN_LOG_CFG off (d.writeLogCfg v),
  on0 R.GN_LOG_HEAD off (d.writeLogHead v)]

/-- Writes of the pose and boundary unit. -/
def Dev.busPose (d : Dev) (off : Nat) (v : Word) : Option Dev := firstOf [
  on0 R.POSE_CTRL off (d.writePoseCtrl v),
  on0 R.POSE_IMU_CMD off (d.imuSubmit v),
  on1 R.POSE_SNAP_CMD 4 off fun n => d.poseCapture n v,
  on0 R.BND_CTRL off (d.writeBndCtrl v),
  on0 R.BND_CMD off (d.writeBndCmd v),
  on2 (fun p w => R.BND_LP_W0 p + 4 * w) 256 8 off fun p w => d.writeLever p w v]

/-- Writes of the field channels. -/
def Dev.busCh (d : Dev) (off : Nat) (v : Word) : Option Dev := firstOf [
  onCh R.CH_CFG off fun c => d.writeChCfg c v,
  onCh R.CH_PWM_PERIOD off fun c => d.writePwm c off v,
  onCh R.CH_PWM_PHASE off fun c => d.writePwm c off v,
  onCh R.CH_DUTY off fun c => d.writeChDuty c v,
  onCh R.CH_CMD off fun c => d.writeChCmd c v,
  onCh R.CH_STAT off fun c => d.writeCause off v (fun d => (d.chan c).elimBad) (·.chEvent c (R.CH_STAT_ELIM_FAULT c)),
  onCh R.CH_IN_CFG off fun c => d.writeInCfg c off v,
  onCh R.CH_IN_FILT off fun c => d.writeInCfg c off v,
  onCh R.CH_IN_WB off fun c => d.writeInCfg c off v,
  onCh R.CH_IN_STAT off fun c =>
    let d := d.writeInStat c v
    if d.flag (R.CH_IN_STAT_WB_NOW c) && v.getLsbD 8 then d.chEvent c (R.CH_IN_STAT_WIRE_BREAK c) else d,
  onCh R.CH_IN_POP off fun c => d.popFifo c v,
  on1 R.CH_BANK_CTRL 8 off fun b => d.writeBankCtrl b v,
  on1 R.CH_BANK_EVT 8 off fun b =>
    let d := d.writeCause off v (fun d => v.getLsbD 0 && d.flag (R.CH_BANK_STAT_VF_UV b)) (·.bankEvent b (R.CH_BANK_EVT_UV b))
    let d := if v.getLsbD 1 && d.flag (R.CH_BANK_STAT_VF_OV b) then d.bankEvent b (R.CH_BANK_EVT_OV b) else d
    if v.getLsbD 2 && d.bankOver b then d.bankEvent b (R.CH_BANK_EVT_BANK_OC b) else d]

/-- Writes of the profile sequencers. -/
def Dev.busPsq (d : Dev) (off : Nat) (v : Word) : Option Dev := firstOf [
  on0 R.PSQ_LD_CMD off (d.writeLdCmd v),
  on1 R.PSQ_BANK_CMD 8 off fun b => d.writeBankCmd b v,
  on2 R.PSQ_GRP_CFG 8 4 off fun b g => d.writeGrp b g false v,
  on2 R.PSQ_GRP_LIM 8 4 off fun b g => d.writeGrp b g true v]

/-- Writes of the loop array. -/
def Dev.busLoop (d : Dev) (off : Nat) (v : Word) : Option Dev := firstOf [
  on0 R.LOOP_CTRL off (d.writeLoopCtrl v),
  on2 (fun s w => R.LOOP_S_CFG s + 4 * w) 160 15 off fun s w => d.writeLoopSlot s w v,
  on2 (fun j w => R.LOOP_L_CFG j + 4 * w) 256 21 off fun j w => d.writeLoopLaw j w v]

/-- Writes of the engines. -/
def Dev.busEng (d : Dev) (off : Nat) (v : Word) : Option Dev := firstOf [
  on1 R.ENG_CTRL 16 off fun n => d.writeEngCtrl n v,
  on1 R.ENG_ENTRY 16 off fun n => d.writeEngEntry n off v,
  on1 R.ENG_WENTRY 16 off fun n => d.writeEngEntry n off v,
  on1 R.ENG_MBIN 16 off fun n => d.writeMbin n v,
  on1 R.ENG_DDATA 16 off fun n => d.writeDdata n v,
  on1 R.ENG_CL_CTRL 2 off fun k => d.writeClCtrl k v]

/-- Writes of the frame switch. -/
def Dev.busSw (d : Dev) (off : Nat) (v : Word) : Option Dev := firstOf [
  on0 R.SW_HOLD_CMD off (d.writeHoldCmd v),
  on0 R.SW_MDIO_CMD off (d.writeMdio v),
  on1 R.SW_P_CFG 10 off fun p => d.writeSwCfg p v,
  on1 R.SW_P_CELLS 10 off fun p => d.writeSwCells p off v,
  on1 R.SW_CAN_CELLS 16 off fun k => d.writeSwCells (16 + k) off v,
  on1 R.SW_P_GCL_CTRL 8 off fun p => d.writeGclCtrl p v,
  on1 R.SW_P_GCL_CYCLE 8 off fun p => d.writeGclShadow p off v,
  on1 R.SW_P_GCL_BASE_LO 8 off fun p => d.writeGclShadow p off v,
  on1 R.SW_P_GCL_BASE_HI 8 off fun p => d.writeGclShadow p off v,
  on1 R.SW_P_TS_POP 8 off fun p => if v.getLsbD 0 then d.popStamp p else d,
  on2 (fun p k => R.SW_P_GCL_E p 0 0 + 4 * k) 8 128 off fun p k => d.writeGclEntry p (k / 64) off v]

/-- Writes of the CAN controllers; whether the bus carries a frame at a MODE write is not known here: a free value. -/
def Dev.busCan (d : Dev) (off : Nat) (v : Word) : Option Dev := firstOf [
  on1 R.CAN_CTRL 16 off fun n => let r := d.draw; r.2.writeCanCtrl n v (r.1.getLsbD 0),
  on1 R.CAN_NBT 16 off fun n => d.writeTiming n off v,
  on1 R.CAN_DBT 16 off fun n => d.writeTiming n off v,
  on1 R.CAN_TDC 16 off fun n => d.writeTiming n off v,
  on1 R.CAN_TXREQ_LO 16 off fun n => d.writeTxreq n false v false,
  on1 R.CAN_TXREQ_HI 16 off fun n => d.writeTxreq n true v false,
  on1 R.CAN_TXCXL_LO 16 off fun n => d.writeTxcxl n false v,
  on1 R.CAN_TXCXL_HI 16 off fun n => d.writeTxcxl n true v,
  on2 R.CAN_FIFO_STAT 16 2 off fun n k => d.writeFifoStat n k v,
  on2 R.CAN_FIFO_POP 16 2 off fun n k => if v.getLsbD 0 then d.popCanFifo n k else d,
  on2 R.CAN_FLT_ID 16 16 off fun n f => d.writeFilter n f off v,
  on2 R.CAN_FLT_MASK 16 16 off fun n f => d.writeFilter n f off v,
  on2 (fun n k => R.CAN_MB_W0 n 0 + 4 * k) 16 640 off fun n k => d.writeMb n (k / 20) (k % 20) v,
  on2 (fun n k => R.CAN_MBH_W0 n 0 + 4 * k) 16 256 off fun n k => if k % 8 < 6 then d.writeMb n (32 + k / 8) (k % 8) v else d]

/-- Writes of the lighting port. -/
def Dev.busLt (d : Dev) (off : Nat) (v : Word) : Option Dev := firstOf [
  on0 R.LT_CTRL off (d.writeLtCtrl v),
  on0 R.LT_FRAME off (d.writeLtFrame v),
  on0 R.LT_CMD off (d.writeLtCmd v),
  on0 R.LT_WDATA off (d.writeLtWdata v),
  on1 R.LT_FN_CFG 32 off fun f => d.writeLtFnCfg f v]

/-- Writes of the power block. -/
def Dev.busPwr (d : Dev) (off : Nat) (v : Word) : Option Dev := firstOf [
  on0 R.PWR_CMD off (d.writePark v),
  on0 R.PWR_DOM_CTRL off (d.writeDomCtrl v),
  on0 R.PWR_THERM_CFG off (d.writeThermCfg v),
  on0 R.PWR_EVT off (d.writeCause off v (fun d => v.getLsbD 3 && d.flt.lines.getLsbD Src.pwrTherm) (·.pwrEvent R.PWR_EVT_THERM))]

/-- Writes of the fault collector. -/
def Dev.busFlt (d : Dev) (nv : Nv) (off : Nat) (v : Word) : Option Dev := firstOf [
  on1 R.FLT_STATUS 4 off fun w => d.writeFltStatus w v,
  on1 R.FLT_FORCE 4 off fun w => d.writeForce w v,
  on0 R.FLT_CTRL off (d.writeFltCtrl v),
  on0 R.FLT_ACK off (d.writeAck v),
  on0 R.FLT_ERRN_CFG off (d.writeErrnCfg v),
  on0 R.FLT_SAFE_BANKS off (d.writeSafeBanks v),
  on0 R.FLT_APP off (d.writeFltApp v),
  on0 R.FLT_APP_CLR off (d.writeFltAppClr v),
  on1 R.FLT_STOPn_CFG 4 off fun n => d.writeStopCfg n v,
  on0 R.FLT_STOP_CMD off (d.writeStopCmd v),
  on1 (fun r => R.FLT_RCT0 + 4 * r) 12 off fun r => d.writeRct r v,
  on0 R.FLT_INJ_CFG off (d.writeInjCfg nv v)]

/-- Writes of the keys, the access block and the update block. -/
def Dev.busKey (d : Dev) (nv : Nv) (off : Nat) (v : Word) : Option Dev := firstOf [
  on0 R.KEY_TAMP_CFG off (d.writeOpen nv off v),
  on0 R.KEY_EVT off (d.writeCause off v (fun d => v.getLsbD 0 && d.flt.lines.getLsbD Src.keyTamper) (·.keyEvent R.KEY_EVT_TAMPER)),
  on0 R.ACC_CTRL off (d.writeAccCtrl nv v),
  on0 R.ACC_CMD off (d.writeAccCmd nv v none),
  on0 R.ACC_CODE_LO off (d.setReg off v),
  on0 R.ACC_CODE_HI off (d.setReg off (v &&& 0xFFFF#32)),
  on0 R.ACC_REL_CFG off (d.writeRelCfg v),
  on0 R.UPD_CMD off (d.writeUpdCmd nv v),
  on0 R.UPD_POLICY off (d.writeOpen nv off v),
  on1 R.UPD_PKH 8 off fun _ => if nv.pkh.isNone then d.writeOpen nv off v else d]

/-- The action of a write, when the register has one of its own. -/
def Dev.busAct (d : Dev) (nv : Nv) (off : Nat) (v : Word) : Option Dev :=
  match off / 0x10000 with
  | 0x1 => d.busHl off v
  | 0x2 => d.busMt off v
  | 0x3 => d.busSch off v
  | 0x4 => d.busGn off v
  | 0x5 => d.busPose off v
  | 0x6 => d.busCh off v
  | 0x7 => d.busPsq off v
  | 0x8 => d.busLoop off v
  | 0x9 => d.busEng off v
  | 0xA => d.busSw off v
  | 0xB => d.busCan off v
  | 0xC => d.busLt off v
  | 0xD => d.busPwr off v
  | 0xE => d.busFlt nv off v
  | 0xF => d.busKey nv off v
  | _ => none

/-- A write to a register of a domain that is on. -/
def Dev.busPut (d : Dev) (nv : Nv) (off : Nat) (v : Word) : Dev := (d.busAct nv off v).getD (d.writeByCode off v)

/-- A 32-bit write at a BAR0 offset (00 R13, 01 R24). Whether a fuse that UPD_LIFE_CMD blows takes is a free value. -/
def busWrite (d : Dev) (nv : Nv) (off : Nat) (v : Word) : Dev × Nv :=
  if off = R.UPD_LIFE_CMD then
    if d.domOn (domOf off) then d.draw.2.writeLife nv v (d.draw.1.getLsbD 0) else (d.access off id, nv)
  else (d.access off fun d => d.busPut nv off v, nv)

/-! ### Reads: the fields whose value follows from the rest of the state -/

/-- A register's value with a field replaced. -/
def Dev.withFld (d : Dev) (f : Fld) (x : Nat) : Word := f.ins (d.reg f.off) x

/-- A value of 64 bits shown in a low and a high register. -/
def loHi (lo off x : Nat) : Word := BitVec.ofNat 32 (if off = lo then x else x / 2 ^ 32)

/-- A word whose bit k says whether a test holds, from bit s upwards. -/
def maskOf (n s : Nat) (p : Nat → Bool) : Nat := ((List.range n).map fun k => if p k then 2 ^ (s + k) else 0).sum

/-- Whether any W1C bit of a register is set. -/
def Dev.anyW1c (d : Dev) (off : Nat) : Bool :=
  match regRow off with
  | some r => decide (d.reg off &&& BitVec.ofNat 32 r.w1c ≠ 0)
  | none => false

/-- Views of the host link and of the capability list (02 R46, R47 and the capability rules of each chapter). -/
def capBody (sizeMib : Nat) (id w : Nat) : Nat :=
  match id, w with
  | 1, 0 => 16
  | 2, 0 => 0x0C404040
  | 2, 1 => 0x18000
  | 2, 2 => 0x00102008
  | 5, 0 => 0x7F + 50 * 2 ^ 8 + 256 * 2 ^ 16
  | 5, 1 => 16384
  | 5, 2 => 64 + 4 * 2 ^ 8
  | 6, 0 => 256 + 8 * 2 ^ 16 + 4 * 2 ^ 24
  | 6, 1 => 65536
  | 6, 2 => 40000 + 2500 * 2 ^ 16
  | 7, 0 => 128 + 8 * 2 ^ 8 + 8 * 2 ^ 16 + 7 * 2 ^ 24
  | 7, 1 => 0x07FF
  | 7, 2 => 1000 + 4 * 2 ^ 16
  | 8, 0 => 8 + 16 * 2 ^ 8 + 32 * 2 ^ 16 + 4 * 2 ^ 24
  | 8, 1 => 512 + 16 * 2 ^ 16
  | 9, 0 => 160 + 128 * 2 ^ 8 + 4 * 2 ^ 16 + 40 * 2 ^ 24
  | 9, 1 => 8000 + 12 * 2 ^ 16
  | 9, 2 => 1000 + 10000 * 2 ^ 16
  | 10, 0 => 16 + 2 * 2 ^ 8 + 600 * 2 ^ 16
  | 10, 1 => 0x0008FF01
  | 10, 2 => 128 + 128 * 2 ^ 16
  | 11, 0 => 8 + 16 * 2 ^ 8 + 24576 * 2 ^ 16
  | 11, 1 => 4096 + 1024 * 2 ^ 16
  | 11, 2 => 8 + 4 * 2 ^ 8 + 64 * 2 ^ 16
  | 11, 3 => 256
  | 12, 0 => 16 + 64 * 2 ^ 8 + 32 * 2 ^ 16 + 2 * 2 ^ 24
  | 12, 1 => 32 + 16 * 2 ^ 8 + 8000 * 2 ^ 16
  | 12, 2 => 1000 + 0x000F * 2 ^ 16
  | 13, 0 => 32 + 48 * 2 ^ 8 + 32 * 2 ^ 16 + 64 * 2 ^ 24
  | 13, 1 => 512 + 25 * 2 ^ 16
  | 14, 0 => 14 + 16 * 2 ^ 8 + 4 * 2 ^ 16
  | 14, 1 => 40000 + 1024 * 2 ^ 16
  | 15, 0 => 96 + 4 * 2 ^ 8 + 4 * 2 ^ 16
  | 15, 1 => 3600
  | 16, 0 => 128 + 16 * 2 ^ 8 + 100 * 2 ^ 16 + 8 * 2 ^ 24
  | 16, 1 => 0x1E + 16 * 2 ^ 8
  | 16, 2 => 64 + 64 * 2 ^ 8 + sizeMib * 2 ^ 16
  | 16, 3 => 30
  | _, _ => 0

/-- A word of the capability list: the k-th header and body of 32 bytes at 0x0100 + 0x20·k. -/
def Dev.capWord (d : Dev) (off : Nat) : Word :=
  let k := (off - 0x100) / 0x20
  let w := (off - 0x100) % 0x20 / 4
  let size := if d.flag R.UPD_FLASH_PRESENT then d.fld R.UPD_FLASH_SIZE_MIB else 0
  BitVec.ofNat 32 (match w with
    | 0 => (k + 1) + 0x01 * 2 ^ 16 + 0x02 * 2 ^ 24
    | 1 => if k = 15 then 0 else 0x100 + 0x20 * (k + 1)
    | 2 => 0x10000 * k
    | 3 => 0
    | _ => capBody size (k + 1) (w - 4))

/-- Views of the host link, Machine Time and the schedule. -/
def Dev.viewTime (d : Dev) (off : Nat) : Option Word :=
  let nx := match d.sch.ents.map (·.fire) with
    | [] => 2 ^ 64 - 1
    | x :: l => l.foldl min x
  firstOf [
  if 0x100 ≤ off ∧ off < 0x300 then some (d.capWord off) else none,
  (at0 R.HL_RING_CTRL off).map fun _ => d.withFld R.HL_RING_CTRL_QUIESCED d.quiesced.toNat,
  (at0 R.MT_NOW_LO off).map fun _ => loHi R.MT_NOW_LO off d.now,
  (at0 R.MT_NOW_HI off).map fun _ => loHi R.MT_NOW_LO off d.now,
  (at0 R.MT_OFS_LO off).map fun _ => loHi R.MT_OFS_LO off (ofInt 64 d.ofsTicks),
  (at0 R.MT_OFS_HI off).map fun _ => loHi R.MT_OFS_LO off (ofInt 64 d.ofsTicks),
  (at0 R.MT_TERR off).map fun _ => BitVec.ofNat 32 d.terr,
  (at0 R.MT_STATE off).map fun _ => d.withFld R.MT_STATE_RTC_VALID d.rtc.valid.toNat,
  (at0 R.MT_RTC_LO off).map fun _ => loHi R.MT_RTC_LO off d.rtc.cnt,
  (at0 R.MT_RTC_HI off).map fun _ => loHi R.MT_RTC_LO off d.rtc.cnt,
  (at0 R.MT_SYNC_LVL off).map fun _ => BitVec.ofNat 32 d.syncLevels,
  (at0 R.SCH_STAT off).map fun _ => d.withFld R.SCH_STAT_COUNT d.sch.ents.length,
  (at0 R.SCH_OCC0 off).map fun _ => BitVec.ofNat 32 (d.occupancy 0 + 65536 * d.occupancy 1),
  (at0 R.SCH_OCC1 off).map fun _ => BitVec.ofNat 32 (d.occupancy 2 + 65536 * d.reserveUsed),
  (at0 R.SCH_WIN off).map fun _ => BitVec.ofNat 32 d.windowUsed,
  (at0 R.SCH_NEXT_LO off).map fun _ => loHi R.SCH_NEXT_LO off nx,
  (at0 R.SCH_NEXT_HI off).map fun _ => loHi R.SCH_NEXT_LO off nx]

/-- Views of the GNSS baseband, pose and boundaries. -/
def Dev.viewPose (d : Dev) (off : Nat) : Option Word := firstOf [
  (at0 R.GN_KEPT_STAT off).map fun _ => d.withFld R.GN_KEPT_STAT_AGE d.keptAge,
  (at0 R.POSE_STAT off).map fun _ => R.POSE_STAT_ODO_OK.ins (d.withFld R.POSE_STAT_IMU_OK d.imuOk.toNat) (maskOf 4 0 d.odoActive),
  (at1 R.BND_LP_STAT 256 off).map fun p => d.withFld (R.BND_LP_STAT_PEND p) (d.lpPending p).length,
  (at1 R.BND_LP_NEXT 256 off).map fun p => BitVec.ofNat 32 (d.lpNext p)]

/-- Views of the channels, the profile sequencers and the loop array. -/
def Dev.viewField (d : Dev) (off : Nat) : Option Word := firstOf [
  (atChan R.CH_STAT off).map fun c => d.withFld (R.CH_STAT_DRIVEN c) (d.driven c).toNat,
  (atChan R.CH_I off).map fun c => BitVec.ofInt 32 (d.meanI c),
  (atChan R.CH_V off).map fun c => BitVec.ofNat 32 (d.meanV c),
  (at1 R.CH_BANK_I 8 off).map fun b => BitVec.ofNat 32 (d.bankI b),
  (at1 R.CH_DIE_STAT 2 off).map fun k => d.withFld (R.CH_DIE_STAT_TEMP k) (Config.dieTemp k d.now).toNat,
  (at1 R.CH_BANK_STAT 8 off).map fun b =>
    d.withFld (R.CH_BANK_STAT_SAFE b) ((bankChans b).any fun c => d.flag (R.CH_STAT_SAFE c)).toNat,
  (at1 R.CH_BANK_EVT 8 off).map fun b => d.withFld (R.CH_BANK_EVT_CH_SUM b)
    (maskOf 16 0 fun i => d.anyW1c (R.CH_STAT (16 * b + i)) || d.anyW1c (R.CH_IN_STAT (16 * b + i))),
  (at1 R.PSQ_BANK_EVT 8 off).map fun b => d.withFld (R.PSQ_BANK_EVT_CTX_SUM b)
    (maskOf 16 0 fun i => d.anyW1c (R.PSQ_CH_STAT (16 * b + i))),
  (atChan R.PSQ_CH_COIL_TW off).map fun c =>
    BitVec.ofNat 32 (ofInt 16 ((if d.fld (R.PSQ_CH_COIL_R_R20 c) = 0 then d.coilAmb c else d.twOf c) / 100000)),
  (at2 (fun b k => 0x78000 + 0x1000 * b + 4 * k) 8 1024 off).map fun p => sparseGet (fun _ => 0) (d.psqBank p.1).store p.2,
  (at0 R.LOOP_STAT off).map fun _ =>
    let n := fun p : Nat → Bool => ((List.range 160).filter fun s => p (d.slot s).st).length
    BitVec.ofNat 32 (n (fun k => decide (1 ≤ k ∧ k ≤ 3)) + 256 * n (fun k => decide (k = 4))),
  (at1 R.LOOP_SUM 5 off).map fun i =>
    BitVec.ofNat 32 (maskOf 32 0 fun k => decide (d.reg (R.LOOP_S_STAT (32 * i + k)) &&& loopW1c ≠ 0)),
  (at1 R.LOOP_POS 5 off).map fun i =>
    BitVec.ofNat 32 ((List.range 8).map fun k => min 15 (d.posOcc (8 * i + k)) * 16 ^ k).sum,
  (at1 R.LOOP_S_STAT 160 off).map fun s =>
    let x := d.slot s
    (R.LOOP_S_STAT_SAFE_WHY s).ins ((R.LOOP_S_STAT_XFER s).ins ((R.LOOP_S_STAT_RUN_LAW s).ins
      (d.withFld (R.LOOP_S_STAT_STATE s) x.st) x.law) x.catching.toNat) x.why,
  (at1 R.LOOP_S_OUT 160 off).map fun s => BitVec.ofInt 32 (d.loopOut s),
  (at1 R.LOOP_S_FB 160 off).map fun s => BitVec.ofInt 32 (d.slot s).fb,
  (at1 R.LOOP_S_W 160 off).map fun s => BitVec.ofInt 32 (d.slot s).w]

/-- Views of the engines (11 register fields). -/
def Dev.viewEng (d : Dev) (off : Nat) : Option Word := firstOf [
  (at1 R.ENG_STAT 16 off).map fun n =>
    let x := d.engine n
    (R.ENG_STAT_INH n).ins ((R.ENG_STAT_RSD n).ins (d.withFld (R.ENG_STAT_ROLE n) (d.role n)) x.rsd) (x.flags.getLsbD 9).toNat,
  (at1 R.ENG_PC 16 off).map fun n => BitVec.ofNat 32 (d.engine n).pc &&& 0x1FFFC#32,
  (at1 R.ENG_EPC 16 off).map fun n => (d.engine n).epc,
  (at1 R.ENG_EVAL 16 off).map fun n => (d.engine n).eval,
  (at1 R.ENG_OUTST 16 off).map fun n => BitVec.ofNat 32 ((d.engine n).outst + 65536 * (d.engine n).notes.length),
  (at1 R.ENG_DDATA 16 off).map fun n => BitVec.ofNat 32 ((d.engine n).num (4 * d.fld (R.ENG_DADDR_ADDR n)) 4),
  (at1 R.ENG_CL_STAT 2 off).map fun k =>
    (R.ENG_CL_STAT_RUN_MASK k).ins (d.withFld (R.ENG_CL_STAT_POWERED k) (d.domOn (4 + k)).toNat)
      (maskOf 8 0 fun i => d.domOn (4 + k) && decide (d.engSt (8 * k + i) = 1 ∨ d.engSt (8 * k + i) = 2))]

/-- W1 of a buffer with NEW and PEND (14 R417, R418). -/
def Dev.mbW1 (d : Dev) (n m off : Nat) : Word :=
  Fld.ins ⟨off, 18, 1⟩ (Fld.ins ⟨off, 16, 1⟩ (d.reg off) (d.fld (mbBit (R.CAN_NEWDAT_LO n) m))) (d.mbPending n m).toNat

/-- Views of the switch, the CAN controllers and the lighting port. -/
def Dev.viewNet (d : Dev) (off : Nat) : Option Word := firstOf [
  (at0 R.SW_STAT off).map fun _ => d.withFld R.SW_STAT_FREE d.swFree,
  (at0 R.SW_GEN_HIST off).map fun _ => BitVec.ofNat 32 (min 15 d.genInside),
  (at0 R.SW_HOLD_STAT off).map fun _ => BitVec.ofNat 32 d.sw.held.length,
  (at1 R.SW_TBL_RD_W 4 off).map fun w =>
    let i := (d.reg R.SW_TBL_RD_IDX).toNat % 4096
    let e := if (d.reg R.SW_TBL_RD_IDX).getLsbD 12 then d.str i else d.fwd i
    BitVec.ofNat 32 (e.toNat / 2 ^ (32 * w)),
  (at0 R.SW_STR_PASS_CNT off).map fun _ => BitVec.ofNat 32 (d.meter ((d.reg R.SW_STR_IDX).toNat % 1024)).pass,
  (at0 R.SW_STR_DROP_CNT off).map fun _ => BitVec.ofNat 32 (d.meter ((d.reg R.SW_STR_IDX).toNat % 1024)).drop,
  (at1 R.SW_P_TS_STAT 8 off).map fun p => BitVec.ofNat 32 (d.swPort p).ts.length,
  (at1 R.SW_P_TS_LO 8 off).map fun p => BitVec.ofNat 32 ((d.swPort p).ts.headD (0, 0)).1,
  (at1 R.SW_P_TS_HI 8 off).map fun p => BitVec.ofNat 32 (((d.swPort p).ts.headD (0, 0)).1 / 2 ^ 32),
  (at1 R.SW_P_TS_INFO 8 off).map fun p => BitVec.ofNat 32 ((d.swPort p).ts.headD (0, 0)).2,
  (at2 R.SW_P_QDEPTH 10 16 off).map fun x => if x.1 = 9 ∨ x.2 < 8 then BitVec.ofNat 32 (d.qDepth x.1 x.2) else 0,
  (at1 R.SW_CAN_QDEPTH 16 off).map fun k =>
    BitVec.ofNat 32 ((List.range 4).map fun q => min 255 (d.qDepth (16 + k) q) * 256 ^ q).sum,
  (at2 (fun n k => R.CAN_FIFO_W n 0 0 + 4 * k) 16 64 off).map fun x =>
    if x.2 % 32 < 20 then d.fifoWord x.1 (x.2 / 32) (x.2 % 32) else 0,
  (at2 R.CAN_MB_W1 16 32 off).map fun x => d.mbW1 x.1 x.2 off,
  (at2 R.CAN_MBH_W1 16 32 off).map fun x => d.mbW1 x.1 (32 + x.2) off,
  (at0 R.LT_WDATA off).map fun _ => d.readLtWdata]

/-- The bookings in force at the present MT. -/
def Dev.booked (d : Dev) : List Booking := d.pwr.books.filter fun k => decide (k.start ≤ d.now ∧ d.now < k.fin)

/-- Views of the power block and of the fault collector. -/
def Dev.viewPwr (d : Dev) (off : Nat) : Option Word := firstOf [
  (at0 R.PWR_DOM_ON off).map fun _ => BitVec.ofNat 32 d.pwr.good.toNat,
  (at0 R.PWR_STAND_MOD off).map fun _ => BitVec.ofNat 32 (min 65535 d.standMod),
  (at0 R.PWR_STAND_CHAN off).map fun _ => BitVec.ofNat 32 (min 65535 d.standChan),
  (at0 R.PWR_BOOK_MOD off).map fun _ => BitVec.ofNat 32 (min 65535 (d.booked.map fun k => k.mw + k.diss).sum),
  (at0 R.PWR_BOOK_CHAN off).map fun _ => BitVec.ofNat 32 (min 65535 (d.booked.map (·.diss)).sum),
  (at1 R.PWR_BANK_BOOK 8 off).map fun b =>
    let sum := ((d.booked.filter fun k => k.bank == some b).map (·.amount)).sum
    BitVec.ofNat 32 (min 65535 sum + 65536 * min 65535 (d.standBank b)),
  (at0 R.PWR_SLOTS off).map fun _ => BitVec.ofNat 32 d.pwr.books.length,
  (at1 R.FLT_RAW 4 off).map fun w => BitVec.ofNat 32 (maskOf 32 0 fun k => decide (32 * w + k < 96) && d.lineActive (32 * w + k)),
  (at0 R.FLT_STATE off).map fun _ => d.withFld R.FLT_STATE_FAULT
    ((List.range 4).any fun w => decide (d.reg (R.FLT_STATUS w) ≠ 0) || decide (d.reg (R.FLT_HOLD w) ≠ 0)).toNat]

/-- Views of the keys, the access block and the update block. -/
def Dev.viewKey (d : Dev) (nv : Nv) (off : Nat) : Option Word :=
  let waits := decide (nv.journal = 1 ∨ nv.journal = 2)
  firstOf [
  (at0 R.KEY_STAT off).map fun _ =>
    let n := ((List.range 128).filter fun s => d.flag (R.KEY_SLOT_VALID s)).length
    R.KEY_STAT_NVALID.ins (R.KEY_STAT_LIFE.ins (R.KEY_STAT_ROOT_VALID.ins
      (d.withFld R.KEY_STAT_TAMPER_LOCKED d.tampLock.toNat) d.root.root.isSome.toNat) nv.life) n,
  (at0 R.KEY_QUEUE off).map fun _ => R.KEY_QUEUE_BUSY.ins (BitVec.ofNat 32 (min 16 d.keysHeld)) d.vaultBusy.toNat,
  (at0 R.ACC_CODE_LO off).map fun _ => 0,
  (at0 R.ACC_CODE_HI off).map fun _ => 0,
  (at0 R.UPD_STAT off).map fun _ =>
    R.UPD_STAT_DBG_KILLED.ins (R.UPD_STAT_PKH_FUSED.ins (R.UPD_STAT_COMMITTED.ins
      (d.withFld R.UPD_STAT_SESSION d.stg.isSome.toNat) waits.toNat) nv.pkh.isSome.toNat) nv.dbgKill.toNat,
  (at0 R.UPD_IDLE off).map fun _ => match d.stg with
    | some x => BitVec.ofNat 32 (min 65535 ((d.now - x.last) / secTicks))
    | none => 0,
  (at0 R.UPD_VER off).map fun _ =>
    let act := if headerOk nv.active then manifestSvn nv.active % 256 else 0
    let stg := if waits && headerOk nv.staging then manifestSvn nv.staging % 256 else 0
    BitVec.ofNat 32 (nv.svn % 256 + 256 * act + 65536 * stg),
  (at1 R.UPD_PKH 8 off).map fun i => match nv.pkh with
    | some h => BitVec.ofNat 32 (h.toNat / 2 ^ (32 * i))
    | none => d.reg off]

/-- What a read at an offset in a domain that is on returns, when it follows from other state. -/
def Dev.busView (d : Dev) (nv : Nv) (off : Nat) : Option Word :=
  match off / 0x10000 with
  | 0x0 | 0x1 | 0x2 | 0x3 => d.viewTime off
  | 0x4 | 0x5 => d.viewPose off
  | 0x6 | 0x7 | 0x8 => d.viewField off
  | 0x9 => d.viewEng off
  | 0xA | 0xB | 0xC => d.viewNet off
  | 0xD | 0xE => d.viewPwr off
  | 0xF => d.viewKey nv off
  | _ => none

/-- A 32-bit read at a BAR0 offset (00 R13, 01 R24). -/
def busRead (d : Dev) (nv : Nv) (off : Nat) : Word × Dev :=
  if d.domOn (domOf off) then ((d.busView nv off).getD (d.reg off), d)
  else (0, d.count R.PWR_OFFACC_CNT)

/-! ### Commands -/

/-! ### BAR2 and configuration space (02 R43, R44) -/

/-- A 32-bit write at a BAR2 offset: a word of the MSI-X table; the pending-bit array and every other offset ignore it. -/
def Dev.bar2Write (d : Dev) (off : Nat) (v : Word) : Dev :=
  if off < 0x400 then { d with hl := { d.hl with msixTab := sparsePut msixDefault d.hl.msixTab (off / 4) v } } else d

/-- A 32-bit read at a BAR2 offset: the MSI-X table at 0x0000, the pending-bit array at 0x1000. -/
def Dev.bar2Read (d : Dev) (off : Nat) : Word :=
  if off < 0x400 then d.msixWord (off / 16) (off / 4 % 4)
  else if off / 8 = 0x200 then BitVec.ofNat 32 (d.hl.msixPend.toNat / 2 ^ (8 * (off % 8)))
  else 0

/-- A write to a register of configuration space: the address bits of a BAR above its size (1 MiB and 8 KiB); a payload code of 0 or
1 and a read-request code of 0 to 2; a timeout code of the default range or of ranges A and B; ASPM L1; AER status words are
write-1-to-clear. A code that R43 does not list leaves its field unchanged. -/
def PcieCfg.write (x : PcieCfg) (r : CfgReg) (v : Word) : PcieCfg :=
  match r with
  | .bar i =>
    match i.val with
    | 0 => { x with bar0 := (v &&& 0xFFF00000#32) ||| 4#32 }
    | 1 => { x with bar1 := v }
    | 2 => { x with bar2 := (v &&& 0xFFFFE000#32) ||| 4#32 }
    | _ => { x with bar3 := v }
  | .devCtl => { x with mps := if bitsOf v 5 3 ≤ 1 then bitsOf v 5 3 else x.mps
                        mrrs := if bitsOf v 12 3 ≤ 2 then bitsOf v 12 3 else x.mrrs }
  | .devCtl2 => { x with cto := if [0, 1, 2, 5, 6].contains (bitsOf v 0 4) then bitsOf v 0 4 else x.cto }
  | .linkCtl => { x with aspm := v.getLsbD 1 }
  | .aer k =>
    match k.val with
    | 0 => { x with uncStat := x.uncStat &&& ~~~v }
    | 1 => { x with uncMask := v }
    | 2 => { x with uncSev := v }
    | 3 => { x with corStat := x.corStat &&& ~~~v }
    | _ => { x with corMask := v }

/-- The identity words of configuration space: vendor and device, class code, and the subsystem identity programmed at manufacture
(02 R43). -/
def pcieId : List (BitVec 32) := [0x81281F6E, 0x11800000, Config.subsystemId]

/-- REGISTER_WRITE (00 R13, 02 R43, R44): a register of BAR0; a word of BAR2; the enable and mask bits of MSI-X, which stand where
PCIe puts them in the capability's first word; another register of configuration space. -/
def execRegisterWrite (t : RegTarget) (v : BitVec 32) (s : State) : Host.Outcome State Fault Refusal :=
  match t with
  | .bar0 off =>
    let r := busWrite s.dev s.nv (off.toNat / 4 * 4) v
    .next { s with dev := r.1, nv := r.2 }
  | .bar2 off => onDev s fun d => d.bar2Write (off.toNat / 4 * 4) v
  | .msixControl =>
    onDev s fun d => { d with hl := { d.hl with msixEn := v.getLsbD 31, msixMask := v.getLsbD 30 } }
  | .cfg r => onDev s fun d => { d with hl := { d.hl with cfg := d.hl.cfg.write r v } }

end Sys2Proof.Machine
end

