-- ==== Sys2Proof/Machine/Boot.lean ====
section
/-! DEFINITION. The start of the module (19 R527 to R530, R535 to R537): one BOOT command ends the step in progress, where it can
end, and begins the next (DEDUCED, notes/assumptions/52.md). -/

namespace Sys2Proof.Machine

/-- A step of the start begins: what STAGE shows, and the model's number of it (13: the profile images of step 9 are loaded). -/
def Dev.bootAt (d : Dev) (stage phase : Nat) : Dev :=
  { d with upd := { d.upd with phase := phase } }.setFld R.UPD_STAT_STAGE stage

/-- A flash read fails in a step, when the device is there (R543). -/
def Dev.bootFlash (d : Dev) (x : BootIn) : Dev := if x.flashErr && d.flag R.UPD_FLASH_PRESENT then d.flashFail else d

/-- Whether the flash of a step can be read. -/
def Dev.flashReads (d : Dev) (x : BootIn) : Bool := d.flag R.UPD_FLASH_PRESENT && !x.flashErr

/-! ### Steps 1 and 2 -/

/-- Step 1: the flash is discovered (R521), a session nonce is drawn (R532), PD3 is switched on. -/
def Dev.bootBegin (d : Dev) (x : BootIn) : Dev :=
  let n := (x.sfdp.map (·.toNat)).getD 0
  let d := (d.setFld R.UPD_FLASH_SIZE_MIB n).setFlag R.UPD_FLASH_PRESENT ([16, 32, 64, 128, 256, 512].contains n)
  (d.newNonce.switchOn 3).bootAt 1 1

/-! ### Step 3: activation (R535, R536) -/

/-- The end of the highest part of a set, as erased sectors reach. -/
def setEnd (a : Sparse Byte) : Nat :=
  ((manifestParts a).foldl (fun n p => max n ((p.off + p.len + 4095) / 4096 * 4096)) 8192)

/-- An area with its bytes below n erased. -/
def eraseBelow (a : Sparse Byte) (n : Nat) : Sparse Byte := a.filter fun p => decide (n ≤ p.1)

/-- The staged manifest and parts copied into the active area. -/
def copySet (nv : Nv) : Sparse Byte :=
  let put := fun a off n => flashWrite a off (flashBytes nv.staging off n)
  (manifestParts nv.staging).foldl (fun a p => put a p.off p.len) (put (eraseBelow nv.active (setEnd nv.staging)) 0 8192)

/-- A check of the activation fails: REJECTED. -/
def Dev.rejectSet (d : Dev) (nv : Nv) (r : Nat × Nat) : Dev × Nv := (d.verifyFail r 2, { nv with journal := 4 })

/-- Step 3: a COMMITTED set is verified and becomes ACTIVATING with its sectors erased; an ACTIVATING one is verified, copied, its
copy verified, and becomes ACTIVE. -/
def Dev.bootActivate (d : Dev) (nv : Nv) (x : BootIn) : Dev × Nv :=
  let done := fun (r : Dev × Nv) => (r.1.bootAt 4 4, r.2)
  if d.flag R.UPD_FLASH_PRESENT && decide (nv.journal = 1 ∨ nv.journal = 2) then
    let d := d.bootFlash x
    match setFail nv nv.staging d.flashHalf (fun _ => true) x.flashErr with
    | some r => done (d.rejectSet nv r)
    | none =>
      if nv.journal = 1 then (d, { nv with journal := 2, active := eraseBelow nv.active (setEnd nv.staging) })
      else
        let nv' := { nv with active := copySet nv }
        match setFail nv' nv'.active d.flashHalf (fun _ => true) false with
        | some r => done (d.rejectSet nv' r)
        | none =>
          let d := { d with upd := { d.upd with activated := true } }.updEvent R.UPD_EVT_ACTIVATED
          done (d, { nv' with journal := 3 })
  else done (d, nv)

/-! ### Steps 4 to 6 -/

/-- Step 4: the active set is verified; failing, the module enters RECOVERY and goes on with step 7 (R530). -/
def Dev.bootVerify (d : Dev) (nv : Nv) (x : BootIn) : Dev :=
  let d := d.bootFlash x
  match setFail nv nv.active d.flashHalf (fun _ => true) (!d.flashReads x) with
  | some r => ((d.verifyFail r 0).setFlag R.UPD_STAT_RECOVERY true).bootAt 7 7
  | none => ((d.anchored nv).setReg64 R.UPD_ACT_BUILD_LO R.UPD_ACT_BUILD_HI (manifestBuild nv.active)).bootAt 5 5

/-- Step 6: the settings are written as a host writes them (R528). -/
def Dev.bootSettings (d : Dev) (nv : Nv) (x : BootIn) : Dev × Nv :=
  let l := if d.flashReads x then ((manifestParts nv.active).filter fun p => p.type == 2).flatMap (settingsOf nv.active) else []
  l.foldl (fun r e => busWrite r.1 r.2 e.1 e.2) (d.bootFlash x, nv)

/-! ### Step 7: the vault (18 R494, R500, R516, R523) -/

/-- The records of the key table whose CRC holds. -/
def Nv.goodRecs (nv : Nv) (bad : List Nat) : List KeyRec :=
  ((nv.keyTab.zipIdx).filter fun p => !bad.contains p.2).map (·.1)

/-- KIND, USAGE and key that a record gives, its parent's key being there. -/
def Dev.recKey (d : Dev) (r : KeyRec) : Option (Nat × Nat × List Byte) :=
  let k := d.parentKey r.source
  if r.type = 1 then
    (keyHeader r.input).map fun h => (h.1, h.2, kdfOf k ((r.input.drop 8).take 16) (r.input.drop 24) (keyLen h.1))
  else (unwrapOf k r.input).bind fun p => (keyHeader p).map fun h => (h.1, h.2, p.drop 8)

/-- Whether the parent of a record is there. -/
def Dev.parentThere (d : Dev) (r : KeyRec) : Bool :=
  if r.source = 0xFF then d.root.root.isSome else d.flag (R.KEY_SLOT_VALID r.source)

/-- One slot in a pass of the replay, from its latest record. -/
def Dev.replaySlot (d : Dev) (nv : Nv) (r : KeyRec) : Dev :=
  let s := r.target
  if r.type = 6 then d.setFlag (R.KEY_SLOT_REVOKED s) true
  else if !d.flag (R.KEY_SLOT_VALID s) && d.parentThere r then
    match d.recKey r with
    | some (kind, usage, key) =>
      let up := if r.source = 0xFF then none else some r.source
      let above := match up with | some p => d.flag (R.KEY_SLOT_REVOKED p) | none => false
      let d := (d.writeSlot nv s kind usage r.type up key (some r)).1
      let d := d.setFlag (R.KEY_SLOT_FUSED s) (sparseGet (fun _ => none) nv.written s).isSome
      if above then d.setFlag (R.KEY_SLOT_REVOKED s) true else d
    | none => d
  else d

/-- The passes of the replay, each in slot order. -/
def Dev.replay (nv : Nv) (recs : List KeyRec) : Nat → Dev → Dev
  | 0, d => d
  | k + 1, d =>
    Dev.replay nv recs k (d.forAll (List.range 128) fun s d =>
      match recs.find? fun r => decide (r.type = 1 ∨ r.type = 2 ∨ r.type = 6) && decide (r.target = s) with
      | some r => d.replaySlot nv r
      | none => d)

/-- Token records and the verifier from their records. -/
def Dev.replayToken (d : Dev) (r : KeyRec) : Dev :=
  match r.type with
  | 3 =>
    if d.flag (R.KEY_SLOT_VALID r.source) then
      match (unwrapOf (d.slotKey r.source) (r.input.drop 8)).bind tokenKey with
      | some k => d.setToken r.target (r.input.take 8) k
      | none => d
    else d
  | 4 => { d with key := { d.key with verifier := some r.input } }
  | 5 => d.revokeToken r.target
  | _ => d

/-- RES of the latest reservation, and CTR from it when PD0 has powered on from nothing (18 R516). -/
def Dev.replayCtr (d : Dev) (recs : List KeyRec) : Dev :=
  let n := match recs.find? fun r => r.type == 7 with
    | some r => ofBytes (r.input.take 4)
    | none => 0
  let d := { d with acc := { d.acc with res := n } }
  if d.root.lost then { d with root := { d.root with lost := false } }.setFld R.ACC_REL_CTR_CTR n else d

/-- Step 7: the vault and the token records are rebuilt, unless TAMPER_LOCKED or the key table cannot be read; READY. -/
def Dev.bootVault (d : Dev) (nv : Nv) (x : BootIn) : Dev :=
  let d := d.bootFlash x
  let d :=
    if d.flashReads x then
      let recs := latestRecs (nv.goodRecs x.badRecs)
      let d := d.replayCtr recs
      if d.tampLock then d
      else
        let d := d.forAll ((List.range nv.keyTab.length).filter x.badRecs.contains) fun _ d => d.count R.KEY_INTEG_CNT
        let d := Dev.replay nv recs 8 d
        recs.foldl Dev.replayToken d
    else d
  let d := if d.tampLock then d.raiseFault Src.keyLocked 0 else d
  d.setFlag R.KEY_STAT_READY true

/-- The radio's INIT section, of the active set's profile (R529). -/
def Dev.bootRadio (d : Dev) (nv : Nv) (x : BootIn) : Dev :=
  (d.radioRun nv 1 (some x.radio)).2

/-! ### Steps 8 to 12 -/

/-- Step 8: the calibration records, unless their CRC fails (07 R239, R522). -/
def Dev.bootCalib (d : Dev) (nv : Nv) (x : BootIn) : Dev :=
  let d := d.bootFlash x
  if d.flashReads x && !x.calibBad then
    d.forAll (List.range 128) fun c d => d.loadCalib nv c
  else d

/-- Step 9: a profile part is loaded with SRC = 1; the generation it is given is open: a free value other than 0. -/
def Dev.bootProfile (d : Dev) (nv : Nv) (x : BootIn) (p : Part) : Dev :=
  let r := d.draw
  let d := (r.2.setReg64 R.PSQ_LD_ADDR_LO R.PSQ_LD_ADDR_HI p.off).setFld R.PSQ_LD_CFG_BANKS p.index
  let d := (d.setFlag R.PSQ_LD_CFG_SRC true).setFld R.PSQ_LD_CFG_GEN (1 + r.1.toNat % 65535)
  d.psqLoadEnd nv (if d.flashReads x then some [] else none)

/-- Step 9: the profile parts are loaded, and the banks that now hold a staged image swap 100 µs later. -/
def Dev.bootProfiles (d : Dev) (nv : Nv) (x : BootIn) : Dev :=
  let d := ((manifestParts nv.active).filter fun p => p.type == 6).foldl (fun d p => d.bootProfile nv x p) (d.bootFlash x)
  d.forAll ((List.range 8).filter fun b => d.flag (R.PSQ_BANK_STAT_STG_VALID b)) fun b d => d.writeBankCmd b 1

/-- The engine image parts of the active set. -/
def bootImages (nv : Nv) : List Part := (manifestParts nv.active).filter fun p => p.type == 5

/-- The clusters that hold an engine with an image part. -/
def bootClusters (nv : Nv) : List Nat := [0, 1].filter fun k => (bootImages nv).any fun p => decide (p.index % 16 / 8 = k)

/-- Step 11: AUTOLOAD of every engine with an image part; their clusters are switched on and load them. -/
def Dev.bootEngines (d : Dev) (nv : Nv) : Dev :=
  let d := (bootImages nv).foldl (fun d p => d.setAutoload (p.index % 16) (some p.off)) d
  d.forAll (bootClusters nv) fun k d => d.switchOn (4 + k)

/-- Whether the engines' images have been loaded. -/
def Dev.enginesLoaded (d : Dev) (nv : Nv) : Bool :=
  (bootClusters nv).all (fun k => d.domOn (4 + k)) && (bootImages nv).all fun p => decide (d.engSt (p.index % 16) ≠ 3)

/-- The engines whose INDEX says so start, in engine order. -/
def Dev.bootStart (d : Dev) (nv : Nv) : Dev :=
  d.forAll ((List.range 16).filter fun n => (bootImages nv).any fun p => decide (p.index = 256 + n)) fun n d => d.startCmd n

/-- Step 12: done. -/
def Dev.bootDone (d : Dev) : Dev := (d.bootAt 12 12).updEvent R.UPD_EVT_BOOT_DONE

/-- One turn of the start: the step in progress ends, where its condition holds, and the next one begins (R527). -/
def Dev.bootTurn (d : Dev) (nv : Nv) (x : BootIn) : Dev × Nv :=
  match d.upd.phase with
  | 0 => (d.bootBegin x, nv)
  | 1 => (if d.domOn 3 && d.flag R.MT_STATE_READY then (d.switchOn 8).bootAt 2 2 else d, nv)
  | 2 => (if d.domOn 8 then d.bootAt 3 3 else d, nv)
  | 3 => d.bootActivate nv x
  | 4 => (d.bootVerify nv x, nv)
  | 5 => (d.bootAt 6 6, { nv with svn := max nv.svn (manifestSvn nv.active) })
  | 6 =>
    let r := d.bootSettings nv x
    (r.1.bootAt 7 7, r.2)
  | 7 =>
    let d := (d.bootVault nv x).bootRadio nv x
    (if d.flag R.UPD_STAT_RECOVERY then d.bootDone else ((d.switchOn 12).switchOn 13).bootAt 8 8, nv)
  | 8 => (if d.domOn 12 && d.domOn 13 then ((d.bootCalib nv x).switchOn 6).bootAt 9 9 else d, nv)
  | 9 => (if d.domOn 6 then (d.bootProfiles nv x).bootAt 9 13 else d, nv)
  | 13 =>
    (if (List.range 8).all fun b => (d.psqBank b).swapAt.isNone then ((d.switchOn 7).switchOn 9).bootAt 10 10 else d, nv)
  | 10 => (if d.domOn 7 && d.domOn 9 then (d.bootEngines nv).bootAt 11 11 else d, nv)
  | 11 => (if d.enginesLoaded nv then (d.bootStart nv).bootDone else d, nv)
  | _ => (d, nv)

/-- BOOT (R527): what the flash and the radio answer in this turn. -/
def execBoot (x : BootIn) (s : State) : Host.Outcome State Fault Refusal :=
  if s.dev.domOn 2 && s.dev.pwr.park == .run then
    let r := s.dev.bootTurn s.nv x
    .next { s with dev := r.1, nv := r.2 }
  else .next s

end Sys2Proof.Machine
end

