-- ==== Sys2Proof/Machine/EngRun.lean ====
section
/-! DEFINITION. What the Tchitis engines share in running a program (11, 12): fields and formats of an instruction word,
flags, the return stack, traps, the end of an instruction with its load-delay slot and repeat, interrupts, and the special
registers. -/

namespace Sys2Proof.Machine

/-! ### Instruction words (12 R357) -/

/-- OP of an instruction word. -/
def opOf (w : Word) : Nat := bitsOf w 26 6

/-- RD. -/
def rdOf (w : Word) : Nat := bitsOf w 22 4

/-- RA. -/
def raOf (w : Word) : Nat := bitsOf w 18 4

/-- RB. -/
def rbOf (w : Word) : Nat := bitsOf w 14 4

/-- IMM18 read as signed, as a 32-bit word. -/
def immS (w : Word) : Word := BitVec.ofInt 32 (toInt 18 (bitsOf w 0 18))

/-- IMM18 read as unsigned, as a 32-bit word. -/
def immU (w : Word) : Word := BitVec.ofNat 32 (bitsOf w 0 18)

/-- OFF22 as a byte offset. -/
def offB (w : Word) : Word := BitVec.ofInt 32 (4 * toInt 22 (bitsOf w 0 22))

/-! ### Flags (12 R358, R359) -/

/-- Z and N of a result, at their places in FLAGS. -/
def znOf (r : Word) : Nat := (decide (r = 0)).toNat + 2 * r.msb.toNat

/-- FLAGS with the flags of a mask replaced. -/
def withFlags (fl : Word) (mask v : Nat) : Word := (fl &&& ~~~(BitVec.ofNat 32 mask)) ||| (BitVec.ofNat 32 v &&& BitVec.ofNat 32 mask)

/-- Writes a result to RD and the flags of a mask. -/
def Eng.put (x : Eng) (rd : Nat) (r : Word) (mask v : Nat) : Eng := { x.setG rd r with flags := withFlags x.flags mask v }

/-- The carry flag. -/
def Eng.cy (x : Eng) : Bool := x.flags.getLsbD 2

/-- An operation's result, the mask of the flags it sets, and their values. -/
structure Alu where
  val : Word
  mask : Nat
  fl : Nat

/-- A sum with carry in: Z, N, C, V. -/
def aluAdd (a b : Word) (c : Bool) : Alu :=
  let r := a + b + BitVec.ofNat 32 c.toNat
  { val := r, mask := 15
    fl := znOf r + 4 * (decide (2 ^ 32 ≤ a.toNat + b.toNat + c.toNat)).toNat + 8 * (decide (a.toInt + b.toInt + c.toNat ≠ r.toInt)).toNat }

/-- A difference: Z, N, C as no borrow, V. -/
def aluSub (a b : Word) : Alu :=
  let r := a - b
  { val := r, mask := 15
    fl := znOf r + 4 * (decide (b.toNat ≤ a.toNat)).toNat + 8 * (decide (a.toInt - b.toInt ≠ r.toInt)).toNat }

/-- A bitwise result: Z, N. -/
def aluBits (r : Word) : Alu := { val := r, mask := 3, fl := znOf r }

/-- A shift's result with its last bit shifted out; an amount of 0 leaves C (12 R362). -/
def aluShift (r : Word) (k : Nat) (out : Bool) : Alu :=
  { val := r, mask := if k = 0 then 3 else 7, fl := znOf r + 4 * out.toNat }

/-- Left shift. -/
def aluShl (a : Word) (k : Nat) : Alu := aluShift (a <<< k) k (a.getLsbD (32 - k))

/-- Logical right shift. -/
def aluShr (a : Word) (k : Nat) : Alu := aluShift (a >>> k) k (a.getLsbD (k - 1))

/-- Arithmetic right shift. -/
def aluSar (a : Word) (k : Nat) : Alu := aluShift (a.sshiftRight k) k (a.getLsbD (k - 1))

/-- Low product word: V when the signed product does not fit. -/
def aluMul (a b : Word) : Alu :=
  let r := a * b
  { val := r, mask := 11, fl := znOf r + 8 * (decide (a.toInt * b.toInt ≠ r.toInt)).toNat }

/-- High word of the signed product. -/
def aluMulh (a b : Word) : Alu := aluBits (BitVec.ofInt 32 (a.toInt * b.toInt / 2 ^ 32))

/-- High word of the unsigned product. -/
def aluMulhu (a b : Word) : Alu := aluBits (BitVec.ofNat 32 (a.toNat * b.toNat / 2 ^ 32))

/-- Signed quotient towards zero; C = 0, V for the most negative number by −1. -/
def aluDiv (a b : Word) : Alu :=
  let r := BitVec.ofInt 32 (a.toInt.tdiv b.toInt)
  { val := r, mask := 15, fl := znOf r + 8 * (decide (a.toInt.tdiv b.toInt ≠ r.toInt)).toNat }

/-- Unsigned quotient; C = V = 0. -/
def aluDivu (a b : Word) : Alu := let r := BitVec.ofNat 32 (a.toNat / b.toNat); { val := r, mask := 15, fl := znOf r }

/-- Unsigned remainder; C = V = 0. -/
def aluRemu (a b : Word) : Alu := let r := BitVec.ofNat 32 (a.toNat % b.toNat); { val := r, mask := 15, fl := znOf r }

/-- Whether COND holds (12 R359). -/
def condHolds (fl : Word) (c : Nat) : Bool :=
  let z := fl.getLsbD 0
  let n := fl.getLsbD 1
  let cf := fl.getLsbD 2
  let v := fl.getLsbD 3
  match c with
  | 0 => z
  | 1 => !z
  | 2 => n != v
  | 3 => n == v
  | 4 => !z && n == v
  | 5 => z || n != v
  | 6 => !cf
  | 7 => cf
  | 8 => cf && !z
  | 9 => !cf || z
  | 10 => n
  | 11 => !n
  | 12 => v
  | 13 => !v
  | _ => true

/-! ### What an instruction does -/

/-- What an instruction comes to: a trap with its cause and EVAL, which changes nothing else but what the device counts of it;
its effect, going on at the next address; a load, whose register is written at the end of the delay slot; a transfer;
a wait for an MT. -/
inductive OpRes where
  | trap (cause : Nat) (eval : Word) (d : Dev)
  | done (d : Dev) (nv : Nv)
  | load (d : Dev) (nv : Nv) (l : PendLoad)
  | jump (d : Dev) (a : Nat)
  | wait (d : Dev) (t : Nat)

/-- An instruction word that is not legal (12 R357, R371). -/
def illegalOp (w : Word) (d : Dev) : OpRes := .trap 0x01 w d

/-! ### Return stack (11 R326) -/

/-- Pushes an address; at depth 8 the oldest entry is overwritten and the wrap is counted. -/
def Dev.pushRstk (d : Dev) (n : Nat) (v : Word) : Dev :=
  let x := d.engine n
  let d := if x.rsd = 8 then d.count (R.ENG_WRAP_CNT n) else d
  d.setEngine n { x with stk := sparsePut (fun _ => 0) x.stk x.sp v, sp := (x.sp + 1) % 8, rsd := min 8 (x.rsd + 1) }

/-- The entry a pop gives: the slot below the stack pointer. -/
def Eng.rstkTop (x : Eng) : Word := sparseGet (fun _ => 0) x.stk ((x.sp + 7) % 8)

/-- The stack after a pop. -/
def Eng.rstkPop (x : Eng) : Eng := { x with sp := (x.sp + 7) % 8, rsd := x.rsd - 1 }

/-- Whether a push traps STACK_OVF. -/
def Dev.pushTraps (d : Dev) (n : Nat) : Bool := d.flag (R.ENG_CTRL_RSTK_TRAP n) && decide ((d.engine n).rsd = 8)

/-- Whether a pop traps STACK_UNF. -/
def Dev.popTraps (d : Dev) (n : Nat) : Bool := d.flag (R.ENG_CTRL_RSTK_TRAP n) && decide ((d.engine n).rsd = 0)

/-- The trap of a transfer's target, if any (12 R366). -/
def targetTrap (t : Word) : Option Nat := if t.toNat % 4 ≠ 0 then some 0x03 else if 0x20000 ≤ t.toNat then some 0x05 else none

/-! ### Addresses of loads and stores (11 R314, R315, 12 R365, 18 R507) -/

/-- Whether an engine may store to a register of the block windows. -/
def mayStore (off : Nat) : Bool :=
  match off / 0x10000 with
  | 0x0 | 0x1 | 0x9 => false
  | 0xF => decide (off = R.ACC_CMD ∨ off = R.ACC_CODE_LO ∨ off = R.ACC_CODE_HI ∨ off = R.ACC_EVT)
  | _ => true

/-- The BAR0 offset of a window address. -/
def winOff (a : Nat) : Option Nat := if 0x40000000 ≤ a ∧ a < 0x40100000 then some (a - 0x40000000) else none

/-- The trap of an access of a size, if any: ALIGN, then BUS. -/
def accessTrap (a size : Nat) (store : Bool) : Option Nat :=
  if a % size ≠ 0 then some 0x03
  else if a < 0x20000 then none
  else
    match winOff a with
    | some off => if size = 4 ∧ (store = true → mayStore off = true) then none else some 0x04
    | none => some 0x04

/-! ### Traps and the end of an instruction (11 R320 to R330, 12 R371 to R373) -/

/-- Cancels the pending load of the instruction before: its register is not written, and a post-increment is undone (R321). -/
def Eng.cancelLoad (x : Eng) : Eng :=
  match x.ld with
  | some l =>
    match l.undo with
    | some (r, v) => { (x.setG r v) with ld := none }
    | none => { x with ld := none }
  | none => x

/-- An engine stops with STOPPED and ENG_STOP (R330); what it has emitted, set up, sent and booked stays (R331). -/
def Dev.engDies (d : Dev) (n why code : Nat) : Dev :=
  ((d.stopEng n 0 why code).engEvent n (R.ENG_EVT_STOPPED n)).raiseFault Src.engStop 0

/-- FLAGS bits that exist. -/
def flagBits : Word := 0x70F#32

/-- Enters a handler: EPC, ECAUSE, EVAL, EFLAGS with EREP, ERC; IE off, INH set (R327). -/
def Eng.enter (x : Eng) (epc : Nat) (cause : Nat) (eval : Word) (handler : Word) : Eng :=
  { x with epc := BitVec.ofNat 32 epc, ecause := BitVec.ofNat 32 cause, eval := eval
           erc := BitVec.ofNat 32 (match x.rep with | some r => r.left | none => 0)
           eflags := withFlags x.flags 0x400 (if x.rep.isSome then 0x400 else 0)
           flags := withFlags x.flags 0x300 0x200, rep := none, wait := none, pc := handler.toNat }

/-- A trap (R321, R325, R327, R330): double traps stop the engine. -/
def Dev.engTrap (d : Dev) (n cause : Nat) (eval : Word) : Dev :=
  let x := d.engine n
  if x.flags.getLsbD 9 then (d.setEngine n x.cancelLoad).engDies n 3 0x0B
  else
    let x' := match x.rep, x.ld with
      | some r, _ => x.endLoad.enter r.pfx cause eval x.tvec
      | none, some l => x.cancelLoad.enter l.pc cause eval x.tvec
      | none, none => x.enter x.pc cause eval x.tvec
    let d := ((d.setEngine n x').setFld (R.ENG_TRAP_CAUSE n) cause).count (R.ENG_TRAP_CNT n)
    d.engEvent n (R.ENG_EVT_TRAP n)

/-- The pc and the repeat after an instruction that transfers nothing (R322). -/
def Eng.advance (x : Eng) : Eng :=
  match x.rep with
  | some r => if r.left ≤ 1 then { x with rep := none, pc := r.pfx + 8 } else { x with rep := some { r with left := r.left - 1, fresh := false } }
  | none => { x with pc := x.pc + 4 }

/-- The end of an instruction: the load before it writes its register, its own load becomes pending, the pc moves, and a STOP
that waits takes effect where R325 permits. -/
def Dev.retireOp (d : Dev) (n : Nat) (l : Option PendLoad) (to_ : Option Nat) : Dev :=
  if d.engSt n = 1 then
    let x := { (d.engine n).endLoad with ld := l }
    let d := d.setEngine n (match to_ with | some a => { x with pc := a } | none => x.advance)
    if (d.engine n).stopReq && d.mayStop n then d.stopEng n 0 1 0x0C else d
  else d

/-- An engine enters WAITING (R332); a STOP that waits acts at once (R343). -/
def Dev.beginWait (d : Dev) (n t : Nat) : Dev :=
  let d := (d.setEngine n { (d.engine n).endLoad with wait := some t }).setEngSt n 2
  if (d.engine n).stopReq then d.stopEng n 0 1 0x0C else d

/-- What an instruction came to takes effect. -/
def settleOp (n : Nat) (nv : Nv) : OpRes → Dev × Nv
  | .trap c ev d => (d.engTrap n c ev, nv)
  | .done d nv => (d.retireOp n none none, nv)
  | .load d nv l => (d.retireOp n (some l) none, nv)
  | .jump d a => (d.retireOp n none (some a), nv)
  | .wait d t => (d.beginWait n t, nv)

/-- Whether an engine issues an instruction now: on, RUNNING, past its first issue time, the pc a word of IMEM, and no
instruction line about to be corrupted (17 R486). -/
def Dev.engIssues (d : Dev) (n : Nat) : Bool :=
  let x := d.engine n
  d.domOn (engDom n) && decide (d.engSt n = 1) && decide (x.notBefore ≤ d.now) && decide (x.pc < 0x20000) &&
    decide (x.pc % 4 = 0) && !d.injected 7 (some n)

/-- The meaning of an instruction: device, stores, engine number, engine, word. -/
abbrev OpFn := Dev → Nv → Nat → Eng → Word → OpRes

/-- A command that issues the instruction at the pc, when its OP is the command's. -/
def runOp (op : Nat) (f : OpFn) (n : Nat) (s : State) : Host.Outcome State Fault Refusal :=
  let d := s.dev
  let x := d.engine n
  let w := x.iword x.pc
  if d.engIssues n && decide (opOf w = op) then
    let r := settleOp n s.nv (f d s.nv n x w)
    .next { s with dev := r.1, nv := r.2 }
  else .next s

/-! ### Interrupts (11 R318, R329) -/

/-- IPEND. -/
def Dev.ipend (d : Dev) (n : Nat) : Nat :=
  let x := d.engine n
  (decide (x.evb ≠ 0)).toNat + 2 * (!x.notes.isEmpty).toNat + 4 * (d.domOn 7 && (d.swOldest (d.role n)).isSome).toNat +
    8 * (decide (x.tcmp.toNat ≤ d.now)).toNat + 16 * x.mbox.toNat

/-- The lowest bit that is pending and enabled. -/
def Dev.irq (d : Dev) (n : Nat) : Option Nat :=
  (List.range 5).find? fun k => (d.ipend n).testBit k && (d.engine n).ien.getLsbD k

/-- Whether an interrupt may be taken at this boundary: IE, not in a handler, not between a load and its slot, not between a
prefix and its first iteration, not inside a REP (R321, R325, R329, 12 R361). -/
def Dev.irqOpen (d : Dev) (n : Nat) : Bool :=
  let x := d.engine n
  x.flags.getLsbD 8 && !x.flags.getLsbD 9 &&
    (match x.rep with | some r => r.intr && !r.fresh | none => x.ld.isNone)

/-- Takes an interrupt (R327, R332). -/
def Dev.takeIrq (d : Dev) (n k : Nat) : Dev :=
  let x := (d.engine n).endLoad
  let pc := match x.rep with | some r => r.pfx | none => x.pc
  ((d.setEngine n (x.enter pc (0x80 + k) x.eval x.ivec)).setFld (R.ENG_TRAP_CAUSE n) (0x80 + k)).setEngSt n 1

/-! ### Special registers (11 R318, R319, 12 R370) -/

/-- A word of the oldest notice; with none held the spec gives no value: a free one (R335). -/
def Dev.noteWord (d : Dev) (n k : Nat) : Word × Dev :=
  match (d.engine n).notes with
  | [] => (BitVec.ofNat 32 d.draw.1.toNat, d.draw.2)
  | x :: _ =>
    (match k with
     | 0 => BitVec.ofNat 32 (x.addr % 2 ^ 17)
     | 1 => BitVec.ofNat 32 (x.status % 65536 + 65536 * x.failed.toNat)
     | _ => x.detail, d)

/-- What MFS of a special register reads, and the device after it. -/
def Dev.readSpecial (d : Dev) (n k : Nat) : Word × Dev :=
  let x := d.engine n
  match k with
  | 0x00 => (x.flags, d)
  | 0x01 => (x.rc, d)
  | 0x02 => (x.epc, d)
  | 0x03 => (x.ecause, d)
  | 0x04 => (x.eval, d)
  | 0x05 => (x.erc, d)
  | 0x06 => (x.eflags, d)
  | 0x07 => (x.tvec, d)
  | 0x08 => (x.ivec, d)
  | 0x09 => (x.ien, d)
  | 0x0A => (BitVec.ofNat 32 (d.ipend n), d)
  | 0x0B => (x.evb, d)
  | 0x0C => (x.rstkTop, d.setEngine n x.rstkPop)
  | 0x0D => (BitVec.ofNat 32 x.rsd, d)
  | 0x0E => (BitVec.ofNat 32 d.now, d.setEngine n { x with mthi := BitVec.ofNat 32 (d.now / 2 ^ 32) })
  | 0x0F => (x.mthi, d)
  | 0x10 => (BitVec.ofNat 32 x.tcmp.toNat, d)
  | 0x11 => (BitVec.ofNat 32 (x.tcmp.toNat / 2 ^ 32), d)
  | 0x12 => d.noteWord n 0
  | 0x13 => d.noteWord n 1
  | 0x14 => d.noteWord n 2
  | 0x16 => (BitVec.ofNat 32 x.rxmt.toNat, d)
  | 0x17 => (BitVec.ofNat 32 (x.rxmt.toNat / 2 ^ 32), d)
  | 0x18 => (d.reg (R.ENG_MBIN n), d)
  | 0x19 => (d.reg (R.ENG_MBOUT n), d)
  | 0x1B => (BitVec.ofNat 32 (n + 16 * d.role n + 256 * (n / 8)), d)
  | 0x1C => (0x0008FF01#32, d)
  | 0x1D => (0x00800080#32, d)
  | 0x1E => (0x02581040#32, d)
  | _ => (0, d)

/-- Whether a special register takes an MTS. -/
def specialRw (k : Nat) : Bool :=
  decide (k ≤ 0x09 ∨ k = 0x0B ∨ k = 0x0C ∨ k = 0x10 ∨ k = 0x11 ∨ k = 0x15 ∨ k = 0x19 ∨ k = 0x1A)

/-- What MTS of a special register does. -/
def Dev.writeSpecial (d : Dev) (n k : Nat) (v : Word) : Dev :=
  let x := d.engine n
  match k with
  | 0x00 => d.setEngine n { x with flags := withFlags x.flags 0x10F v.toNat }
  | 0x01 => d.setEngine n { x with rc := v }
  | 0x02 => d.setEngine n { x with epc := v }
  | 0x03 => d.setEngine n { x with ecause := v &&& 0xFF#32 }
  | 0x04 => d.setEngine n { x with eval := v }
  | 0x05 => d.setEngine n { x with erc := v }
  | 0x06 => d.setEngine n { x with eflags := v &&& flagBits }
  | 0x07 => d.setEngine n { x with tvec := v }
  | 0x08 => d.setEngine n { x with ivec := v }
  | 0x09 => d.setEngine n { x with ien := v &&& 0x1F#32 }
  | 0x0B => d.setEngine n { x with evb := x.evb &&& ~~~v }
  | 0x0C => d.pushRstk n v
  | 0x10 => d.setEngine n { x with tcmp := BitVec.ofNat 64 (v.toNat + x.tcmp.toNat / 2 ^ 32 * 2 ^ 32) }
  | 0x11 => d.setEngine n { x with tcmp := BitVec.ofNat 64 (x.tcmp.toNat % 2 ^ 32 + v.toNat * 2 ^ 32) }
  | 0x15 => d.popNotice n
  | 0x19 => (d.setReg (R.ENG_MBOUT n) v).engEvent n (R.ENG_EVT_MBOUT n)
  | 0x1A => d.setEngine n { x with mbox := false }
  | _ => d

end Sys2Proof.Machine
end

