-- ==== Sys2Proof/Machine/EngIsa.lean ====
section
/-! DEFINITION. The Tchitis instructions (12): the operation of each, and the commands that issue them, take interrupts,
refetch lines and debug an engine. -/

namespace Sys2Proof.Machine

/-! ### Forms shared by the instructions -/

/-- A format R instruction that writes RD and flags from two registers. -/
def opR (f : Eng → Word → Word → Alu) : OpFn := fun d nv n x w =>
  if bitsOf w 0 14 ≠ 0 then illegalOp w d
  else
    let r := f x (x.gr (raOf w)) (x.gr (rbOf w))
    .done (d.setEngine n (x.put (rdOf w) r.val r.mask r.fl)) nv

/-- A format R division: DIV0 for a divisor of 0. -/
def opDiv (f : Word → Word → Alu) : OpFn := fun d nv n x w =>
  if bitsOf w 0 14 = 0 ∧ x.gr (rbOf w) = 0 then .trap 0x08 0 d else opR (fun _ a b => f a b) d nv n x w

/-- A format I instruction that writes RD and flags from a register and its immediate; `rsv` are bits that must be 0. -/
def opI (rsv : Word) (f : Word → Word → Alu) : OpFn := fun d nv n x w =>
  if w &&& rsv ≠ 0 then illegalOp w d
  else
    let r := f (x.gr (raOf w)) w
    .done (d.setEngine n (x.put (rdOf w) r.val r.mask r.fl)) nv

/-- The reserved bits of a shift by an immediate. -/
def shiftRsv : Word := 0x3FFE0#32

/-- A register written with Z and N from its value (12 R369). -/
def Dev.answer (d : Dev) (n : Nat) (w : Word) (v : Word) : Dev := d.setEngine n ((d.engine n).put (rdOf w) v 3 (znOf v))

/-- A load of a size: from DMEM, where a detection traps DATA_INTEG, or a word from a window. `ext` makes the register's value
from the bytes read, `addr` the address, `post` the value RA takes. -/
def opLoad (size : Nat) (ext : Nat → Word) (addr : Eng → Word → Word) (post : Option (Eng → Word → Word)) (det : Bool) : OpFn :=
  fun d nv n x w =>
    let a := addr x w
    let undo := if post.isSome then some (raOf w, x.gr (raOf w)) else none
    let x' := match post with | some p => x.setG (raOf w) (p x w) | none => x
    match accessTrap a.toNat size false, winOff a.toNat with
    | some c, _ => .trap c a d
    | none, some off =>
      let r := busRead d nv off
      .load (r.2.setEngine n x') nv { rd := rdOf w, val := r.1, pc := x.pc, undo := undo }
    | none, none =>
      if det || d.injected 8 (some n) then
        .trap 0x09 (BitVec.ofNat 32 (a.toNat / 4 * 4)) ((d.injectDone 8 (some n)).raiseFault Src.engInteg 0)
      else .load (d.setEngine n x') nv { rd := rdOf w, val := ext (x.num a.toNat size), pc := x.pc, undo := undo }

/-- A store of a size to DMEM, or of a word to a window. -/
def opStore (size : Nat) (addr : Eng → Word → Word) (post : Option (Eng → Word → Word)) : OpFn := fun d nv n x w =>
  let a := addr x w
  let x' := match post with | some p => x.setG (raOf w) (p x w) | none => x
  let v := x.gr (rdOf w)
  match accessTrap a.toNat size true, winOff a.toNat with
  | some c, _ => .trap c a d
  | none, some off => let r := busWrite (d.setEngine n x') nv off v; .done r.1 r.2
  | none, none => .done (d.setEngine n (x'.putBytes a.toNat (leBytes size v.toNat))) nv

/-- RA plus the signed immediate. -/
def addrImm (x : Eng) (w : Word) : Word := x.gr (raOf w) + immS w

/-- RA itself. -/
def addrReg (x : Eng) (w : Word) : Word := x.gr (raOf w)

/-- A transfer to a target whose traps come first. -/
def jumpTo (d : Dev) (t : Word) : OpRes := match targetTrap t with | some c => .trap c t d | none => .jump d t.toNat

/-- A call: STACK_OVF, then the target's traps, then the push (11 R326, 12 R366). -/
def callTo (d : Dev) (n : Nat) (x : Eng) (t : Word) : OpRes :=
  if d.pushTraps n then .trap 0x06 0 d
  else
    match targetTrap t with
    | some c => .trap c t d
    | none => .jump (d.pushRstk n (BitVec.ofNat 32 (x.pc + 4))) t.toNat

/-- Whether an OP may not follow a prefix: transfers, prefixes, the waiting and posting instructions (11 R323, 12 R367). -/
def noRepeat (op : Nat) : Bool := decide ((0x25 ≤ op ∧ op ≤ 0x2C) ∨ op = 0x35 ∨ (0x30 ≤ op ∧ op ≤ 0x34))

/-- Whether an OP stands in 12. -/
def opListed (op : Nat) : Bool := decide ((1 ≤ op ∧ op ≤ 0x2F) ∨ (0x30 ≤ op ∧ op ≤ 0x35))

/-- A repeat prefix (11 R322, R323, 12 R367). -/
def opPrefix (intr : Bool) : OpFn := fun d _ n x w =>
  if bitsOf w 0 26 ≠ 0 then illegalOp w d
  else if 0x20000 ≤ x.pc + 4 then .jump d (x.pc + 4)
  else
    let nx := x.iword (x.pc + 4)
    if noRepeat (opOf nx) then .trap 0x02 nx d
    else if !opListed (opOf nx) then .trap 0x01 nx d
    else if x.rc = 0 then .jump d (x.pc + 8)
    else .jump (d.setEngine n { x with rep := some { left := x.rc.toNat, intr := intr, pfx := x.pc, fresh := true } }) (x.pc + 4)

/-! ### The operations -/

/-- NOP. -/
def opNop : OpFn := fun d nv _ _ w => if bitsOf w 0 26 ≠ 0 then illegalOp w d else .done d nv

/-- Whether RD names an accumulator pair (12 R363). -/
def isPair (rd : Nat) : Bool := decide (rd % 2 = 0 ∧ 2 ≤ rd)

/-- The pair with a signed product added, modulo 2⁶⁴. -/
def Eng.accumulate (x : Eng) (rd : Nat) (a b : Word) : Eng :=
  let s : Int := (x.gr rd).toNat + (x.gr (rd + 1)).toNat * 2 ^ 32 + a.toInt * b.toInt
  (x.setG rd (BitVec.ofInt 32 s)).setG (rd + 1) (BitVec.ofInt 32 (s / 2 ^ 32))

/-- MAC. -/
def opMac : OpFn := fun d nv n x w =>
  if bitsOf w 0 14 ≠ 0 ∨ isPair (rdOf w) = false then illegalOp w d
  else .done (d.setEngine n (x.accumulate (rdOf w) (x.gr (raOf w)) (x.gr (rbOf w)))) nv

/-- The trap of a DMEM word address. -/
def dmemTrap (a : Word) : Option (Nat × Word) :=
  if a.toNat % 4 ≠ 0 then some (0x03, a) else if 0x20000 ≤ a.toNat then some (0x04, a) else none

/-- MACM; `det` names the operand in whose word a detection lies, false the first. -/
def opMacm (det : Option Bool) : OpFn := fun d nv n x w =>
  let rd := rdOf w
  let ra := raOf w
  let rb := rbOf w
  let inPair := fun r => decide (r = rd ∨ r = rd + 1)
  if bitsOf w 0 14 ≠ 0 ∨ isPair rd = false ∨ inPair ra = true ∨ inPair rb = true ∨ ra = rb then illegalOp w d
  else
    let a := x.gr ra
    let b := x.gr rb
    match dmemTrap a, dmemTrap b with
    | some (c, e), _ => .trap c e d
    | none, some (c, e) => .trap c e d
    | none, none =>
      let hit := if d.injected 8 (some n) then some false else det
      match hit with
      | some k => .trap 0x09 (if k then b else a) ((d.injectDone 8 (some n)).raiseFault Src.engInteg 0)
      | none =>
        let y := x.accumulate rd (BitVec.ofNat 32 (x.num a.toNat 4)) (BitVec.ofNat 32 (x.num b.toNat 4))
        .done (d.setEngine n ((y.setG ra (a + 4)).setG rb (b + 4))) nv

/-- LUI. -/
def opLui : OpFn := fun d nv n x w => .done (d.setEngine n (x.setG (rdOf w) (BitVec.ofNat 32 (bitsOf w 0 22 * 2 ^ 10)))) nv

/-- CMPI. -/
def opCmpi : OpFn := fun d nv n x w =>
  if rdOf w ≠ 0 then illegalOp w d
  else
    let r := aluSub (x.gr (raOf w)) (immS w)
    .done (d.setEngine n { x with flags := withFlags x.flags r.mask r.fl }) nv

/-- A half-word or byte as a register value, sign-extended. -/
def extS (w : Nat) (v : Nat) : Word := BitVec.ofInt 32 (toInt w v)

/-- LWP: ILLEGAL_OP with RD equal to RA. -/
def opLwp (det : Bool) : OpFn := fun d nv n x w =>
  if rdOf w = raOf w then illegalOp w d else opLoad 4 (BitVec.ofNat 32) addrReg (some addrImm) det d nv n x w

/-- B. -/
def opB : OpFn := fun d nv _ x w =>
  if rdOf w = 15 then illegalOp w d
  else if condHolds x.flags (rdOf w) then jumpTo d (BitVec.ofNat 32 x.pc + offB w) else .done d nv

/-- CALL. -/
def opCall : OpFn := fun d _ n x w => if rdOf w ≠ 0 then illegalOp w d else callTo d n x (BitVec.ofNat 32 x.pc + offB w)

/-- JR. -/
def opJr : OpFn := fun d _ _ x w => if rdOf w ≠ 0 ∨ bitsOf w 0 18 ≠ 0 then illegalOp w d else jumpTo d (x.gr (raOf w))

/-- CALLR. -/
def opCallr : OpFn := fun d _ n x w =>
  if rdOf w ≠ 0 ∨ bitsOf w 0 18 ≠ 0 then illegalOp w d else callTo d n x (x.gr (raOf w))

/-- RET. -/
def opRet : OpFn := fun d _ n x w =>
  if bitsOf w 0 26 ≠ 0 then illegalOp w d
  else if d.popTraps n then .trap 0x07 0 d
  else
    match targetTrap x.rstkTop with
    | some c => .trap c x.rstkTop d
    | none => .jump (d.setEngine n x.rstkPop) x.rstkTop.toNat

/-- RETI: FLAGS from EFLAGS; with EREP the repeated instruction resumes with ERC (11 R325, R328). -/
def opReti : OpFn := fun d _ n x w =>
  if bitsOf w 0 26 ≠ 0 then illegalOp w d
  else
    match targetTrap x.epc with
    | some c => .trap c x.epc d
    | none =>
      let y := { x with flags := x.eflags &&& flagBits }
      let a := x.epc.toNat
      let op := opOf (x.iword a)
      if x.eflags.getLsbD 10 && decide (op = 0x2B ∨ op = 0x2C) && !noRepeat (opOf (x.iword (a + 4))) then
        if x.erc = 0 then .jump (d.setEngine n y) (a + 8)
        else
          .jump (d.setEngine n { y with rep := some { left := x.erc.toNat, intr := decide (op = 0x2C), pfx := a, fresh := false } })
            (a + 4)
      else .jump (d.setEngine n y) a

/-- MFS. -/
def opMfs : OpFn := fun d nv n _ w =>
  if raOf w ≠ 0 ∨ bitsOf w 5 13 ≠ 0 then illegalOp w d
  else if bitsOf w 0 5 = 0x0C ∧ d.popTraps n = true then .trap 0x07 0 d
  else
    let r := d.readSpecial n (bitsOf w 0 5)
    .done (r.2.setEngine n ((r.2.engine n).setG (rdOf w) r.1)) nv

/-- MTS. -/
def opMts : OpFn := fun d nv n x w =>
  let k := bitsOf w 0 5
  if rdOf w ≠ 0 ∨ bitsOf w 5 13 ≠ 0 ∨ specialRw k = false then illegalOp w d
  else if k = 0x0C ∧ d.pushTraps n = true then .trap 0x06 0 d
  else .done (d.writeSpecial n k (x.gr (raOf w))) nv

/-- WAITMT (11 R332). -/
def opWaitmt : OpFn := fun d nv n x w =>
  if rdOf w ≠ 0 ∨ bitsOf w 0 14 ≠ 0 then illegalOp w d
  else
    let t := (x.gr (raOf w)).toNat + (x.gr (rbOf w)).toNat * 2 ^ 32
    if t ≤ d.now then .done (d.setEngine n { x with flags := withFlags x.flags 4 4 }) nv else .wait d t

/-- The traps of a span of DMEM: ALIGN, then BUS. -/
def spanTrap (a : Word) (align len : Nat) : Option Nat :=
  if a.toNat % align ≠ 0 then some 0x03 else if 0x20000 < a.toNat + len then some 0x04 else none

/-- EMIT (11 R334, 12 R370). -/
def opEmit : OpFn := fun d nv n x w =>
  if bitsOf w 0 18 ≠ 0 then illegalOp w d
  else
    let a := x.gr (raOf w)
    match spanTrap a 8 24 with
    | some c => .trap c a d
    | none =>
      if 64 ≤ x.outst then .done (d.answer n w 1) nv
      else
        let d := (d.setEngine n { x with outst := x.outst + 1 }).count (R.ENG_EMIT_CNT n)
        .done ((d.answer n w 0).takeBlock n a.toNat) nv

/-- SEND (11 R337, 12 R370). -/
def opSend (tab : Option (Bool × BitVec 12)) : OpFn := fun d nv n x w =>
  if bitsOf w 0 14 ≠ 0 then illegalOp w d
  else
    let a := x.gr (raOf w)
    let c := x.gr (rbOf w)
    let len := bitsOf c 0 16
    if bitsOf c 20 12 ≠ 0 then illegalOp w d
    else
      match spanTrap a 4 len with
      | some t => .trap t a d
      | none =>
        let fail := fun (d : Dev) (why : Nat) => ((d.count (R.ENG_SEND_FAIL_CNT n)).answer n w (BitVec.ofNat 32 (2 ^ 31 + why)))
        if len < 14 ∨ 1518 < len then .done (fail d 0x02) nv
        else if d.domOn 7 then
          match d.swSend (x.bytes a.toNat len) (bitsOf c 16 3) (c.getLsbD 19) tab with
          | (d, some h) => .done (d.answer n w (BitVec.ofNat 32 h)) nv
          | (d, none) => .done (fail d 0x01) nv
        else .done (fail d 0x01) nv

/-- RECV (11 R338, 12 R370). -/
def opRecv : OpFn := fun d nv n x w =>
  if bitsOf w 0 14 ≠ 0 then illegalOp w d
  else
    let a := x.gr (raOf w)
    let room := (x.gr (rbOf w)).toNat
    match spanTrap a 4 room with
    | some t => .trap t a d
    | none =>
      match (if d.domOn 7 then d.swOldest (d.role n) else none) with
      | none => .done (d.answer n w 0) nv
      | some f =>
        let len := f.data.length
        if room < len then .done (d.answer n w (BitVec.ofNat 32 (2 ^ 31 + len % 65536))) nv
        else
          let d := d.swTake (d.role n) f
          let d := d.setEngine n { (d.engine n).putBytes a.toNat f.data with rxmt := BitVec.ofNat 64 f.mt }
          .done (d.answer n w (BitVec.ofNat 32 len)) nv

/-- The request of a LEAVE word (11 R339, R340). -/
def Dev.engLeave (d : Dev) (n : Nat) (q : Word) (us : Nat) : LeaveReq :=
  let c := bitsOf q 0 8 % 128
  let amt := bitsOf q 16 16
  if bitsOf q 8 2 = 0 then
    { bank := some (c / 16), amount := amt, mw := 0, start := d.now, us := us, safety := d.flag (R.CH_CFG_SAFETY c), req := 5, owner := n }
  else { bank := none, amount := 0, mw := 10 * amt, start := d.now, us := us, safety := false, req := 5, owner := n }

/-- LEAVE (11 R339, 12 R370); a handle is a booking's number plus 1. -/
def opLeave : OpFn := fun d nv n x w =>
  if bitsOf w 0 14 ≠ 0 then illegalOp w d
  else
    let q := x.gr (raOf w)
    let us := min 1000000 (x.gr (rbOf w)).toNat
    if us = 0 then
      let d' := match d.pwr.books.find? fun k => decide (k.id + 1 = q.toNat ∧ k.req = 5 ∧ k.owner = n) with
        | some k => d.endBooking k.id
        | none => d
      .done (d'.answer n w 0) nv
    else if bitsOf q 10 6 ≠ 0 ∨ 2 ≤ bitsOf q 8 2 then illegalOp w d
    else
      let id := d.pwr.nextBook
      match d.decideLeave (d.engLeave n q us) with
      | (none, d) => .done (d.answer n w (BitVec.ofNat 32 ((id + 1) % 2 ^ 31))) nv
      | (some c, d) => .done (d.answer n w (BitVec.ofNat 32 (2 ^ 31 + c))) nv

/-- TRAP. -/
def opTrap : OpFn := fun d _ _ _ w =>
  if bitsOf w 16 10 ≠ 0 then illegalOp w d else .trap 0x20 (BitVec.ofNat 32 (bitsOf w 0 16)) d

/-! ### The commands that issue instructions (12 R362, R364, R366, R369) -/

/-- NOP. -/
def execEngNop (e : Fin 16) (s : State) : Host.Outcome State Fault Refusal := runOp 0x01 opNop e s

/-- ADD. -/
def execEngAdd (e : Fin 16) (s : State) : Host.Outcome State Fault Refusal := runOp 0x02 (opR fun _ a b => aluAdd a b false) e s

/-- SUB, and CMP as SUB to g0. -/
def execEngSub (e : Fin 16) (s : State) : Host.Outcome State Fault Refusal := runOp 0x03 (opR fun _ a b => aluSub a b) e s

/-- ADDC. -/
def execEngAddc (e : Fin 16) (s : State) : Host.Outcome State Fault Refusal := runOp 0x2F (opR fun x a b => aluAdd a b x.cy) e s

/-- AND. -/
def execEngAnd (e : Fin 16) (s : State) : Host.Outcome State Fault Refusal := runOp 0x04 (opR fun _ a b => aluBits (a &&& b)) e s

/-- OR. -/
def execEngOr (e : Fin 16) (s : State) : Host.Outcome State Fault Refusal := runOp 0x05 (opR fun _ a b => aluBits (a ||| b)) e s

/-- XOR. -/
def execEngXor (e : Fin 16) (s : State) : Host.Outcome State Fault Refusal := runOp 0x06 (opR fun _ a b => aluBits (a ^^^ b)) e s

/-- SHL. -/
def execEngShl (e : Fin 16) (s : State) : Host.Outcome State Fault Refusal :=
  runOp 0x07 (opR fun _ a b => aluShl a (bitsOf b 0 5)) e s

/-- SHR. -/
def execEngShr (e : Fin 16) (s : State) : Host.Outcome State Fault Refusal :=
  runOp 0x08 (opR fun _ a b => aluShr a (bitsOf b 0 5)) e s

/-- SAR. -/
def execEngSar (e : Fin 16) (s : State) : Host.Outcome State Fault Refusal :=
  runOp 0x09 (opR fun _ a b => aluSar a (bitsOf b 0 5)) e s

/-- MUL. -/
def execEngMul (e : Fin 16) (s : State) : Host.Outcome State Fault Refusal := runOp 0x0A (opR fun _ a b => aluMul a b) e s

/-- MULH. -/
def execEngMulh (e : Fin 16) (s : State) : Host.Outcome State Fault Refusal := runOp 0x0B (opR fun _ a b => aluMulh a b) e s

/-- MULHU. -/
def execEngMulhu (e : Fin 16) (s : State) : Host.Outcome State Fault Refusal := runOp 0x0C (opR fun _ a b => aluMulhu a b) e s

/-- DIV. -/
def execEngDiv (e : Fin 16) (s : State) : Host.Outcome State Fault Refusal := runOp 0x0D (opDiv aluDiv) e s

/-- DIVU. -/
def execEngDivu (e : Fin 16) (s : State) : Host.Outcome State Fault Refusal := runOp 0x0E (opDiv aluDivu) e s

/-- REMU. -/
def execEngRemu (e : Fin 16) (s : State) : Host.Outcome State Fault Refusal := runOp 0x0F (opDiv aluRemu) e s

/-- MAC. -/
def execEngMac (e : Fin 16) (s : State) : Host.Outcome State Fault Refusal := runOp 0x10 opMac e s

/-- MACM; `det`: a detection in the word of an operand. -/
def execEngMacm (e : Fin 16) (det : Option Bool) (s : State) : Host.Outcome State Fault Refusal := runOp 0x11 (opMacm det) e s

/-- ADDI. -/
def execEngAddi (e : Fin 16) (s : State) : Host.Outcome State Fault Refusal :=
  runOp 0x12 (opI 0 fun a w => aluAdd a (immS w) false) e s

/-- CMPI. -/
def execEngCmpi (e : Fin 16) (s : State) : Host.Outcome State Fault Refusal := runOp 0x19 opCmpi e s

/-- ANDI. -/
def execEngAndi (e : Fin 16) (s : State) : Host.Outcome State Fault Refusal :=
  runOp 0x13 (opI 0 fun a w => aluBits (a &&& immU w)) e s

/-- ORI. -/
def execEngOri (e : Fin 16) (s : State) : Host.Outcome State Fault Refusal :=
  runOp 0x14 (opI 0 fun a w => aluBits (a ||| immU w)) e s

/-- XORI. -/
def execEngXori (e : Fin 16) (s : State) : Host.Outcome State Fault Refusal :=
  runOp 0x15 (opI 0 fun a w => aluBits (a ^^^ immU w)) e s

/-- SHLI. -/
def execEngShli (e : Fin 16) (s : State) : Host.Outcome State Fault Refusal :=
  runOp 0x16 (opI shiftRsv fun a w => aluShl a (bitsOf w 0 5)) e s

/-- SHRI. -/
def execEngShri (e : Fin 16) (s : State) : Host.Outcome State Fault Refusal :=
  runOp 0x17 (opI shiftRsv fun a w => aluShr a (bitsOf w 0 5)) e s

/-- SARI. -/
def execEngSari (e : Fin 16) (s : State) : Host.Outcome State Fault Refusal :=
  runOp 0x18 (opI shiftRsv fun a w => aluSar a (bitsOf w 0 5)) e s

/-- LUI. -/
def execEngLui (e : Fin 16) (s : State) : Host.Outcome State Fault Refusal := runOp 0x1A opLui e s

/-- LW; `det`: a detection in the DMEM word. -/
def execEngLw (e : Fin 16) (det : Bool) (s : State) : Host.Outcome State Fault Refusal :=
  runOp 0x1B (opLoad 4 (BitVec.ofNat 32) addrImm none det) e s

/-- LH. -/
def execEngLh (e : Fin 16) (det : Bool) (s : State) : Host.Outcome State Fault Refusal :=
  runOp 0x1C (opLoad 2 (extS 16) addrImm none det) e s

/-- LHU. -/
def execEngLhu (e : Fin 16) (det : Bool) (s : State) : Host.Outcome State Fault Refusal :=
  runOp 0x1D (opLoad 2 (BitVec.ofNat 32) addrImm none det) e s

/-- LB. -/
def execEngLb (e : Fin 16) (det : Bool) (s : State) : Host.Outcome State Fault Refusal :=
  runOp 0x1E (opLoad 1 (extS 8) addrImm none det) e s

/-- LBU. -/
def execEngLbu (e : Fin 16) (det : Bool) (s : State) : Host.Outcome State Fault Refusal :=
  runOp 0x1F (opLoad 1 (BitVec.ofNat 32) addrImm none det) e s

/-- LWP. -/
def execEngLwp (e : Fin 16) (det : Bool) (s : State) : Host.Outcome State Fault Refusal := runOp 0x20 (opLwp det) e s

/-- SW. -/
def execEngSw (e : Fin 16) (s : State) : Host.Outcome State Fault Refusal := runOp 0x21 (opStore 4 addrImm none) e s

/-- SH. -/
def execEngSh (e : Fin 16) (s : State) : Host.Outcome State Fault Refusal := runOp 0x22 (opStore 2 addrImm none) e s

/-- SB. -/
def execEngSb (e : Fin 16) (s : State) : Host.Outcome State Fault Refusal := runOp 0x23 (opStore 1 addrImm none) e s

/-- SWP. -/
def execEngSwp (e : Fin 16) (s : State) : Host.Outcome State Fault Refusal := runOp 0x24 (opStore 4 addrReg (some addrImm)) e s

/-- B. -/
def execEngB (e : Fin 16) (s : State) : Host.Outcome State Fault Refusal := runOp 0x25 opB e s

/-- CALL. -/
def execEngCall (e : Fin 16) (s : State) : Host.Outcome State Fault Refusal := runOp 0x26 opCall e s

/-- JR. -/
def execEngJr (e : Fin 16) (s : State) : Host.Outcome State Fault Refusal := runOp 0x27 opJr e s

/-- CALLR. -/
def execEngCallr (e : Fin 16) (s : State) : Host.Outcome State Fault Refusal := runOp 0x28 opCallr e s

/-- RET. -/
def execEngRet (e : Fin 16) (s : State) : Host.Outcome State Fault Refusal := runOp 0x29 opRet e s

/-- RETI. -/
def execEngReti (e : Fin 16) (s : State) : Host.Outcome State Fault Refusal := runOp 0x2A opReti e s

/-- REP. -/
def execEngRep (e : Fin 16) (s : State) : Host.Outcome State Fault Refusal := runOp 0x2B (opPrefix false) e s

/-- REPI. -/
def execEngRepi (e : Fin 16) (s : State) : Host.Outcome State Fault Refusal := runOp 0x2C (opPrefix true) e s

/-- MFS. -/
def execEngMfs (e : Fin 16) (s : State) : Host.Outcome State Fault Refusal := runOp 0x2D opMfs e s

/-- MTS. -/
def execEngMts (e : Fin 16) (s : State) : Host.Outcome State Fault Refusal := runOp 0x2E opMts e s

/-- WAITMT. -/
def execEngWaitmt (e : Fin 16) (s : State) : Host.Outcome State Fault Refusal := runOp 0x30 opWaitmt e s

/-- EMIT. -/
def execEngEmit (e : Fin 16) (s : State) : Host.Outcome State Fault Refusal := runOp 0x31 opEmit e s

/-- SEND; `tab`: a table entry of the switch that fails its detection. -/
def execEngSend (e : Fin 16) (tab : Option (Bool × BitVec 12)) (s : State) : Host.Outcome State Fault Refusal :=
  runOp 0x32 (opSend tab) e s

/-- RECV. -/
def execEngRecv (e : Fin 16) (s : State) : Host.Outcome State Fault Refusal := runOp 0x33 opRecv e s

/-- LEAVE. -/
def execEngLeave (e : Fin 16) (s : State) : Host.Outcome State Fault Refusal := runOp 0x34 opLeave e s

/-- What stops an engine from fetching a listed instruction at its pc: the pc past IMEM, a handler address that is no word
address, an OP that 12 does not list (R357, R366). -/
def fetchTrap (x : Eng) : Option (Nat × Word) :=
  if 0x20000 ≤ x.pc then some (0x05, BitVec.ofNat 32 x.pc)
  else if x.pc % 4 ≠ 0 then some (0x03, BitVec.ofNat 32 x.pc)
  else if !opListed (opOf (x.iword x.pc)) then some (0x01, x.iword x.pc)
  else none

/-- An engine that meets such a stop traps (R357, R366); a repeat that ran off the end of IMEM is dropped. -/
def Dev.badFetch (d : Dev) (n cause : Nat) (eval : Word) : Dev :=
  let x := d.engine n
  (d.setEngine n (if 0x20000 ≤ x.pc then { x with rep := none } else x)).engTrap n cause eval

/-- TRAP (R366, R368): the TRAP instruction, and every fetch that finds no listed instruction. -/
def execEngTrap (e : Fin 16) (s : State) : Host.Outcome State Fault Refusal :=
  let d := s.dev
  let x := d.engine e
  match fetchTrap x with
  | some (c, ev) =>
    if d.domOn (engDom e) && decide (d.engSt e = 1 ∧ x.notBefore ≤ d.now) then .next { s with dev := d.badFetch e c ev } else .next s
  | none => runOp 0x35 opTrap e s

/-- GROUP_CANCEL (04 R123, R136): an EMIT whose block asks for a group cancel. -/
def execGroupCancel (n : Fin 16) (s : State) : Host.Outcome State Fault Refusal :=
  let x := s.dev.engine n
  let a := (x.gr (raOf (x.iword x.pc))).toNat
  if (actOfEmit (BitVec.ofNat 192 (x.num a 24))).action = 0 then runOp 0x31 opEmit n s else .next s

/-- WAITMT_EXPIRY (11 R332): MT reaches the target; a target of all ones is reached by no MT. -/
def execWaitmtExpiry (e : Fin 16) (s : State) : Host.Outcome State Fault Refusal :=
  onDev s fun d =>
    let x := d.engine e
    match x.wait with
    | some t =>
      if d.engSt e = 2 ∧ t ≤ d.now ∧ t ≠ 2 ^ 64 - 1 then
        (d.setEngine e { x with wait := none, flags := withFlags x.flags 4 0, pc := x.pc + 4 }).setEngSt e 1
      else d
    | none => d

/-- INTERRUPT (11 R327, R329): the lowest bit pending and enabled is taken. -/
def execInterrupt (e : Fin 16) (s : State) : Host.Outcome State Fault Refusal :=
  onDev s fun d =>
    if d.domOn (engDom e) && decide (d.engSt e = 1 ∨ d.engSt e = 2) && d.irqOpen e then
      match d.irq e with
      | some k => d.takeIrq e k
      | none => d
    else d

/-! ### Instruction lines (11 R345) -/

/-- Writes a line of eight words into IMEM. -/
def Eng.putLine (x : Eng) (a : Nat) (l : BitVec 256) : Eng :=
  (List.range 8).foldl (fun x k => x.putIword (a + 4 * k) (BitVec.ofNat 32 (bitsOf l (32 * k) 32))) x

/-- LINE_REFETCH (11 R345, R330): a detection in the line of the pc: refetched from the image source, from flash or as the host
gives it, or the engine stops. Host memory cannot be read while the link may not master (01 R32, 02 R84). -/
def execLineRefetch (e : Fin 16) (r : Refetch) (line : BitVec 256) (s : State) : Host.Outcome State Fault Refusal :=
  onDev s fun d =>
    let x := d.engine e
    if d.domOn (engDom e) && decide (d.engSt e = 1 ∧ x.pc < 0x20000) then
      let a := x.pc / 32 * 32
      let twice := d.injectedTwice 7 (some e)
      let d := ((d.injectDone 7 (some e)).count (R.ENG_REFETCH_CNT e)).engEvent e (R.ENG_EVT_REFETCH e)
      let read := x.fromFlash || d.canMaster
      if r = .ok ∧ twice = false ∧ read = true then
        let l := if x.fromFlash then BitVec.ofNat 256 (ofBytes (flashBytes s.nv.active (x.imgAddr + 64 + a) 32)) else line
        d.setEngine e ((d.engine e).putLine a l)
      else
        let d := if x.fromFlash = false ∧ (r = .unread ∨ read = false) then d.count R.HL_REDO_ABANDON_CNT else d
        (d.engDies e 2 0x0A).raiseFault Src.engInteg 0
    else d

/-! ### Debug (19 R541, R542) -/

/-- The meaning of each OP, for a single step. -/
def opTable (op : Nat) : OpFn :=
  match op with
  | 0x01 => opNop
  | 0x02 => opR fun _ a b => aluAdd a b false
  | 0x03 => opR fun _ a b => aluSub a b
  | 0x04 => opR fun _ a b => aluBits (a &&& b)
  | 0x05 => opR fun _ a b => aluBits (a ||| b)
  | 0x06 => opR fun _ a b => aluBits (a ^^^ b)
  | 0x07 => opR fun _ a b => aluShl a (bitsOf b 0 5)
  | 0x08 => opR fun _ a b => aluShr a (bitsOf b 0 5)
  | 0x09 => opR fun _ a b => aluSar a (bitsOf b 0 5)
  | 0x0A => opR fun _ a b => aluMul a b
  | 0x0B => opR fun _ a b => aluMulh a b
  | 0x0C => opR fun _ a b => aluMulhu a b
  | 0x0D => opDiv aluDiv
  | 0x0E => opDiv aluDivu
  | 0x0F => opDiv aluRemu
  | 0x10 => opMac
  | 0x11 => opMacm none
  | 0x12 => opI 0 fun a w => aluAdd a (immS w) false
  | 0x13 => opI 0 fun a w => aluBits (a &&& immU w)
  | 0x14 => opI 0 fun a w => aluBits (a ||| immU w)
  | 0x15 => opI 0 fun a w => aluBits (a ^^^ immU w)
  | 0x16 => opI shiftRsv fun a w => aluShl a (bitsOf w 0 5)
  | 0x17 => opI shiftRsv fun a w => aluShr a (bitsOf w 0 5)
  | 0x18 => opI shiftRsv fun a w => aluSar a (bitsOf w 0 5)
  | 0x19 => opCmpi
  | 0x1A => opLui
  | 0x1B => opLoad 4 (BitVec.ofNat 32) addrImm none false
  | 0x1C => opLoad 2 (extS 16) addrImm none false
  | 0x1D => opLoad 2 (BitVec.ofNat 32) addrImm none false
  | 0x1E => opLoad 1 (extS 8) addrImm none false
  | 0x1F => opLoad 1 (BitVec.ofNat 32) addrImm none false
  | 0x20 => opLwp false
  | 0x21 => opStore 4 addrImm none
  | 0x22 => opStore 2 addrImm none
  | 0x23 => opStore 1 addrImm none
  | 0x24 => opStore 4 addrReg (some addrImm)
  | 0x25 => opB
  | 0x26 => opCall
  | 0x27 => opJr
  | 0x28 => opCallr
  | 0x29 => opRet
  | 0x2A => opReti
  | 0x2B => opPrefix false
  | 0x2C => opPrefix true
  | 0x2D => opMfs
  | 0x2E => opMts
  | 0x2F => opR fun x a b => aluAdd a b x.cy
  | 0x30 => opWaitmt
  | 0x31 => opEmit
  | 0x32 => opSend none
  | 0x33 => opRecv
  | 0x34 => opLeave
  | _ => opTrap

/-- Whether the debug port is open to an engine whose cluster is on. -/
def Dev.dbgOpen (d : Dev) (nv : Nv) (e : Nat) : Bool := d.tap.dbg && !nv.tapShut && d.domOn (engDom e)

/-- A value that the debug port reads. -/
def Dev.dbgShow (d : Dev) (v : Word) : Dev := { d with tap := { d.tap with dr := v } }

/-- DBG_HALT: as STOP. -/
def execDbgHalt (e : Fin 16) (s : State) : Host.Outcome State Fault Refusal :=
  onDev s fun d => if d.dbgOpen s.nv e then d.stopCmd e else d

/-- DBG_RESUME: as START. -/
def execDbgResume (e : Fin 16) (s : State) : Host.Outcome State Fault Refusal :=
  onDev s fun d => if d.dbgOpen s.nv e then d.startCmd e else d

/-- One instruction of a stopped engine, which stays stopped. -/
def Dev.stepEng (d : Dev) (nv : Nv) (e : Nat) : Dev × Nv :=
  let d := d.setEngSt e 1
  let x := d.engine e
  let r := match fetchTrap x with
    | some (c, ev) => (d.badFetch e c ev, nv)
    | none => let w := x.iword x.pc; settleOp e nv (opTable (opOf w) d nv e x w)
  let d := r.1
  if d.engSt e = 1 ∨ d.engSt e = 2 then ((d.setEngine e { d.engine e with wait := none }).setEngSt e 0, r.2) else (d, r.2)

/-- DBG_STEP: single step of a stopped engine with a valid image. -/
def execDbgStep (e : Fin 16) (s : State) : Host.Outcome State Fault Refusal :=
  let d := s.dev
  if d.dbgOpen s.nv e && decide (d.engSt e = 0) && d.flag (R.ENG_STAT_IMG_VALID e) then
    let r := d.stepEng s.nv e
    .next { s with dev := r.1, nv := r.2 }
  else .next s

/-- What a DBG_ACCESS of an engine does. -/
def Dev.dbgDo (d : Dev) (nv : Nv) (x : DbgAcc) : Dev :=
  let on := fun (e : Fin 16) (f : Dev → Dev) => if d.dbgOpen nv e then f d else d
  match x with
  | .select => d
  | .readG e r => on e fun d => d.dbgShow ((d.engine e).gr (r.val % 16))
  | .writeG e r v => on e fun d => d.setEngine e ((d.engine e).setG (r.val % 16) v)
  | .readS e k => on e fun d => d.dbgShow (d.readSpecial e (k.toNat % 32)).1
  | .writeS e k v => on e fun d => d.writeSpecial e (k.toNat % 32) v
  | .readI e a => on e fun d => d.dbgShow ((d.engine e).iword (4 * a.toNat))
  | .writeI e a v => on e fun d => d.setEngine e ((d.engine e).putIword (4 * a.toNat) v)
  | .readD e a => on e fun d => d.dbgShow (BitVec.ofNat 32 ((d.engine e).num (4 * a.toNat) 4))
  | .writeD e a v => on e fun d => d.setEngine e ((d.engine e).putBytes (4 * a.toNat) (leBytes 4 v.toNat))

/-- DBG_ACCESS: the instruction enters the TAP, then the engine access it is followed by. -/
def execDbgAccess (x : DbgAcc) (s : State) : Host.Outcome State Fault Refusal :=
  onDev s fun d => (d.tapLoad s.nv 5 id).dbgDo s.nv x

/-- DBG_BAR0_ACCESS: a register read or write as the host makes it. -/
def execDbgBar0Access (off : BitVec 20) (wr : Option (BitVec 32)) (s : State) : Host.Outcome State Fault Refusal :=
  let d := s.dev
  let o := off.toNat / 4 * 4
  if d.tap.dbg && !s.nv.tapShut then
    match wr with
    | some v => let r := busWrite d s.nv o v; .next { s with dev := r.1, nv := r.2 }
    | none => let r := busRead d s.nv o; .next { s with dev := r.2.dbgShow r.1 }
  else .next s

end Sys2Proof.Machine
end

