-- ==== Sys2Proof/Machine/Dispatch.lean ====
section
/-! DEFINITION. The dispatch: one arm per command, each one direct call of its meaning. -/

namespace Sys2Proof.Machine

def exec (i : Instr) (s : State) : Host.Outcome State Fault Refusal :=
  match i with
  | .sqDoorbell n tail => Sys2Proof.Machine.execSqDoorbell n tail s
  | .cqDoorbell n head => Sys2Proof.Machine.execCqDoorbell n head s
  | .descriptorFetch n => Sys2Proof.Machine.execDescriptorFetch n s
  | .descriptorAccept n ds => Sys2Proof.Machine.execDescriptorAccept n ds s
  | .fetchErr n => Sys2Proof.Machine.execFetchErr n s
  | .heldCompletionWrite n => Sys2Proof.Machine.execHeldCompletionWrite n s
  | .writeErr n => Sys2Proof.Machine.execWriteErr n s
  | .coalesceTimeout n => Sys2Proof.Machine.execCoalesceTimeout n s
  | .msixPendingSend v => Sys2Proof.Machine.execMsixPendingSend v s
  | .sqEnable n cfg => Sys2Proof.Machine.execSqEnable n cfg s
  | .sqDisable n cfg => Sys2Proof.Machine.execSqDisable n cfg s
  | .cqEnable n cfg => Sys2Proof.Machine.execCqEnable n cfg s
  | .cqDisable n cfg => Sys2Proof.Machine.execCqDisable n cfg s
  | .quiesce v => Sys2Proof.Machine.execQuiesce v s
  | .conventionalReset => Sys2Proof.Machine.execConventionalReset s
  | .hotReset => Sys2Proof.Machine.execHotReset s
  | .flr => Sys2Proof.Machine.execFlr s
  | .linkDown => Sys2Proof.Machine.execLinkDown s
  | .d3hotEntry => Sys2Proof.Machine.execD3hotEntry s
  | .d0Return => Sys2Proof.Machine.execD0Return s
  | .busMasterEnableChange bme => Sys2Proof.Machine.execBusMasterEnableChange bme s
  | .badAccess off size wr => Sys2Proof.Machine.execBadAccess off size wr s
  | .offDomainAccess off wr => Sys2Proof.Machine.execOffDomainAccess off wr s
  | .registerWrite t v => Sys2Proof.Machine.execRegisterWrite t v s
  | .mtCapture v => Sys2Proof.Machine.execMtCapture v s
  | .pairSubmit v => Sys2Proof.Machine.execPairSubmit v s
  | .lossToExpiry => Sys2Proof.Machine.execLossToExpiry s
  | .holdLimitExpiry => Sys2Proof.Machine.execHoldLimitExpiry s
  | .slewDone => Sys2Proof.Machine.execSlewDone s
  | .stepArm => Sys2Proof.Machine.execStepArm s
  | .stepWithdraw => Sys2Proof.Machine.execStepWithdraw s
  | .ofsStep => Sys2Proof.Machine.execOfsStep s
  | .ppsPulse n => Sys2Proof.Machine.execPpsPulse n s
  | .ppsPulseEnd n => Sys2Proof.Machine.execPpsPulseEnd n s
  | .syncPulseEnd n => Sys2Proof.Machine.execSyncPulseEnd n s
  | .markerEdge n tok t rising => Sys2Proof.Machine.execMarkerEdge n tok t rising s
  | .mkPop n v => Sys2Proof.Machine.execMkPop n v s
  | .canrefInsert => Sys2Proof.Machine.execCanrefInsert s
  | .rtcSet v => Sys2Proof.Machine.execRtcSet v s
  | .mtLoad rtc => Sys2Proof.Machine.execMtLoad rtc s
  | .mtFallowRecord rtc cal => Sys2Proof.Machine.execMtFallowRecord rtc cal s
  | .mtRef absent => Sys2Proof.Machine.execMtRef absent s
  | .scheduleAction => Sys2Proof.Machine.execScheduleAction s
  | .commit ins det => Sys2Proof.Machine.execCommit ins det s
  | .entryRefetch ins r => Sys2Proof.Machine.execEntryRefetch ins r s
  | .dispatch ins det1 det2 => Sys2Proof.Machine.execDispatch ins det1 det2 s
  | .chSet ins ack => Sys2Proof.Machine.execChSet ins ack s
  | .chDuty ins ack => Sys2Proof.Machine.execChDuty ins ack s
  | .chPulse ins ack => Sys2Proof.Machine.execChPulse ins ack s
  | .chPulseEnd c => Sys2Proof.Machine.execChPulseEnd c s
  | .psqStart ins ack => Sys2Proof.Machine.execPsqStart ins ack s
  | .loopSp ins => Sys2Proof.Machine.execLoopSp ins s
  | .loopMode ins => Sys2Proof.Machine.execLoopMode ins s
  | .adcSnap ins ack cur volt => Sys2Proof.Machine.execAdcSnap ins ack cur volt s
  | .canTx ins det => Sys2Proof.Machine.execCanTx ins det s
  | .ethTx ins => Sys2Proof.Machine.execEthTx ins s
  | .ltFlip ins => Sys2Proof.Machine.execLtFlip ins s
  | .syncLvl ins => Sys2Proof.Machine.execSyncLvl ins s
  | .syncPulse ins => Sys2Proof.Machine.execSyncPulse ins s
  | .engWake ins => Sys2Proof.Machine.execEngWake ins s
  | .mark ins => Sys2Proof.Machine.execMark ins s
  | .scheduleCancel => Sys2Proof.Machine.execScheduleCancel s
  | .abort => Sys2Proof.Machine.execAbort s
  | .groupCancel n => Sys2Proof.Machine.execGroupCancel n s
  | .flushHost v => Sys2Proof.Machine.execFlushHost v s
  | .flushEng v => Sys2Proof.Machine.execFlushEng v s
  | .flushBnd v => Sys2Proof.Machine.execFlushBnd v s
  | .gnssCorrections data => Sys2Proof.Machine.execGnssCorrections data s
  | .fixEpoch a b x => Sys2Proof.Machine.execFixEpoch a b x s
  | .gnLogHeadWrite v => Sys2Proof.Machine.execGnLogHeadWrite v s
  | .gnLogEnable v => Sys2Proof.Machine.execGnLogEnable v s
  | .foragerBurst us => Sys2Proof.Machine.execForagerBurst us s
  | .acqRetry => Sys2Proof.Machine.execAcqRetry s
  | .foragerBurstEnd => Sys2Proof.Machine.execForagerBurstEnd s
  | .gnEnable v sky bad => Sys2Proof.Machine.execGnEnable v sky bad s
  | .gnDisable v => Sys2Proof.Machine.execGnDisable v s
  | .save v => Sys2Proof.Machine.execSave v s
  | .keptPeriodicSave => Sys2Proof.Machine.execKeptPeriodicSave s
  | .discard v => Sys2Proof.Machine.execDiscard v s
  | .orgApply v => Sys2Proof.Machine.execOrgApply v s
  | .noData x => Sys2Proof.Machine.execNoData x s
  | .trackerLock t => Sys2Proof.Machine.execTrackerLock t s
  | .trackerRelease t => Sys2Proof.Machine.execTrackerRelease t s
  | .trackPoint calcs segs => Sys2Proof.Machine.execTrackPoint calcs segs s
  | .fixToExpiry => Sys2Proof.Machine.execFixToExpiry s
  | .drLimitExpiry => Sys2Proof.Machine.execDrLimitExpiry s
  | .imuSubmit v => Sys2Proof.Machine.execImuSubmit v s
  | .poseCapture n v => Sys2Proof.Machine.execPoseCapture n v s
  | .boundaryMapLoad => Sys2Proof.Machine.execBoundaryMapLoad s
  | .mapLoadEnd ents => Sys2Proof.Machine.execMapLoadEnd ents s
  | .bndSwap v => Sys2Proof.Machine.execBndSwap v s
  | .bndDropStg v => Sys2Proof.Machine.execBndDropStg v s
  | .deact v => Sys2Proof.Machine.execDeact v s
  | .leverPointWrite p w v => Sys2Proof.Machine.execLeverPointWrite p w v s
  | .chCmdOn c v => Sys2Proof.Machine.execChCmdOn c v s
  | .chCmdOff c v => Sys2Proof.Machine.execChCmdOff c v s
  | .chCmdSafe c v => Sys2Proof.Machine.execChCmdSafe c v s
  | .chRelease c v link => Sys2Proof.Machine.execChRelease c v link s
  | .clrLatch c v => Sys2Proof.Machine.execClrLatch c v s
  | .bankRelease b v link => Sys2Proof.Machine.execBankRelease b v link s
  | .elimLock v => Sys2Proof.Machine.execElimLock v s
  | .chCfgWrite c v => Sys2Proof.Machine.execChCfgWrite c v s
  | .pwmPeriodStart c t => Sys2Proof.Machine.execPwmPeriodStart c t s
  | .overCurrent c ma high => Sys2Proof.Machine.execOverCurrent c ma high s
  | .timeOverCurrent c spans => Sys2Proof.Machine.execTimeOverCurrent c spans s
  | .otWarn c tj => Sys2Proof.Machine.execOtWarn c tj s
  | .overTemperature x => Sys2Proof.Machine.execOverTemperature x s
  | .retry c tj => Sys2Proof.Machine.execRetry c tj s
  | .retriesReset c => Sys2Proof.Machine.execRetriesReset c s
  | .bankHardLimit x => Sys2Proof.Machine.execBankHardLimit x s
  | .bankOc b x => Sys2Proof.Machine.execBankOc b x s
  | .vfUv b vf => Sys2Proof.Machine.execVfUv b vf s
  | .vfUvRecover b x => Sys2Proof.Machine.execVfUvRecover b x s
  | .vfOv b vf => Sys2Proof.Machine.execVfOv b vf s
  | .vfOvRecover b x => Sys2Proof.Machine.execVfOvRecover b x s
  | .offDiagnosis c mv vf => Sys2Proof.Machine.execOffDiagnosis c mv vf s
  | .openOn c ua => Sys2Proof.Machine.execOpenOn c ua s
  | .xconFollow j x => Sys2Proof.Machine.execXconFollow j x s
  | .elimFault c agree => Sys2Proof.Machine.execElimFault c agree s
  | .wdTrip x => Sys2Proof.Machine.execWdTrip x s
  | .linkFrameError die => Sys2Proof.Machine.execLinkFrameError die s
  | .configInteg c => Sys2Proof.Machine.execConfigInteg c s
  | .channelConfiguration recs => Sys2Proof.Machine.execChannelConfiguration recs s
  | .configApply => Sys2Proof.Machine.execConfigApply s
  | .inputEdge c stamp mv => Sys2Proof.Machine.execInputEdge c stamp mv s
  | .chInPop c v => Sys2Proof.Machine.execChInPop c v s
  | .ainWindowEnd c mean => Sys2Proof.Machine.execAinWindowEnd c mean s
  | .ainOvr c ua => Sys2Proof.Machine.execAinOvr c ua s
  | .burdenClose c => Sys2Proof.Machine.execBurdenClose c s
  | .wireBreak c => Sys2Proof.Machine.execWireBreak c s
  | .wbClear c => Sys2Proof.Machine.execWbClear c s
  | .tagWindowEnd c => Sys2Proof.Machine.execTagWindowEnd c s
  | .tagRecord c => Sys2Proof.Machine.execTagRecord c s
  | .stopEntry n stamp => Sys2Proof.Machine.execStopEntry n stamp s
  | .wakeStrobe levels rtc => Sys2Proof.Machine.execWakeStrobe levels rtc s
  | .psqEnd c det => Sys2Proof.Machine.execPsqEnd c det s
  | .psqBoost c ma det => Sys2Proof.Machine.execPsqBoost c ma det s
  | .psqPeak c det => Sys2Proof.Machine.execPsqPeak c det s
  | .psqHold c det => Sys2Proof.Machine.execPsqHold c det s
  | .psqRamp c det => Sys2Proof.Machine.execPsqRamp c det s
  | .psqDither c det => Sys2Proof.Machine.execPsqDither c det s
  | .psqQuench c ma det => Sys2Proof.Machine.execPsqQuench c ma det s
  | .psqDecay c det => Sys2Proof.Machine.execPsqDecay c det s
  | .psqPeriod c det => Sys2Proof.Machine.execPsqPeriod c det s
  | .psqWait c det => Sys2Proof.Machine.execPsqWait c det s
  | .psqWkink c samples det => Sys2Proof.Machine.execPsqWkink c samples det s
  | .psqKset c det => Sys2Proof.Machine.execPsqKset c det s
  | .psqLdc c det => Sys2Proof.Machine.execPsqLdc c det s
  | .psqDjnz c det => Sys2Proof.Machine.execPsqDjnz c det s
  | .psqJmp c det => Sys2Proof.Machine.execPsqJmp c det s
  | .psqMark c det => Sys2Proof.Machine.execPsqMark c det s
  | .coilModelUpdate c i2mean x => Sys2Proof.Machine.execCoilModelUpdate c i2mean x s
  | .heldStartRelease c => Sys2Proof.Machine.execHeldStartRelease c s
  | .heldStartDrop c => Sys2Proof.Machine.execHeldStartDrop c s
  | .go v => Sys2Proof.Machine.execGo v s
  | .psqLoadEnd img => Sys2Proof.Machine.execPsqLoadEnd img s
  | .psqSwap b v => Sys2Proof.Machine.execPsqSwap b v s
  | .psqSwapPoint b => Sys2Proof.Machine.execPsqSwapPoint b s
  | .psqDropStg b v => Sys2Proof.Machine.execPsqDropStg b v s
  | .microcodeRefetch c x => Sys2Proof.Machine.execMicrocodeRefetch c x s
  | .grpCfgWrite b g lim v => Sys2Proof.Machine.execGrpCfgWrite b g lim v s
  | .loopSample n fbs det => Sys2Proof.Machine.execLoopSample n fbs det s
  | .loopClose n v => Sys2Proof.Machine.execLoopClose n v s
  | .loopOpen n v => Sys2Proof.Machine.execLoopOpen n v s
  | .openAll v => Sys2Proof.Machine.execOpenAll v s
  | .loopXfer n v => Sys2Proof.Machine.execLoopXfer n v s
  | .loopHoldExpiry n => Sys2Proof.Machine.execLoopHoldExpiry n s
  | .engNop e => Sys2Proof.Machine.execEngNop e s
  | .engAdd e => Sys2Proof.Machine.execEngAdd e s
  | .engSub e => Sys2Proof.Machine.execEngSub e s
  | .engAddc e => Sys2Proof.Machine.execEngAddc e s
  | .engAnd e => Sys2Proof.Machine.execEngAnd e s
  | .engOr e => Sys2Proof.Machine.execEngOr e s
  | .engXor e => Sys2Proof.Machine.execEngXor e s
  | .engShl e => Sys2Proof.Machine.execEngShl e s
  | .engShr e => Sys2Proof.Machine.execEngShr e s
  | .engSar e => Sys2Proof.Machine.execEngSar e s
  | .engMul e => Sys2Proof.Machine.execEngMul e s
  | .engMulh e => Sys2Proof.Machine.execEngMulh e s
  | .engMulhu e => Sys2Proof.Machine.execEngMulhu e s
  | .engDiv e => Sys2Proof.Machine.execEngDiv e s
  | .engDivu e => Sys2Proof.Machine.execEngDivu e s
  | .engRemu e => Sys2Proof.Machine.execEngRemu e s
  | .engMac e => Sys2Proof.Machine.execEngMac e s
  | .engMacm e det => Sys2Proof.Machine.execEngMacm e det s
  | .engAddi e => Sys2Proof.Machine.execEngAddi e s
  | .engCmpi e => Sys2Proof.Machine.execEngCmpi e s
  | .engAndi e => Sys2Proof.Machine.execEngAndi e s
  | .engOri e => Sys2Proof.Machine.execEngOri e s
  | .engXori e => Sys2Proof.Machine.execEngXori e s
  | .engShli e => Sys2Proof.Machine.execEngShli e s
  | .engShri e => Sys2Proof.Machine.execEngShri e s
  | .engSari e => Sys2Proof.Machine.execEngSari e s
  | .engLui e => Sys2Proof.Machine.execEngLui e s
  | .engLw e det => Sys2Proof.Machine.execEngLw e det s
  | .engLh e det => Sys2Proof.Machine.execEngLh e det s
  | .engLhu e det => Sys2Proof.Machine.execEngLhu e det s
  | .engLb e det => Sys2Proof.Machine.execEngLb e det s
  | .engLbu e det => Sys2Proof.Machine.execEngLbu e det s
  | .engLwp e det => Sys2Proof.Machine.execEngLwp e det s
  | .engSw e => Sys2Proof.Machine.execEngSw e s
  | .engSh e => Sys2Proof.Machine.execEngSh e s
  | .engSb e => Sys2Proof.Machine.execEngSb e s
  | .engSwp e => Sys2Proof.Machine.execEngSwp e s
  | .engB e => Sys2Proof.Machine.execEngB e s
  | .engCall e => Sys2Proof.Machine.execEngCall e s
  | .engJr e => Sys2Proof.Machine.execEngJr e s
  | .engCallr e => Sys2Proof.Machine.execEngCallr e s
  | .engRet e => Sys2Proof.Machine.execEngRet e s
  | .engReti e => Sys2Proof.Machine.execEngReti e s
  | .engRep e => Sys2Proof.Machine.execEngRep e s
  | .engRepi e => Sys2Proof.Machine.execEngRepi e s
  | .engTrap e => Sys2Proof.Machine.execEngTrap e s
  | .engMfs e => Sys2Proof.Machine.execEngMfs e s
  | .engMts e => Sys2Proof.Machine.execEngMts e s
  | .engWaitmt e => Sys2Proof.Machine.execEngWaitmt e s
  | .waitmtExpiry e => Sys2Proof.Machine.execWaitmtExpiry e s
  | .engEmit e => Sys2Proof.Machine.execEngEmit e s
  | .engSend e tab => Sys2Proof.Machine.execEngSend e tab s
  | .engRecv e => Sys2Proof.Machine.execEngRecv e s
  | .engLeave e => Sys2Proof.Machine.execEngLeave e s
  | .interrupt e => Sys2Proof.Machine.execInterrupt e s
  | .lineRefetch e r line => Sys2Proof.Machine.execLineRefetch e r line s
  | .engStart e v => Sys2Proof.Machine.execEngStart e v s
  | .engStop e v => Sys2Proof.Machine.execEngStop e v s
  | .mbinWrite e v => Sys2Proof.Machine.execMbinWrite e v s
  | .engineImageLoad => Sys2Proof.Machine.execEngineImageLoad s
  | .imageLoadEnd e img => Sys2Proof.Machine.execImageLoadEnd e img s
  | .engineSwap e => Sys2Proof.Machine.execEngineSwap e s
  | .clusterOn k v => Sys2Proof.Machine.execClusterOn k v s
  | .clusterOff k v => Sys2Proof.Machine.execClusterOff k v s
  | .frameIngress p ev => Sys2Proof.Machine.execFrameIngress p ev s
  | .frameEgress p fin det => Sys2Proof.Machine.execFrameEgress p fin det s
  | .gateEvent p => Sys2Proof.Machine.execGateEvent p s
  | .gclSwap p v => Sys2Proof.Machine.execGclSwap p v s
  | .gclSwapStart p => Sys2Proof.Machine.execGclSwapStart p s
  | .frameTransmit data tab => Sys2Proof.Machine.execFrameTransmit data tab s
  | .frameReceiveBuffer => Sys2Proof.Machine.execFrameReceiveBuffer s
  | .tableUpdate recs => Sys2Proof.Machine.execTableUpdate recs s
  | .drainBarrier => Sys2Proof.Machine.execDrainBarrier s
  | .barrierMet => Sys2Proof.Machine.execBarrierMet s
  | .ageOut p q => Sys2Proof.Machine.execAgeOut p q s
  | .holdExpiry h => Sys2Proof.Machine.execHoldExpiry h s
  | .holdFree v => Sys2Proof.Machine.execHoldFree v s
  | .gleanerPass orphans doubles => Sys2Proof.Machine.execGleanerPass orphans doubles s
  | .ethLinkDown p => Sys2Proof.Machine.execEthLinkDown p s
  | .ethLinkUp p speed => Sys2Proof.Machine.execEthLinkUp p speed s
  | .mdioGo v => Sys2Proof.Machine.execMdioGo v s
  | .mdioDone data => Sys2Proof.Machine.execMdioDone data s
  | .tsPop p v => Sys2Proof.Machine.execTsPop p v s
  | .canModeWrite n v rx => Sys2Proof.Machine.execCanModeWrite n v rx s
  | .modeDone n => Sys2Proof.Machine.execModeDone n s
  | .canFrameReceive n ev => Sys2Proof.Machine.execCanFrameReceive n ev s
  | .txreq n hi v det => Sys2Proof.Machine.execTxreq n hi v det s
  | .txcxl n hi v => Sys2Proof.Machine.execTxcxl n hi v s
  | .canTxDone n tdcv => Sys2Proof.Machine.execCanTxDone n tdcv s
  | .arbitrationLoss n => Sys2Proof.Machine.execArbitrationLoss n s
  | .canError n err => Sys2Proof.Machine.execCanError n err s
  | .busOffRecovery n => Sys2Proof.Machine.execBusOffRecovery n s
  | .fifoPop n k v => Sys2Proof.Machine.execFifoPop n k v s
  | .canWake x rtc => Sys2Proof.Machine.execCanWake x rtc s
  | .ltSeal v => Sys2Proof.Machine.execLtSeal v s
  | .ltUnseal v => Sys2Proof.Machine.execLtUnseal v s
  | .lightingFrame data => Sys2Proof.Machine.execLightingFrame data s
  | .ltWdataWrite v => Sys2Proof.Machine.execLtWdataWrite v s
  | .shiftEnd marker opens shorts dets => Sys2Proof.Machine.execShiftEnd marker opens shorts dets s
  | .pageStep => Sys2Proof.Machine.execPageStep s
  | .autoFlip => Sys2Proof.Machine.execAutoFlip s
  | .lsyncEdge t rising => Sys2Proof.Machine.execLsyncEdge t rising s
  | .ltEnable v => Sys2Proof.Machine.execLtEnable v s
  | .tripClr f v => Sys2Proof.Machine.execTripClr f v s
  | .parkWrite v => Sys2Proof.Machine.execParkWrite v s
  | .fallowCloseOut => Sys2Proof.Machine.execFallowCloseOut s
  | .fallowPowerDown => Sys2Proof.Machine.execFallowPowerDown s
  | .wake source x => Sys2Proof.Machine.execWake source x s
  | .domainOn v => Sys2Proof.Machine.execDomainOn v s
  | .domainOffRequest v => Sys2Proof.Machine.execDomainOffRequest v s
  | .domainSwitchOff k => Sys2Proof.Machine.execDomainSwitchOff k s
  | .supplyRestart => Sys2Proof.Machine.execSupplyRestart s
  | .coldStart rtc => Sys2Proof.Machine.execColdStart rtc s
  | .pllLockLoss => Sys2Proof.Machine.execPllLockLoss s
  | .therm temp => Sys2Proof.Machine.execTherm temp s
  | .bookingEnd id => Sys2Proof.Machine.execBookingEnd id s
  | .faultLineRise srcs banks tab => Sys2Proof.Machine.execFaultLineRise srcs banks tab s
  | .ack v => Sys2Proof.Machine.execAck v s
  | .statusClear w v => Sys2Proof.Machine.execStatusClear w v s
  | .fltAppSet v => Sys2Proof.Machine.execFltAppSet v s
  | .fltAppClr v => Sys2Proof.Machine.execFltAppClr v s
  | .errnWidthEnd => Sys2Proof.Machine.execErrnWidthEnd s
  | .errnMismatch x => Sys2Proof.Machine.execErrnMismatch x s
  | .lock v => Sys2Proof.Machine.execLock v s
  | .stopRel v => Sys2Proof.Machine.execStopRel v s
  | .stopEnable n v => Sys2Proof.Machine.execStopEnable n v s
  | .force w v => Sys2Proof.Machine.execForce w v s
  | .injArm v => Sys2Proof.Machine.execInjArm v s
  | .writeClear data => Sys2Proof.Machine.execWriteClear data s
  | .derive data det => Sys2Proof.Machine.execDerive data det s
  | .unwrap data det => Sys2Proof.Machine.execUnwrap data det s
  | .revoke => Sys2Proof.Machine.execRevoke s
  | .ctrEnc data det => Sys2Proof.Machine.execCtrEnc data det s
  | .ctrDec data det => Sys2Proof.Machine.execCtrDec data det s
  | .cmacGen data det => Sys2Proof.Machine.execCmacGen data det s
  | .cmacVer data det => Sys2Proof.Machine.execCmacVer data det s
  | .hmacGen data det => Sys2Proof.Machine.execHmacGen data det s
  | .hmacVer data det => Sys2Proof.Machine.execHmacVer data det s
  | .sha256 data => Sys2Proof.Machine.execSha256 data s
  | .ecdsaVer data det => Sys2Proof.Machine.execEcdsaVer data det s
  | .random => Sys2Proof.Machine.execRandom s
  | .rootGen => Sys2Proof.Machine.execRootGen s
  | .enrol data det => Sys2Proof.Machine.execEnrol data det s
  | .tokRevoke => Sys2Proof.Machine.execTokRevoke s
  | .codeSet data => Sys2Proof.Machine.execCodeSet data s
  | .remaskPass => Sys2Proof.Machine.execRemaskPass s
  | .trngFail => Sys2Proof.Machine.execTrngFail s
  | .trngStartupTest pass => Sys2Proof.Machine.execTrngStartupTest pass s
  | .tamper x rtc inOp => Sys2Proof.Machine.execTamper x rtc inOp s
  | .accStart v radio => Sys2Proof.Machine.execAccStart v radio s
  | .tokIrq radio => Sys2Proof.Machine.execTokIrq radio s
  | .resp tok x => Sys2Proof.Machine.execResp tok x s
  | .finalFrame radio => Sys2Proof.Machine.execFinalFrame radio s
  | .report tok x => Sys2Proof.Machine.execReport tok x s
  | .sessionDecision => Sys2Proof.Machine.execSessionDecision s
  | .authWindowExpiry => Sys2Proof.Machine.execAuthWindowExpiry s
  | .lockoutExpiry => Sys2Proof.Machine.execLockoutExpiry s
  | .codeCheck v => Sys2Proof.Machine.execCodeCheck v s
  | .relStop v => Sys2Proof.Machine.execRelStop v s
  | .relEnSet v => Sys2Proof.Machine.execRelEnSet v s
  | .releaseMessage detE detM => Sys2Proof.Machine.execReleaseMessage detE detM s
  | .relToExpiry => Sys2Proof.Machine.execRelToExpiry s
  | .boot x => Sys2Proof.Machine.execBoot x s
  | .stagingOpen cred => Sys2Proof.Machine.execStagingOpen cred s
  | .stagingWrite data fail => Sys2Proof.Machine.execStagingWrite data fail s
  | .stagingCommit flashErr => Sys2Proof.Machine.execStagingCommit flashErr s
  | .stagingAbandon => Sys2Proof.Machine.execStagingAbandon s
  | .sessionIdleExpiry => Sys2Proof.Machine.execSessionIdleExpiry s
  | .navSwap v => Sys2Proof.Machine.execNavSwap v s
  | .fusePkh v fail => Sys2Proof.Machine.execFusePkh v fail s
  | .sealLife v fail => Sys2Proof.Machine.execSealLife v fail s
  | .retireLife v fail => Sys2Proof.Machine.execRetireLife v fail s
  | .dbgKill v fail => Sys2Proof.Machine.execDbgKill v fail s
  | .bypass => Sys2Proof.Machine.execBypass s
  | .idcode => Sys2Proof.Machine.execIdcode s
  | .samplePreload pins preload => Sys2Proof.Machine.execSamplePreload pins preload s
  | .extest => Sys2Proof.Machine.execExtest s
  | .dbgAccess x => Sys2Proof.Machine.execDbgAccess x s
  | .dbgHalt e => Sys2Proof.Machine.execDbgHalt e s
  | .dbgStep e => Sys2Proof.Machine.execDbgStep e s
  | .dbgResume e => Sys2Proof.Machine.execDbgResume e s
  | .dbgBar0Access off wr => Sys2Proof.Machine.execDbgBar0Access off wr s
  | .ref100Cycle => Sys2Proof.Machine.execRef100Cycle s
  | .ref100Return => Sys2Proof.Machine.execRef100Return s
  | .pcieLinkUp speed x2 => Sys2Proof.Machine.execPcieLinkUp speed x2 s
  | .noDataClear n => Sys2Proof.Machine.execNoDataClear n s
  | .navFirmwareLoaded sky bad => Sys2Proof.Machine.execNavFirmwareLoaded sky bad s
  | .powerGood x => Sys2Proof.Machine.execPowerGood x s
  | .xtal32Start => Sys2Proof.Machine.execXtal32Start s
  | .stopExit x => Sys2Proof.Machine.execStopExit x s
  | .canSof n sof => Sys2Proof.Machine.execCanSof n sof s
  | .busIntegration n => Sys2Proof.Machine.execBusIntegration n s
  | .reservationWriteEnd => Sys2Proof.Machine.execReservationWriteEnd s
  | .leaveRetry fail => Sys2Proof.Machine.execLeaveRetry fail s
  | .vaonLoss => Sys2Proof.Machine.execVaonLoss s
  | .vbatLoss => Sys2Proof.Machine.execVbatLoss s

end Sys2Proof.Machine
end

