-- ==== Sys2Proof/Safety.lean ====
section
/-! DEFINITION. The terms that the statements use: what the fuses may do over a step, the form that the non-volatile stores keep, the
register that a register-write command names, and the secrets of the vault. -/

namespace Sys2Proof.Machine

/-- A later state of the fuses: a blown fuse stays blown, the fused key hash stays, the security count does not fall (00 R7,
18 R493, 19 R537, R540). -/
structure Nv.Later (a b : Nv) : Prop where
  sealed : a.sealFuse = true → b.sealFuse = true
  retired : a.retireFuse = true → b.retireFuse = true
  killed : a.dbgKill = true → b.dbgKill = true
  hash : ∀ k, a.pkh = some k → b.pkh = some k
  count : a.svn ≤ b.svn
  written : ∀ i, (sparseGet (fun _ => none) a.written i).isSome = true → (sparseGet (fun _ => none) b.written i).isSome = true
  revoked : ∀ i, a.revoked.getLsbD i = true → b.revoked.getLsbD i = true

/-- The form of the non-volatile stores: the flash areas, the calibration words and the fused ATTR words list no address twice, in
rising order, and no value that an unlisted one reads as; the journal and the half in use of the key table hold one of their codes. -/
structure Nv.Inv (n : Nv) : Prop where
  active : sparseWf flashDefault n.active = true
  staging : sparseWf flashDefault n.staging = true
  calib : sparseWf (fun i => if i % 2 = 0 then 0x40000000#32 else 0) n.calib = true
  written : sparseWf (fun _ => none) n.written = true
  journal : n.journal ≤ 4
  half : n.keyHalf ≤ 1

/-- The register that a register-write command writes (01 R24). -/
def writtenReg : Instr → Option Nat
  | .sqDoorbell n _ => some (R.HL_SQDB n)
  | .cqDoorbell n _ => some (R.HL_CQDB n)
  | .sqEnable n _ => some (R.HL_SQ_CFG n)
  | .sqDisable n _ => some (R.HL_SQ_CFG n)
  | .cqEnable n _ => some (R.HL_CQ_CFG n)
  | .cqDisable n _ => some (R.HL_CQ_CFG n)
  | .quiesce _ => some R.HL_RING_CTRL
  | .offDomainAccess off _ => some off.toNat
  | .mtCapture _ => some R.MT_SNAP_CMD
  | .pairSubmit _ => some R.MT_PAIR_CMD
  | .stepArm => some R.MT_STEP
  | .stepWithdraw => some R.MT_STEP
  | .mkPop n _ => some (R.MT_MK_POP n)
  | .rtcSet _ => some R.MT_RTC_CMD
  | .flushHost _ => some R.SCH_CTRL
  | .flushEng _ => some R.SCH_CTRL
  | .flushBnd _ => some R.SCH_CTRL
  | .gnLogHeadWrite _ => some R.GN_LOG_HEAD
  | .gnLogEnable _ => some R.GN_LOG_CFG
  | .gnEnable _ _ _ => some R.GN_CTRL
  | .gnDisable _ => some R.GN_CTRL
  | .save _ => some R.GN_KEPT_CMD
  | .discard _ => some R.GN_KEPT_CMD
  | .orgApply _ => some R.GN_ORG_CMD
  | .imuSubmit _ => some R.POSE_IMU_CMD
  | .poseCapture n _ => some (R.POSE_SNAP_CMD n)
  | .bndSwap _ => some R.BND_CMD
  | .bndDropStg _ => some R.BND_CMD
  | .deact _ => some R.BND_CMD
  | .leverPointWrite p w _ => some (R.BND_LP_W0 p + 4 * w)
  | .chCmdOn c _ => some (R.CH_CMD c)
  | .chCmdOff c _ => some (R.CH_CMD c)
  | .chCmdSafe c _ => some (R.CH_CMD c)
  | .chRelease c _ _ => some (R.CH_CMD c)
  | .clrLatch c _ => some (R.CH_CMD c)
  | .bankRelease b _ _ => some (R.CH_BANK_CTRL b)
  | .elimLock _ => some (R.CH_BANK_CTRL 7)
  | .chCfgWrite c _ => some (R.CH_CFG c)
  | .chInPop c _ => some (R.CH_IN_POP c)
  | .go _ => some R.PSQ_LD_CMD
  | .psqSwap b _ => some (R.PSQ_BANK_CMD b)
  | .psqDropStg b _ => some (R.PSQ_BANK_CMD b)
  | .grpCfgWrite b g _ _ => some (R.PSQ_GRP_CFG b g)
  | .loopClose n _ => some (R.LOOP_S_CMD n)
  | .loopOpen n _ => some (R.LOOP_S_CMD n)
  | .openAll _ => some R.LOOP_CTRL
  | .loopXfer n _ => some (R.LOOP_S_CMD n)
  | .engStart e _ => some (R.ENG_CTRL e)
  | .engStop e _ => some (R.ENG_CTRL e)
  | .mbinWrite e _ => some (R.ENG_MBIN e)
  | .clusterOn k _ => some (R.ENG_CL_CTRL k)
  | .clusterOff k _ => some (R.ENG_CL_CTRL k)
  | .gclSwap p _ => some (R.SW_P_GCL_CTRL p)
  | .holdFree _ => some R.SW_HOLD_CMD
  | .mdioGo _ => some R.SW_MDIO_CMD
  | .tsPop p _ => some (R.SW_P_TS_POP p)
  | .canModeWrite n _ _ => some (R.CAN_CTRL n)
  | .txreq n _ _ _ => some (R.CAN_TXREQ_LO n)
  | .txcxl n _ _ => some (R.CAN_TXCXL_LO n)
  | .fifoPop n k _ => some (R.CAN_FIFO_POP n k)
  | .ltSeal _ => some R.LT_CMD
  | .ltUnseal _ => some R.LT_CMD
  | .ltWdataWrite _ => some R.LT_WDATA
  | .ltEnable _ => some R.LT_CTRL
  | .tripClr f _ => some (R.LT_FN_CFG f)
  | .parkWrite _ => some R.PWR_CMD
  | .domainOn _ => some R.PWR_DOM_CTRL
  | .domainOffRequest _ => some R.PWR_DOM_CTRL
  | .ack _ => some R.FLT_ACK
  | .statusClear w _ => some (R.FLT_STATUS w)
  | .fltAppSet _ => some R.FLT_APP
  | .fltAppClr _ => some R.FLT_APP_CLR
  | .lock _ => some R.FLT_CTRL
  | .stopRel _ => some R.FLT_STOP_CMD
  | .stopEnable n _ => some (R.FLT_STOPn_CFG n)
  | .force w _ => some (R.FLT_FORCE w)
  | .injArm _ => some R.FLT_INJ_CFG
  | .accStart _ _ => some R.ACC_CMD
  | .codeCheck _ => some R.ACC_CMD
  | .relStop _ => some R.ACC_CMD
  | .relEnSet _ => some R.ACC_REL_CFG
  | .navSwap _ => some R.UPD_CMD
  | .registerWrite (.bar0 off) _ => some (off.toNat / 4 * 4)
  | .fusePkh _ _ => some R.UPD_LIFE_CMD
  | .sealLife _ _ => some R.UPD_LIFE_CMD
  | .retireLife _ _ => some R.UPD_LIFE_CMD
  | .dbgKill _ _ => some R.UPD_LIFE_CMD
  | _ => none

/-- The device with other key material: the keys of the slots, the tokens' keys, and another root in place of the root it has. -/
def Dev.otherSecrets (d : Dev) (keys tokens : Sparse (List Byte)) (root : BitVec 256) : Dev :=
  { d with key := { d.key with keys := keys, tokKeys := tokens }, root := { d.root with root := d.root.root.map fun _ => root } }

/-- A command takes a device to another, whatever the fuses, the flash and the waiting commands, and leaves those as they are. -/
def Becomes (c : Instr) (d d' : Dev) : Prop := ∀ (nv : Nv) (q : List Instr), exec c ⟨d, nv, q⟩ = .next ⟨d', nv, q⟩

/-- Every register stays but those named. -/
def RegsBut (l : List Nat) (d d' : Dev) : Prop := ∀ o, o ∉ l → d'.reg o = d.reg o

/-- A profile stands at a microcode word with an OP, which it executes now: PD6 on, running, not stalled, its start reached. -/
def Dev.atWord (d : Dev) (c op : Nat) : Prop :=
  d.domOn 6 = true ∧ d.running c = true ∧ (d.ctx c).stall = none ∧ psqOp (d.ctxWord c) = op ∧ (d.ctx c).cur ≤ d.now

/-- An engine executes an instruction with an OP now. -/
def Dev.atOp (d : Dev) (n op : Nat) : Prop := d.engIssues n = true ∧ opOf ((d.engine n).iword (d.engine n).pc) = op

/-- An engine at the boundary after an instruction that transfers nothing: the pending load has written its register, l is pending, the
pc or the repeat has moved on. -/
def Eng.next (x : Eng) (l : Option PendLoad) : Eng := Eng.advance { x.endLoad with ld := l }

/-- An engine at the boundary after a transfer to a byte address. -/
def Eng.goes (x : Eng) (a : Nat) : Eng := { x.endLoad with ld := none, pc := a }

/-- An engine with the result of an arithmetic instruction word in RD and in FLAGS. -/
def Eng.takes (x : Eng) (w : Word) (r : Alu) : Eng := x.put (rdOf w) r.val r.mask r.fl

/-- A command takes engine n to x and changes nothing else of the device. -/
def EngStep (c : Instr) (d : Dev) (n : Nat) (x : Eng) : Prop :=
  ∃ d', Becomes c d d' ∧ d'.engine n = x ∧ (∀ k, k ≠ n → d'.engine k = d.engine k) ∧
    d' = { d with eng := { d.eng with eng := d'.eng.eng } }

/-- The vault with the key operations that wait taken over and those of unknown OPs turned away. -/
def Dev.vaultQueue (d : Dev) (nv : Nv) : Dev :=
  let d := d.pullKeys nv d.hl.handed.length
  if d.vaultBusy then d else d.dropUnknown nv d.key.held.length

/-- A key operation is at its turn, passes its checks and has its input: d' is the device right before its effect. -/
structure VaultTurn (d : Dev) (nv : Nv) (op : Nat) (data : List Byte) (det : Option Bool) (a : AccDesc) (d' : Dev) : Prop where
  front : (d.vaultQueue nv).key.held.head? = some a
  free : (d.vaultQueue nv).vaultBusy = false
  op_eq : keyOp a.word = op
  on : (d.vaultQueue nv).domOn 2 = true
  checks : (d.vaultQueue nv).keyCheck nv a.word = none
  input : (d.vaultQueue nv).keyInput a data = true
  taken : d' = (if keySlot a.word < 128 ∧ op ≠ 0x01 then (d.vaultQueue nv).popKey.useSlot nv (keySlot a.word) det
    else (d.vaultQueue nv).popKey)
  fits : d'.keyFits nv a.word = true

/-- A staging descriptor is the oldest one that may pass, is valid, and asks for OP. -/
def StagingTurn (d : Dev) (op : Nat) (a : AccDesc) : Prop :=
  (d.nextDesc fun w => descType w == 0x70) = some a ∧ d.stgBad a.word = none ∧ stgOp a.word = op

end Sys2Proof.Machine
end

