-- ==== Sys2Proof/WellFormed.lean ====
section
/-! DEFINITION. Which commands are well formed: what the types of the operands leave open, their lengths and alignments above all.
Where a rule lets the block refuse a command before it reads the host's data, the data may be absent. -/

namespace Sys2Proof

/-- Whether a list has a length in a range. -/
def lenIn {α : Type} (lo hi : Nat) (l : List α) : Bool := decide (lo ≤ l.length ∧ l.length ≤ hi)

/-- A BAR0 or BAR2 offset of a register write is that of a 32-bit register (02 R44, R45). -/
def RegTarget.wellFormed : RegTarget → Bool
  | .bar0 off => decide (off.toNat % 4 = 0)
  | .bar2 off => decide (off.toNat % 4 = 0)
  | .msixControl => true
  | .cfg _ => true

/-- The first bytes of an arriving frame, which hold its header (13 R379), are 60. -/
def Ingress.wellFormed : Ingress → Bool
  | .head _ bytes _ => decide (bytes.length = 60)
  | .tail _ _ => true

/-- The bytes that a DLC stands for (14, ISO 11898-1). -/
def dlcBytes (fdf : Bool) (dlc : BitVec 4) : Nat :=
  if dlc.toNat ≤ 8 then dlc.toNat else if fdf then ([12, 16, 20, 24, 32, 48, 64] : List Nat).getD (dlc.toNat - 9) 0 else 8

/-- A received frame carries the bytes that its DLC stands for, none as a remote frame; a remote frame is classic. -/
def CanRx.wellFormed : CanRx → Bool
  | .frame f _ _ _ => decide (f.data.length = if f.rtr then 0 else dlcBytes f.fdf f.dlc) && !(f.rtr && f.fdf)
  | .resBit => true

/-- Whether a command is well formed. -/
def Instr.wellFormed : Instr → Bool
  | .sqDoorbell _ _ => true
  | .cqDoorbell _ _ => true
  | .descriptorFetch _ => true
  | .descriptorAccept _ ds => !ds.isEmpty
  | .fetchErr _ => true
  | .heldCompletionWrite _ => true
  | .writeErr _ => true
  | .coalesceTimeout _ => true
  | .msixPendingSend _ => true
  | .sqEnable _ _ => true
  | .sqDisable _ _ => true
  | .cqEnable _ _ => true
  | .cqDisable _ _ => true
  | .quiesce _ => true
  | .conventionalReset => true
  | .hotReset => true
  | .flr => true
  | .linkDown => true
  | .d3hotEntry => true
  | .d0Return => true
  | .busMasterEnableChange _ => true
  | .badAccess off size _ => decide (1 ≤ size) && !decide (size = 4 ∧ off.toNat % 4 = 0)
  | .offDomainAccess off _ => decide (off.toNat % 4 = 0)
  | .registerWrite t _ => t.wellFormed
  | .pcieLinkUp _ _ => true
  | .mtCapture _ => true
  | .pairSubmit _ => true
  | .lossToExpiry => true
  | .holdLimitExpiry => true
  | .slewDone => true
  | .stepArm => true
  | .stepWithdraw => true
  | .ofsStep => true
  | .ppsPulse _ => true
  | .ppsPulseEnd _ => true
  | .syncPulseEnd _ => true
  | .markerEdge _ _ _ _ => true
  | .mkPop _ _ => true
  | .canrefInsert => true
  | .rtcSet _ => true
  | .mtLoad _ => true
  | .mtFallowRecord _ _ => true
  | .mtRef _ => true
  | .ref100Cycle => true
  | .ref100Return => true
  | .scheduleAction => true
  | .commit _ _ => true
  | .entryRefetch _ _ => true
  | .dispatch _ _ _ => true
  | .chSet _ _ => true
  | .chDuty _ _ => true
  | .chPulse _ _ => true
  | .psqStart _ _ => true
  | .loopSp _ => true
  | .loopMode _ => true
  | .adcSnap _ _ _ _ => true
  | .canTx _ _ => true
  | .ethTx _ => true
  | .ltFlip _ => true
  | .syncLvl _ => true
  | .syncPulse _ => true
  | .engWake _ => true
  | .mark _ => true
  | .scheduleCancel => true
  | .abort => true
  | .groupCancel _ => true
  | .flushHost _ => true
  | .flushEng _ => true
  | .flushBnd _ => true
  | .gnssCorrections data => lenIn 6 4096 data
  | .fixEpoch _ _ _ => true
  | .gnLogHeadWrite _ => true
  | .gnLogEnable _ => true
  | .foragerBurst _ => true
  | .acqRetry => true
  | .foragerBurstEnd => true
  | .gnEnable _ _ _ => true
  | .gnDisable _ => true
  | .save _ => true
  | .keptPeriodicSave => true
  | .discard _ => true
  | .orgApply _ => true
  | .noData _ => true
  | .noDataClear _ => true
  | .trackerLock _ => true
  | .trackerRelease _ => true
  | .navFirmwareLoaded _ _ => true
  | .trackPoint _ _ => true
  | .fixToExpiry => true
  | .drLimitExpiry => true
  | .imuSubmit _ => true
  | .poseCapture _ _ => true
  | .boundaryMapLoad => true
  | .mapLoadEnd ents => lenIn 1 65536 ents
  | .bndSwap _ => true
  | .bndDropStg _ => true
  | .deact _ => true
  | .leverPointWrite _ _ _ => true
  | .chPulseEnd _ => true
  | .chCmdOn _ _ => true
  | .chCmdOff _ _ => true
  | .chCmdSafe _ _ => true
  | .chRelease _ _ _ => true
  | .clrLatch _ _ => true
  | .bankRelease _ _ _ => true
  | .elimLock _ => true
  | .chCfgWrite _ _ => true
  | .pwmPeriodStart _ _ => true
  | .overCurrent _ _ _ => true
  | .timeOverCurrent _ _ => true
  | .otWarn _ _ => true
  | .overTemperature _ => true
  | .retry _ _ => true
  | .retriesReset _ => true
  | .bankHardLimit _ => true
  | .bankOc _ _ => true
  | .vfUv _ _ => true
  | .vfUvRecover _ _ => true
  | .vfOv _ _ => true
  | .vfOvRecover _ _ => true
  | .offDiagnosis _ _ _ => true
  | .openOn _ _ => true
  | .xconFollow _ _ => true
  | .elimFault _ _ => true
  | .wdTrip _ => true
  | .linkFrameError _ => true
  | .configInteg _ => true
  | .channelConfiguration recs => recs.isEmpty || lenIn 1 128 recs
  | .configApply => true
  | .inputEdge _ _ _ => true
  | .chInPop _ _ => true
  | .ainWindowEnd _ _ => true
  | .ainOvr _ _ => true
  | .burdenClose _ => true
  | .wireBreak _ => true
  | .wbClear _ => true
  | .tagWindowEnd _ => true
  | .tagRecord _ => true
  | .wakeStrobe _ _ => true
  | .psqEnd _ _ => true
  | .psqBoost _ _ _ => true
  | .psqPeak _ _ => true
  | .psqHold _ _ => true
  | .psqRamp _ _ => true
  | .psqDither _ _ => true
  | .psqQuench _ _ _ => true
  | .psqDecay _ _ => true
  | .psqPeriod _ _ => true
  | .psqWait _ _ => true
  | .psqWkink _ _ _ => true
  | .psqKset _ _ => true
  | .psqLdc _ _ => true
  | .psqDjnz _ _ => true
  | .psqJmp _ _ => true
  | .psqMark _ _ => true
  | .coilModelUpdate _ _ _ => true
  | .heldStartRelease _ => true
  | .heldStartDrop _ => true
  | .go _ => true
  | .psqLoadEnd img => img.all fun ws => decide (ws.length = 512)
  | .psqSwap _ _ => true
  | .psqSwapPoint _ => true
  | .psqDropStg _ _ => true
  | .microcodeRefetch _ _ => true
  | .grpCfgWrite _ _ _ _ => true
  | .loopSample n fbs _ => decide (fbs.length = if n.val < 128 then 1 else 4)
  | .loopClose _ _ => true
  | .loopOpen _ _ => true
  | .openAll _ => true
  | .loopXfer _ _ => true
  | .loopHoldExpiry _ => true
  | .interrupt _ => true
  | .lineRefetch _ _ _ => true
  | .engStart _ _ => true
  | .engStop _ _ => true
  | .mbinWrite _ _ => true
  | .engineImageLoad => true
  | .imageLoadEnd _ img => img.all fun l => decide (64 ≤ l.length)
  | .engineSwap _ => true
  | .clusterOn _ _ => true
  | .clusterOff _ _ => true
  | .engAdd _ => true
  | .engSub _ => true
  | .engAddc _ => true
  | .engAnd _ => true
  | .engOr _ => true
  | .engXor _ => true
  | .engShl _ => true
  | .engShr _ => true
  | .engSar _ => true
  | .engMul _ => true
  | .engMulh _ => true
  | .engMulhu _ => true
  | .engDiv _ => true
  | .engDivu _ => true
  | .engRemu _ => true
  | .engMac _ => true
  | .engAddi _ => true
  | .engCmpi _ => true
  | .engAndi _ => true
  | .engOri _ => true
  | .engXori _ => true
  | .engShli _ => true
  | .engShri _ => true
  | .engSari _ => true
  | .engLui _ => true
  | .engSw _ => true
  | .engSh _ => true
  | .engSb _ => true
  | .engSwp _ => true
  | .engCall _ => true
  | .engJr _ => true
  | .engCallr _ => true
  | .engRet _ => true
  | .engReti _ => true
  | .engRep _ => true
  | .engRepi _ => true
  | .engTrap _ => true
  | .engMfs _ => true
  | .engMts _ => true
  | .engWaitmt _ => true
  | .engEmit _ => true
  | .engSend _ _ => true
  | .engRecv _ => true
  | .engLeave _ => true
  | .engNop _ => true
  | .engB _ => true
  | .engMacm _ _ => true
  | .engLw _ _ => true
  | .engLh _ _ => true
  | .engLhu _ _ => true
  | .engLb _ _ => true
  | .engLbu _ _ => true
  | .engLwp _ _ => true
  | .waitmtExpiry _ => true
  | .frameIngress _ ev => ev.wellFormed
  | .frameEgress _ _ _ => true
  | .gateEvent _ => true
  | .gclSwap _ _ => true
  | .gclSwapStart _ => true
  | .frameTransmit data _ => data.isEmpty || lenIn 60 1518 data
  | .frameReceiveBuffer => true
  | .tableUpdate recs => recs.isEmpty || lenIn 1 256 recs
  | .drainBarrier => true
  | .barrierMet => true
  | .ageOut _ _ => true
  | .holdExpiry _ => true
  | .holdFree _ => true
  | .gleanerPass _ _ => true
  | .ethLinkDown _ => true
  | .ethLinkUp _ _ => true
  | .mdioGo _ => true
  | .mdioDone _ => true
  | .tsPop _ _ => true
  | .canModeWrite _ _ _ => true
  | .modeDone _ => true
  | .canFrameReceive _ ev => ev.wellFormed
  | .txreq _ _ _ _ => true
  | .txcxl _ _ _ => true
  | .canTxDone _ _ => true
  | .arbitrationLoss _ => true
  | .canError _ err => decide (err.code.val ≠ 0)
  | .busOffRecovery _ => true
  | .fifoPop _ _ _ => true
  | .canWake _ _ => true
  | .canSof _ _ => true
  | .busIntegration _ => true
  | .ltSeal _ => true
  | .ltUnseal _ => true
  | .lightingFrame data => decide (data.length ≤ 262144 ∧ data.length % 64 = 0)
  | .ltWdataWrite _ => true
  | .shiftEnd _ _ _ _ => true
  | .pageStep => true
  | .autoFlip => true
  | .lsyncEdge _ _ => true
  | .ltEnable _ => true
  | .tripClr _ _ => true
  | .parkWrite _ => true
  | .fallowCloseOut => true
  | .fallowPowerDown => true
  | .wake _ _ => true
  | .domainOn _ => true
  | .domainOffRequest _ => true
  | .domainSwitchOff _ => true
  | .supplyRestart => true
  | .coldStart _ => true
  | .pllLockLoss => true
  | .therm _ => true
  | .bookingEnd _ => true
  | .powerGood _ => true
  | .xtal32Start => true
  | .vaonLoss => true
  | .vbatLoss => true
  | .leaveRetry _ => true
  | .faultLineRise _ _ _ => true
  | .ack _ => true
  | .statusClear _ _ => true
  | .fltAppSet _ => true
  | .fltAppClr _ => true
  | .errnWidthEnd => true
  | .errnMismatch _ => true
  | .lock _ => true
  | .stopRel _ => true
  | .stopEnable _ _ => true
  | .force _ _ => true
  | .injArm _ => true
  | .stopEntry _ _ => true
  | .stopExit _ => true
  | .writeClear data => data.isEmpty || [24, 40, 72].contains data.length
  | .derive data _ => data.isEmpty || decide (data.length = 40)
  | .unwrap data _ => data.isEmpty || [32, 48, 80].contains data.length
  | .revoke => true
  | .ctrEnc data _ => data.isEmpty || lenIn 17 16400 data
  | .ctrDec data _ => data.isEmpty || lenIn 17 16400 data
  | .cmacGen data _ => lenIn 0 16384 data
  | .cmacVer data _ => data.isEmpty || lenIn 16 16400 data
  | .hmacGen data _ => lenIn 0 16384 data
  | .hmacVer data _ => data.isEmpty || lenIn 32 16416 data
  | .sha256 data => lenIn 0 16384 data
  | .ecdsaVer data _ => data.isEmpty || decide (data.length = 96)
  | .random => true
  | .rootGen => true
  | .enrol data _ => data.isEmpty || decide (data.length = 40)
  | .tokRevoke => true
  | .codeSet data => data.isEmpty || decide (data.length = 16)
  | .remaskPass => true
  | .trngFail => true
  | .trngStartupTest _ => true
  | .tamper _ _ _ => true
  | .accStart _ _ => true
  | .tokIrq _ => true
  | .resp _ _ => true
  | .finalFrame _ => true
  | .report _ _ => true
  | .sessionDecision => true
  | .authWindowExpiry => true
  | .lockoutExpiry => true
  | .codeCheck _ => true
  | .relStop _ => true
  | .relEnSet _ => true
  | .releaseMessage _ _ => true
  | .relToExpiry => true
  | .reservationWriteEnd => true
  | .boot x => x.badRecs.all (fun k => decide (k < 1024)) && decide (x.badRecs.Pairwise (· < ·))
  | .stagingOpen cred => cred.isEmpty || decide (cred.length = 32)
  | .stagingWrite data _ => decide (data.length ≤ 65536 ∧ data.length % 4096 = 0)
  | .stagingCommit _ => true
  | .stagingAbandon => true
  | .sessionIdleExpiry => true
  | .navSwap _ => true
  | .fusePkh _ _ => true
  | .sealLife _ _ => true
  | .retireLife _ _ => true
  | .dbgKill _ _ => true
  | .bypass => true
  | .idcode => true
  | .samplePreload pins preload => decide (pins.length = preload.length)
  | .extest => true
  | .dbgAccess _ => true
  | .dbgHalt _ => true
  | .dbgStep _ => true
  | .dbgResume _ => true
  | .dbgBar0Access _ _ => true

end Sys2Proof
end

