-- ==== Sys2Proof/Certificates/Slice0/Obligations.lean ====
section
/-! DEFINITION. The statements for the provers. A state is written ⟨d, nv, q⟩: the device, the fuses and flash, the waiting commands.
Where a statement says that a command becomes ⟨d', nv, q⟩, the fuses, the flash and the queue stay as they were, and everything that
d' does not name stays as it was in d. -/

section
open Sys2Proof Sys2Proof.Machine

/-! ### The whole block -/

/-- A step of a state with command c at the front of its queue is exec of c on that state with the queue's rest. -/
def Obligations.StepRunsFront : Prop :=
  ∀ (s : State) (c : Instr), step { s with pending := c :: s.pending } = exec c s

/-- On an empty queue the block idles: the state stays as it is (notes/assumptions/2.md, the model's choice). -/
def Obligations.EmptyQueueIdles : Prop := ∀ s : State, s.pending = [] → step s = .next s

/-- Every command completes at every state: it answers a next state, never a fault or a refusal, and takes nothing from the queue and
adds nothing to it. -/
def Obligations.EveryCommandCompletes : Prop :=
  ∀ (c : Instr) (s : State), ∃ t, exec c s = .next t ∧ t.pending = s.pending

/-- Over every step, blown fuses stay blown: seal, retire, DBG_KILL, the key hash, the security count, every slot's WRITTEN and REVOKE
fuse. -/
def Obligations.FusesNeverReturn : Prop := ∀ s t : State, step s = .next t → s.nv.Later t.nv

/-- R7: the lifecycle state does not return from SEALED to OPEN, nor from RETIRED to any other state, over any step. -/
def Obligations.LifecycleMovesForward : Prop :=
  ∀ s t : State, step s = .next t →
    (s.nv.life = 1 → t.nv.life ≠ 0) ∧ (s.nv.life = 2 → t.nv.life = 2)

/-- The non-volatile stores keep their form over every step. -/
def Obligations.StoresKeepForm : Prop := ∀ s t : State, s.nv.Inv → step s = .next t → t.nv.Inv

/-- The non-volatile stores have their form at reset. -/
def Obligations.StoresFormAtReset : Prop := State.reset.nv.Inv

/-- What reset leaves: PD0 and PD1 on and every other domain off, MT not loaded, the link down, no command waiting, no session, no
root, OPEN, every register reading as the register maps give it, and WAKE_REC reading 7 (16 register map). -/
def Obligations.ResetState : Prop :=
  (∀ k, State.reset.dev.domOn k = decide (k = 0 ∨ k = 1)) ∧ State.reset.dev.mt.loaded = false ∧
  State.reset.dev.flag R.HL_LINK_UP = false ∧ State.reset.pending = [] ∧ State.reset.dev.stg = none ∧
  State.reset.dev.root.root = none ∧ State.reset.nv.life = 0 ∧ (∀ o, State.reset.dev.reg o = regReset o) ∧
  State.reset.dev.reg R.PWR_WAKE_REC = 7

/-- R24: an access to a register whose power domain is off completes: a command that writes it has no effect but one more in
PWR_OFFACC_CNT, and a read returns 0 and counts the same. An access that BAR0 does not accept (not of 4 bytes on a 4-byte boundary)
reaches no register and is counted in HL_BAD_ACCESS_CNT only, whatever domain is on. -/
def Obligations.OffDomainAccesses : Prop :=
  (∀ (c : Instr) (off : Nat) (d : Dev) (nv : Nv) (q : List Instr),
    writtenReg c = some off → d.domOn (domOf off) = false →
    exec c ⟨d, nv, q⟩ = .next ⟨d.count R.PWR_OFFACC_CNT, nv, q⟩) ∧
  (∀ (d : Dev) (nv : Nv) (off : Nat), d.domOn (domOf off) = false → busRead d nv off = (0, d.count R.PWR_OFFACC_CNT)) ∧
  (∀ (d : Dev) (off : BitVec 20) (size : Nat) (wr : Bool), (size ≠ 4 ∨ off.toNat % 4 ≠ 0) →
    Becomes (.badAccess off size wr) d (d.count R.HL_BAD_ACCESS_CNT)) ∧
  (∀ (d : Dev) (off k : Nat), k = R.PWR_OFFACC_CNT ∨ k = R.HL_BAD_ACCESS_CNT →
    ((d.count k).reg k).toNat = min ((d.reg k).toNat + 1) (2 ^ 32 - 1) ∧ (off ≠ k → (d.count k).reg off = d.reg off))

/-- What a register read returns does not depend on the keys in the slots, on the tokens' keys, nor on which root there is. -/
def Obligations.ReadsShowNoKeys : Prop :=
  ∀ (d : Dev) (nv : Nv) (off : Nat) (keys tokens : Sparse (List Byte)) (root : BitVec 256),
    (busRead (d.otherSecrets keys tokens root) nv off).1 = (busRead d nv off).1

/-! ### Registers and host memory -/

/-- A write by access codes (00 R13): bits of code RW take the written value, bits of code W1C clear where 1 is written, every other bit
stays; a counter clears; every other register stays. -/
def Obligations.AccessCodes : Prop :=
  ∀ (d : Dev) (off : Nat) (v : Word) (r : RegRow), regRow off = some r →
    (∀ o, o ≠ off → (d.writeByCode off v).reg o = d.reg o) ∧
    (r.cnt = true → (d.writeByCode off v).reg off = 0) ∧
    (r.cnt = false → ∀ i, i < 32 → ((d.writeByCode off v).reg off).getLsbD i =
      (!(r.w1c.testBit i && v.getLsbD i) && (if r.rw.testBit i then v.getLsbD i else (d.reg off).getLsbD i)))

/-- Bytes that the module writes to host memory read back, and every other byte stays, for a region that does not pass the end of the
64-bit space. -/
def Obligations.HostMemoryWrites : Prop :=
  ∀ (l : List Byte) (d : Dev) (a i : Nat), a + l.length ≤ 2 ^ 64 →
    (d.memWrite a l).memByte i = if a ≤ i ∧ i < a + l.length then l.getD (i - a) 0 else d.memByte i

/-- REGISTER_WRITE: of a BAR0 offset it is the register bus's write of that 4-byte register; of a word of BAR2 it sets that word of the
MSI-X table, which then reads as written, and no other word, and beyond the table nothing; of the MSI-X control it sets the enable and the
mask bits; of another register of configuration space it writes that register, and the largest payload and the largest read request
stay codes that R43 lists (places PRESUMED as PCIe gives them: notes/assumptions/13.md). -/
def Obligations.RegisterWriteCompletes : Prop :=
  (∀ (d : Dev) (nv : Nv) (q : List Instr) (off : BitVec 20) (v : Word), off.toNat % 4 = 0 →
    exec (.registerWrite (.bar0 off) v) ⟨d, nv, q⟩ = .next ⟨(busWrite d nv off.toNat v).1, (busWrite d nv off.toNat v).2, q⟩) ∧
  (∀ (d : Dev) (off : BitVec 13) (v : Word), off.toNat % 4 = 0 →
    (0x400 ≤ off.toNat → Becomes (.registerWrite (.bar2 off) v) d d) ∧
    (off.toNat < 0x400 →
      ∃ d', Becomes (.registerWrite (.bar2 off) v) d d' ∧ d'.bar2Read off.toNat = v ∧
        (∀ o, o < 0x400 → o % 4 = 0 → o ≠ off.toNat → d'.bar2Read o = d.bar2Read o) ∧
        d' = { d with hl := { d.hl with msixTab := d'.hl.msixTab } })) ∧
  (∀ (d : Dev) (r : CfgReg) (v : Word),
    Becomes (.registerWrite (.cfg r) v) d { d with hl := { d.hl with cfg := d.hl.cfg.write r v } } ∧
    (d.hl.cfg.mps ≤ 1 → (d.hl.cfg.write r v).mps ≤ 1) ∧ (d.hl.cfg.mrrs ≤ 2 → (d.hl.cfg.write r v).mrrs ≤ 2)) ∧
  (∀ (d : Dev) (nv : Nv) (q : List Instr) (v : Word),
    exec (.registerWrite .msixControl v) ⟨d, nv, q⟩ =
      .next ⟨{ d with hl := { d.hl with msixEn := v.getLsbD 31, msixMask := v.getLsbD 30 } }, nv, q⟩)

/-! ### Host link (02) -/

/-- Ring commands complete: doorbells record an index in range, EN of an SQ or CQ starts or ends a ring, QUIESCE is written. -/
def Obligations.RingCommandsComplete : Prop :=
  (∀ (d : Dev) (nv : Nv) (q : List Instr) (n : Fin 64) (v : Word),
    d.domOn 8 = true → d.flag (R.HL_SQ_CFG_EN n) = true → bitsOf v 0 12 < d.sqSize n →
    exec (.sqDoorbell n v) ⟨d, nv, q⟩ = .next ⟨d.setFld (R.HL_SQ_TAIL_INDEX n) (bitsOf v 0 12), nv, q⟩) ∧
  (∀ (d : Dev) (nv : Nv) (q : List Instr) (n : Fin 64) (v : Word),
    d.domOn 8 = true → d.flag (R.HL_CQ_CFG_EN n) = true → bitsOf v 0 12 < d.cqSize n →
    (bitsOf v 0 12 + d.cqSize n - d.fld (R.HL_CQ_HEAD_INDEX n)) % d.cqSize n ≤
      (d.fld (R.HL_CQ_TAIL_INDEX n) + d.cqSize n - d.fld (R.HL_CQ_HEAD_INDEX n)) % d.cqSize n →
    exec (.cqDoorbell n v) ⟨d, nv, q⟩ = .next ⟨d.setFld (R.HL_CQ_HEAD_INDEX n) (bitsOf v 0 12), nv, q⟩) ∧
  (∀ (d : Dev) (nv : Nv) (q : List Instr) (n : Fin 64) (v : Word),
    d.domOn 8 = true → d.flag (R.HL_SQ_CFG_EN n) = false → v.getLsbD 0 = true →
    ∃ d', exec (.sqEnable n v) ⟨d, nv, q⟩ = .next ⟨d', nv, q⟩ ∧ d'.sq n = SqHid.init ∧
      d'.flag (R.HL_SQ_CFG_EN n) = true ∧ d'.flag (R.HL_SQ_STAT_STOPPED n) = false ∧
      d'.fld (R.HL_SQ_TAIL_INDEX n) = d'.fld (R.HL_SQ_HEAD_INDEX n) ∧
      (∀ o, o ≠ R.HL_SQ_CFG n → o ≠ R.HL_SQ_HEAD n → o ≠ R.HL_SQ_TAIL n → o ≠ R.HL_SQ_STAT n → d'.reg o = d.reg o) ∧
      d' = { d with regs := d'.regs, hl := { d.hl with sq := d'.hl.sq } }) ∧
  (∀ (d : Dev) (nv : Nv) (q : List Instr) (n : Fin 64) (v : Word),
    d.domOn 8 = true → d.flag (R.HL_SQ_CFG_EN n) = true → v.getLsbD 0 = false →
    ∃ d', exec (.sqDisable n v) ⟨d, nv, q⟩ = .next ⟨d', nv, q⟩ ∧ (d'.sq n).reads = [] ∧
      d'.flag (R.HL_SQ_CFG_EN n) = false ∧ (∀ o, o ≠ R.HL_SQ_CFG n → d'.reg o = d.reg o) ∧
      d' = { d with regs := d'.regs, hl := { d.hl with sq := d'.hl.sq } }) ∧
  (∀ (d : Dev) (nv : Nv) (q : List Instr) (n : Fin 64) (v : Word),
    d.domOn 8 = true → d.flag (R.HL_CQ_CFG_EN n) = false → v.getLsbD 0 = true →
    ∃ d', exec (.cqEnable n v) ⟨d, nv, q⟩ = .next ⟨d', nv, q⟩ ∧ d'.cq n = CqHid.init ∧
      d'.flag (R.HL_CQ_CFG_EN n) = true ∧ d'.fld (R.HL_CQ_TAIL_INDEX n) = 0 ∧ d'.fld (R.HL_CQ_HEAD_INDEX n) = 0 ∧
      d'.flag (R.HL_CQ_TAIL_PHASE n) = true ∧
      (∀ o, o ≠ R.HL_CQ_CFG n → o ≠ R.HL_CQ_HEAD n → o ≠ R.HL_CQ_TAIL n → d'.reg o = d.reg o) ∧
      d' = { d with regs := d'.regs, hl := { d.hl with cq := d'.hl.cq } }) ∧
  (∀ (d : Dev) (nv : Nv) (q : List Instr) (n : Fin 64) (v : Word),
    d.domOn 8 = true → d.flag (R.HL_CQ_CFG_EN n) = true → v.getLsbD 0 = false →
    exec (.cqDisable n v) ⟨d, nv, q⟩ =
      .next ⟨((d.setFlag (R.HL_CQ_CFG_IEN n) (v.getLsbD 1)).setFlag (R.HL_CQ_CFG_EN n) false).dropHeld n, nv, q⟩) ∧
  (∀ (d : Dev) (nv : Nv) (q : List Instr) (v : Word), d.domOn 8 = true →
    exec (.quiesce v) ⟨d, nv, q⟩ = .next ⟨d.setReg R.HL_RING_CTRL (v &&& 3#32), nv, q⟩)

/-- The module's share of a ring completes: a read is issued when it may be, its descriptors are accepted one after the other in
order, a failed read stops the SQ, a held completion is written, a refused one is undone in host memory, discarded and counted,
coalesced completions are signalled, a pending vector is sent. -/
def Obligations.RingEventsComplete : Prop :=
  (∀ (d : Dev) (nv : Nv) (q : List Instr) (n : Fin 64), d.mayFetch n = true →
    exec (.descriptorFetch n) ⟨d, nv, q⟩ = .next ⟨d.issueRead n, nv, q⟩ ∧
      ((d.issueRead n).sq n).reads = (d.sq n).reads ++ [d.readLen n]) ∧
  (∀ (d : Dev) (nv : Nv) (q : List Instr) (n : Fin 64) (ds : List (BitVec 256)) (rest : List Nat),
    (d.sq n).reads = ds.length :: rest →
    exec (.descriptorAccept n ds) ⟨d, nv, q⟩ =
      .next ⟨ds.foldl (fun d w => d.acceptOne n w) (d.setSq n { d.sq n with reads := rest }), nv, q⟩) ∧
  (∀ (d : Dev) (nv : Nv) (q : List Instr) (n : Fin 64), (d.sq n).reads ≠ [] →
    exec (.fetchErr n) ⟨d, nv, q⟩ =
      .next ⟨((((d.setSq n { d.sq n with reads := [] }).setFlag (R.HL_SQ_STAT_FETCH_ERR n) true).setFlag (R.HL_SQ_STAT_STOPPED n)
        true).count R.HL_FETCH_ERR_CNT).raiseFault Src.hlFetch 0, nv, q⟩) ∧
  (∀ (d : Dev) (nv : Nv) (q : List Instr) (n : Fin 64) (x : HeldCpl),
    (d.hl.held.find? fun x => x.ref.cq == n.val) = some x → d.canMaster = true → d.flag (R.HL_CQ_CFG_EN n) = true →
    d.cqFull n = false →
    exec (.heldCompletionWrite n) ⟨d, nv, q⟩ =
      .next ⟨(({ d with hl := { d.hl with held := d.hl.held.erase x } }).updatePend n).writeCpl x, nv, q⟩) ∧
  (∀ (d : Dev) (nv : Nv) (q : List Instr) (n : Fin 64) (a : Nat) (old : List Byte), (d.cq n).last = some (a, old) →
    exec (.writeErr n) ⟨d, nv, q⟩ =
      .next ⟨(((d.unwriteCpl n a old).setFlag (R.HL_CQ_STAT_WRITE_ERR n) true).count R.HL_CPL_DISCARD_CNT).raiseFault Src.hlCpl 0,
        nv, q⟩) ∧
  (∀ (d : Dev) (nv : Nv) (q : List Instr) (n : Fin 64), d.flag (R.HL_CQ_CFG_EN n) = true → d.flag (R.HL_CQ_CFG_IEN n) = true →
    d.fld (R.HL_CQ_COAL_TIME n) ≠ 0 → (d.cq n).unsig ≠ 0 →
    (d.cq n).oldest + usTicks (d.fld (R.HL_CQ_COAL_TIME n)) ≤ d.now →
    exec (.coalesceTimeout n) ⟨d, nv, q⟩ =
      .next ⟨(d.setCq n { d.cq n with unsig := 0 }).raiseVector (d.fld (R.HL_CQ_CFG_VECTOR n)), nv, q⟩) ∧
  (∀ (d : Dev) (nv : Nv) (q : List Instr) (v : Fin 64), d.hl.msixPend.getLsbD v = true → d.canSend v = true →
    exec (.msixPendingSend v) ⟨d, nv, q⟩ =
      .next ⟨({ d with hl := { d.hl with msixPend := d.hl.msixPend &&& ~~~(BitVec.ofNat 64 (2 ^ v.val)) } }).sendVector v, nv, q⟩)

/-- Resets and link events complete: the three resets, the loss and the return of the link, the power states, bus mastering, and the
accesses that BAR0 refuses or that reach a domain that is off, which are counted and do nothing else. -/
def Obligations.LinkCommandsComplete : Prop :=
  (∀ (d : Dev) (nv : Nv) (q : List Instr), exec .conventionalReset ⟨d, nv, q⟩ = .next ⟨d.resetLink, nv, q⟩) ∧
  (∀ (d : Dev) (nv : Nv) (q : List Instr),
    exec .hotReset ⟨d, nv, q⟩ = .next ⟨d.resetLink.setFlag R.HL_LINK_EVT_HOT_RESET true, nv, q⟩) ∧
  (∀ (d : Dev) (nv : Nv) (q : List Instr), exec .flr ⟨d, nv, q⟩ = .next ⟨d.resetLink.setFlag R.HL_LINK_EVT_FLR true, nv, q⟩) ∧
  (∀ (d : Dev) (nv : Nv) (q : List Instr), d.flag R.HL_LINK_UP = true →
    exec .linkDown ⟨d, nv, q⟩ =
      .next ⟨((((d.setReg R.HL_LINK 0).forgetBufs).setFlag R.HL_LINK_EVT_LINK_DOWN true).count R.HL_LINK_DOWN_CNT).raiseFault
        Src.hlLink 0, nv, q⟩) ∧
  (∀ (d : Dev) (nv : Nv) (q : List Instr) (speed : Fin 3) (x2 : Bool), d.domOn 8 = true →
    exec (.pcieLinkUp speed x2) ⟨d, nv, q⟩ =
      .next ⟨((d.setFld R.HL_LINK_SPEED (speed + 1)).setFld R.HL_LINK_WIDTH (if x2 then 2 else 1)).setFlag R.HL_LINK_UP true,
        nv, q⟩) ∧
  (∀ (d : Dev) (nv : Nv) (q : List Instr),
    exec .d3hotEntry ⟨d, nv, q⟩ =
      .next ⟨(({ d with hl := { d.hl with d3 := true } }).forgetBufs).setFlag R.HL_LINK_EVT_D3HOT true, nv, q⟩) ∧
  (∀ (d : Dev) (nv : Nv) (q : List Instr),
    exec .d0Return ⟨d, nv, q⟩ = .next ⟨{ d with hl := { d.hl with d3 := false } }, nv, q⟩) ∧
  (∀ (d : Dev) (nv : Nv) (q : List Instr),
    exec (.busMasterEnableChange true) ⟨d, nv, q⟩ = .next ⟨{ d with hl := { d.hl with bme := true } }, nv, q⟩ ∧
    exec (.busMasterEnableChange false) ⟨d, nv, q⟩ = .next ⟨({ d with hl := { d.hl with bme := false } }).forgetBufs, nv, q⟩) ∧
  (∀ (d : Dev) (nv : Nv) (q : List Instr) (off : BitVec 20) (size : Nat) (wr : Bool), (size ≠ 4 ∨ off.toNat % 4 ≠ 0) →
    exec (.badAccess off size wr) ⟨d, nv, q⟩ = .next ⟨d.count R.HL_BAD_ACCESS_CNT, nv, q⟩) ∧
  (∀ (d : Dev) (nv : Nv) (q : List Instr) (off : BitVec 20) (wr : Bool), d.domOn (domOf off.toNat) = false →
    exec (.offDomainAccess off wr) ⟨d, nv, q⟩ = .next ⟨d.count R.PWR_OFFACC_CNT, nv, q⟩)

/-- R81: a completion whose CQ is disabled when it falls due is discarded and counted in HL_CPL_DISCARD_CNT (with it HL_CPL rises);
nothing is written to host memory before the fault is raised, and it is owed no longer. -/
def Obligations.DisabledQueueDiscards : Prop :=
  ∀ (d : Dev) (ref : CplRef) (status detail source cflags : Nat), d.flag (R.HL_CQ_CFG_EN ref.cq) = false →
    d.complete ref status detail source cflags =
      ((({ d with hl := { d.hl with outst := d.hl.outst.filter fun o => o.2 != ref.id } }).count R.HL_CPL_DISCARD_CNT).raiseFault
        Src.hlCpl 0) ∧
    (d.count R.HL_CPL_DISCARD_CNT).reg R.HL_CPL_DISCARD_CNT =
      BitVec.ofNat 32 (min ((d.reg R.HL_CPL_DISCARD_CNT).toNat + 1) 0xFFFFFFFF)

/-- A completion that is written stands in the slot at the write index: COOKIE, STATUS, the flags byte with the current phase, SOURCE and
DETAIL, little-endian; the write index advances modulo the ring's size, the phase inverts at the wrap; no other byte of host memory
changes. -/
def Obligations.CompletionIsWritten : Prop :=
  ∀ (d : Dev) (x : HeldCpl),
    let n := x.ref.cq
    let i := d.fld (R.HL_CQ_TAIL_INDEX n)
    let p := d.fld (R.HL_CQ_TAIL_PHASE n)
    let a := d.reg64 (R.HL_CQ_BASE_LO n) (R.HL_CQ_BASE_HI n) + 16 * i
    let d' := d.writeCpl x
    n < 64 → i < d.cqSize n → d.cqSize n ≤ 4096 → a + 16 ≤ 2 ^ 64 →
    (∀ k, k < 16 → d'.memByte (a + k) = (cplBytes x p).getD k 0) ∧
    (∀ k, (k < a ∨ a + 16 ≤ k) → d'.memByte k = d.memByte k) ∧
    d'.fld (R.HL_CQ_TAIL_INDEX n) = (i + 1) % d.cqSize n ∧
    d'.fld (R.HL_CQ_TAIL_PHASE n) = (if i + 1 = d.cqSize n then 1 - p else p) ∧
    RegsBut [R.HL_CQ_TAIL n] d d'

/-! ### Machine time (03) -/

/-- The register commands of machine time complete: a capture, a submitted pair, arming and withdrawing a step, popping a marker FIFO,
setting the RTC, which takes the value at its next edge (DEDUCED, notes/assumptions/21.md). -/
def Obligations.TimeRegisterCommandsComplete : Prop :=
  (∀ (d : Dev) (v : Word), d.domOn 3 = true → v.getLsbD 0 = true →
    Becomes (.mtCapture v) d ((d.setReg64 R.MT_SNAP_LO R.MT_SNAP_HI d.now).setReg64 R.MT_SNAP_GT_LO R.MT_SNAP_GT_HI
      (ofInt 64 ((d.now : Int) + d.mt.ofs / 2 ^ 32)))) ∧
  (∀ (d : Dev) (v : Word), d.domOn 3 = true → v.getLsbD 0 = true →
    Becomes (.pairSubmit v) d (d.measure 2 (d.reg64 R.MT_PAIR_ST_LO R.MT_PAIR_ST_HI) (d.reg64 R.MT_PAIR_MT_LO R.MT_PAIR_MT_HI)
      (bitsOf v 16 16) true)) ∧
  (∀ d : Dev, d.domOn 3 = true → Becomes .stepArm d ((d.setFlag R.MT_STEP_ARM true).stepEval.updateSlew)) ∧
  (∀ d : Dev, d.domOn 3 = true → d.mt.step = none → Becomes .stepWithdraw d (d.setFlag R.MT_STEP_ARM false)) ∧
  (∀ (d : Dev) (p : StepPend), d.domOn 3 = true → d.mt.step = some p →
    ∃ d', Becomes .stepWithdraw d d' ∧ d'.mt.step = none ∧ d'.mt.ofs = d.mt.ofs ∧ d'.flag R.MT_STEP_ARM = false ∧
      d'.flag R.MT_EVT_STEP_NEEDED = true) ∧
  (∀ (d : Dev) (n : Fin 8) (v : Word), d.domOn 3 = true → v.getLsbD 0 = true →
    Becomes (.mkPop n v) d ((d.setMarker n { d.marker n with fifo := (d.marker n).fifo.tail }).showMarker n)) ∧
  (∀ (d : Dev) (v : Word), d.domOn 3 = true → v.getLsbD 0 = true →
    Becomes (.rtcSet v) d
      { d with rtc := { d.rtc with load := some (d.reg64 R.MT_RTC_SET_LO R.MT_RTC_SET_HI % 2 ^ 48) } } ∧
    ∀ n, (({ d.rtc with load := some (d.reg64 R.MT_RTC_SET_LO R.MT_RTC_SET_HI % 2 ^ 48) } : Rtc).edge n).valid = true ∧
      (({ d.rtc with load := some (d.reg64 R.MT_RTC_SET_LO R.MT_RTC_SET_HI % 2 ^ 48) } : Rtc).edge n).cnt =
        d.reg64 R.MT_RTC_SET_LO R.MT_RTC_SET_HI % 2 ^ 48)

/-- The events of machine time complete: a REF100 cycle counts, losses and limits expire, slewing ends, the pending step is made, PPS and
SYNC pulses begin and end, markers are recorded, a reference frame is inserted, MT is loaded and recorded over Fallow, a missing
REF100 is detected. -/
def Obligations.TimeEventsComplete : Prop :=
  (∀ d : Dev, d.mt.loaded = true → d.mt.refOk = true → Becomes .ref100Cycle d d.refCycle.rtcCycle.slewWatch.loopWatch) ∧
  (∀ d : Dev, d.mtSt = 2 → d.mt.lastGood + d.lossTicks ≤ d.now →
    (d.substitute = none → Becomes .lossToExpiry d d.enterHoldover) ∧
    (∀ x t, d.substitute = some (x, t) →
      Becomes .lossToExpiry d ({ (d.changeSource x) with mt := { (d.changeSource x).mt with lastGood := t } }).showGood)) ∧
  (∀ d : Dev, d.mtSt = 1 → d.mt.hoEntry + d.holdTicks ≤ d.now → Becomes .holdLimitExpiry d d.enterFreerun) ∧
  (∀ d : Dev, d.flag R.MT_STATE_SLEWING = true → d.ofsErr ≤ d.deadband →
    Becomes .slewDone d ((d.setFlag R.MT_STATE_SLEWING false).mtEvent R.MT_EVT_SLEW_DONE)) ∧
  (∀ (d : Dev) (p : StepPend), d.mt.step = some p → p.t ≤ d.now →
    ∃ d', Becomes .ofsStep d d' ∧ d'.mt.ofs = p.ofs * 2 ^ 32 ∧ d'.mt.now = d.mt.now ∧ d'.flag R.MT_EVT_STEPPED = true ∧
      d'.flag R.MT_STEP_ARM = false) ∧
  (∀ (d : Dev) (n : Fin 2) (e : Nat) (st : Bool), d.ppsNow n = some (e, st) → d.ppsRuns n = true →
    Becomes (.ppsPulse n) d (d.ppsEmit n e st)) ∧
  (∀ (d : Dev) (n : Fin 2) (t : Nat), d.ppsEnd n = some t → t ≤ d.now → Becomes (.ppsPulseEnd n) d (d.setPpsEnd n none)) ∧
  (∀ (d : Dev) (n : Fin 8) (t op : Nat), (d.sync n).pulse = some (t, op) → t ≤ d.now →
    Becomes (.syncPulseEnd n) d
      ((d.setSync n { lvl := d.flag (R.MT_SYNC_CFG_IDLE n), pulse := none }).endOp op t)) ∧
  (∀ (d : Dev) (n : Fin 8) (tok : Bool) (t : BitVec 64) (rising : Bool), d.mt.loaded = true →
    d.flag (R.MT_MK_CFG_EN n) = true → d.flag (R.MT_MK_CFG_SRC n) = tok →
    (d.reg (R.MT_MK_CFG n)).getLsbD (if rising then 1 else 2) = true →
    Becomes (.markerEdge n tok t rising) d (d.markEdge n t.toNat rising)) ∧
  (∀ (d : Dev) (t : Nat), d.mt.refNext = some t → d.schReady = true → d.flag R.MT_CANREF_CFG_MASTER_EN = true → t ≤ d.now →
    Becomes .canrefInsert d (d.insertRef t)) ∧
  (∀ (d : Dev) (rtc : BitVec 48), d.domOn 3 = true → d.pwr.pll = true → d.mt.refOk = true → d.mt.loaded = false →
    (d.carry = none → Becomes (.mtLoad rtc) d (((d.setRtc rtc.toNat).loadCold rtc.toNat).pwrEvent R.PWR_EVT_WOKE)) ∧
    (∀ c, d.carry = some c → Becomes (.mtLoad rtc) d (((d.setRtc rtc.toNat).loadCarry c rtc.toNat).pwrEvent R.PWR_EVT_WOKE))) ∧
  (∀ (d : Dev) (rtc : BitVec 48) (cal : Word), d.mt.loaded = true → d.pwr.park = .closed → d.pwr.parkAt + secTicks ≤ d.now →
    ∃ d' c, Becomes (.mtFallowRecord rtc cal) d d' ∧ d'.carry = some c ∧ c.mt = d.now ∧ c.rtc = rtc.toNat ∧ c.ofs = d.mt.ofs ∧
      c.rate = d.reg R.MT_RATE ∧ c.state = d.mtSt ∧ c.cal = cal ∧ RegsBut [R.MT_RTC_CAL] d d' ∧ d'.mt = d.mt) ∧
  (∀ d : Dev, d.domOn 3 = true →
    Becomes (.mtRef true) d (({ d with mt := { d.mt with refOk := false } }).setLine Src.mtRef 0) ∧
    Becomes (.mtRef false) d (d.setLine Src.mtRef 0))

/-- R85: on each REF100 cycle the 96-bit accumulator, MT above its fraction, takes 40 + RATE × 2⁻³² ticks, RATE clamped to ±MT_RATE_LIM;
MT does not fall (R86), and the counting itself changes no register and no byte of host memory. -/
def Obligations.CycleAddsRate : Prop :=
  ∀ d : Dev, d.mt.now < 2 ^ 63 → d.mt.frac < 2 ^ 32 → (d.reg R.MT_RATE_LIM).toNat ≤ 0x010624DD →
    let r := max (-((d.reg R.MT_RATE_LIM).toNat : Int)) (min ((d.reg R.MT_RATE_LIM).toNat : Int) (d.reg R.MT_RATE).toInt)
    let d' := d.refCycle
    (d'.mt.now : Int) * 2 ^ 32 + d'.mt.frac = (d.mt.now : Int) * 2 ^ 32 + d.mt.frac + 40 * 2 ^ 32 + r ∧
    d'.mt.frac < 2 ^ 32 ∧ d.mt.now ≤ d'.mt.now ∧ d'.regs = d.regs ∧ d'.mem = d.mem

/-- R109: a read of a marker's TS leaves the FIFO in place and shows its oldest entry; POP removes that entry; with 16 entries a further
edge is dropped and counted with OVF and MK_OVF set, and the stored entries stay. -/
def Obligations.MarkerFifo : Prop :=
  (∀ (d : Dev) (nv : Nv) (n : Fin 8) (t : Nat) (up : Bool) (q : List (Nat × Bool)), d.domOn 3 = true →
    (d.marker n).fifo = (t, up) :: q → t < 2 ^ 64 →
    ((d.showMarker n).reg64 (R.MT_MK_TS_LO n) (R.MT_MK_TS_HI n) = t) ∧ ((d.showMarker n).flag (R.MT_MK_STAT_HEAD_RISE n) = up) ∧
    (busRead d nv (R.MT_MK_TS_LO n)).2 = d ∧ (busRead d nv (R.MT_MK_TS_HI n)).2 = d) ∧
  (∀ (d : Dev) (n : Fin 8) (v : Word), d.domOn 3 = true → v.getLsbD 0 = true →
    ∃ d', Becomes (.mkPop n v) d d' ∧ (d'.marker n).fifo = (d.marker n).fifo.tail ∧ (∀ k, k ≠ n.val → d'.marker k = d.marker k) ∧
      RegsBut [R.MT_MK_STAT n, R.MT_MK_TS_LO n, R.MT_MK_TS_HI n] d d' ∧ d'.mem = d.mem) ∧
  (∀ (d : Dev) (n : Fin 8) (t : Nat) (up : Bool), (d.marker n).fifo.length = 16 →
    (∀ l, (d.marker n).last = some l → l + max 2 (d.fld (R.MT_MK_CFG_MIN_GAP n)) * 40 ≤ t) →
    (d.markEdge n t up).marker n = d.marker n ∧
    (d.markEdge n t up).fld (R.MT_MK_STAT_DROP n) = min (d.fld (R.MT_MK_STAT_DROP n) + 1) 65535 ∧
    (d.markEdge n t up).flag (R.MT_MK_STAT_OVF n) = true ∧ (d.markEdge n t up).flag R.MT_EVT_MK_OVF = true)

/-! ### The sowing schedule (04) -/

/-- The schedule's commands complete: a schedule action that parses and is admitted is inserted, a flush removes the uncommitted
entries of its class, a commit begins at its turn, a redo ends, a committed entry is dispatched, cancels and aborts that pass their check
act, an engine's group cancel removes its entries and pushes a notice. -/
def Obligations.ScheduleCommandsComplete : Prop :=
  (∀ (d : Dev) (a : AccDesc) (rsv : Bool), (d.nextDesc fun w => descType w == 0x10 || descType w == 0x11) = some a →
    descType a.word = 0x10 → d.domOn 3 = true → (d.takeDesc a).schReady = true → (actOfDesc a.word).bad d.now = none →
    (d.takeDesc a).mayInsert 0 (actOfDesc a.word).prio (actOfDesc a.word).imm = some rsv →
    Becomes .scheduleAction d ((d.takeDesc a).addEntry (actOfDesc a.word) (.host a.ref (descSeq a.word)) rsv)) ∧
  (∀ (d : Dev) (a : AccDesc), (d.nextDesc fun w => descType w == 0x10 || descType w == 0x11) = some a →
    descType a.word = 0x11 → cancelBad a.word = none →
    (a.word.getLsbD 12 = false → Becomes .scheduleCancel d ((d.takeDesc a).cancelDesc a)) ∧
    (a.word.getLsbD 12 = true → Becomes .abort d ((d.takeDesc a).abortDesc a))) ∧
  (∀ (d : Dev) (v : Word), d.domOn 3 = true →
    (v &&& 7#32 = 1#32 → Becomes (.flushHost v) d (d.flushEntries fun e => decide (e.src.cls = 0))) ∧
    (v &&& 7#32 = 2#32 → Becomes (.flushEng v) d (d.flushEntries fun e => decide (e.src.cls = 1))) ∧
    (v &&& 7#32 = 4#32 → Becomes (.flushBnd v) d (d.flushEntries fun e => decide (e.src.cls = 2)))) ∧
  (∀ (d : Dev) (ins : Word) (det : Bool) (e : Entry), d.entry ins.toNat = some e → d.commitTurn e = true →
    d.sch.lastCommit ≠ some d.mt.cyc → (e.imm = true ∨ d.windowUsed < 960) → Becomes (.commit ins det) d (d.beginCommit e det)) ∧
  (∀ (d : Dev) (ins : Word) (e : Entry) (ref : CplRef) (seq : BitVec 16) (w : BitVec 256), d.entry ins.toNat = some e →
    e.st = .redo → e.src = .host ref seq → d.canMaster = true → d.now + leadOf e.action ≤ e.final → descSeq w = seq →
    descCookie w = ref.cookie → e.doomed = false → Becomes (.entryRefetch ins (.desc w false)) d (d.redoOk e)) ∧
  (∀ (d : Dev) (ins : Word) (e : Entry), d.entry ins.toNat = some e → e.st = .redo → e.src.cls ≠ 0 → e.doomed = false →
    Becomes (.entryRefetch ins (.inside false)) d (d.redoOk e)) ∧
  (∀ (d : Dev) (ins : Word) (e : Entry), d.entry ins.toNat = some e → e.st = .committed → e.final ≤ d.now + leadOf e.action →
    d.injected 2 none = false → Becomes (.dispatch ins false false) d (d.setEntry { e with st := .dispatched }))

/-- The actions of the schedule complete: an entry that may be placed, whose target still accepts it, has its effect at its placed event
and fires; a channel action waits for no configuration of its own step or before (R237). -/
def Obligations.ActionsComplete : Prop :=
  (∀ (d : Dev) (ins : Word) (e : Entry), d.entry ins.toNat = some e → d.placeable e 0x01 = true → d.targetAccepts e = true →
    d.cfgWaits e = false →
    (e.arg = 0 → Becomes (.chSet ins true) d ((d.commandOff e.target e.placed).fired e e.placed)) ∧
    (e.arg = 1 → Becomes (.chSet ins true) d ((d.commandOn e.target e.placed).fired e e.placed)) ∧
    (e.arg = 2 → Becomes (.chSet ins true) d ((Dev.feedFault (d.safeChanAt e.target e.placed) e.target).fired e e.placed))) ∧
  (∀ (d : Dev) (ins : Word) (e : Entry), d.entry ins.toNat = some e → d.placeable e 0x02 = true → d.targetAccepts e = true →
    d.cfgWaits e = false →
    Becomes (.chDuty ins true) d ((d.setFld (R.CH_DUTY_DUTY (d.leader e.target)) e.arg.toNat).fired e e.placed)) ∧
  (∀ (d : Dev) (ins : Word) (e : Entry), d.entry ins.toNat = some e → d.placeable e 0x03 = true → d.targetAccepts e = true →
    d.cfgWaits e = false →
    Becomes (.chPulse ins true) d
      (((d.startOp e.ref 0x03 (d.leader e.target)).beginPulse e.target e.placed (e.placed + 40 * e.arg.toNat) d.sch.nextOp).fired e e.placed)) ∧
  (∀ (d : Dev) (ins : Word) (e : Entry), d.entry ins.toNat = some e → d.placeable e 0x04 = true → d.acceptsProfile e.target = true →
    d.cfgWaits e = false →
    Becomes (.psqStart ins true) d (d.placeStart e e.placed)) ∧
  (∀ (d d' : Dev) (ins : Word) (e : Entry), d.entry ins.toNat = some e → d.placeable e 0x05 = true →
    d.loopLatch e.target (.sp e.arg.toInt e.final) (d.targetAccepts e) = (d', true) → Becomes (.loopSp ins) d (d'.fired e e.placed)) ∧
  (∀ (d d' : Dev) (ins : Word) (e : Entry), d.entry ins.toNat = some e → d.placeable e 0x06 = true →
    d.loopLatch e.target (.mode e.arg.toNat e.final) (d.targetAccepts e) = (d', true) → Becomes (.loopMode ins) d (d'.fired e e.placed)) ∧
  (∀ (d : Dev) (ins cur volt : Word) (e : Entry), d.entry ins.toNat = some e → d.placeable e 0x07 = true →
    d.targetAccepts e = true → d.cfgWaits e = false → e.arg = 3 →
    Becomes (.adcSnap ins true cur volt) d
      ((((d.setReg (R.CH_SNAP_I e.target) (BitVec.ofInt 32 (d.calI e.target cur.toInt))).setFld (R.CH_SNAP_V_V e.target)
        (d.calV e.target volt.toInt)).setReg64 (R.CH_SNAP_MT_LO e.target)
        (R.CH_SNAP_MT_HI e.target) e.placed).fired e e.placed)) ∧
  (∀ (d : Dev) (ins : Word) (det : Bool) (e : Entry), d.entry ins.toNat = some e → d.placeable e 0x08 = true →
    Becomes (.canTx ins det) d (d.placeCan e det)) ∧
  (∀ (d d' : Dev) (ins : Word) (e : Entry), d.entry ins.toNat = some e → d.placeable e 0x09 = true →
    d.launchEth e.target e.arg.toNat = (d', true) → Becomes (.ethTx ins) d (d'.fired e e.placed)) ∧
  (∀ (d : Dev) (ins : Word) (e : Entry), d.entry ins.toNat = some e → d.placeable e 0x0A = true → d.flag R.LT_CTRL_EN = true →
    d.flag R.LT_STAT_SEALED = true → d.backReady = true → Becomes (.ltFlip ins) d ((d.flip e.placed).fired e e.placed)) ∧
  (∀ (d : Dev) (ins : Word) (e : Entry), d.entry ins.toNat = some e → d.placeable e 0x0B = true →
    d.flag (R.MT_SYNC_CFG_OE e.target) = true →
    Becomes (.syncLvl ins) d
      (let d1 := d.syncCut e.target e.placed
       (d1.setSync e.target { d1.sync e.target with lvl := e.arg.getLsbD 0 }).fired e e.placed)) ∧
  (∀ (d : Dev) (ins : Word) (e : Entry), d.entry ins.toNat = some e → d.placeable e 0x0C = true →
    d.flag (R.MT_SYNC_CFG_OE e.target) = true →
    Becomes (.syncPulse ins) d
      (let d1 := d.syncCut e.target e.placed
       (((d1.startOp e.ref 0x0C e.target).setSync e.target
        { lvl := !d1.flag (R.MT_SYNC_CFG_IDLE e.target), pulse := some (e.placed + d1.syncWidth e, d1.sch.nextOp) }).fired e
          e.placed))) ∧
  (∀ (d : Dev) (ins : Word) (e : Entry), d.entry ins.toNat = some e → d.placeable e 0x0D = true → e.clu = false →
    d.wakeKind e.target = .start →
    Becomes (.engWake ins) d
      ((d.startEng (d.roleHolder e.target) (d.engEntry (d.roleHolder e.target) true) (e.arg &&& 0xFFFF#32) d.now).fired e
        e.placed)) ∧
  (∀ (d : Dev) (ins : Word) (e : Entry), d.entry ins.toNat = some e → d.placeable e 0x0F = true →
    Becomes (.mark ins) d (d.fired e e.placed))

/-! ### GNSS baseband (05) -/

/-- The commands of the GNSS baseband complete: corrections are read, the log's ring is handled, the unit starts and stops, the kept
data is saved and discarded, an origin is taken over, Forager bursts are asked for and end, streams fail and return, trackers lock and
are released, the firmware arrives, a fix epoch is reported. -/
def Obligations.GnssCommandsComplete : Prop :=
  (∀ (d : Dev) (a : AccDesc) (data : List (BitVec 8)), (d.nextDesc fun w => descType w == 0x90) = some a →
    d.correctionsFail a.word = none → d.canMaster = true → data.length = descField a.word 12 2 →
    Becomes (.gnssCorrections data) d ((d.takeDesc a).corrections a data)) ∧
  (∀ (d : Dev) (a b : FixSol) (x : FixEnv) (g : Int) (mt : Nat), d.domOn 10 = true → d.mt.loaded = true →
    d.flag R.GN_CTRL_EN = true → d.gn.loaded = true → d.epochDue = some (g, mt) →
    Becomes (.fixEpoch a b x) d (d.fixAt g mt a b x)) ∧
  (∀ (d : Dev) (v : Word), d.domOn 10 = true → bitsOf v 0 12 < d.logSize →
    (bitsOf v 0 12 + d.logSize - d.fld R.GN_LOG_HEAD_INDEX) % d.logSize ≤
      (d.fld R.GN_LOG_TAIL_INDEX + d.logSize - d.fld R.GN_LOG_HEAD_INDEX) % d.logSize →
    Becomes (.gnLogHeadWrite v) d (d.setFld R.GN_LOG_HEAD_INDEX (bitsOf v 0 12))) ∧
  (∀ (d : Dev) (v : Word), d.domOn 10 = true → d.flag R.GN_LOG_CFG_EN = false → v.getLsbD 0 = true →
    ∃ d', Becomes (.gnLogEnable v) d d' ∧ d'.fld R.GN_LOG_TAIL_INDEX = 0 ∧ d'.flag R.GN_LOG_TAIL_PHASE = true ∧
      d'.fld R.GN_LOG_HEAD_INDEX = 0 ∧ d'.flag R.GN_LOG_CFG_EN = true ∧
      RegsBut [R.GN_LOG_CFG, R.GN_LOG_TAIL, R.GN_LOG_HEAD] d d' ∧ d' = { d with regs := d'.regs }) ∧
  (∀ (d : Dev) (us : BitVec 17), d.mayBurst = true → d.gn.retry = none → 1000 * d.ncoh ≤ us.toNat → us.toNat ≤ 100000 →
    Becomes (.foragerBurst us) d (d.askBurst us.toNat)) ∧
  (∀ (d : Dev) (t us : Nat), d.gn.retry = some (t, us) → d.mayBurst = true → t ≤ d.now → Becomes .acqRetry d (d.askBurst us)) ∧
  (∀ (d : Dev) (k t : Nat), d.gn.burst = some (k, t) → t ≤ d.now →
    ∃ d', Becomes .foragerBurstEnd d d' ∧ d'.gn.burst = none ∧ (∀ b ∈ d'.pwr.books, b.id ≠ k) ∧ d'.domOn 11 = false ∧
      (∀ j, j ≠ 11 → d'.domOn j = d.domOn j) ∧ d'.flag R.GN_STAT_FORAGER_ON = false ∧ RegsBut [R.GN_STAT] d d') ∧
  (∀ (d : Dev) (v : Word) (sky : GnSky) (bad : List KeptItem), d.domOn 10 = true → d.flag R.GN_CTRL_EN = false → v.getLsbD 0 = true →
    Becomes (.gnEnable v sky bad) d (d.writeGnCtrl v sky bad)) ∧
  (∀ (d : Dev) (v : Word), d.domOn 10 = true → d.flag R.GN_CTRL_EN = true → v.getLsbD 0 = false →
    Becomes (.gnDisable v) d (d.writeByCode R.GN_CTRL v).gnStop) ∧
  (∀ (d : Dev) (v : Word), d.domOn 10 = true →
    (v &&& 3#32 = 1#32 → Becomes (.save v) d d.saveKept) ∧
    (v &&& 3#32 = 2#32 → Becomes (.discard v) d ({ d with kept := none }).showKept)) ∧
  (∀ d : Dev, d.domOn 10 = true → d.fld R.GN_STAT_STATE = 3 → d.gn.saveAt + 60 * secTicks ≤ d.now →
    Becomes .keptPeriodicSave d d.saveKept) ∧
  (∀ (d : Dev) (v : Word), d.domOn 10 = true → v.getLsbD 0 = true →
    ∃ d', Becomes (.orgApply v) d d' ∧ d'.fld R.GN_ORG_CMD_GEN = (d.fld R.GN_ORG_CMD_GEN + 1) % 256 ∧
      (∃ o, d'.gn.orgs = o :: d.gn.orgs ∧ o.gen = (d.fld R.GN_ORG_CMD_GEN + 1) % 256 ∧ o.hgt = (d.reg R.GN_ORG_HGT).toInt) ∧
      RegsBut [R.GN_ORG_CMD] d d' ∧ d'.mem = d.mem) ∧
  (∀ (d : Dev) (n : Fin 4) (last : BitVec 64), d.domOn 10 = true → d.streamOn n = true → last.toNat + msTicks 1 ≤ d.now →
    Becomes (.noData ⟨n, last⟩) d
      ((((d.setFlag (R.GN_IF_STAT_NO_DATA n) true).gnEvent R.GN_EVT_IF_FAULT).setLine Src.gnIf 0).dropTrk
        fun k => k % 4 == n.val)) ∧
  (∀ (d : Dev) (n : Fin 4), d.domOn 10 = true → Becomes (.noDataClear n) d (d.clearNoData n)) ∧
  (∀ (d : Dev) (t : GnTrk), d.domOn 10 = true → d.flag R.GN_CTRL_EN = true → d.gn.loaded = true →
    d.streamOn (streamOf t.l5 t.antB) = true → d.sigOn t.sat.sys t.l5 = true → d.trkFits t = true →
    Becomes (.trackerLock t) d (d.lockTrk t)) ∧
  (∀ (d : Dev) (t : GnTrk) (u : Nat), d.domOn 10 = true → (trkNo t.slot t.l5 t.antB, u) ∈ d.gn.out → u + secTicks ≤ d.now →
    Becomes (.trackerRelease t) d (d.releaseTrk t)) ∧
  (∀ (d : Dev) (nv : Nv) (q : List Instr) (sky : GnSky) (bad : List KeptItem) (p : Part), navPart nv.active = some p → d.domOn 10 = true →
    d.gn.loaded = false → d.flag R.GN_CTRL_EN = false →
    exec (.navFirmwareLoaded sky bad) ⟨d, nv, q⟩ =
      .next ⟨(d.gnSet fun g => { g with loaded := true }).setReg R.GN_NAV_VER (BitVec.ofNat 32 p.version), nv, q⟩)

/-! ### Pose and boundaries (06) -/

/-- The commands of the pose unit and of the boundary unit complete: a track point is added and tested, the fix and dead-reckoning
limits expire, an IMU sample and a capture are taken, a map is loaded, staged, swapped, dropped and deactivated, a lever-point word is
written. -/
def Obligations.PoseCommandsComplete : Prop :=
  (∀ (d : Dev) (calcs : List CalcDet) (segs : List SegDet) (t : Nat), d.flag R.POSE_CTRL_EN = true → d.mt.loaded = true →
    d.pointDue = some t → Becomes (.trackPoint calcs segs) d (((d.addPoint t).swapIfDue t).bndPoint calcs segs)) ∧
  (∀ d : Dev, d.poseSt = 2 → d.fixFresh d.now = false →
    Becomes .fixToExpiry d (if d.drInputs then d.setPoseSt 3 else d.poseLost false)) ∧
  (∀ d : Dev, d.poseSt = 3 → d.pose.drEntry + max 1 (d.fld R.POSE_DR_DR_LIMIT) * secTicks < d.now →
    Becomes .drLimitExpiry d (d.poseLost true)) ∧
  (∀ (d : Dev) (v : Word), d.domOn 3 = true → v.getLsbD 0 = true → d.flag R.POSE_CTRL_IMU_EN = true →
    d.inHistory (d.reg64 R.POSE_IMU_MT_LO R.POSE_IMU_MT_HI) = true →
    Becomes (.imuSubmit v) d
      (((((d.poseSet fun x => { x with lastImu := some d.now }).useInput (d.reg64 R.POSE_IMU_MT_LO R.POSE_IMU_MT_HI)
        (.imu (d.reg R.POSE_IMU_W0) (d.reg R.POSE_IMU_W1) (d.reg R.POSE_IMU_W2))).count R.POSE_IMU_CNT)).poseMove d.now)) ∧
  (∀ (d : Dev) (n : Fin 4) (v : Word) (p : PosePt), d.domOn 3 = true → v.getLsbD 0 = true → d.lastPt = some p →
    ∃ d', Becomes (.poseCapture n v) d d' ∧ (∀ w, w < 16 → d'.reg (R.POSE_SNAP_W n w) = (ptWords p).getD w 0) ∧
      RegsBut ((List.range 16).map (R.POSE_SNAP_W n)) d d' ∧ d' = { d with regs := d'.regs }) ∧
  (∀ (d : Dev) (a : AccDesc), d.bnd.load = none → (d.nextDesc fun w => descType w == 0x50) = some a → d.domOn 3 = true →
    (d.takeDesc a).mapDescBad a.word = none → descField a.word 12 4 ≤ 32768 →
    ∃ d' l, Becomes .boundaryMapLoad d d' ∧ d'.bnd.load = some l ∧ l.ref = a.ref ∧ l.gen = descField a.word 16 2 ∧
      l.count = descField a.word 12 4 ∧ l.addr = descField a.word 4 8 ∧
      l.half = (match d.bnd.act with | some m => 1 - m.half | none => 0)) ∧
  (∀ (d : Dev) (l : BndLoad) (ents : List (BitVec 128)), d.bnd.load = some l → d.canMaster = true → ents.length = l.count →
    Becomes (.mapLoadEnd ents) d (d.mapLoaded l ents)) ∧
  (∀ (d : Dev) (v : Word) (m : BndMap) (ref : Option CplRef) (t : Option Nat), d.domOn 3 = true → v &&& 7#32 = 1#32 →
    d.bnd.stg = some (m, ref, t) →
    Becomes (.bndSwap v) d
      { d with bnd := { d.bnd with stg := some (m, ref, some (d.reg64 R.BND_SWAP_MT_LO R.BND_SWAP_MT_HI)) } }) ∧
  (∀ (d : Dev) (v : Word), d.domOn 3 = true → v &&& 7#32 = 2#32 → Becomes (.bndDropStg v) d (d.dropStaged (d.fld R.BND_GEN_ACT_GEN))) ∧
  (∀ (d : Dev) (v : Word) (m : BndMap), d.domOn 3 = true → v &&& 7#32 = 4#32 → d.bnd.act = some m →
    Becomes (.deact v) d (({ d with bnd := { d.bnd with act := none, bad := [] } }).showMaps).withdrawAll) ∧
  (∀ (d : Dev) (p : Fin 256) (w : Fin 8) (v : Word), d.domOn 3 = true → w.val ≠ 2 → w.val < 5 →
    d.flag (R.BND_LP_W2_EN p) = false →
    Becomes (.leverPointWrite p w v) d (d.writeByCode (R.BND_LP_W0 p + 4 * w) v)) ∧
  (∀ (d : Dev) (p : Fin 256) (v : Word), d.domOn 3 = true → d.flag (R.BND_LP_W2_EN p) = true → v.getLsbD 15 = false →
    ∃ d', Becomes (.leverPointWrite p 2 v) d d' ∧ d'.flag (R.BND_LP_W2_EN p) = false ∧
      d'.flag (R.BND_LP_STAT_DEGRADED p) = false ∧ (∀ e ∈ d'.sch.ents, e.src = .bnd p → e.uncommitted = false) ∧
      d'.mem = d.mem)

/-! ### Field-channel outputs (07) -/

/-- The register commands of the channels complete: ON, OFF, SAFE, RELEASE, CLR_LATCH, a bank's RELEASE, the limiter lock, CH_CFG. -/
def Obligations.ChannelRegisterCommandsComplete : Prop :=
  (∀ (d : Dev) (c : Fin 128) (v : Word), d.domOn (chDom c) = true → v &&& 31#32 = 1#32 → d.acceptsOn c = true →
    Becomes (.chCmdOn c v) d (d.commandOn c d.now)) ∧
  (∀ (d : Dev) (c : Fin 128) (v : Word), d.domOn (chDom c) = true → v &&& 31#32 = 2#32 → d.acceptsOff c = true →
    Becomes (.chCmdOff c v) d (d.commandOff c d.now)) ∧
  (∀ (d : Dev) (c : Fin 128) (v : Word), d.domOn (chDom c) = true → v &&& 31#32 = 4#32 →
    Becomes (.chCmdSafe c v) d (Dev.feedFault (d.safeChan c) c)) ∧
  (∀ (d : Dev) (c : Fin 128) (v : Word) (link : Bool), d.domOn (chDom c) = true → v &&& 31#32 = 8#32 →
    Becomes (.chRelease c v link) d
      ((d.setLinkUp (dieOf c) link).forAll ((d.setLinkUp (dieOf c) link).group c) fun k d => d.releaseOne k)) ∧
  (∀ (d : Dev) (c : Fin 128) (v : Word), d.domOn (chDom c) = true → v &&& 31#32 = 16#32 →
    ∃ d', Becomes (.clrLatch c v) d d' ∧ d'.flag (R.CH_STAT_LATCHED (d.leader c)) = false ∧
      d'.fld (R.CH_STAT_RETRIES (d.leader c)) = 0 ∧ RegsBut [R.CH_STAT (d.leader c)] d d' ∧
      (∀ k, k ≠ d.leader c → d'.chan k = d.chan k) ∧ d'.mem = d.mem) ∧
  (∀ (d : Dev) (b : Fin 8) (v : Word) (link : Bool), d.domOn (chDom (16 * b)) = true → v &&& 3#32 = 1#32 →
    Becomes (.bankRelease b v link) d ((d.setLinkUp (b / 4) link).forAll (bankChans b) fun c d => d.releaseOne c)) ∧
  (∀ (d : Dev) (v : Word), d.domOn 13 = true → v &&& 3#32 = 2#32 →
    Becomes (.elimLock v) d
      ((d.setFlag (R.CH_BANK_CTRL_ELIM_LOCK 7) true).setFlag (R.CH_BANK_STAT_ELIM_LOCKED 7) true)) ∧
  (∀ (d : Dev) (c : Fin 128) (v : Word), d.domOn (chDom c) = true → d.modeRefused c (bitsOf v 0 4) (d.elimAfter c v) = false →
    d.modeBusy c (bitsOf v 0 4) = false → d.elimRefused c v false = false →
    (d.running c = false ∨ bitsOf v 4 2 = bitsOf (d.reg (R.CH_CFG c)) 4 2) → 8 ≤ c.val →
    ∃ d', Becomes (.chCfgWrite c v) d d' ∧ d'.mode c = bitsOf v 0 4 ∧ d'.fld (R.CH_CFG_OWNER c) = bitsOf v 4 2 ∧
      d'.fld (R.CH_CFG_SAFE c) = bitsOf v 6 2 ∧ d'.flag (R.CH_CFG_SAFETY c) = v.getLsbD 8 ∧
      d'.flag (R.CH_CFG_PWM_EN c) = v.getLsbD 11 ∧ d'.fld (R.CH_CFG_SLEW c) = bitsOf v 12 2)

/-- What ON and OFF do to an output outside a PAIR whose die is on and on which no pulse and no profile runs. ON, accepted with the stage
off, no retry waiting, no limiter hold-off, VF in range and no stop active, sets CMD_ON and counts in CH_ON_CNT. The output is driven at
once with PWM off, but in a half-bridge (MODE 3): its low switch turns off and the high one conducts the dead time later; with PWM it is
driven from its first period start on. OFF clears CMD_ON and RETRIES, and the output is driven no more but by a half-bridge, whose off
state drives. No other channel's stage changes. -/
def Obligations.OnAndOffDrive : Prop :=
  ∀ (d : Dev) (c : Nat), c < 128 → d.mode (c / 2 * 2) ≠ 4 → d.mode c ≠ 4 → d.domOn (chDom c) = true → (d.chan c).pulse = none →
    d.running c = false →
    (d.acceptsOn c = true → (d.chan c).on = false → (d.chan c).elimHold = false → d.vfBad (c / 16) = false →
      d.flag (R.CH_STAT_RETRY_WAIT c) = false → d.flag R.FLT_STATE_STOP_ACTIVE = false →
      let d' := d.commandOn c d.now
      (d.pwmRuns c = false → d.mode c ≠ 3 → d'.driven c = true) ∧
      (d.pwmRuns c = false → d.mode c = 3 → (d.chan c).prot = false →
        d'.gate c = none ∧ d'.side c = some true ∧
        ∀ t, d.now + d.deadTime c ≤ t → ({ d' with mt := { d'.mt with now := t } }).gate c = some true) ∧
      (d.pwmRuns c = true → (d.chan c).perAt < d.now → d'.driveOn c = false ∧
        ∀ t, d.now ≤ t → 10 ≤ (d'.onSteps c (d'.dutyAt c t).1 t).1 →
          ({ (d'.pwmPeriod c t) with mt := { d'.mt with now := t } }).driveOn c = true) ∧
      d'.flag (R.CH_STAT_CMD_ON c) = true ∧
      (d'.reg (R.CH_ON_CNT c)).toNat = min ((d.reg (R.CH_ON_CNT c)).toNat + 1) (2 ^ 32 - 1) ∧
      RegsBut [R.CH_STAT c, R.CH_ON_CNT c] d d' ∧ (∀ k, k ≠ c → d'.chan k = d.chan k) ∧ d'.mem = d.mem) ∧
    (d.acceptsOff c = true →
      let d' := d.commandOff c d.now
      d'.driveOn c = false ∧ (d.mode c ≠ 3 → d'.driven c = false) ∧ d'.flag (R.CH_STAT_CMD_ON c) = false ∧
      d'.fld (R.CH_STAT_RETRIES c) = 0 ∧
      RegsBut [R.CH_STAT c] d d' ∧ (∀ k, k ≠ c → d'.chan k = d.chan k) ∧ d'.mem = d.mem)

/-- The protections of the channels complete: over-current, time over-current, the two temperatures, retry, the reset of RETRIES, the
bank limits, VF out of range and back. R214, R199: a switch current at or above the channel's hard limit (36 A on B0 and B1, 15 A
elsewhere) trips it at once with OC_CAUSE 1; one at or above OC_TH, held within 0.10 A and the peak current, trips it with OC_CAUSE 0,
but not within the blanking window. -/
def Obligations.ProtectionsComplete : Prop :=
  (∀ (d : Dev) (c ma : Nat), c < 128 →
    ((if c < 32 then 36000 else 15000) ≤ ma → d.ocCause c ma = some 1) ∧
    (ma < (if c < 32 then 36000 else 15000) → d.inInrush (d.leader c) = false →
      (d.ocCause c ma = some 0 ↔
        10 * max 10 (min (if c < 32 then 3000 else 1200) (d.fld (R.CH_OC_OC_TH (d.leader c)))) ≤ ma ∧
          d.blanked (d.leader c) = false))) ∧
  (∀ (d : Dev) (c : Fin 128) (ma : Word) (high : Bool) (k : Nat), d.domOn (chDom c) = true →
    ((d.outOn c = true ∧ canConduct (d.mode c) high = true) ∨ d.gate c = some high) → d.ocCause c ma.toNat = some k →
    Becomes (.overCurrent c ma high) d (d.overCurrent c k high)) ∧
  (∀ (d : Dev) (c : Fin 128) (spans : List (BitVec 64 × BitVec 64)), d.domOn (chDom c) = true → isOutput (d.mode c) = true →
    d.driven c = true → msTicks 10 ≤ d.timeAbove c spans → Becomes (.timeOverCurrent c spans) d (d.ocTrip c 2)) ∧
  (∀ (d : Dev) (c : Fin 128) (tj : BitVec 16), d.domOn (chDom c) = true → 1500 ≤ tj.toInt → (d.chan c).otArm = true →
    ∃ d', Becomes (.otWarn c tj) d d' ∧ d'.fld (R.CH_TJ_TJ c) = tj.toNat ∧ (d'.chan c).otArm = false ∧
      d'.flag (R.CH_STAT_OT_WARN c) = true ∧ (∀ k, d'.driven k = d.driven k) ∧ RegsBut [R.CH_TJ c, R.CH_STAT c] d d') ∧
  (∀ (d : Dev) (c : Fin 128) (tj : BitVec 16), d.domOn (chDom c) = true → 1750 ≤ tj.toInt →
    ∃ d1 d', d1 = (d.newTj c tj.toInt).chEvent c (R.CH_STAT_OT c) ∧ Becomes (.overTemperature ⟨c, tj⟩) d d' ∧
      d' = (Dev.feedFault (d1.protectOff (d1.leader c) true) c).raiseFault Src.chOt (bankMask (c / 16))) ∧
  (∀ (d : Dev) (c : Fin 128) (tj : BitVec 16) (t : Nat), d.domOn (chDom c) = true → (d.chan c).retry = some t → t ≤ d.now →
    ((d.chan c).otWait = true → tj.toInt < 1550) →
    ∃ d1, d1 = (d.newTj c tj.toInt).endRetry c ∧
      (d1.flag (R.CH_STAT_SAFE c) = false → ((d1.group c).any fun k => d1.flag (R.CH_STAT_CMD_ON k)) = true →
        Becomes (.retry c tj) d ((d1.addFld (R.CH_STAT_RETRIES c) 1).stageOn c d.now)) ∧
      (d1.flag (R.CH_STAT_SAFE c) = true →
        Becomes (.retry c tj) d (d1.addFld (R.CH_STAT_RETRIES c) 1))) ∧
  (∀ (d : Dev) (c : Fin 128) (t : Nat), d.domOn (chDom c) = true → (d.chan c).onSince = some t → t + secTicks ≤ d.now →
    Becomes (.retriesReset c) d (d.setFld (R.CH_STAT_RETRIES c) 0)) ∧
  (∀ (d : Dev) (b : Fin 8) (ma : Word), d.domOn (chDom (16 * b)) = true → bankHard b ≤ ma.toNat →
    Becomes (.bankHardLimit ⟨b, ma⟩) d
      (((d.forAll (((bankChans b).filter d.driven).map d.leader).dedup fun c d =>
        Dev.feedFault ((d.setOc c 3).protectOff c false) c).bankEvent b (R.CH_BANK_EVT_HARD_LIMIT b)).raiseFault Src.chOc (bankMask b))) ∧
  (∀ (d : Dev) (b : Fin 8) (i : Word) (mw : BitVec 16), d.domOn (chDom (16 * b)) = true → (d.reg (R.CH_BANK_IAVG b)).toNat ≤ bankLimit b →
    bankLimit b < i.toNat →
    Becomes (.bankOc b ⟨i, mw⟩) d
      ((((d.setReg (R.CH_BANK_IAVG b) i).setFld (R.CH_BANK_PWR_P b) mw.toNat).bankEvent b (R.CH_BANK_EVT_BANK_OC b)).setLine
        Src.chBankOc (bankMask b))) ∧
  (∀ (d : Dev) (b : Fin 8) (vf : BitVec 16) (since : BitVec 64), d.domOn (chDom (16 * b)) = true →
    (vf.toNat < 5500 → (d.setFld (R.CH_BANK_VF_VF b) vf.toNat).flag (R.CH_BANK_STAT_VF_UV b) = false →
      Becomes (.vfUv b vf) d
        (((((d.setFld (R.CH_BANK_VF_VF b) vf.toNat).setFlag (R.CH_BANK_STAT_VF_UV b) true).vfOff b).bankEvent b
          (R.CH_BANK_EVT_UV b)).setLine Src.chVf (bankMask b))) ∧
    (6000 < vf.toNat → since.toNat + msTicks 1 ≤ d.now → (d.setFld (R.CH_BANK_VF_VF b) vf.toNat).flag (R.CH_BANK_STAT_VF_UV b) = true →
      Becomes (.vfUvRecover b ⟨vf, since⟩) d
        (((d.setFld (R.CH_BANK_VF_VF b) vf.toNat).setFlag (R.CH_BANK_STAT_VF_UV b) false).vfGood b)) ∧
    (38000 < vf.toNat → (d.setFld (R.CH_BANK_VF_VF b) vf.toNat).flag (R.CH_BANK_STAT_VF_OV b) = false →
      Becomes (.vfOv b vf) d
        (((((d.setFld (R.CH_BANK_VF_VF b) vf.toNat).setFlag (R.CH_BANK_STAT_VF_OV b) true).vfOff b).bankEvent b
          (R.CH_BANK_EVT_OV b)).setLine Src.chVf (bankMask b))) ∧
    (vf.toNat < 36500 → since.toNat + msTicks 1 ≤ d.now → (d.setFld (R.CH_BANK_VF_VF b) vf.toNat).flag (R.CH_BANK_STAT_VF_OV b) = true →
      Becomes (.vfOvRecover b ⟨vf, since⟩) d
        (((d.setFld (R.CH_BANK_VF_VF b) vf.toNat).setFlag (R.CH_BANK_STAT_VF_OV b) false).vfGood b)))

/-- The diagnoses and the configuration of the channels complete: PWM periods, pulse ends, off-state readings, open load, cross
connections, the limiter pair, the die's watchdog and link, the configuration words' check, configuration descriptors and their
application, the return of REF100. -/
def Obligations.ChannelEventsComplete : Prop :=
  (∀ (d : Dev) (c : Fin 128) (t : BitVec 64), d.domOn (chDom c) = true → t.toNat = d.pwmStart c d.now → (d.chan c).perAt < t.toNat →
    d.running c = false → isOutput (d.mode c) = true → d.leader c = c → d.pwmRuns c = true → (d.chan c).on = true →
    (d.chan c).pwmFrom ≤ t.toNat → Becomes (.pwmPeriodStart c t) d (d.pwmPeriod c t.toNat)) ∧
  (∀ (d : Dev) (c : Fin 128) (t : BitVec 64), d.domOn (chDom c) = true → t.toNat = d.pwmStart c d.now → (d.chan c).perAt < t.toNat →
    d.running c = true → d.pwmEn c = false →
    Becomes (.pwmPeriodStart c t) d
      ((d.setChan c { d.chan c with perAt := t.toNat, offEdge := none }).regPeriod c t.toNat)) ∧
  (∀ (d : Dev) (c : Fin 128) (t op : Nat), (d.chan c).pulse = some (t, op) → t ≤ d.now →
    ∃ d1, d1 = ((((d.setChan c { d.chan c with pulse := none }).setFlag (R.CH_STAT_PULSE c) false).endRetry c).stageOff c t).endOp
        op t ∧
      Becomes (.chPulseEnd c) d (d1.forAll (d1.group c) fun k d => d.setFlag (R.CH_STAT_CMD_ON k) false)) ∧
  (∀ (d : Dev) (c : Fin 128) (mv vf : BitVec 16), d.domOn (chDom c) = true →
    (d.setFld (R.CH_BANK_VF_VF (c / 16)) vf.toNat).offDiagnosable c = true →
    Becomes (.offDiagnosis c mv vf) d ((d.setFld (R.CH_BANK_VF_VF (c / 16)) vf.toNat).offReading c mv.toNat vf.toNat)) ∧
  (∀ (d : Dev) (c : Fin 128) (ua : Word), d.domOn (chDom c) = true → d.openNow c ua.toNat = true →
    Becomes (.openOn c ua) d
      (((d.chEvent c (R.CH_STAT_OPEN_ON c)).raiseFault Src.chOpen (bankMask (c / 16))).fieldLampFault c false)) ∧
  (∀ (d : Dev) (j k : Fin 128) (t : BitVec 64) (mv : BitVec 16), d.domOn (chDom k) = true → j ≠ k →
    d.flag (R.CH_DIAG_XCON_EN k) = true → isOutput (d.mode j) = true → d.driven k = false → t.toNat + 80000 ≤ d.now →
    Becomes (.xconFollow j ⟨k, t, mv⟩) d (d.followEdge j k t.toNat mv.toNat)) ∧
  (∀ (d : Dev) (c : Fin 128), d.domOn (chDom c) = true → d.flag (R.CH_CFG_ELIM c) = true →
    ((d.chan c).elimBad = false →
      Becomes (.elimFault c false) d ((d.setChan c { d.chan c with elimBad := true }).elimTrip c)) ∧
    Becomes (.elimFault c true) d
      ((d.setChan c { d.chan c with elimBad := false }).settleLine Src.chElim
        (d.setChan c { d.chan c with elimBad := false }).elimBadAny)) ∧
  (∀ (d : Dev) (k : Fin 2) (last : BitVec 64), d.domOn (chDom (64 * k)) = true → (d.die k).armed = true →
    last.toNat + msTicks (max 1 (min 100 (d.fld (R.CH_DIE_WD_TIMEOUT k)))) ≤ d.now → Becomes (.wdTrip ⟨k, last⟩) d (d.wdTrip k)) ∧
  (∀ (d : Dev) (k : Fin 2), d.domOn (chDom (64 * k)) = true → Becomes (.linkFrameError k) d (d.linkError k)) ∧
  (∀ (d : Dev) (c : Fin 128), d.domOn (chDom c) = true →
    Becomes (.configInteg c) d
      (((Dev.feedFault (d.safeChan c) c).chEvent c (R.CH_STAT_INTEG c)).raiseFault Src.chInteg (bankMask (c / 16)))) ∧
  (∀ (d : Dev) (a : AccDesc) (recs : List (BitVec 512)), (d.nextDesc fun w => descType w == 0xA0) = some a →
    cfgBad a.word d.now = none → d.canMaster = true → recs.length = cfgCount a.word →
    Becomes (.channelConfiguration recs) d ((d.takeDesc a).takeConfig a recs)) ∧
  (∀ (d : Dev) (p : CfgPend), (d.ch.cfgs.find? fun p => decide (p.apply ≤ d.now)) = some p →
    Becomes .configApply d (d.applyConfig p)) ∧
  (∀ d : Dev, Becomes .ref100Return d
    ((({ d with mt := { d.mt with refOk := true } }).dropLine Src.mtRef).forAll ([0, 1].filter fun k => d.domOn (12 + k))
      fun k d => d.setLinkUp k true))

/-! ### Field-channel inputs (08) -/

/-- The commands of the inputs complete: a filtered edge is taken, the FIFO popped, an analogue window closes, the over-range burden
opens and closes, wire break is set and cleared, a tag window closes and its record is written. -/
def Obligations.InputCommandsComplete : Prop :=
  (∀ (d : Dev) (c : Fin 128) (t : BitVec 64) (mv : Word), d.domOn (chDom c) = true → hasLevel (d.mode c) = true →
    d.compare c mv.toInt ≠ (d.chan c).raw → d.runHeld c t.toNat = true →
    Becomes (.inputEdge c t mv) d (d.inputEdge c t.toNat (d.compare c mv.toInt))) ∧
  (∀ (d : Dev) (c : Fin 128) (v : Word), d.domOn (chDom c) = true → v.getLsbD 0 = true →
    Becomes (.chInPop c v) d ((d.setChan c { d.chan c with fifo := (d.chan c).fifo.tail }).showFifo c)) ∧
  (∀ (d : Dev) (c : Fin 128) (m : Word), d.domOn (chDom c) = true → isInput (d.mode c) = true →
    (d.chan c).ainAt < d.now / d.ainTicks c * d.ainTicks c → Becomes (.ainWindowEnd c m) d (d.ainWindow c m)) ∧
  (∀ (d : Dev) (c : Fin 128) (ua : Word), d.domOn (chDom c) = true → d.mode c = 9 → 25000 < ua.toInt →
    ∃ d1, d1 = (d.chEvent c (R.CH_IN_STAT_AIN_OVR c)).raiseFault Src.chAinOvr (bankMask (c / 16)) ∧
      (ua.toInt ≤ 50000 → Becomes (.ainOvr c ua) d d1) ∧
      (50000 < ua.toInt → Becomes (.ainOvr c ua) d
        ((d1.setChan c { d1.chan c with burden := some (d1.now + msTicks 100) }).setReg (R.CH_IN_VAL c) 0))) ∧
  (∀ (d : Dev) (c : Fin 128) (t : Nat), d.domOn (chDom c) = true → (d.chan c).burden = some t → t ≤ d.now →
    Becomes (.burdenClose c) d (d.setChan c { d.chan c with burden := none })) ∧
  (∀ (d : Dev) (c : Fin 128) (t : Nat), d.domOn (chDom c) = true → (d.chan c).wbLow = some t → isInput (d.mode c) = true →
    d.flag (R.CH_IN_CFG_WB_EN c) = true → d.flag (R.CH_IN_STAT_WB_NOW c) = false → t + d.wbTicks c ≤ d.now →
    Becomes (.wireBreak c) d
      ((((d.setFlag (R.CH_IN_STAT_WB_NOW c) true).showLevel c).chEvent c (R.CH_IN_STAT_WIRE_BREAK c)).setLine Src.chWire
        (bankMask (c / 16)))) ∧
  (∀ (d : Dev) (c : Fin 128) (t : Nat), d.domOn (chDom c) = true → (d.chan c).wbHigh = some t →
    d.flag (R.CH_IN_STAT_WB_NOW c) = true → t + d.wbTicks c ≤ d.now →
    Becomes (.wbClear c) d ((d.wireWhole c).showLevel c)) ∧
  (∀ (d : Dev) (c : Fin 128), d.domOn (chDom c) = true → isInput (d.mode c) = true → d.flag (R.CH_IN_CFG_TAG_EN c) = true →
    d.flag (R.CH_IN_CFG_TAG_MODE c) = false → (d.chan c).tag.fin < d.tagDue c →
    Becomes (.tagWindowEnd c) d (d.closeTag c (d.tagDue c))) ∧
  (∀ (d : Dev) (c : Fin 128) (t : Nat), d.domOn (chDom c) = true → isInput (d.mode c) = true →
    d.flag (R.CH_IN_CFG_TAG_EN c) = true → d.flag (R.CH_IN_CFG_TAG_MODE c) = true →
    firstPass (d.tagWay c) (d.chan c).tag.fin d.pose.hist = some t → Becomes (.tagWindowEnd c) d (d.closeTag c t)) ∧
  (∀ (d : Dev) (c : Fin 128) (w : TagWin) (l : List TagWin), d.domOn (chDom c) = true → (d.chan c).tags = w :: l →
    w.fin + d.filtTicks c + 8000 ≤ d.now → Becomes (.tagRecord c) d ((d.setChan c { d.chan c with tags := l }).writeTag c w))

/-! ### Valve drive (09) -/

/-- Every microcode operation completes: at its word a profile that runs executes it. A timed one goes on at its end; an untimed one
takes its effect and goes on at the next word. -/
def Obligations.MicrocodeCompletes : Prop :=
  (∀ (d : Dev) (c : Fin 128), d.atWord c 0 → Becomes (.psqEnd c false) d (d.finishAt c (d.ctx c).cur)) ∧
  (∀ (d : Dev) (c : Fin 128) (ma : Word), d.atWord c 1 → 10 * (d.ctxTarget c : Int) ≤ ma.toInt →
    Becomes (.psqBoost c ma false) d (d.goNext c d.grid10)) ∧
  (∀ (d : Dev) (c : Fin 128) (ma : Word), d.atWord c 1 → ma.toInt < 10 * (d.ctxTarget c : Int) →
    (d.ctx c).cur + usTicks (if psqT (d.ctxWord c) = 0 then 65535 else psqT (d.ctxWord c)) ≤ d.now →
    Becomes (.psqBoost c ma false) d
      ((d.ctxEvent c (R.PSQ_CH_STAT_BOOST_TO c)).goNext c
        ((d.ctx c).cur + usTicks (if psqT (d.ctxWord c) = 0 then 65535 else psqT (d.ctxWord c))))) ∧
  (∀ (d : Dev) (c : Fin 128), d.atWord c 2 → (d.ctx c).cur + usTicks (max 1 (psqT (d.ctxWord c))) ≤ d.now →
    Becomes (.psqPeak c false) d (d.goNext c ((d.ctx c).cur + usTicks (max 1 (psqT (d.ctxWord c)))))) ∧
  (∀ (d : Dev) (c : Fin 128), d.atWord c 3 → psqT (d.ctxWord c) ≠ 0 → (d.ctx c).cur + usTicks (psqT (d.ctxWord c)) ≤ d.now →
    Becomes (.psqHold c false) d (d.goNext c ((d.ctx c).cur + usTicks (psqT (d.ctxWord c))))) ∧
  (∀ (d : Dev) (c : Fin 128), d.atWord c 3 → psqT (d.ctxWord c) = 0 → Becomes (.psqHold c false) d d) ∧
  (∀ (d : Dev) (c : Fin 128), d.atWord c 4 → (d.ctx c).cur + usTicks (psqT (d.ctxWord c)) ≤ d.now →
    Becomes (.psqRamp c false) d
      ((d.setCtx c { d.ctx c with tgt := psqI (d.ctxWord c) }).goNext c ((d.ctx c).cur + usTicks (psqT (d.ctxWord c))))) ∧
  (∀ (d : Dev) (c : Fin 128), d.atWord c 5 →
    Becomes (.psqDither c false) d
      ((d.setCtx c { d.ctx c with ditNext := some (psqI (d.ctxWord c), max 200 (min 2000 (psqT (d.ctxWord c)))) }).afterUntimed c
        ((d.ctx c).pc + 1))) ∧
  (∀ (d : Dev) (c : Fin 128) (ma : Word), d.atWord c 6 → ma.toInt.natAbs < 10 * psqI (d.ctxWord c) →
    Becomes (.psqQuench c ma false) d (d.goNext c d.grid10)) ∧
  (∀ (d : Dev) (c : Fin 128) (ma : Word), d.atWord c 6 → 10 * psqI (d.ctxWord c) ≤ ma.toInt.natAbs →
    (d.ctx c).cur + usTicks (bitsOf (d.ctxWord c) 0 15) ≤ d.now →
    Becomes (.psqQuench c ma false) d
      ((d.ctxEvent c (R.PSQ_CH_STAT_QUENCH_TO c)).goNext c ((d.ctx c).cur + usTicks (bitsOf (d.ctxWord c) 0 15)))) ∧
  (∀ (d : Dev) (c : Fin 128), d.atWord c 7 →
    Becomes (.psqDecay c false) d
      ((d.setCtx c { d.ctx c with fast := (d.ctxWord c).getLsbD 0 }).afterUntimed c ((d.ctx c).pc + 1))) ∧
  (∀ (d : Dev) (c : Fin 128), d.atWord c 8 →
    Becomes (.psqPeriod c false) d
      ((d.setCtx c { d.ctx c with perNext := some (max 1000 (min 100000 (bitsOf (d.ctxWord c) 0 20))) }).afterUntimed c
        ((d.ctx c).pc + 1))) ∧
  (∀ (d : Dev) (c : Fin 128), d.atWord c 9 → (d.ctx c).cur + usTicks (bitsOf (d.ctxWord c) 0 24) ≤ d.now →
    Becomes (.psqWait c false) d (d.goNext c ((d.ctx c).cur + usTicks (bitsOf (d.ctxWord c) 0 24)))) ∧
  (∀ (d : Dev) (c : Fin 128) (l : List KinkSample) (tmin conf : Nat), d.atWord c 0xA → kink (d.ctx c) l = some (tmin, conf) →
    conf + 4800 ≤ (d.ctx c).cur + usTicks (if psqT (d.ctxWord c) = 0 then 65535 else psqT (d.ctxWord c)) → conf + 4800 ≤ d.now →
    Becomes (.psqWkink c l false) d ((d.recordClose c tmin).goNext c d.grid10)) ∧
  (∀ (d : Dev) (c : Fin 128), d.atWord c 0xB →
    Becomes (.psqKset c false) d
      ((d.setCtx c { d.ctx c with kblank := bitsOf (d.ctxWord c) 20 8, krise := bitsOf (d.ctxWord c) 8 12,
                                  kdrop := bitsOf (d.ctxWord c) 0 8 }).afterUntimed c ((d.ctx c).pc + 1))) ∧
  (∀ (d : Dev) (c : Fin 128), d.atWord c 0xC →
    Becomes (.psqLdc c false) d ((d.setCtx c { d.ctx c with lc := psqT (d.ctxWord c) }).afterUntimed c ((d.ctx c).pc + 1))) ∧
  (∀ (d : Dev) (c : Fin 128), d.atWord c 0xD →
    Becomes (.psqDjnz c false) d
      ((d.setCtx c { d.ctx c with lc := ((d.ctx c).lc + 65535) % 65536 }).afterUntimed c
        (if ((d.ctx c).lc + 65535) % 65536 = 0 then (d.ctx c).pc + 1 else psqAddr (d.ctxWord c)))) ∧
  (∀ (d : Dev) (c : Fin 128), d.atWord c 0xE → Becomes (.psqJmp c false) d (d.afterUntimed c (psqAddr (d.ctxWord c)))) ∧
  (∀ (d : Dev) (c : Fin 128), d.atWord c 0xF →
    Becomes (.psqMark c false) d
      ((((d.setReg (R.PSQ_CH_MARK_LO c) (BitVec.ofNat 32 (d.ctx c).cur)).setReg (R.PSQ_CH_MARK_HI c)
        (BitVec.ofNat 32 ((d.ctx c).cur / 2 ^ 32 % 2 ^ 24 + bitsOf (d.ctxWord c) 0 8 * 2 ^ 24))).ctxEvent c
          (R.PSQ_CH_STAT_MARK c)).afterUntimed c ((d.ctx c).pc + 1)))

/-- The other commands of the valve drive complete: the coil model, held-back starts, image loads, the swap of images, a refetched
microcode word, the group registers. -/
def Obligations.ValveDriveCommandsComplete : Prop :=
  (∀ (d : Dev) (c : Fin 128) (i2 : BitVec 64) (mv ma : BitVec 16), d.domOn 6 = true →
    (d.ctx c).coilAt < d.now / msTicks 1 * msTicks 1 → d.coilRm c mv.toNat ma.toNat = none →
    ∃ d1, d1 = d.setCtx c { d.ctx c with coilAt := d.now / msTicks 1 * msTicks 1 } ∧
      (d.fld (R.PSQ_CH_COIL_R_R20 c) = 0 → Becomes (.coilModelUpdate c i2 ⟨mv, ma⟩) d d1) ∧
      (d.fld (R.PSQ_CH_COIL_R_R20 c) ≠ 0 →
        Becomes (.coilModelUpdate c i2 ⟨mv, ma⟩) d
          (d1.setTw c (coilStep (d1.twOf c) (d.coilAmb c) (d.fld (R.PSQ_CH_COIL_R_R20 c)) i2.toNat
            (d.fld (R.PSQ_CH_COIL_TH_RTH c)) (max 1 (d.fld (R.PSQ_CH_COIL_TH_TAU c))) none)))) ∧
  (∀ (d : Dev) (c : Fin 128) (h : HeldStart) (t : Nat), d.heldOf c = some h → h.free = some t → t ≤ d.now →
    d.heldFirst h = true → Becomes (.heldStartRelease c) d (d.beginHeld h t)) ∧
  (∀ (d : Dev) (c : Fin 128) (h : HeldStart), d.heldOf c = some h → h.free = none →
    h.ent.final + usTicks h.ent.maxLate ≤ d.now + 8000 →
    Becomes (.heldStartDrop c) d (((d.unhold c).countDrop (c / 16)).dropStart h.ent (h.ent.maxLate * 100))) ∧
  (∀ (d : Dev) (v : Word), d.domOn 6 = true → v.getLsbD 0 = true → d.flag R.PSQ_LD_STAT_BUSY = false →
    Becomes (.go v) d (d.setFlag R.PSQ_LD_STAT_BUSY true)) ∧
  (∀ (d : Dev) (nv : Nv) (q : List Instr) (ws : List Word), d.flag R.PSQ_LD_STAT_BUSY = true → ws.length = 512 →
    d.flag R.PSQ_LD_CFG_SRC = false → d.canMaster = true → d.codeOk nv 6 (ws.flatMap fun w => leBytes 4 w.toNat) = true →
    exec (.psqLoadEnd (some ws)) ⟨d, nv, q⟩ = .next ⟨d.endPsqLoad (some ws), nv, q⟩) ∧
  (∀ (d : Dev) (b : Fin 8) (v : Word), d.domOn 6 = true → d.flag (R.PSQ_BANK_STAT_STG_VALID b) = true → v &&& 3#32 = 1#32 →
    ∃ t, Becomes (.psqSwap b v) d (d.setPsqBank b { d.psqBank b with swapAt := some t }) ∧ t % 40 = 0 ∧
      d.now + 400000 ≤ t ∧ d.reg64 (R.PSQ_BANK_SWAP_MT_LO b) (R.PSQ_BANK_SWAP_MT_HI b) ≤ t) ∧
  (∀ (d : Dev) (b : Fin 8) (t : Nat), (d.psqBank b).swapAt = some t → t ≤ d.now → Becomes (.psqSwapPoint b) d (d.swapImage b)) ∧
  (∀ (d : Dev) (b : Fin 8) (v : Word), d.domOn 6 = true → v &&& 3#32 = 2#32 →
    Becomes (.psqDropStg b v) d (d.dropStaged09 b)) ∧
  (∀ (d : Dev) (c : Fin 128) (t : Nat) (w : Word), (d.ctx c).stall = some (t, false) → d.canMaster = true →
    sparseGet (fun _ => none) (d.psqBank (c / 16)).src (d.ctx c).half = none →
    Becomes (.microcodeRefetch c ⟨.ok, w⟩) d
      ((((d.setPsqBank (c / 16) { d.psqBank (c / 16) with
          store := sparsePut (fun _ => 0) (d.psqBank (c / 16)).store (512 * (d.ctx c).half + (d.ctx c).pc) w }).count
        (R.PSQ_BANK_REFETCH_CNT (c / 16))).setCtx c { d.ctx c with stall := none, cur := (d.ctx c).cur + (d.now - t) }).beginPhase
          c)) ∧
  (∀ (d : Dev) (b : Fin 8) (g : Fin 4) (lim : Bool) (v : Word), d.domOn 6 = true → d.grpRefused b g lim v = false →
    Becomes (.grpCfgWrite b g lim v) d (d.writeByCode (if lim then R.PSQ_GRP_LIM b g else R.PSQ_GRP_CFG b g) v))

/-! ### Loop array (10) -/

/-- The commands of the loop array complete: a sample, CLOSE, OPEN, OPEN_ALL, XFER, the end of HOLD. -/
def Obligations.LoopCommandsComplete : Prop :=
  (∀ (d : Dev) (n : Fin 160) (fbs : List (Word × Bool)) (det : LoopDet) (t : Nat), d.domOn 6 = true → d.mt.loaded = true →
    d.lastSample n = some t → (∀ k, (d.slot n).lastS = some k → k < t) →
    Becomes (.loopSample n fbs det) d (d.loopSample n t fbs det)) ∧
  (∀ (d : Dev) (n : Fin 160) (v : Word), d.domOn 6 = true → v &&& 7#32 = 1#32 →
    Becomes (.loopClose n v) d (d.requestClose n)) ∧
  (∀ (d : Dev) (n : Fin 160) (v : Word), d.domOn 6 = true → v &&& 7#32 = 2#32 →
    Becomes (.loopOpen n v) d (d.setSlot n { d.slot n with cmds := (d.slot n).cmds ++ [.opening] })) ∧
  (∀ (d : Dev) (v : Word), d.domOn 6 = true → v.getLsbD 0 = true →
    Becomes (.openAll v) d
      (d.forAll (List.range 160) fun s d => d.setSlot s { d.slot s with cmds := (d.slot s).cmds ++ [.opening] })) ∧
  (∀ (d : Dev) (n : Fin 160) (v : Word), d.domOn 6 = true → v &&& 7#32 = 4#32 → 128 ≤ n.val →
    Becomes (.loopXfer n v) d
      (d.setSlot n { d.slot n with cmds := (d.slot n).cmds ++ [.xfer (bitsOf v 4 2) (d.now + 8000)] })) ∧
  (∀ (d : Dev) (n : Fin 160), (d.slot n).st = 3 →
    (d.slot n).holdAt + 40000 * d.fld (R.LOOP_S_HOLD_HOLD n) ≤ d.now →
    let t := (d.slot n).holdAt + 40000 * d.fld (R.LOOP_S_HOLD_HOLD n)
    Becomes (.loopHoldExpiry n) d (d.holdEnd n) ∧ ((d.holdEnd n).slot n).st = 4 ∧ ((d.holdEnd n).slot n).why = 1 ∧
      ((d.slot n).next = none → d.reg (R.LOOP_S_SRAMP n) = 0 →
        ((d.holdEnd n).slot n).next = some ((d.reg (R.LOOP_S_SAFE n)).toInt, t)))

/-! ### The Tchitis engines (11, 12) -/

/-- R358: the flags that an operation writes. Z is 1 for a result of 0; N is bit 31 of the result; C is the carry out of bit 31 of a sum
and the absence of a borrow of a difference; V is 1 when the signed result overflows 32 bits. A flag that an operation does not name keeps
its value. With R362: the C of a shift is the last bit shifted out and an amount of 0 leaves it; DIV clears C, DIVU and REMU clear C
and V. -/
def Obligations.AluFlags : Prop :=
  ∀ (x : Eng) (w a b : Word) (c : Bool) (k : Nat), k < 32 →
    let f := fun r : Alu => (x.takes w r).flags
    let fits := fun n : Int => decide (-2 ^ 31 ≤ n ∧ n < 2 ^ 31)
    (∀ r ∈ [aluAdd a b c, aluSub a b, aluBits a, aluShl a k, aluShr a k, aluSar a k, aluMul a b, aluMulh a b, aluMulhu a b,
        aluDiv a b, aluDivu a b, aluRemu a b],
      (f r).getLsbD 0 = decide (r.val = 0) ∧ (f r).getLsbD 1 = r.val.getLsbD 31 ∧
      ∀ i, 4 ≤ i → (f r).getLsbD i = x.flags.getLsbD i) ∧
    (f (aluAdd a b c)).getLsbD 2 = decide (2 ^ 32 ≤ a.toNat + b.toNat + c.toNat) ∧
    (f (aluAdd a b c)).getLsbD 3 = !fits (a.toInt + b.toInt + c.toNat) ∧
    (f (aluSub a b)).getLsbD 2 = decide (b.toNat ≤ a.toNat) ∧ (f (aluSub a b)).getLsbD 3 = !fits (a.toInt - b.toInt) ∧
    (∀ r ∈ [aluBits a, aluMulh a b, aluMulhu a b],
      (f r).getLsbD 2 = x.flags.getLsbD 2 ∧ (f r).getLsbD 3 = x.flags.getLsbD 3) ∧
    (∀ r ∈ [aluShl a k, aluShr a k, aluSar a k],
      (f r).getLsbD 3 = x.flags.getLsbD 3 ∧ (k = 0 → (f r).getLsbD 2 = x.flags.getLsbD 2)) ∧
    (k ≠ 0 → (f (aluShl a k)).getLsbD 2 = a.getLsbD (32 - k) ∧ (f (aluShr a k)).getLsbD 2 = a.getLsbD (k - 1) ∧
      (f (aluSar a k)).getLsbD 2 = a.getLsbD (k - 1)) ∧
    (f (aluMul a b)).getLsbD 2 = x.flags.getLsbD 2 ∧ (f (aluMul a b)).getLsbD 3 = !fits (a.toInt * b.toInt) ∧
    (b ≠ 0 → (f (aluDiv a b)).getLsbD 2 = false ∧
      (f (aluDiv a b)).getLsbD 3 = decide (a = 0x80000000#32 ∧ b = 0xFFFFFFFF#32)) ∧
    (∀ r ∈ [aluDivu a b, aluRemu a b], (f r).getLsbD 2 = false ∧ (f r).getLsbD 3 = false)

/-- R359: B tests the condition in COND on Z, N, C and V (bits 0 to 3 of FLAGS); COND 15 traps ILLEGAL_OP. -/
def Obligations.BranchConditions : Prop :=
  (∀ fl : Word,
    let z := fl.getLsbD 0
    let n := fl.getLsbD 1
    let cy := fl.getLsbD 2
    let v := fl.getLsbD 3
    (List.range 15).map (condHolds fl) =
      [z, !z, n != v, n == v, !z && (n == v), z || (n != v), !cy, cy, cy && !z, !cy || z, n, !n, v, !v, true]) ∧
  (∀ (d : Dev) (n : Fin 16), let w := (d.engine n).iword (d.engine n).pc
    d.atOp n 0x25 → (d.engine n).stopReq = false → rdOf w = 15 → Becomes (.engB n) d (d.engTrap n 0x01 w))

/-- The arithmetic instructions on two registers complete: RD takes the result and FLAGS its flags, the pc moves on, a pending load
writes its register, and nothing else of the device changes. -/
def Obligations.EngineArithmeticCompletes : Prop :=
  ∀ (d : Dev) (n : Fin 16),
    let x := d.engine n
    let w := x.iword x.pc
    let a := x.gr (raOf w)
    let b := x.gr (rbOf w)
    x.stopReq = false → bitsOf w 0 14 = 0 →
    (d.atOp n 0x02 → EngStep (.engAdd n) d n ((x.takes w (aluAdd a b false)).next none)) ∧
    (d.atOp n 0x03 → EngStep (.engSub n) d n ((x.takes w (aluSub a b)).next none)) ∧
    (d.atOp n 0x2F → EngStep (.engAddc n) d n ((x.takes w (aluAdd a b (x.flags.getLsbD 2))).next none)) ∧
    (d.atOp n 0x04 → EngStep (.engAnd n) d n ((x.takes w (aluBits (a &&& b))).next none)) ∧
    (d.atOp n 0x05 → EngStep (.engOr n) d n ((x.takes w (aluBits (a ||| b))).next none)) ∧
    (d.atOp n 0x06 → EngStep (.engXor n) d n ((x.takes w (aluBits (a ^^^ b))).next none)) ∧
    (d.atOp n 0x07 → EngStep (.engShl n) d n ((x.takes w (aluShl a (b.toNat % 32))).next none)) ∧
    (d.atOp n 0x08 → EngStep (.engShr n) d n ((x.takes w (aluShr a (b.toNat % 32))).next none)) ∧
    (d.atOp n 0x09 → EngStep (.engSar n) d n ((x.takes w (aluSar a (b.toNat % 32))).next none)) ∧
    (d.atOp n 0x0A → EngStep (.engMul n) d n ((x.takes w (aluMul a b)).next none)) ∧
    (d.atOp n 0x0B → EngStep (.engMulh n) d n ((x.takes w (aluMulh a b)).next none)) ∧
    (d.atOp n 0x0C → EngStep (.engMulhu n) d n ((x.takes w (aluMulhu a b)).next none)) ∧
    (d.atOp n 0x0D → b ≠ 0 → EngStep (.engDiv n) d n ((x.takes w (aluDiv a b)).next none)) ∧
    (d.atOp n 0x0E → b ≠ 0 → EngStep (.engDivu n) d n ((x.takes w (aluDivu a b)).next none)) ∧
    (d.atOp n 0x0F → b ≠ 0 → EngStep (.engRemu n) d n ((x.takes w (aluRemu a b)).next none)) ∧
    (d.atOp n 0x10 → rdOf w % 2 = 0 → rdOf w ≠ 0 → EngStep (.engMac n) d n ((x.accumulate (rdOf w) a b).next none)) ∧
    (d.atOp n 0x11 → rdOf w % 2 = 0 → rdOf w ≠ 0 → raOf w / 2 ≠ rdOf w / 2 → rbOf w / 2 ≠ rdOf w / 2 → raOf w ≠ rbOf w →
      a.toNat % 4 = 0 → b.toNat % 4 = 0 → a.toNat < 0x20000 → b.toNat < 0x20000 → d.injected 8 (some n.val) = false →
      EngStep (.engMacm n none) d n
        (((((x.accumulate (rdOf w) (BitVec.ofNat 32 (x.num a.toNat 4)) (BitVec.ofNat 32 (x.num b.toNat 4))).setG (raOf w)
          (a + 4)).setG (rbOf w) (b + 4))).next none))

/-- The instructions with an immediate complete: NOP, the arithmetic with an 18-bit immediate, LUI. -/
def Obligations.EngineImmediatesComplete : Prop :=
  ∀ (d : Dev) (n : Fin 16),
    let x := d.engine n
    let w := x.iword x.pc
    let a := x.gr (raOf w)
    x.stopReq = false →
    (d.atOp n 0x01 → bitsOf w 0 26 = 0 → EngStep (.engNop n) d n (x.next none)) ∧
    (d.atOp n 0x12 → EngStep (.engAddi n) d n ((x.takes w (aluAdd a (immS w) false)).next none)) ∧
    (d.atOp n 0x19 → rdOf w = 0 → EngStep (.engCmpi n) d n ((x.takes w (aluSub a (immS w))).next none)) ∧
    (d.atOp n 0x13 → EngStep (.engAndi n) d n ((x.takes w (aluBits (a &&& immU w))).next none)) ∧
    (d.atOp n 0x14 → EngStep (.engOri n) d n ((x.takes w (aluBits (a ||| immU w))).next none)) ∧
    (d.atOp n 0x15 → EngStep (.engXori n) d n ((x.takes w (aluBits (a ^^^ immU w))).next none)) ∧
    (bitsOf w 5 13 = 0 → d.atOp n 0x16 → EngStep (.engShli n) d n ((x.takes w (aluShl a (bitsOf w 0 5))).next none)) ∧
    (bitsOf w 5 13 = 0 → d.atOp n 0x17 → EngStep (.engShri n) d n ((x.takes w (aluShr a (bitsOf w 0 5))).next none)) ∧
    (bitsOf w 5 13 = 0 → d.atOp n 0x18 → EngStep (.engSari n) d n ((x.takes w (aluSar a (bitsOf w 0 5))).next none)) ∧
    (d.atOp n 0x1A → EngStep (.engLui n) d n ((x.setG (rdOf w) (BitVec.ofNat 32 (bitsOf w 0 22 * 2 ^ 10))).next none))

/-- Loads and stores of data memory complete. A load's register is written at the end of the next instruction; LWP and SWP add their
immediate to RA; a store writes its bytes, and every other byte of data memory stays. -/
def Obligations.EngineMemoryCompletes : Prop :=
  ∀ (d : Dev) (n : Fin 16),
    let x := d.engine n
    let w := x.iword x.pc
    let a := (x.gr (raOf w) + immS w).toNat
    let p := (x.gr (raOf w)).toNat
    let v := (x.gr (rdOf w)).toNat
    let up := x.setG (raOf w) (x.gr (raOf w) + immS w)
    let ld := fun val : Word => (some { rd := rdOf w, val := val, pc := x.pc, undo := none } : Option PendLoad)
    x.stopReq = false → d.injected 8 (some n.val) = false →
    (d.atOp n 0x1B → a % 4 = 0 → a < 0x20000 →
      EngStep (.engLw n false) d n (x.next (ld (BitVec.ofNat 32 (x.num a 4))))) ∧
    (d.atOp n 0x1C → a % 2 = 0 → a < 0x20000 →
      EngStep (.engLh n false) d n (x.next (ld (BitVec.ofInt 32 (toInt 16 (x.num a 2)))))) ∧
    (d.atOp n 0x1D → a % 2 = 0 → a < 0x20000 →
      EngStep (.engLhu n false) d n (x.next (ld (BitVec.ofNat 32 (x.num a 2))))) ∧
    (d.atOp n 0x1E → a < 0x20000 →
      EngStep (.engLb n false) d n (x.next (ld (BitVec.ofInt 32 (toInt 8 (x.num a 1)))))) ∧
    (d.atOp n 0x1F → a < 0x20000 → EngStep (.engLbu n false) d n (x.next (ld (BitVec.ofNat 32 (x.num a 1))))) ∧
    (d.atOp n 0x20 → rdOf w ≠ raOf w → p % 4 = 0 → p < 0x20000 →
      EngStep (.engLwp n false) d n
        (up.next (some { rd := rdOf w, val := BitVec.ofNat 32 (x.num p 4), pc := x.pc, undo := some (raOf w, x.gr (raOf w)) }))) ∧
    (d.atOp n 0x21 → a % 4 = 0 → a < 0x20000 → EngStep (.engSw n) d n ((x.putBytes a (leBytes 4 v)).next none)) ∧
    (d.atOp n 0x22 → a % 2 = 0 → a < 0x20000 → EngStep (.engSh n) d n ((x.putBytes a (leBytes 2 v)).next none)) ∧
    (d.atOp n 0x23 → a < 0x20000 → EngStep (.engSb n) d n ((x.putBytes a (leBytes 1 v)).next none)) ∧
    (d.atOp n 0x24 → p % 4 = 0 → p < 0x20000 → EngStep (.engSwp n) d n ((up.putBytes p (leBytes 4 v)).next none))

/-- Transfers and prefixes complete: B taken and not taken, CALL, JR, CALLR, RET, RETI, REP and REPI. -/
def Obligations.EngineTransfersComplete : Prop :=
  ∀ (d : Dev) (n : Fin 16),
    let x := d.engine n
    let w := x.iword x.pc
    let t := BitVec.ofNat 32 x.pc + offB w
    let r := x.gr (raOf w)
    x.stopReq = false →
    (d.atOp n 0x25 → rdOf w ≠ 15 → condHolds x.flags (rdOf w) = false → EngStep (.engB n) d n (x.next none)) ∧
    (d.atOp n 0x25 → rdOf w ≠ 15 → condHolds x.flags (rdOf w) = true → targetTrap t = none →
      EngStep (.engB n) d n (x.goes t.toNat)) ∧
    (d.atOp n 0x26 → rdOf w = 0 → d.pushTraps n = false → targetTrap t = none →
      Becomes (.engCall n) d ((d.pushRstk n (BitVec.ofNat 32 (x.pc + 4))).retireOp n none (some t.toNat))) ∧
    (d.atOp n 0x27 → rdOf w = 0 → bitsOf w 0 18 = 0 → targetTrap r = none → EngStep (.engJr n) d n (x.goes r.toNat)) ∧
    (d.atOp n 0x28 → rdOf w = 0 → bitsOf w 0 18 = 0 → d.pushTraps n = false → targetTrap r = none →
      Becomes (.engCallr n) d ((d.pushRstk n (BitVec.ofNat 32 (x.pc + 4))).retireOp n none (some r.toNat))) ∧
    (d.atOp n 0x29 → bitsOf w 0 26 = 0 → d.popTraps n = false → targetTrap x.rstkTop = none →
      EngStep (.engRet n) d n (x.rstkPop.goes x.rstkTop.toNat)) ∧
    (d.atOp n 0x2A → bitsOf w 0 26 = 0 → targetTrap x.epc = none → x.eflags.getLsbD 10 = false →
      EngStep (.engReti n) d n (({ x with flags := x.eflags &&& 0x70F#32 }).goes x.epc.toNat)) ∧
    (d.atOp n 0x2A → bitsOf w 0 26 = 0 → targetTrap x.epc = none → x.eflags.getLsbD 10 = true →
      (opOf (x.iword x.epc.toNat) = 0x2B ∨ opOf (x.iword x.epc.toNat) = 0x2C) →
      noRepeat (opOf (x.iword (x.epc.toNat + 4))) = false → x.erc ≠ 0 →
      EngStep (.engReti n) d n
        (({ x with flags := x.eflags &&& 0x70F#32,
                   rep := some { left := x.erc.toNat, intr := decide (opOf (x.iword x.epc.toNat) = 0x2C), pfx := x.epc.toNat,
                                 fresh := false } }).goes (x.epc.toNat + 4))) ∧
    (x.pc + 4 < 0x20000 → bitsOf w 0 26 = 0 → noRepeat (opOf (x.iword (x.pc + 4))) = false →
      opListed (opOf (x.iword (x.pc + 4))) = true →
      (x.rc = 0 → (d.atOp n 0x2B → EngStep (.engRep n) d n (x.goes (x.pc + 8))) ∧
        (d.atOp n 0x2C → EngStep (.engRepi n) d n (x.goes (x.pc + 8)))) ∧
      (x.rc ≠ 0 → (d.atOp n 0x2B →
          EngStep (.engRep n) d n
            (({ x with rep := some { left := x.rc.toNat, intr := false, pfx := x.pc, fresh := true } }).goes (x.pc + 4))) ∧
        (d.atOp n 0x2C →
          EngStep (.engRepi n) d n
            (({ x with rep := some { left := x.rc.toNat, intr := true, pfx := x.pc, fresh := true } }).goes (x.pc + 4)))))

/-- The system instructions complete: MFS, MTS, WAITMT reached and not reached, EMIT, SEND, RECV, LEAVE, TRAP, a group cancel. -/
def Obligations.EngineSystemCompletes : Prop :=
  ∀ (d : Dev) (n : Fin 16),
    let x := d.engine n
    let w := x.iword x.pc
    let k := bitsOf w 0 5
    let a := x.gr (raOf w)
    let b := x.gr (rbOf w)
    (d.atOp n 0x2D → raOf w = 0 → bitsOf w 5 13 = 0 → (k = 0x0C → d.popTraps n = false) →
      let r := d.readSpecial n k
      Becomes (.engMfs n) d ((r.2.setEngine n ((r.2.engine n).setG (rdOf w) r.1)).retireOp n none none)) ∧
    (d.atOp n 0x2E → rdOf w = 0 → bitsOf w 5 13 = 0 → specialRw k = true → (k = 0x0C → d.pushTraps n = false) →
      Becomes (.engMts n) d ((d.writeSpecial n k a).retireOp n none none)) ∧
    (d.atOp n 0x30 → rdOf w = 0 → bitsOf w 0 14 = 0 → a.toNat + b.toNat * 2 ^ 32 ≤ d.now →
      Becomes (.engWaitmt n) d ((d.setEngine n { x with flags := withFlags x.flags 4 4 }).retireOp n none none)) ∧
    (d.atOp n 0x30 → rdOf w = 0 → bitsOf w 0 14 = 0 → d.now < a.toNat + b.toNat * 2 ^ 32 →
      Becomes (.engWaitmt n) d (d.beginWait n (a.toNat + b.toNat * 2 ^ 32))) ∧
    (d.atOp n 0x31 → bitsOf w 0 18 = 0 → spanTrap a 8 24 = none → x.outst < 64 →
      let d' := ((((d.setEngine n { x with outst := x.outst + 1 }).count (R.ENG_EMIT_CNT n)).answer n w 0).takeBlock n
        a.toNat).retireOp n none none
      Becomes (.engEmit n) d d' ∧
        ((actOfEmit (BitVec.ofNat 192 (x.num a.toNat 24))).action = 0 → Becomes (.groupCancel n) d d')) ∧
    (∀ (tab : Option (Bool × BitVec 12)) (d' : Dev) (h : Nat), d.atOp n 0x32 → bitsOf w 0 14 = 0 → bitsOf b 20 12 = 0 →
      spanTrap a 4 (bitsOf b 0 16) = none → 14 ≤ bitsOf b 0 16 → bitsOf b 0 16 ≤ 1518 → d.domOn 7 = true →
      d.swSend (x.bytes a.toNat (bitsOf b 0 16)) (bitsOf b 16 3) (b.getLsbD 19) tab = (d', some h) →
      Becomes (.engSend n tab) d ((d'.answer n w (BitVec.ofNat 32 h)).retireOp n none none)) ∧
    (∀ f : SwFrame, d.atOp n 0x33 → bitsOf w 0 14 = 0 → spanTrap a 4 b.toNat = none → d.domOn 7 = true →
      d.swOldest (d.role n) = some f → f.data.length ≤ b.toNat →
      let d1 := d.swTake (d.role n) f
      Becomes (.engRecv n) d
        (((d1.setEngine n { (d1.engine n).putBytes a.toNat f.data with rxmt := BitVec.ofNat 64 f.mt }).answer n w
          (BitVec.ofNat 32 f.data.length)).retireOp n none none)) ∧
    (∀ d' : Dev, d.atOp n 0x34 → bitsOf w 0 14 = 0 → b ≠ 0 → bitsOf a 10 6 = 0 → bitsOf a 8 2 < 2 →
      d.decideLeave (d.engLeave n a (min 1000000 b.toNat)) = (none, d') →
      Becomes (.engLeave n) d
        ((d'.answer n w (BitVec.ofNat 32 ((d.pwr.nextBook + 1) % 2 ^ 31))).retireOp n none none)) ∧
    (d.atOp n 0x35 → bitsOf w 16 10 = 0 →
      Becomes (.engTrap n) d (d.engTrap n 0x20 (BitVec.ofNat 32 (bitsOf w 0 16))))

/-- A trap outside a handler, with no repeat in progress and no load pending (R327, R371): EPC takes the address of the instruction, ECAUSE
and EVAL the cause and the value, EFLAGS the flags with EREP 0, ERC 0; IE clears and INH sets; the pc takes TVEC; no general register and
no byte of the engine's memories changes, and no other engine. -/
def Obligations.TrapEntry : Prop :=
  ∀ (d : Dev) (n : Fin 16) (cause : Nat) (ev : Word),
    let x := d.engine n
    let d' := d.engTrap n cause ev
    let y := d'.engine n
    x.flags.getLsbD 9 = false → x.rep = none → x.ld = none → cause < 256 →
    y.epc = BitVec.ofNat 32 x.pc ∧ y.ecause.toNat = cause ∧ y.eval = ev ∧ y.erc = 0 ∧ y.eflags = x.flags &&& ~~~0x400#32 ∧
    y.flags = (x.flags &&& ~~~0x300#32) ||| 0x200#32 ∧ y.pc = x.tvec.toNat ∧ y.g = x.g ∧ y.dmem = x.dmem ∧ y.imem = x.imem ∧
    y.stk = x.stk ∧ y.rsd = x.rsd ∧ (∀ k, k ≠ n.val → d'.engine k = d.engine k) ∧ d'.fld (R.ENG_TRAP_CAUSE n) = cause ∧
    d'.flag (R.ENG_EVT_TRAP n) = true ∧ d'.engSt n = d.engSt n

/-- The traps of single instructions: a divisor of 0, an OP that may not be repeated after a prefix, a reserved field, a misaligned or
absent address, a misaligned or absent target. -/
def Obligations.InstructionTraps : Prop :=
  ∀ (d : Dev) (n : Fin 16),
    let x := d.engine n
    let w := x.iword x.pc
    let a := x.gr (raOf w) + immS w
    let r := x.gr (raOf w)
    (bitsOf w 0 14 = 0 → x.gr (rbOf w) = 0 →
      (d.atOp n 0x0D → Becomes (.engDiv n) d (d.engTrap n 0x08 0)) ∧ (d.atOp n 0x0E → Becomes (.engDivu n) d (d.engTrap n 0x08 0)) ∧
      (d.atOp n 0x0F → Becomes (.engRemu n) d (d.engTrap n 0x08 0))) ∧
    (bitsOf w 0 14 ≠ 0 →
      (d.atOp n 0x02 → Becomes (.engAdd n) d (d.engTrap n 0x01 w)) ∧ (d.atOp n 0x10 → Becomes (.engMac n) d (d.engTrap n 0x01 w)) ∧
      (d.atOp n 0x34 → Becomes (.engLeave n) d (d.engTrap n 0x01 w))) ∧
    (d.atOp n 0x1B → a.toNat % 4 ≠ 0 → Becomes (.engLw n false) d (d.engTrap n 0x03 a)) ∧
    (d.atOp n 0x21 → a.toNat % 4 ≠ 0 → Becomes (.engSw n) d (d.engTrap n 0x03 a)) ∧
    (d.atOp n 0x1C → a.toNat % 2 = 0 → 0x20000 ≤ a.toNat → Becomes (.engLh n false) d (d.engTrap n 0x04 a)) ∧
    (d.atOp n 0x23 → 0x20000 ≤ a.toNat → Becomes (.engSb n) d (d.engTrap n 0x04 a)) ∧
    (d.atOp n 0x27 → rdOf w = 0 → bitsOf w 0 18 = 0 → r.toNat % 4 ≠ 0 → Becomes (.engJr n) d (d.engTrap n 0x03 r)) ∧
    (d.atOp n 0x27 → rdOf w = 0 → bitsOf w 0 18 = 0 → r.toNat % 4 = 0 → 0x20000 ≤ r.toNat →
      Becomes (.engJr n) d (d.engTrap n 0x05 r)) ∧
    (bitsOf w 0 26 = 0 → x.pc + 4 < 0x20000 → noRepeat (opOf (x.iword (x.pc + 4))) = true →
      (d.atOp n 0x2B → Becomes (.engRep n) d (d.engTrap n 0x02 (x.iword (x.pc + 4)))) ∧
      (d.atOp n 0x2C → Becomes (.engRepi n) d (d.engTrap n 0x02 (x.iword (x.pc + 4)))))

/-- What acts on an engine from outside completes: START, STOP, the mailbox, image loads, the swap, the clusters' switches, the end of a
wait, an interrupt, a refetched line. -/
def Obligations.EngineControlCompletes : Prop :=
  (∀ (d : Dev) (n : Fin 16) (v : Word), d.domOn (engDom n) = true → v &&& 3#32 = 1#32 → d.engSt n = 0 →
    d.flag (R.ENG_STAT_IMG_VALID n) = true →
    ∃ d', Becomes (.engStart n v) d d' ∧ d'.engSt n = 1 ∧ (d'.engine n).pc = 4 * d.fld (R.ENG_ENTRY_ADDR n) ∧
      (∀ r, (d'.engine n).gr r = 0) ∧ (d'.engine n).flags = 0 ∧ (d'.engine n).rsd = 0 ∧ (d'.engine n).rc = 0 ∧
      (d'.engine n).tcmp = 0xFFFFFFFFFFFFFFFF ∧ (d'.engine n).imem = (d.engine n).imem ∧ (d'.engine n).dmem = (d.engine n).dmem ∧
      (∀ k, k ≠ n.val → d'.engine k = d.engine k) ∧ RegsBut [R.ENG_CTRL n, R.ENG_STAT n] d d' ∧ d'.mem = d.mem) ∧
  (∀ (d : Dev) (n : Fin 16) (v : Word), d.domOn (engDom n) = true → v &&& 3#32 = 2#32 → d.engSt n = 2 →
    ∃ d', Becomes (.engStop n v) d d' ∧ d'.engSt n = 0 ∧ d'.fld (R.ENG_STAT_STOP_WHY n) = 1 ∧ (d'.engine n).wait = none ∧
      (∀ k, k ≠ n.val → d'.engine k = d.engine k) ∧ RegsBut [R.ENG_CTRL n, R.ENG_STAT n, R.ENG_TRAP n] d d' ∧ d'.mem = d.mem) ∧
  (∀ (d : Dev) (n : Fin 16) (v : Word), d.domOn (engDom n) = true →
    ∃ d', Becomes (.mbinWrite n v) d d' ∧ d'.reg (R.ENG_MBIN n) = v ∧ (d'.engine n).mbox = true ∧ RegsBut [R.ENG_MBIN n] d d' ∧
      d'.mem = d.mem) ∧
  (∀ (d : Dev) (a : AccDesc), (d.nextDesc fun w => descType w == 0x60) = some a → imgDescBad a.word d.now = none →
    d.domOn (engDom (byteOf a.word 12)) = true → bitsOf a.word 12 2 ≠ 2 → d.engSt (byteOf a.word 12) = 0 →
    Becomes .engineImageLoad d
      ((d.takeDesc a).beginLoad (byteOf a.word 12)
        { ref := some a.ref, mode := bitsOf a.word 12 2, flash := a.word.getLsbD 14, cancelOld := a.word.getLsbD 15,
          addr := descField a.word 4 8, old := byteOf a.word 13, gen := descField a.word 14 2, swapMt := descField a.word 16 8 })) ∧
  (∀ (d : Dev) (nv : Nv) (q : List Instr) (n : Fin 16) (ld : ImgLoad) (l : List (BitVec 8)), (d.engine n).load = some ld →
    d.engSt n = 3 → d.wakeLoadsFirst n = false → 64 ≤ (loadBytes nv ld l).length →
    (loadBytes nv ld l).length = imgLength (loadBytes nv ld l) → (ld.flash = true ∨ d.canMaster = true) →
    exec (.imageLoadEnd n (some l)) ⟨d, nv, q⟩ = .next ⟨d.endLoad nv n ld (loadBytes nv ld l), nv, q⟩) ∧
  (∀ (d : Dev) (n : Fin 16) (ld : ImgLoad), (d.engine n).load = some ld → d.engSt n = 4 → ld.swapMt ≤ d.now →
    (d.engSt ld.old = 0 ∨ d.engSt ld.old = 2 ∨ (d.engSt ld.old = 1 ∧ d.mayStop ld.old = true)) →
    Becomes (.engineSwap n) d (d.engSwap n ld)) ∧
  (∀ (d d' : Dev) (k : Fin 2) (v : Word), d.domOn 2 = true → v &&& 3#32 = 2#32 →
    d.pwr.on.getLsbD (4 + k) = false → d.pwr.park = .run →
    d.decideLeave { bank := none, amount := 0, mw := 1300, start := d.now, us := 1000, safety := false, req := 4, owner := k } =
      (none, d') →
    Becomes (.clusterOn k v) d ((if d'.pwr.on.getLsbD 3 then d' else d'.switchOn 3).switchOn (4 + k))) ∧
  (∀ (d : Dev) (k : Fin 2) (v : Word), d.domOn 2 = true → v &&& 3#32 = 1#32 →
    d.pwr.on.getLsbD (4 + k) = true → (∀ n ∈ clusterEngines k, d.engSt n = 0) → d.domBusy (4 + k) = false →
    Becomes (.clusterOff k v) d (d.switchOff (4 + k))) ∧
  (∀ (d : Dev) (n : Fin 16) (t : Nat), (d.engine n).wait = some t → d.engSt n = 2 → t ≤ d.now → t ≠ 2 ^ 64 - 1 →
    Becomes (.waitmtExpiry n) d
      ((d.setEngine n { d.engine n with wait := none, flags := withFlags (d.engine n).flags 4 0, pc := (d.engine n).pc + 4
                                        }).setEngSt n 1)) ∧
  (∀ (d : Dev) (n : Fin 16) (k : Nat), d.domOn (engDom n) = true → (d.engSt n = 1 ∨ d.engSt n = 2) → d.irqOpen n = true →
    d.irq n = some k → Becomes (.interrupt n) d (d.takeIrq n k)) ∧
  (∀ (d : Dev) (n : Fin 16) (l : BitVec 256), d.domOn (engDom n) = true → d.engSt n = 1 → (d.engine n).pc < 0x20000 →
    d.injected 7 (some n.val) = false → d.injectedTwice 7 (some n.val) = false → (d.engine n).fromFlash = false → d.canMaster = true →
    ∃ d1, d1 = (d.count (R.ENG_REFETCH_CNT n)).engEvent n (R.ENG_EVT_REFETCH n) ∧
      Becomes (.lineRefetch n .ok l) d
        (d1.setEngine n ((d1.engine n).putLine ((d.engine n).pc / 32 * 32) l)))

/-! ### Frame switch and hive (13) -/

/-- What brings frames into the switch and out of it completes: the head and the tail of a received frame, the departures of the ports,
of the host's and the engines' queues and of a CAN queue, descriptors that transmit, post buffers, update tables and set barriers. -/
def Obligations.SwitchTrafficCompletes : Prop :=
  (∀ (d : Dev) (p : Fin 8) (t : BitVec 64) (l : List (BitVec 8)) (tab : Option (Bool × BitVec 12)), d.ethUp p = true →
    d.flag R.SW_CTRL_EN = true → (d.swPort p).rx = none → l.length = 60 →
    Becomes (.frameIngress p (.head t l tab)) d (d.ingressHead p t.toNat l tab)) ∧
  (∀ (d : Dev) (p : Fin 8) (l : List (BitVec 8)) (ok : Bool), d.ethUp p = true → d.flag R.SW_CTRL_EN = true →
    Becomes (.frameIngress p (.tail l ok)) d (d.ingressTail p l ok)) ∧
  (∀ (d : Dev) (p : Fin 32) (q : Nat) (e : SwElem) (f : SwFrame), d.domOn 7 = true → p.val < 8 → d.portFree p = true →
    d.serveQueue p = some (q, e, f) → d.injected 10 (some p.val) = false → e.mark = false →
    ∃ d' : Dev, Becomes (.frameEgress p false false) d (d'.stampEgress p f) ∧ d'.regs = d.regs ∧ d'.mem = d.mem ∧
      (∃ t, (d'.swPort p).tx = some t ∧ t.fid = f.id ∧ t.start = d.now)) ∧
  (∀ (d : Dev) (p : Fin 32) (det : Bool), d.domOn 7 = true →
    (p.val < 8 → Becomes (.frameEgress p true det) d (d.endEgress p det)) ∧
    (p.val = 8 → Becomes (.frameEgress p false det) d (d.hostEgress det)) ∧
    (p.val = 9 → Becomes (.frameEgress p false det) d (d.engineEgress det))) ∧
  (∀ (d : Dev) (a : AccDesc) (data : List (BitVec 8)) (tab : Option (Bool × BitVec 12)),
    (d.nextDesc fun w => descType w == 0x20) = some a → txBad a.word = none → d.canMaster = true →
    data.length = descField a.word 12 2 → Becomes (.frameTransmit data tab) d ((d.takeDesc a).transmit a data tab)) ∧
  (∀ (d : Dev) (a : AccDesc), (d.nextDesc fun w => descType w == 0x21) = some a → rxBad a.word = none →
    (d.sw.bufs.filter fun b => b.queue == bitsOf a.word 112 3).length < 1024 →
    Becomes .frameReceiveBuffer d
      { d.takeDesc a with sw := { d.sw with bufs := d.sw.bufs ++
          [{ ref := a.ref, addr := descField a.word 4 8, len := descField a.word 12 2, queue := bitsOf a.word 112 3 }] } }) ∧
  (∀ (d : Dev) (a : AccDesc) (recs : List (BitVec 256)), (d.nextDesc fun w => descType w == 0x40) = some a →
    d.tableBad a.word = none → d.canMaster = true → recs.length = descField a.word 12 2 →
    Becomes (.tableUpdate recs) d ((d.takeDesc a).updateTable a recs)) ∧
  (∀ (d : Dev) (a : AccDesc), (d.nextDesc fun w => descType w == 0x41) = some a →
    Becomes .drainBarrier d ((d.takeDesc a).drain a)) ∧
  (∀ (d : Dev) (b : SwBarrier), (d.sw.barriers.find? fun b => b.met.isSome) = some b →
    Becomes .barrierMet d
      (({ d with sw := { d.sw with barriers := d.sw.barriers.erase b } }).complete b.ref St.ok (b.met.getD 0 % 2 ^ 32) 0x0B))

/-- The other commands of the switch complete: gates and gate lists, ages, held frames, the gleaner, links, MDIO, time stamps. -/
def Obligations.SwitchCommandsComplete : Prop :=
  (∀ (d : Dev) (p : Fin 8), d.domOn 7 = true →
    Becomes (.gateEvent p) d (d.setSwPort p { d.swPort p with gates := d.gateMask p d.now })) ∧
  (∀ (d : Dev) (p : Fin 8) (v : Word), d.domOn 7 = true → (d.swPort p).swap = none → v.getLsbD 1 = true →
    ∃ d' t, Becomes (.gclSwap p v) d d' ∧ (d'.swPort p).swap = some t ∧ d'.flag (R.SW_P_STAT_SWAP_PEND p) = true ∧
      d'.flag (R.SW_P_GCL_CTRL_GCL_EN p) = v.getLsbD 0 ∧ d'.fld (R.SW_P_GCL_CTRL_LEN p) = (R.SW_P_GCL_CTRL_LEN p).ext v ∧
      RegsBut [R.SW_P_GCL_CTRL p, R.SW_P_STAT p] d d' ∧ d'.mem = d.mem) ∧
  (∀ (d : Dev) (p : Fin 8) (t : Nat), (d.swPort p).swap = some t → t ≤ d.now →
    ∃ d', Becomes (.gclSwapStart p) d d' ∧ (d'.swPort p).swap = none ∧ (d'.swPort p).len = d.fld (R.SW_P_GCL_CTRL_LEN p) ∧
      (d'.swPort p).base = d.reg64 (R.SW_P_GCL_BASE_LO p) (R.SW_P_GCL_BASE_HI p) ∧
      d'.flag (R.SW_P_STAT_GCL_ACTIVE p) = true ∧ d'.flag (R.SW_P_STAT_SWAP_PEND p) = false ∧
      d'.flag (R.SW_P_EVT_GCL_SWAPPED p) = true ∧ RegsBut [R.SW_P_STAT p, R.SW_P_EVT p] d d' ∧ d'.mem = d.mem) ∧
  (∀ (d : Dev) (p : Fin 32) (q : Fin 16) (e : SwElem) (l : List SwElem), d.swQueue p q = e :: l →
    e.since + msTicks (max 1 (d.fld R.SW_AGE_AGE_MS)) < d.now → d.canSends (p.val - 16) e.fid = false →
    Becomes (.ageOut p q) d (d.dropAged p q)) ∧
  (∀ (d : Dev) (h : BitVec 17) (x : SwHeld), (d.sw.held.find? fun x => x.handle == h.toNat) = some x →
    d.handleCommitted x.handle = false → x.since + max 1 (d.fld R.SW_HOLD_TO_HOLD_TO) * secTicks ≤ d.now →
    Becomes (.holdExpiry h) d (((d.freeHeld x.handle).count R.SW_HOLD_EXP_CNT).swEvent R.SW_EVT_HOLD_EXPIRED)) ∧
  (∀ (d : Dev) (v : Word), d.domOn 7 = true → v.getLsbD 31 = true → d.handleCommitted (v.toNat % 2 ^ 17) = false →
    Becomes (.holdFree v) d (d.freeHeld (v.toNat % 2 ^ 17))) ∧
  (∀ d : Dev, d.domOn 7 = true → d.flag R.SW_CTRL_GLEAN_EN = true →
    d.sw.gleanAt + msTicks (max 10 (min 10000 (d.fld R.SW_GLEAN_CFG_AUDIT_MS))) ≤ d.now →
    Becomes (.gleanerPass [] []) d
      (({ d with sw := { d.sw with gleanAt := d.now, marks := [] } }).count R.SW_GLEAN_PASS_CNT)) ∧
  (∀ (d : Dev) (p : Fin 8), d.domOn 7 = true → d.flag (R.SW_P_STAT_LINK p) = true → Becomes (.ethLinkDown p) d (d.ethDown p)) ∧
  (∀ (d : Dev) (p : Fin 8) (sp : Fin 4), d.domOn 7 = true → d.domOn 8 = true → d.flag (R.SW_P_STAT_LINK p) = false →
    d.speedOk p sp = true →
    Becomes (.ethLinkUp p sp) d
      ((((d.setFlag (R.SW_P_STAT_LINK p) true).setFld (R.SW_P_STAT_SPEED_NOW p) sp).setFlag (R.SW_P_EVT_LINK_UP p) true).swEvent
        R.SW_EVT_LINK_CHG)) ∧
  (∀ (d : Dev) (v : Word), d.domOn 7 = true → d.flag R.SW_MDIO_CMD_BUSY = false → v.getLsbD 31 = true →
    ∃ d', Becomes (.mdioGo v) d d' ∧ d'.flag R.SW_MDIO_CMD_BUSY = true ∧ RegsBut [R.SW_MDIO_CMD] d d' ∧
      d' = { d with regs := d'.regs }) ∧
  (∀ (d : Dev) (data : BitVec 16), d.flag R.SW_MDIO_CMD_BUSY = true → 2 ≤ d.fld R.SW_MDIO_CMD_OP →
    ∃ d', Becomes (.mdioDone data) d d' ∧ d'.flag R.SW_MDIO_CMD_BUSY = false ∧ d'.fld R.SW_MDIO_DATA_DATA = data.toNat ∧
      RegsBut [R.SW_MDIO_CMD, R.SW_MDIO_DATA] d d' ∧ d' = { d with regs := d'.regs }) ∧
  (∀ (d : Dev) (p : Fin 8) (v : Word), d.domOn 7 = true → v.getLsbD 0 = true →
    Becomes (.tsPop p v) d (d.setSwPort p { d.swPort p with ts := (d.swPort p).ts.tail }))

/-! ### CAN controllers (14) -/

/-- The commands of the CAN controllers complete: a mode is asked for and taken, a frame received, requests made and withdrawn, a frame
begun, sent, lost to arbitration or in error, bus-off left, the FIFOs popped, the bus joined. -/
def Obligations.CanCommandsComplete : Prop :=
  (∀ (d : Dev) (n : Fin 16) (v : Word) (rx : Bool), d.domOn 9 = true → Becomes (.canModeWrite n v rx) d (d.writeCanCtrl n v rx)) ∧
  (∀ (d : Dev) (n : Fin 16) (m : Nat), (d.canc n).modePend = some m → (d.canc n).att = none →
    Becomes (.modeDone n) d (d.applyMode n m)) ∧
  (∀ (d : Dev) (n : Fin 16) (f : CanFrame) (t : BitVec 64) (det : CanDet) (tab : Option (Bool × BitVec 12)),
    (d.canMode n = 1 ∨ d.canMode n = 2) → d.flag (R.CAN_STAT_SYNCED n) = true → (d.canc n).att = none →
    (d.setFlag (R.CAN_STAT_RX_ACTIVE n) false).fld (R.CAN_ERRCNT_REC n) ≤ 127 →
    ∃ d1, d1 = (d.setFlag (R.CAN_STAT_RX_ACTIVE n) false) ∧
      Becomes (.canFrameReceive n (.frame f t det tab)) d
        (((d1.updateErr n (d1.fld (R.CAN_ERRCNT_TEC n)) (d1.fld (R.CAN_ERRCNT_REC n) - 1)).storeCan n f t.toNat det tab).pairRef n
          f t.toNat)) ∧
  (∀ (d : Dev) (n : Fin 16) (hi : Bool) (v : Word), d.domOn 9 = true →
    Becomes (.txreq n hi v false) d (d.writeTxreq n hi v false) ∧ Becomes (.txcxl n hi v) d (d.writeTxcxl n hi v)) ∧
  (∀ (d : Dev) (n : Fin 16) (t : BitVec 64) (p : CanPend), d.canMode n = 1 → d.flag (R.CAN_STAT_SYNCED n) = true →
    d.busOff n = false → (d.canc n).att = none → (d.canc n).modePend = none → d.canWinner n = some p →
    Becomes (.canSof n t) d
      ((d.setCanc n { d.canc n with att := some (p, t.toNat, false) }).setFlag (R.CAN_STAT_TX_ACTIVE n) true)) ∧
  (∀ (d : Dev) (n : Fin 16) (p : CanPend) (t m : Nat) (b : Bool), (d.canc n).att = some (p, t, b) → p.src = .req m → m < 64 →
    d.canMode n = 1 →
    ∃ d' : Dev, Becomes (.canTxDone n 0) d (d'.clearReq n m) ∧ d'.reg (mbOff n m 3) = BitVec.ofNat 32 t ∧ d'.mt = d.mt ∧
      (d'.canc n).att = none) ∧
  (∀ (d : Dev) (n : Fin 16), (d.canc n).att.isSome = true →
    Becomes (.arbitrationLoss n) d ((d.setFlag (R.CAN_STAT_RX_ACTIVE n) true).endAttempt n)) ∧
  (∀ (d : Dev) (n : Fin 16) (err : CanErr), d.canMode n ≠ 0 → d.busOff n = false → d.domOn 9 = true → err.exempt = true →
    (d.canc n).att = none → err.fdPhase = false →
    Becomes (.canError n err) d
      ((((((d.setFld (R.CAN_LEC_LEC n) err.code).setReg (R.CAN_ERR_MT n) (BitVec.ofNat 32 d.now)).count
        (R.CAN_ERRFRM_CNT n)).setFlag (R.CAN_STAT_RX_ACTIVE n) false)).attemptError n)) ∧
  (∀ (d : Dev) (n : Fin 16) (t : Nat), (d.canc n).recover = some t → d.busOff n = true → t + 1408 * d.bitTicks n ≤ d.now →
    ∃ d' : Dev, Becomes (.busOffRecovery n) d (d'.canEvent n (R.CAN_EVT_BUS_ON n)) ∧ d'.fld (R.CAN_ERRCNT_TEC n) = 0 ∧
      d'.fld (R.CAN_ERRCNT_REC n) = 0 ∧ d'.fld (R.CAN_STAT_ERR_STATE n) = 0 ∧ (d'.canc n).recover = none ∧
      RegsBut [R.CAN_ERRCNT n, R.CAN_STAT n] d d' ∧ d'.mem = d.mem) ∧
  (∀ (d : Dev) (n : Fin 16) (k : Fin 2) (v : Word), d.domOn 9 = true → v.getLsbD 0 = true →
    Becomes (.fifoPop n k v) d (d.setCanFifo n k (d.canFifo n k).tail)) ∧
  (∀ (d : Dev) (n : Fin 16), (d.canMode n = 1 ∨ d.canMode n = 2) → d.flag (R.CAN_STAT_SYNCED n) = false → d.busOff n = false →
    (d.canc n).integAt + 11 * d.bitTicks n ≤ d.now →
    Becomes (.busIntegration n) d (d.setFlag (R.CAN_STAT_SYNCED n) true))

/-! ### Lighting (15) -/

/-- The commands of the lighting unit complete: SEAL, UNSEAL, the frame descriptor, the word port, EN, TRIP_CLR, the ends of shifts,
page steps, automatic flips, LSYNC. -/
def Obligations.LightingCommandsComplete : Prop :=
  (∀ (d : Dev) (v : Word), d.domOn 9 = true →
    (v &&& 3#32 = 1#32 → Becomes (.ltSeal v) d d.doSeal) ∧ (v &&& 3#32 = 2#32 → Becomes (.ltUnseal v) d d.doUnseal)) ∧
  (∀ (d : Dev) (a : AccDesc) (data : List (BitVec 8)), (d.nextDesc fun w => descType w == 0x80) = some a →
    d.canMaster = true → data.length = descField a.word 16 4 →
    Becomes (.lightingFrame data) d ((d.takeDesc a).lightingFrame a data)) ∧
  (∀ (d : Dev) (v : Word), d.domOn 9 = true → d.flag R.LT_WADDR_FRONT = false → d.flag R.LT_STAT_SEALED = false →
    Becomes (.ltWdataWrite v) d
      ((d.setLt { d.lt with back := sparsePut (fun _ => 0) d.lt.back (d.fld R.LT_WADDR_ADDR) v }).setFld R.LT_WADDR_ADDR
        (d.fld R.LT_WADDR_ADDR + 1))) ∧
  (∀ (d : Dev) (mk : BitVec 16) (o s : List (Fin 1536)) (dets : List (Fin 32)) (k : LtKind) (t fin : Nat),
    d.lt.shift = some (k, t, fin) → fin ≤ d.now →
    Becomes (.shiftEnd mk o s dets) d (d.syncGrid.endShift k fin mk (o.map (·.val)) (s.map (·.val)) (dets.map (·.val)))) ∧
  (∀ (d : Dev) (p : Nat), let e := d.syncGrid
    let t := max (e.periodStart (e.lt.pageAt + max 1 e.lt.per)) (e.firstStart e.lt.loadAt)
    e.flag R.LT_CTRL_EN = true → e.lt.grid.isSome = true → e.lt.loaded = some (.page p) → e.flag R.LT_STAT_SUSPENDED = false →
    t ≤ e.now →
    ∃ d1 : Dev, Becomes .pageStep d (d1.nextShift t) ∧ d1.lt.steps = e.latchChain.lt.steps + 1 ∧
      d1.lt.pageAt = ((e.latchChain.setFld R.LT_STAT_PAGE p).count R.LT_STEP_CNT).periodCount t) ∧
  (∀ d : Dev, let e := d.syncGrid
    e.flag R.LT_CTRL_EN = true → e.flag R.LT_CTRL_FLIP_MODE = true → e.backReady = true →
    e.firstStart (e.reg64 R.LT_READY_LO R.LT_READY_HI + 400) ≤ e.now →
    Becomes .autoFlip d (e.flip (e.firstStart (e.reg64 R.LT_READY_LO R.LT_READY_HI + 400)))) ∧
  (∀ (d : Dev) (t : BitVec 64) (up : Bool), d.domOn 9 = true → Becomes (.lsyncEdge t up) d (d.syncGrid.lsyncEdge t.toNat up)) ∧
  (∀ (d : Dev) (v : Word), d.domOn 9 = true → d.flag R.LT_CTRL_EN = false → v.getLsbD 0 = true →
    ∃ d1, d1 = d.writeByCode R.LT_CTRL v ∧ Becomes (.ltEnable v) d (d1.startShift .zero d.now)) ∧
  (∀ (d : Dev) (f : Fin 32) (v : Word), d.domOn 9 = true → v.getLsbD 2 = true →
    Becomes (.tripClr f v) d ((d.writeByCode (R.LT_FN_CFG f) v).setFlag (R.LT_FN_STAT_TRIPPED f) false))

/-! ### Power and Fallow (16) -/

/-- The commands of the power block complete: Fallow entry from PARK to the switch-off, wakes, the domains' switches, a restart of the
supplies, cold start, the losses of VAON and VBAT, clock and temperature faults, the end of a booking. -/
def Obligations.PowerCommandsComplete : Prop :=
  (∀ (d : Dev) (v : Word), d.domOn (domOf R.PWR_CMD) = true → v.getLsbD 0 = true → d.pwr.park = .run →
    Becomes (.parkWrite v) d (d.writePark v)) ∧
  (∀ d : Dev, d.pwr.park = .closing → (∀ e ∈ d.sch.ents, e.uncommitted = true) → Becomes .fallowCloseOut d d.closeEntry) ∧
  (∀ d : Dev, d.pwr.park = .closed → d.pwr.mtRec = true → (∀ e ∈ d.sch.ents, e.uncommitted = true) →
    Becomes .fallowPowerDown d
      (let e := d.dropAll.setFlag R.PWR_STAT_PARKING false
       { e with pwr := { e.pwr with park := .fallow, mainEn := false, strobe := 0 } })) ∧
  (∀ (d e : Dev) (src : Fin 9) (rtc : BitVec 48) (pins : BitVec 2), d.pwr.vaon = true →
    (d.wakeActs src rtc.toNat pins = (true, e) → Becomes (.wake src ⟨rtc, pins⟩) d (e.wakeBy src 0 rtc.toNat)) ∧
    (∀ k i : Nat, d.wakeActs src rtc.toNat pins = (false, e) → e.pwr.park = .fallow → e.pwr.wakePend = some (k, i) →
      Becomes (.wake src ⟨rtc, pins⟩) d (e.beginWake k i rtc.toNat))) ∧
  (∀ (d e : Dev) (lv : BitVec 16) (rtc : BitVec 48), d.pwr.vaon = true → d.pwr.park = .fallow → d.strobeDue rtc.toNat = true →
    (d.landSample 1 rtc.toNat true).2 = e →
    let act := BitVec.ofNat 16 (e.fld R.PWR_WAKE_EN_WK_IN) &&& ~~~(lv ^^^ BitVec.ofNat 16 (e.fld R.PWR_WAKE_LVL_LVL))
    let e' := { e with pwr := { e.pwr with strobe := act } }
    (act &&& e.pwr.strobe = 0 → Becomes (.wakeStrobe lv rtc) d e') ∧
    (∀ w : Nat, ((List.range 16).find? (act &&& e.pwr.strobe).getLsbD) = some w →
      Becomes (.wakeStrobe lv rtc) d (e'.wakeBy 1 w rtc.toNat))) ∧
  (∀ (d e : Dev) (n : Fin 4) (rtc : BitVec 48) (dom act : Bool), d.pwr.vaon = true → d.pwr.park ≠ .run →
    d.landSample (16 + n) rtc.toNat (dom && (d.reg R.PWR_WAKE_EN).getLsbD (16 + n)) = (act, e) →
    Becomes (.canWake ⟨n, dom⟩ rtc) d (if act then e.wakeBy 2 n rtc.toNat else e)) ∧
  (∀ (d : Dev) (v : Word), d.domOn (domOf R.PWR_DOM_CTRL) = true →
    (∀ k ∈ switchable, v.getLsbD (16 + k) = false) →
    Becomes (.domainOn v) d (d.forAll switchable fun k d => if v.getLsbD k then d.askOn k else d)) ∧
  (∀ (d : Dev) (v : Word), d.domOn (domOf R.PWR_DOM_CTRL) = true → (∀ k ∈ switchable, v.getLsbD k = false) →
    Becomes (.domainOffRequest v) d (d.forAll switchable fun k d => if v.getLsbD (16 + k) then d.askOff k else d)) ∧
  (∀ (d : Dev) (k : Fin 14), d.mayPowerOff k = true →
    Becomes (.domainSwitchOff k) d
      (let e := ((d.closeOut k).switchOff k).setFlag (domPend k) false
       if switchable.contains k.val then e.pwrEvent R.PWR_EVT_DOM_DONE else e)) ∧
  (∀ (d : Dev) (nv : Nv) (q : List Instr) (k : Fin 14) (us : Word), d.pwr.on.getLsbD k = true → d.pwr.good.getLsbD k = false →
    d.domReady k = true → d.refSettled k us.toNat = true → exec (.powerGood ⟨k, us⟩) ⟨d, nv, q⟩ = .next ⟨d.domGood nv k, nv, q⟩) ∧
  (∀ d : Dev, d.pwr.vaon = true → d.pwr.mainEn = true →
    ∃ (e : Dev) (rtc : Nat), Becomes .supplyRestart d (e.beginWake 8 0 rtc) ∧ e.pwr.supply = true ∧
      e.regs = (d.dropAll.pwrEvent R.PWR_EVT_SUPPLY).regs) ∧
  (∀ (d : Dev) (rtc : BitVec 48), d.pwr.vaon = true → d.pwr.park = .fallow → d.pwr.wakePend = some (7, 0) →
    Becomes (.coldStart rtc) d (d.beginWake 7 0 rtc.toNat)) ∧
  (∀ d : Dev, d.pwr.pll = true → Becomes .pllLockLoss d ((d.pwrEvent R.PWR_EVT_CLK).raiseFault Src.pwrClk 0)) ∧
  (∀ d : Dev, (d.pwr.vaon || d.pwr.vbat) = true → Becomes .xtal32Start d { d with pwr := { d.pwr with xtal := true } }) ∧
  (∀ (d : Dev) (t : BitVec 16), d.domOn 2 = true →
    let e := (d.setFld R.PWR_TEMP_TEMP t.toNat).judgeHeat
    (e.hotLong = false → Becomes (.therm t) d e) ∧
    (e.hotLong = true → e.flt.lines.getLsbD Src.pwrTherm = false →
      Becomes (.therm t) d ((e.pwrEvent R.PWR_EVT_THERM).setLine Src.pwrTherm 0))) ∧
  (∀ (d : Dev) (id : Word) (k : Booking), (d.pwr.books.find? fun k => decide (k.id = id.toNat ∧ k.fin ≤ d.now)) = some k →
    d.gn.burst.map Prod.fst ≠ some k.id → (∀ c, c < 128 → (d.ctx c).booking ≠ some k.id) →
    Becomes (.bookingEnd id) d (d.endBooking k.id)) ∧
  (∀ d : Dev, d.pwr.vaon = true → Becomes .vaonLoss d (if d.losePd1.pwr.vbat then d.losePd1 else d.losePd1.losePd0)) ∧
  (∀ d : Dev, Becomes .vbatLoss d
    (let e := { d with pwr := { d.pwr with vbat := false } }
     if d.pwr.vaon then e else e.losePd0))

/-- A granted request makes one booking, fits the module's budget and its bank's over the bookings that overlap it, and finds a slot free;
but for the two counters no register changes. -/
def Obligations.GrantsFitTheBudget : Prop :=
  ∀ (d d' : Dev) (r : LeaveReq), d.decideLeave r = (none, d') →
    d'.pwr.books = d.pwr.books ++ [{ id := d.pwr.nextBook, bank := r.bank, amount := r.amount, mw := r.mw, diss := r.diss,
                                     start := r.start, fin := r.fin, req := r.req, owner := r.owner }] ∧
    d.standMod + ((d.overlapping r).map fun k => k.mw + k.diss).sum + r.mw + r.diss ≤
      actLimit (d.reg R.PWR_LIM_MOD).toNat (regReset R.PWR_LIM_MOD).toNat r.safety ∧
    (∀ b, r.bank = some b →
      d.standBank b + (((d.overlapping r).filter fun k => k.bank == some b).map (·.amount)).sum + r.amount ≤
        actLimit (d.reg (R.PWR_BANK_LIM b)).toNat (regReset (R.PWR_BANK_LIM b)).toNat r.safety) ∧
    d.pwr.books.length < 1024 ∧ RegsBut [R.PWR_GRANT_CNT, R.PWR_RSV_USE_CNT] d d' ∧ d'.mem = d.mem

/-- A refused request books nothing, is counted and recorded with its code and requester, and sets DENY. -/
def Obligations.RefusalsAreRecorded : Prop :=
  ∀ (d d' : Dev) (r : LeaveReq) (code : Nat), d.decideLeave r = (some code, d') → r.req < 8 → (∀ b, r.bank = some b → b < 8) →
    d'.pwr.books = d.pwr.books ∧ d'.fld R.PWR_DENY_LAST_CODE = code ∧ d'.fld R.PWR_DENY_LAST_REQ = r.req ∧
    d'.flag R.PWR_DENY_LAST_VALID = true ∧ d'.flag R.PWR_EVT_DENY = true ∧
    (d'.reg R.PWR_DENY_CNT).toNat = min ((d.reg R.PWR_DENY_CNT).toNat + 1) (2 ^ 32 - 1)

/-! ### Faults (17) -/

/-- How the collector latches a source whose line is active and whose status bit is 0 (R475). With the handling window closed the bit sets,
the window opens, FLT_FIRST takes the source and the MT, the latch is counted. With the window open the bit stays 0, MISSED sets and the
event is counted, and FLT_FIRST stays, unless it was latched at the same MT for a higher index: sources of one sample are taken in
ascending index, so the status bit and FLT_FIRST are the lower index's. With IEN 0, and with MISSED set already, no vector is raised. -/
def Obligations.LatchRule : Prop :=
  ∀ (d : Dev) (i : Nat), i < 96 → d.flag (fltBit (R.FLT_STATUS 0) i) = false →
    let d' := d.latchFault i
    (d.flag R.FLT_STATE_WINDOW = false →
      d'.flag (fltBit (R.FLT_STATUS 0) i) = true ∧ d'.flag R.FLT_STATE_WINDOW = true ∧ d'.fld R.FLT_FIRST_SRC = i ∧
      d'.flag R.FLT_FIRST_VALID = true ∧ (d.now < 2 ^ 64 → d'.reg64 R.FLT_FIRST_MT_LO R.FLT_FIRST_MT_HI = d.now) ∧
      (d'.reg R.FLT_LATCH_CNT).toNat = min ((d.reg R.FLT_LATCH_CNT).toNat + 1) (2 ^ 32 - 1) ∧
      (∀ j, j < 96 → j ≠ i → d'.flag (fltBit (R.FLT_STATUS 0) j) = d.flag (fltBit (R.FLT_STATUS 0) j))) ∧
    (d.flag R.FLT_STATE_WINDOW = true →
      d'.flag R.FLT_STATE_MISSED = true ∧ d'.flag R.FLT_STATE_WINDOW = true ∧
      (d'.reg R.FLT_MISSED_CNT).toNat = min ((d.reg R.FLT_MISSED_CNT).toNat + 1) (2 ^ 32 - 1)) ∧
    (d.flag R.FLT_STATE_WINDOW = true → d.firstYields i = false → RegsBut [R.FLT_STATE, R.FLT_MISSED_CNT] d d') ∧
    (d.flag R.FLT_STATE_WINDOW = true → d.firstYields i = true →
      d'.fld R.FLT_FIRST_SRC = i ∧ d'.flag (fltBit (R.FLT_STATUS 0) i) = true ∧
      d'.flag (fltBit (R.FLT_STATUS 0) (d.fld R.FLT_FIRST_SRC)) = false ∧
      d'.reg64 R.FLT_FIRST_MT_LO R.FLT_FIRST_MT_HI = d.reg64 R.FLT_FIRST_MT_LO R.FLT_FIRST_MT_HI) ∧
    (d.flag R.FLT_CTRL_IEN = false ∨ (d.flag R.FLT_STATE_WINDOW = true ∧ d.flag R.FLT_STATE_MISSED = true) →
      d'.hl = d.hl ∧ d'.mem = d.mem)

/-- The commands of the fault block complete: lines rise, ACK, the status bits, the application sources, ERRN, LOCK, the stop inputs,
FORCE and the injection. -/
def Obligations.FaultCommandsComplete : Prop :=
  (∀ (d : Dev) (srcs : BitVec 96) (banks : BitVec 8), d.domOn 2 = true →
    Becomes (.faultLineRise srcs banks none) d
      (d.forAll ((List.range 96).filter fun i => srcs.getLsbD i) fun i d => d.raiseFault i banks.toNat)) ∧
  (∀ (d : Dev) (v : Word), d.domOn 2 = true → v.getLsbD 0 = true → d.flag R.FLT_STATE_WINDOW = true →
    ∃ e, e = d.setFlag R.FLT_STATE_WINDOW false ∧
      Becomes (.ack v) d (e.forAll ((List.range 96).filter fun i => e.lineActive i && decide (e.reaction i % 4 ≠ 0))
        fun i d => d.latchFault i)) ∧
  (∀ (d : Dev) (w : Fin 4) (v : Word), d.domOn 2 = true →
    Becomes (.statusClear w v) d
      (d.forAll ((List.range 32).filter fun k => v.getLsbD k) fun k d => d.clearStatus (32 * w + k))) ∧
  (∀ (d : Dev) (v : Word), d.domOn 2 = true → Becomes (.fltAppSet v) d (d.writeFltApp v) ∧
    Becomes (.fltAppClr v) d (d.writeFltAppClr v)) ∧
  (∀ (d : Dev) (t : Nat), d.flt.errnEnd = some t → t ≤ d.now →
    ∃ d', Becomes .errnWidthEnd d d' ∧ d'.flt = { d.flt with
        errnEnd := none, errnAt := if d.flag R.FLT_STATE_ERRN_LOW = !d.flag R.FLT_ERRN_CFG_SW_LEVEL then d.flt.errnAt else d.now } ∧ d'.flag R.FLT_STATE_ERRN_MIN = false ∧
      d'.flag R.FLT_STATE_ERRN_LOW = !d.flag R.FLT_ERRN_CFG_SW_LEVEL ∧ RegsBut [R.FLT_STATE] d d' ∧ d'.mem = d.mem) ∧
  (∀ (d : Dev) (since : BitVec 64), d.domOn 2 = true → let low := d.flag R.FLT_STATE_ERRN_LOW
    Becomes (.errnMismatch ⟨!low, since⟩) d (d.dropLine Src.errn) ∧
    (max since.toNat d.flt.errnAt + 4000 ≤ d.now → Becomes (.errnMismatch ⟨low, since⟩) d (d.setLine Src.errn 0))) ∧
  (∀ (d : Dev) (v : Word), d.domOn 2 = true → v.getLsbD 1 = true →
    Becomes (.lock v) d ((d.setFlag R.FLT_CTRL_IEN (v.getLsbD 0)).setFlag R.FLT_CTRL_LOCK true)) ∧
  (∀ (d : Dev) (v : Word), d.domOn 2 = true → Becomes (.stopRel v) d (d.writeStopCmd v)) ∧
  (∀ (d : Dev) (n : Fin 4) (v : Word), d.domOn 2 = true → d.flag (R.FLT_STOPn_CFG_EN n) = false → v.getLsbD 31 = true →
    Becomes (.stopEnable n v) d
      (({ d.setReg (R.FLT_STOPn_CFG n) (v &&& 0x8001FFFF#32) with
          flt := { (d.setReg (R.FLT_STOPn_CFG n) (v &&& 0x8001FFFF#32)).flt with
            stopAt := sparsePut (fun _ => 0) (d.setReg (R.FLT_STOPn_CFG n) (v &&& 0x8001FFFF#32)).flt.stopAt n d.now } } : Dev).setFlag
        ⟨R.FLT_STOP_STAT, n, 1⟩ false)) ∧
  (∀ (d : Dev) (w : Fin 4) (v : Word), d.domOn 2 = true → Becomes (.force w v) d (d.writeForce w v)) ∧
  (∀ (d : Dev) (nv : Nv) (q : List Instr) (v : Word), d.domOn 2 = true → nv.life = 0 →
    exec (.injArm v) ⟨d, nv, q⟩ = .next ⟨d.writeInjCfg nv v, nv, q⟩) ∧
  (∀ (d : Dev) (n : Fin 4) (t : BitVec 64) (m : Nat), d.stopSeen n t.toNat = true →
    m = max t.toNat (sparseGet (fun _ => 0) d.flt.stopAt n) →
    (d.flag ⟨R.FLT_STOP_STAT, n, 1⟩ = false →
      Becomes (.stopEntry n t) d
        (((d.stopCross n m true).setReg64 (R.FLT_STOP_MT_LO n) (R.FLT_STOP_MT_HI n) m).setStopLatch n)) ∧
    (d.flag ⟨R.FLT_STOP_STAT, n, 1⟩ = true → Becomes (.stopExit ⟨n, t⟩) d (d.stopCross n m false)))

/-! ### Keys, tamper, access (18) -/

/-- Every operation of the vault completes: at its turn, its checks passed, it has its effect. -/
def Obligations.VaultOperationsComplete : Prop :=
  ∀ (d e : Dev) (nv : Nv) (q : List Instr) (data : List (BitVec 8)) (det : Option Bool) (a : AccDesc),
    (∀ kind usage, VaultTurn d nv 0x01 data none a e → keyHeader data = some (kind, usage) → keyLen kind + 8 = data.length →
      let r := e.writeSlot nv (keySlot a.word) kind usage 0 none (data.drop 8) none
      exec (.writeClear data) ⟨d, nv, q⟩ = .next ⟨r.1.keyDone a St.ok 0, r.2, q⟩) ∧
    (∀ kind usage, VaultTurn d nv 0x02 data det a e → keyHeader data = some (kind, usage) → kind ≠ 4 →
      let r := fillSlot 1 data kind usage
        (kdfOf (e.parentKey (keySlot a.word)) ((data.drop 8).take 16) (data.drop 24) (keyLen kind)) a e nv
      exec (.derive data det) ⟨d, nv, q⟩ = .next ⟨r.1, r.2, q⟩) ∧
    (∀ p kind usage, VaultTurn d nv 0x03 data det a e → unwrapOf (e.slotKey (keySlot a.word)) data = some p →
      keyHeader p = some (kind, usage) → keyLen kind + 8 = p.length →
      let r := fillSlot 2 data kind usage (p.drop 8) a e nv
      exec (.unwrap data det) ⟨d, nv, q⟩ = .next ⟨r.1, r.2, q⟩) ∧
    (VaultTurn d nv 0x04 [] none a e →
      exec .revoke ⟨d, nv, q⟩ = .next ⟨(revokeKey a e nv).1, (revokeKey a e nv).2, q⟩) ∧
    (VaultTurn d nv 0x10 data det a e → exec (.ctrEnc data det) ⟨d, nv, q⟩ =
      .next ⟨e.keyOutput a (ctrOf (e.slotKey (keySlot a.word)) (blockOf (data.take 16)) (data.drop 16)), nv, q⟩) ∧
    (VaultTurn d nv 0x11 data det a e → exec (.ctrDec data det) ⟨d, nv, q⟩ =
      .next ⟨e.keyOutput a (ctrOf (e.slotKey (keySlot a.word)) (blockOf (data.take 16)) (data.drop 16)), nv, q⟩) ∧
    (VaultTurn d nv 0x12 data det a e → exec (.cmacGen data det) ⟨d, nv, q⟩ =
      .next ⟨e.keyOutput a (cmacOf (e.slotKey (keySlot a.word)) data), nv, q⟩) ∧
    (VaultTurn d nv 0x13 data det a e → exec (.cmacVer data det) ⟨d, nv, q⟩ =
      .next ⟨e.keyVerdict a
        (cmacOf (e.slotKey (keySlot a.word)) (data.take (data.length - 16)) == data.drop (data.length - 16)), nv, q⟩) ∧
    (VaultTurn d nv 0x14 data det a e → exec (.hmacGen data det) ⟨d, nv, q⟩ =
      .next ⟨e.keyOutput a (hmacOf (e.slotKey (keySlot a.word)) data), nv, q⟩) ∧
    (VaultTurn d nv 0x15 data det a e → exec (.hmacVer data det) ⟨d, nv, q⟩ =
      .next ⟨e.keyVerdict a
        (hmacOf (e.slotKey (keySlot a.word)) (data.take (data.length - 32)) == data.drop (data.length - 32)), nv, q⟩) ∧
    (VaultTurn d nv 0x16 data none a e → exec (.sha256 data) ⟨d, nv, q⟩ = .next ⟨e.keyOutput a (hashOf data), nv, q⟩) ∧
    (VaultTurn d nv 0x17 data det a e → exec (.ecdsaVer data det) ⟨d, nv, q⟩ = .next ⟨e.askVerify a data, nv, q⟩) ∧
    (VaultTurn d nv 0x18 [] none a e → exec .random ⟨d, nv, q⟩ =
      .next ⟨(e.drawBytes (keyIn a.word)).2.keyOutput a (e.drawBytes (keyIn a.word)).1, nv, q⟩) ∧
    (VaultTurn d nv 0x20 [] none a e → exec .rootGen ⟨d, nv, q⟩ = .next ⟨e.rootGen.keyDone a St.ok 0, nv, q⟩ ∧
      e.rootGen.root.root.isSome = true ∧ e.rootGen.tampLock = false) ∧
    (∀ k, VaultTurn d nv 0x30 data det a e → (unwrapOf (e.slotKey (keySlot a.word)) (data.drop 8)).bind tokenKey = some k →
      let r := (((e.setToken (keyAux a.word) (data.take 8) k).accEvent R.ACC_EVT_ENROLLED).keyDone a St.ok 0).appendRec nv
        (keyRecOf 3 a (keyAux a.word) data)
      exec (.enrol data det) ⟨d, nv, q⟩ = .next ⟨r.1, r.2, q⟩) ∧
    (VaultTurn d nv 0x31 [] none a e →
      let r := ((e.revokeToken (keyAux a.word)).keyDone a St.ok 0).appendRec nv (keyRecOf 5 a (keyAux a.word) [])
      exec .tokRevoke ⟨d, nv, q⟩ = .next ⟨r.1, r.2, q⟩) ∧
    (VaultTurn d nv 0x32 data none a e →
      let r := (({ e with key := { e.key with verifier := some data } }).keyDone a St.ok 0).appendRec nv (keyRecOf 4 a 0 data)
      exec (.codeSet data) ⟨d, nv, q⟩ = .next ⟨r.1, r.2, q⟩)

/-- The vault's own events complete: a remask pass, the failure of the random source and its start-up test, a tamper. -/
def Obligations.VaultEventsComplete : Prop :=
  (∀ d : Dev, d.domOn 2 = true → d.mt.loaded = true → d.mt.prev / msTicks 100 ≠ d.now / msTicks 100 →
    d.key.maskAt ≠ d.now / msTicks 100 →
    let e := { d with key := { d.key with maskAt := d.now / msTicks 100 } }
    (d.flag R.KEY_STAT_TRNG_OK = true → Becomes .remaskPass d (e.count R.KEY_REMASK_CNT)) ∧
    (d.flag R.KEY_STAT_TRNG_OK = false → Becomes .remaskPass d (e.keyEvent R.KEY_EVT_REMASK_SKIP))) ∧
  (∀ d : Dev, d.domOn 2 = true → d.flag R.KEY_STAT_TRNG_OK = true → Becomes .trngFail d d.trngFails) ∧
  (∀ d : Dev, d.domOn 2 = true → d.flag R.KEY_STAT_TRNG_OK = false → (∀ t, d.key.trngAt = some t → t ≤ d.now) →
    Becomes (.trngStartupTest true) d (({ d with key := { d.key with trngAt := none } }).setFlag R.KEY_STAT_TRNG_OK true)) ∧
  (∀ (d e : Dev) (nv : Nv) (q : List Instr) (m : Option Bool) (lids : BitVec 2) (vbat tj : BitVec 16) (rtc : BitVec 48)
    (b : Bool) (n : Nat), (d.pwr.vaon || d.pwr.vbat) = true → d.tampSources m lids vbat tj rtc.toNat = (n, e) →
    let f := e.setFld R.KEY_TAMP_STAT_NOW n
    (n = 0 → exec (.tamper ⟨m, lids, vbat, tj⟩ rtc b) ⟨d, nv, q⟩ = .next ⟨f.dropLine Src.keyTamper, nv, q⟩) ∧
    (n ≠ 0 → (f.lockTamper n rtc.toNat).domOn 2 = false →
      exec (.tamper ⟨m, lids, vbat, tj⟩ rtc b) ⟨d, nv, q⟩ = .next ⟨f.lockTamper n rtc.toNat, nv, q⟩) ∧
    (n ≠ 0 → (f.lockTamper n rtc.toNat).domOn 2 = true → f.tampLock = false →
      exec (.tamper ⟨m, lids, vbat, tj⟩ rtc b) ⟨d, nv, q⟩ = .next ⟨(f.lockTamper n rtc.toNat).runTamper nv b, nv, q⟩))

/-- A tamper condition at an enabled source leaves no root and the vault locked, in every state in which a supply is there: the mesh
pattern and a lid switch by their samples, VBAT below 2.2 V only while VAON is absent, the junction temperature below −50 °C or above
125 °C. -/
def Obligations.TamperLocksTheVault : Prop :=
  ∀ (d d' : Dev) (nv : Nv) (q : List Instr) (m : Option Bool) (lids : BitVec 2) (vbat tj : BitVec 16) (rtc : BitVec 48) (b : Bool),
    (d.pwr.vaon || d.pwr.vbat) = true →
    let en := fun i => (d.fld R.KEY_TAMP_CFG_EN).testBit i
    let p := d.meshSample m rtc.toNat
    let l := p.2.lidSample 0 (lids.getLsbD 0) rtc.toNat
    (en 0 = true ∧ p.1 = true) ∨ (en 1 = true ∧ l.1 = true) ∨
      (en 2 = true ∧ (l.2.lidSample 1 (lids.getLsbD 1) rtc.toNat).1 = true) ∨
      (en 3 = true ∧ d.pwr.vaon = false ∧ vbat.toNat < 2200) ∨ (en 4 = true ∧ (tj.toInt < -500 ∨ 1250 < tj.toInt)) →
    exec (.tamper ⟨m, lids, vbat, tj⟩ rtc b) ⟨d, nv, q⟩ = .next ⟨d', nv, q⟩ → d'.root.root = none ∧ d'.tampLock = true

/-- The commands of the access unit and of the release stream complete: a session starts, takes answers and reports, sends its final
frame and is decided; the windows expire; the code is checked; the stream starts, sends, waits for its reservation and stops. -/
def Obligations.AccessCommandsComplete : Prop :=
  (∀ (d : Dev) (nv : Nv) (q : List Instr) (v : Word) (l : List (BitVec 8)), d.domOn 2 = true → v &&& 7#32 = 1#32 →
    exec (.accStart v l) ⟨d, nv, q⟩ = .next ⟨d.startSession nv (some l), nv, q⟩) ∧
  (∀ (d : Dev) (nv : Nv) (q : List Instr) (l : List (BitVec 8)), d.domOn 2 = true → d.flag R.ACC_CTRL_IRQ_START = true →
    exec (.tokIrq l) ⟨d, nv, q⟩ = .next ⟨d.startSession nv (some l), nv, q⟩) ∧
  (∀ (d e f : Dev) (nv : Nv) (q : List Instr) (x y : AccSess) (i : Fin 16) (l r : List (BitVec 8)), d.acc.sess = some x →
    d.stampOwn x = e → e.acc.sess = some y → e.radioRun nv 3 (some r) = (true, f) →
    (y.tp.isSome = true → y.sent = false → exec (.resp i ⟨l, r⟩) ⟨d, nv, q⟩ = .next ⟨f.takeResp y i l, nv, q⟩) ∧
    (y.sent = true → exec (.report i ⟨l, r⟩) ⟨d, nv, q⟩ = .next ⟨f.takeReport y i l, nv, q⟩)) ∧
  (∀ (d e f : Dev) (nv : Nv) (q : List Instr) (x y : AccSess) (tp : Nat) (r : List (BitVec 8)), d.acc.sess = some x →
    d.stampOwn x = e → e.acc.sess = some y → y.tp = some tp → y.sent = false → tp + e.accHalf ≤ e.now →
    e.radioRun nv 2 (some r) = (true, f) →
    exec (.finalFrame r) ⟨d, nv, q⟩ = .next ⟨f.setSess { y with sent := true } 3, nv, q⟩) ∧
  (∀ (d : Dev) (nv : Nv) (q : List Instr) (x y : AccSess) (tp tf : Nat), d.acc.sess = some x →
    (d.stampOwn x).acc.sess = some y → y.tp = some tp → y.tf = some tf → y.sent = true →
    tf + (d.stampOwn x).accHalf ≤ (d.stampOwn x).now →
    exec .sessionDecision ⟨d, nv, q⟩ = .next ⟨(d.stampOwn x).decideSession nv y tp tf, nv, q⟩) ∧
  (∀ (d : Dev) (t : Nat), d.acc.auth = some t → t ≤ d.now →
    Becomes .authWindowExpiry d (({ d with acc := { d.acc with auth := none } }).setFlag R.ACC_STAT_AUTH false)) ∧
  (∀ (d : Dev) (t : Nat), d.acc.lock = some t → t ≤ d.now →
    Becomes .lockoutExpiry d (({ d with acc := { d.acc with lock := none } }).setFlag R.ACC_STAT_LOCKOUT false)) ∧
  (∀ (d : Dev) (nv : Nv) (q : List Instr) (v : Word), d.domOn 2 = true → v &&& 7#32 = 4#32 →
    exec (.codeCheck v) ⟨d, nv, q⟩ = .next ⟨d.checkCode nv, nv, q⟩) ∧
  (∀ (d : Dev) (nv : Nv) (q : List Instr) (v : Word) (t : Nat), d.domOn 2 = true → v &&& 7#32 = 2#32 → d.acc.next = some t →
    ∃ d', exec (.relStop v) ⟨d, nv, q⟩ = .next ⟨d', nv, q⟩ ∧ d'.acc.next = none ∧ d'.acc.wait = false ∧
      d'.flag R.ACC_STAT_STREAM = false ∧ d'.fld R.ACC_STAT_STOP_WHY = 1) ∧
  (∀ (d : Dev) (v : Word), d.domOn 2 = true → d.flag R.ACC_REL_CFG_REL_EN = false → v.getLsbD 0 = true →
    Becomes (.relEnSet v) d (d.writeRelCfg v)) ∧
  (∀ (d : Dev) (nv : Nv) (q : List Instr) (t : Nat) (e m : Option Bool), d.acc.next = some t → t ≤ d.now →
    exec (.releaseMessage e m) ⟨d, nv, q⟩ = .next ⟨d.relMessage nv t e m, nv, q⟩) ∧
  (∀ (d : Dev) (t : Nat), d.acc.next = some t → d.fld R.ACC_REL_CFG_REL_TO ≠ 0 →
    d.acc.relFrom + d.fld R.ACC_REL_CFG_REL_TO * secTicks ≤ d.now → Becomes .relToExpiry d (d.stopStream 2)) ∧
  (∀ (d : Dev) (nv : Nv) (q : List Instr) (r : Nat), d.acc.resNew = some r → (∀ j ∈ d.pwr.jobs, j.1 ≠ .reserve) →
    d.acc.wait = false →
    exec .reservationWriteEnd ⟨d, nv, q⟩ =
      .next ⟨{ d with acc := { d.acc with res := r, resNew := none, wait := false } },
        nv.append { type := 7, target := 0, source := 0, seq := 0, input := leBytes 4 r }, q⟩)

/-! ### Boot, update, debug (19) -/

/-- The commands of the update unit, of the start and of the lifecycle complete. -/
def Obligations.UpdateCommandsComplete : Prop :=
  (∀ (d : Dev) (nv : Nv) (q : List Instr) (x : BootIn), d.domOn 2 = true → d.pwr.park = .run →
    exec (.boot x) ⟨d, nv, q⟩ = .next ⟨(d.bootTurn nv x).1, (d.bootTurn nv x).2, q⟩ ∧
    (d.upd.phase = 5 → (d.bootTurn nv x).2.svn = max nv.svn (manifestSvn nv.active)) ∧
    (d.upd.phase ≠ 5 → (d.bootTurn nv x).2.svn = nv.svn)) ∧
  (∀ (d : Dev) (nv : Nv) (q : List Instr) (a : AccDesc) (cred : List (BitVec 8)), StagingTurn d 1 a →
    cred.length = (if byteOf a.word 5 = 0xFF then 0 else 32) → d.canMaster = true → (d.takeDesc a).stg = none →
    (d.takeDesc a).credOk nv (byteOf a.word 5) cred = true →
    let r := (d.takeDesc a).openSession nv a
    exec (.stagingOpen cred) ⟨d, nv, q⟩ = .next ⟨r.1.newNonce, r.2, q⟩) ∧
  (∀ (d : Dev) (nv : Nv) (q : List Instr) (a : AccDesc) (data : List (BitVec 8)) (x : StgSess), StagingTurn d 2 a →
    d.stg = some x → descField a.word 20 4 = x.num → data.length = 4096 * descField a.word 6 2 → d.canMaster = true →
    let r := ({ d.takeDesc a with stg := some { x with last := d.now } }).stgWrite nv a data false
    exec (.stagingWrite data false) ⟨d, nv, q⟩ = .next ⟨r.1, r.2, q⟩) ∧
  (∀ (d : Dev) (nv : Nv) (q : List Instr) (a : AccDesc) (x : StgSess), d.stg = some x → descField a.word 20 4 = x.num →
    (StagingTurn d 3 a →
      let r := ({ d.takeDesc a with stg := some { x with last := d.now } }).stgCommit nv a false
      exec (.stagingCommit false) ⟨d, nv, q⟩ = .next ⟨r.1, r.2, q⟩) ∧
    (StagingTurn d 4 a →
      exec .stagingAbandon ⟨d, nv, q⟩ = .next ⟨({ d.takeDesc a with stg := none }).stgDone a St.ok 0, nv, q⟩)) ∧
  (∀ (d : Dev) (x : StgSess), d.domOn 2 = true → d.mt.loaded = true → d.stg = some x → x.last + 1800 * secTicks ≤ d.now →
    Becomes .sessionIdleExpiry d (({ d with stg := none }).updEvent R.UPD_EVT_ABANDONED)) ∧
  (∀ (d : Dev) (nv : Nv) (q : List Instr) (v : Word), d.domOn 2 = true → v.getLsbD 0 = true →
    exec (.navSwap v) ⟨d, nv, q⟩ = .next ⟨d.writeUpdCmd nv v, nv, q⟩) ∧
  (∀ (d : Dev) (nv : Nv) (q : List Instr) (v : Word), d.domOn 2 = true →
    let r := d.writeLife nv v false
    exec (.fusePkh v false) ⟨d, nv, q⟩ = .next ⟨r.1, r.2, q⟩ ∧ exec (.sealLife v false) ⟨d, nv, q⟩ = .next ⟨r.1, r.2, q⟩ ∧
    exec (.retireLife v false) ⟨d, nv, q⟩ = .next ⟨r.1, r.2, q⟩ ∧ exec (.dbgKill v false) ⟨d, nv, q⟩ = .next ⟨r.1, r.2, q⟩) ∧
  (∀ (d d' : Dev) (nv : Nv) (q : List Instr) (j : LeaveJob) (t0 t : Nat),
    (d.pwr.jobs.find? fun x => decide (x.2.2 ≤ d.now)) = some (j, t0, t) → d.askJob j = (true, d') →
    let r := ({ d' with pwr := { d'.pwr with jobs := d'.pwr.jobs.erase (j, t0, t) } }).runJob nv j false
    exec (.leaveRetry false) ⟨d, nv, q⟩ = .next ⟨r.1, r.2, q⟩)

/-- The commands of the debug port complete: the instructions of the TAP, the accesses to an engine and to BAR0. -/
def Obligations.DebugCommandsComplete : Prop :=
  (∀ d : Dev, Becomes .bypass d { d with tap := { d.tap with ir := 1, dr := 0, dbg := false } } ∧
    Becomes .idcode d { d with tap := { d.tap with ir := 2, dr := 0x18128FC3, dbg := false } }) ∧
  (∀ (d : Dev) (nv : Nv) (q : List Instr) (pins pre : List Bool), nv.tapShut = false →
    exec (.samplePreload pins pre) ⟨d, nv, q⟩ =
      .next ⟨{ d with tap := { d.tap with ir := 3, dr := BitVec.ofNat 32 (ofBits pins), bsr := pre, dbg := false } }, nv, q⟩ ∧
    exec .extest ⟨d, nv, q⟩ = .next ⟨{ d with tap := { d.tap with ir := 4, dbg := false } }, nv, q⟩) ∧
  (∀ (d : Dev) (nv : Nv) (q : List Instr) (e : Fin 16), d.dbgOpen nv e = true →
    exec (.dbgHalt e) ⟨d, nv, q⟩ = .next ⟨d.stopCmd e, nv, q⟩ ∧ exec (.dbgResume e) ⟨d, nv, q⟩ = .next ⟨d.startCmd e, nv, q⟩ ∧
    (d.engSt e = 0 → d.flag (R.ENG_STAT_IMG_VALID e) = true →
      exec (.dbgStep e) ⟨d, nv, q⟩ = .next ⟨(d.stepEng nv e).1, (d.stepEng nv e).2, q⟩)) ∧
  (∀ (d : Dev) (nv : Nv) (q : List Instr) (e : Fin 16) (r : Fin 32) (v : Word), nv.tapShut = false → d.domOn (engDom e) = true →
    let o := { d with tap := { d.tap with ir := 5, dbg := true } }
    exec (.dbgAccess .select) ⟨d, nv, q⟩ = .next ⟨o, nv, q⟩ ∧
    exec (.dbgAccess (.writeG e r v)) ⟨d, nv, q⟩ = .next ⟨o.setEngine e ((o.engine e).setG (r.val % 16) v), nv, q⟩ ∧
    exec (.dbgAccess (.readG e r)) ⟨d, nv, q⟩ = .next ⟨{ o with tap := { o.tap with dr := (o.engine e).gr (r.val % 16) } }, nv, q⟩) ∧
  (∀ (d : Dev) (nv : Nv) (q : List Instr) (off : BitVec 20) (v : Word), d.tap.dbg = true → nv.tapShut = false →
    off.toNat % 4 = 0 →
    exec (.dbgBar0Access off (some v)) ⟨d, nv, q⟩ =
      .next ⟨(busWrite d nv off.toNat v).1, (busWrite d nv off.toNat v).2, q⟩ ∧
    exec (.dbgBar0Access off none) ⟨d, nv, q⟩ =
      .next ⟨{ (busRead d nv off.toNat).2 with
        tap := { (busRead d nv off.toNat).2.tap with dr := (busRead d nv off.toNat).1 } }, nv, q⟩)

/-- R542 (the port shut): while the port is shut only BYPASS and IDCODE act; any other TAP instruction acts as BYPASS, and no access
reaches an engine or BAR0. -/
def Obligations.ShutPortBypasses : Prop :=
  ∀ (d : Dev) (nv : Nv) (q : List Instr), nv.tapShut = true →
    (∀ pins pre, exec (.samplePreload pins pre) ⟨d, nv, q⟩ = exec .bypass ⟨d, nv, q⟩) ∧
    exec .extest ⟨d, nv, q⟩ = exec .bypass ⟨d, nv, q⟩ ∧
    (∀ x, exec (.dbgAccess x) ⟨d, nv, q⟩ = exec .bypass ⟨d, nv, q⟩) ∧
    (∀ e, exec (.dbgHalt e) ⟨d, nv, q⟩ = .next ⟨d, nv, q⟩ ∧ exec (.dbgResume e) ⟨d, nv, q⟩ = .next ⟨d, nv, q⟩ ∧
      exec (.dbgStep e) ⟨d, nv, q⟩ = .next ⟨d, nv, q⟩) ∧
    (∀ off wr, exec (.dbgBar0Access off wr) ⟨d, nv, q⟩ = .next ⟨d, nv, q⟩)

end
end

