-- ==== Sys2Proof/Laws/State.lean ====
section
/-! SUPPORT. Reading the state after an update: sparse tables, register fields, and one lemma for each field that an update of
Machine/Ops.lean leaves alone. -/

namespace Sys2Proof.Machine

/-! ### Sparse tables -/

theorem sparseGet_filter_ne {α : Type} (dflt : Nat → α) (l : Sparse α) (k : Nat) :
    sparseGet dflt (l.filter fun p => decide (p.1 ≠ k)) k = dflt k := by
  induction l with
  | nil => rfl
  | cons p t ih =>
    by_cases h : p.1 = k
    · simpa [h] using ih
    · simpa [sparseGet, h] using ih

theorem sparseGet_filter_other {α : Type} (dflt : Nat → α) (l : Sparse α) {j k : Nat} (hj : j ≠ k) :
    sparseGet dflt (l.filter fun p => decide (p.1 ≠ k)) j = sparseGet dflt l j := by
  induction l with
  | nil => rfl
  | cons p t ih =>
    by_cases h : p.1 = k
    · have : p.1 ≠ j := fun e => hj (e ▸ h)
      simp only [List.filter_cons, h]
      simpa [sparseGet, this] using ih
    · by_cases h2 : p.1 = j
      · simp [sparseGet, h2, hj]
      · simpa [sparseGet, h, h2, List.filter_cons] using ih

@[simp] theorem sparseGet_put_same {α : Type} [DecidableEq α] (dflt : Nat → α) (l : Sparse α) (k : Nat) (v : α) :
    sparseGet dflt (sparsePut dflt l k v) k = v := by
  induction l with
  | nil => by_cases h : v = dflt k <;> simp [sparsePut, sparseGet, h]
  | cons p t ih =>
    obtain ⟨a, w⟩ := p
    simp only [sparsePut]
    split
    · next h => rw [sparseGet_filter_ne, h]
    · split
      · simp [sparseGet]
      · split
        · simp [sparseGet]
        · next h => simp [sparseGet, h, ih]

theorem sparseGet_put_other {α : Type} [DecidableEq α] (dflt : Nat → α) (l : Sparse α) {j k : Nat} (v : α) (hj : j ≠ k) :
    sparseGet dflt (sparsePut dflt l k v) j = sparseGet dflt l j := by
  induction l with
  | nil => by_cases h : v = dflt k <;> simp [sparsePut, sparseGet, h, Ne.symm hj]
  | cons p t ih =>
    obtain ⟨a, w⟩ := p
    simp only [sparsePut]
    split
    · exact sparseGet_filter_other dflt _ hj
    · split
      · simp [sparseGet, Ne.symm hj]
      · split
        · next h => subst h; simp [sparseGet, Ne.symm hj]
        · simp [sparseGet, ih]

theorem sparseWf_iff {α : Type} [DecidableEq α] (dflt : Nat → α) (l : Sparse α) :
    sparseWf dflt l = true ↔ l.Pairwise (fun a b => a.1 < b.1) ∧ ∀ p ∈ l, p.2 ≠ dflt p.1 := by
  simp [sparseWf]

theorem sparseWf_put {α : Type} [DecidableEq α] (dflt : Nat → α) (l : Sparse α) (k : Nat) (v : α)
    (h : sparseWf dflt l = true) : sparseWf dflt (sparsePut dflt l k v) = true := by
  rw [sparseWf_iff] at h ⊢
  by_cases hv : v = dflt k
  · cases l with
    | nil => simp [sparsePut, hv]
    | cons p t =>
      simp only [sparsePut, hv, if_true]
      exact ⟨h.1.filter _, fun p hp => h.2 p (List.mem_of_mem_filter hp)⟩
  · suffices ∀ l : Sparse α, l.Pairwise (fun a b => a.1 < b.1) →
        (sparsePut dflt l k v).Pairwise (fun a b => a.1 < b.1) ∧ ∀ p ∈ sparsePut dflt l k v, p = (k, v) ∨ p ∈ l by
      refine ⟨(this l h.1).1, fun p hp => ?_⟩
      rcases (this l h.1).2 p hp with rfl | hp
      · exact hv
      · exact h.2 p hp
    intro l hl
    induction l with
    | nil => simp [sparsePut, hv]
    | cons p t ih =>
      obtain ⟨a, w⟩ := p
      rw [List.pairwise_cons] at hl
      obtain ⟨i1, i2⟩ := ih hl.2
      simp only [sparsePut, hv, if_false]
      by_cases h1 : k < a
      · simp only [h1, if_true, List.pairwise_cons, List.mem_cons]
        refine ⟨⟨?_, hl⟩, fun p hp => hp⟩
        rintro q (rfl | hq)
        · exact h1
        · exact Nat.lt_trans h1 (hl.1 q hq)
      · by_cases h2 : a = k
        · subst h2
          simp only [Nat.lt_irrefl, if_false, if_true, List.pairwise_cons, List.mem_cons]
          exact ⟨⟨hl.1, hl.2⟩, fun p hp => hp.imp_right .inr⟩
        · simp only [h1, h2, if_false, List.pairwise_cons, List.mem_cons]
          refine ⟨⟨fun q hq => ?_, i1⟩, ?_⟩
          · rcases i2 q hq with rfl | hq
            · show a < k; omega
            · exact hl.1 q hq
          · rintro p (rfl | hp)
            · exact .inr (.inl rfl)
            · exact (i2 p hp).imp_right .inr

/-! ### Fields of a register -/

theorem Fld.ext_lt (f : Fld) (v : Word) : f.ext v < 2 ^ f.w := Nat.mod_lt _ (by positivity)

/-- A register's value by its bits below, in and above a field. -/
theorem Fld.split (f : Fld) (v : Word) :
    v.toNat = 2 ^ f.lo * (2 ^ f.w * (v.toNat / 2 ^ f.lo / 2 ^ f.w) + f.ext v) + v.toNat % 2 ^ f.lo := by
  unfold Fld.ext
  rw [Nat.div_add_mod, Nat.div_add_mod]

theorem Fld.ins_sum (f : Fld) (v : Word) (x : Nat) :
    v.toNat - f.ext v * 2 ^ f.lo + x % 2 ^ f.w * 2 ^ f.lo
      = 2 ^ f.lo * (2 ^ f.w * (v.toNat / 2 ^ f.lo / 2 ^ f.w) + x % 2 ^ f.w) + v.toNat % 2 ^ f.lo := by
  have h := f.split v
  generalize f.ext v = e at *
  generalize v.toNat / 2 ^ f.lo / 2 ^ f.w = hi at *
  generalize hl : v.toNat % 2 ^ f.lo = low at *
  generalize x % 2 ^ f.w = y at *
  rw [h, Nat.mul_add, Nat.mul_add, Nat.mul_comm e, Nat.mul_comm y]
  omega

theorem Fld.getLsbD_ins (f : Fld) (v : Word) (x i : Nat) (h : f.lo + f.w ≤ 32) :
    (f.ins v x).getLsbD i = if f.lo ≤ i ∧ i < f.lo + f.w then x.testBit (i - f.lo) else v.getLsbD i := by
  unfold Fld.ins
  rw [BitVec.getLsbD_ofNat, f.ins_sum, Nat.testBit_two_pow_mul_add _ (Nat.mod_lt _ (by positivity)),
    Nat.testBit_two_pow_mul_add _ (Nat.mod_lt _ (by positivity))]
  have hv : v.getLsbD i = v.toNat.testBit i := rfl
  by_cases h32 : i < 32
  · by_cases h1 : i < f.lo
    · have : ¬ f.lo ≤ i := by omega
      simp only [h32, h1, this, Nat.testBit_mod_two_pow, decide_true, Bool.true_and, if_true, false_and, if_false]
      rfl
    · by_cases h2 : i < f.lo + f.w
      · have : i - f.lo < f.w := by omega
        have h3 : f.lo ≤ i := by omega
        simp [h32, h1, h2, h3, this, Nat.testBit_mod_two_pow]
      · have : ¬ i - f.lo < f.w := by omega
        have h3 : i - f.lo - f.w + f.w + f.lo = i := by omega
        simp only [h32, h1, h2, this, Nat.testBit_div_two_pow, decide_true, Bool.true_and, if_false, and_false, h3]
        rfl
  · have h1 : ¬ (f.lo ≤ i ∧ i < f.lo + f.w) := by omega
    simp [h32, h1, BitVec.getLsbD_of_ge v i (by omega)]

theorem Fld.testBit_ext (f : Fld) (v : Word) (j : Nat) : (f.ext v).testBit j = (decide (j < f.w) && v.getLsbD (f.lo + j)) := by
  unfold Fld.ext
  rw [Nat.testBit_mod_two_pow, Nat.testBit_div_two_pow, Nat.add_comm j]
  rfl

theorem Fld.ext_ins (f : Fld) (v : Word) (x : Nat) (h : f.lo + f.w ≤ 32) : f.ext (f.ins v x) = x % 2 ^ f.w := by
  apply Nat.eq_of_testBit_eq
  intro j
  rw [f.testBit_ext, f.getLsbD_ins v x _ h, Nat.testBit_mod_two_pow]
  by_cases hj : j < f.w
  · have : f.lo ≤ f.lo + j ∧ f.lo + j < f.lo + f.w := by omega
    simp [hj, this]
  · simp [hj]

theorem Fld.ext_ins_apart (f g : Fld) (v : Word) (x : Nat) (h : f.lo + f.w ≤ 32)
    (hd : f.lo + f.w ≤ g.lo ∨ g.lo + g.w ≤ f.lo) : g.ext (f.ins v x) = g.ext v := by
  apply Nat.eq_of_testBit_eq
  intro j
  rw [g.testBit_ext, g.testBit_ext, f.getLsbD_ins v x _ h]
  by_cases hj : j < g.w
  · have : ¬ (f.lo ≤ g.lo + j ∧ g.lo + j < f.lo + f.w) := by omega
    simp [this]
  · simp [hj]

/-! ### Registers -/

@[simp] theorem Dev.reg_setReg_same (d : Dev) (o : Nat) (v : Word) : (d.setReg o v).reg o = v :=
  sparseGet_put_same regReset d.regs o v

theorem Dev.reg_setReg_other (d : Dev) {j o : Nat} (v : Word) (h : j ≠ o) : (d.setReg o v).reg j = d.reg j :=
  sparseGet_put_other regReset d.regs v h

theorem Dev.reg_setFld_other (d : Dev) {j : Nat} (f : Fld) (x : Nat) (h : j ≠ f.off) : (d.setFld f x).reg j = d.reg j :=
  d.reg_setReg_other _ h

theorem Dev.fld_setFld_same (d : Dev) (f : Fld) (x : Nat) (h : f.lo + f.w ≤ 32) : (d.setFld f x).fld f = x % 2 ^ f.w := by
  unfold Dev.fld Dev.setFld
  rw [d.reg_setReg_same, f.ext_ins _ _ h]

theorem Dev.fld_setFld_off (d : Dev) (f g : Fld) (x : Nat) (h : g.off ≠ f.off) : (d.setFld f x).fld g = d.fld g := by
  unfold Dev.fld Dev.setFld
  rw [d.reg_setReg_other _ h]

theorem Dev.fld_setFld_apart (d : Dev) (f g : Fld) (x : Nat) (h : f.lo + f.w ≤ 32)
    (hd : f.lo + f.w ≤ g.lo ∨ g.lo + g.w ≤ f.lo) : (d.setFld f x).fld g = d.fld g := by
  by_cases ho : g.off = f.off
  · unfold Dev.fld Dev.setFld
    rw [ho, d.reg_setReg_same, f.ext_ins_apart g _ _ h hd]
  · exact d.fld_setFld_off f g x ho

theorem Dev.fld_setReg_off (d : Dev) (g : Fld) (o : Nat) (v : Word) (h : g.off ≠ o) : (d.setReg o v).fld g = d.fld g := by
  unfold Dev.fld
  rw [d.reg_setReg_other _ h]

theorem Dev.flag_setFlag_same (d : Dev) (f : Fld) (b : Bool) (h : f.lo + f.w ≤ 32) (hw : f.w ≠ 0) :
    (d.setFlag f b).flag f = b := by
  unfold Dev.flag Dev.setFlag
  rw [d.fld_setFld_same f _ h]
  have h2 : 1 < 2 ^ f.w := Nat.one_lt_two_pow hw
  cases b
  · simp
  · simp [Nat.mod_eq_of_lt h2]

theorem Dev.flag_setFlag_off (d : Dev) (f g : Fld) (b : Bool) (h : g.off ≠ f.off) : (d.setFlag f b).flag g = d.flag g := by
  unfold Dev.flag Dev.setFlag
  rw [d.fld_setFld_off f g _ h]

theorem Dev.flag_setFlag_apart (d : Dev) (f g : Fld) (b : Bool) (h : f.lo + f.w ≤ 32)
    (hd : f.lo + f.w ≤ g.lo ∨ g.lo + g.w ≤ f.lo) : (d.setFlag f b).flag g = d.flag g := by
  unfold Dev.flag Dev.setFlag
  rw [d.fld_setFld_apart f g _ h hd]

/-! ### Access to a register's domain (01 R24) -/

theorem Dev.access_on (d : Dev) (off : Nat) (f : Dev → Dev) (h : d.domOn (domOf off) = true) : d.access off f = f d := by
  simp [Dev.access, h]

theorem Dev.access_off (d : Dev) (off : Nat) (f : Dev → Dev) (h : d.domOn (domOf off) = false) :
    d.access off f = d.count R.PWR_OFFACC_CNT := by
  simp [Dev.access, h]

/-! ### Host memory -/

theorem Dev.memByte_put (d : Dev) (a i : Nat) (b : Byte) :
    (d.memPut a b).memByte i = if i = a % 2 ^ 64 then b else d.memByte i := by
  unfold Dev.memPut Dev.memByte
  split
  · next h => rw [h]; exact sparseGet_put_same _ _ _ _
  · next h => exact sparseGet_put_other _ _ _ h

theorem Dev.memPut_wf (d : Dev) (a : Nat) (b : Byte) (h : Memory.wf d.mem = true) : Memory.wf (d.memPut a b).mem = true :=
  sparseWf_put memDefault d.mem _ b h

theorem Dev.memWrite_wf (l : List Byte) : ∀ (d : Dev) (a : Nat), Memory.wf d.mem = true → Memory.wf (d.memWrite a l).mem = true := by
  induction l with
  | nil => intro d a h; exact h
  | cons b t ih => intro d a h; exact ih _ _ (d.memPut_wf a b h)

/-! ### What an update leaves alone -/

@[simp] theorem Dev.setReg_mem (d : Dev) (o : Nat) (v : Word) : (d.setReg o v).mem = d.mem := rfl
@[simp] theorem Dev.setReg_hl (d : Dev) (o : Nat) (v : Word) : (d.setReg o v).hl = d.hl := rfl
@[simp] theorem Dev.setReg_mt (d : Dev) (o : Nat) (v : Word) : (d.setReg o v).mt = d.mt := rfl
@[simp] theorem Dev.setReg_rtc (d : Dev) (o : Nat) (v : Word) : (d.setReg o v).rtc = d.rtc := rfl
@[simp] theorem Dev.setReg_carry (d : Dev) (o : Nat) (v : Word) : (d.setReg o v).carry = d.carry := rfl
@[simp] theorem Dev.setReg_sch (d : Dev) (o : Nat) (v : Word) : (d.setReg o v).sch = d.sch := rfl
@[simp] theorem Dev.setReg_ch (d : Dev) (o : Nat) (v : Word) : (d.setReg o v).ch = d.ch := rfl
@[simp] theorem Dev.setReg_eng (d : Dev) (o : Nat) (v : Word) : (d.setReg o v).eng = d.eng := rfl
@[simp] theorem Dev.setReg_pose (d : Dev) (o : Nat) (v : Word) : (d.setReg o v).pose = d.pose := rfl
@[simp] theorem Dev.setReg_bnd (d : Dev) (o : Nat) (v : Word) : (d.setReg o v).bnd = d.bnd := rfl
@[simp] theorem Dev.setReg_psq (d : Dev) (o : Nat) (v : Word) : (d.setReg o v).psq = d.psq := rfl
@[simp] theorem Dev.setReg_pwr (d : Dev) (o : Nat) (v : Word) : (d.setReg o v).pwr = d.pwr := rfl
@[simp] theorem Dev.setReg_flt (d : Dev) (o : Nat) (v : Word) : (d.setReg o v).flt = d.flt := rfl
@[simp] theorem Dev.setReg_free (d : Dev) (o : Nat) (v : Word) : (d.setReg o v).free = d.free := rfl
@[simp] theorem Dev.setReg_lt (d : Dev) (o : Nat) (v : Word) : (d.setReg o v).lt = d.lt := rfl
@[simp] theorem Dev.setReg_sw (d : Dev) (o : Nat) (v : Word) : (d.setReg o v).sw = d.sw := rfl
@[simp] theorem Dev.setReg_can (d : Dev) (o : Nat) (v : Word) : (d.setReg o v).can = d.can := rfl
@[simp] theorem Dev.setReg_loop (d : Dev) (o : Nat) (v : Word) : (d.setReg o v).loop = d.loop := rfl
@[simp] theorem Dev.setReg_gn (d : Dev) (o : Nat) (v : Word) : (d.setReg o v).gn = d.gn := rfl
@[simp] theorem Dev.setReg_kept (d : Dev) (o : Nat) (v : Word) : (d.setReg o v).kept = d.kept := rfl
@[simp] theorem Dev.setReg_key (d : Dev) (o : Nat) (v : Word) : (d.setReg o v).key = d.key := rfl
@[simp] theorem Dev.setReg_acc (d : Dev) (o : Nat) (v : Word) : (d.setReg o v).acc = d.acc := rfl
@[simp] theorem Dev.setReg_root (d : Dev) (o : Nat) (v : Word) : (d.setReg o v).root = d.root := rfl
@[simp] theorem Dev.setReg_tampLock (d : Dev) (o : Nat) (v : Word) : (d.setReg o v).tampLock = d.tampLock := rfl
@[simp] theorem Dev.setReg_upd (d : Dev) (o : Nat) (v : Word) : (d.setReg o v).upd = d.upd := rfl
@[simp] theorem Dev.setReg_stg (d : Dev) (o : Nat) (v : Word) : (d.setReg o v).stg = d.stg := rfl
@[simp] theorem Dev.setReg_tap (d : Dev) (o : Nat) (v : Word) : (d.setReg o v).tap = d.tap := rfl

@[simp] theorem Dev.setFld_mem (d : Dev) (f : Fld) (x : Nat) : (d.setFld f x).mem = d.mem := rfl
@[simp] theorem Dev.setFld_hl (d : Dev) (f : Fld) (x : Nat) : (d.setFld f x).hl = d.hl := rfl
@[simp] theorem Dev.setFld_mt (d : Dev) (f : Fld) (x : Nat) : (d.setFld f x).mt = d.mt := rfl
@[simp] theorem Dev.setFld_rtc (d : Dev) (f : Fld) (x : Nat) : (d.setFld f x).rtc = d.rtc := rfl
@[simp] theorem Dev.setFld_carry (d : Dev) (f : Fld) (x : Nat) : (d.setFld f x).carry = d.carry := rfl
@[simp] theorem Dev.setFld_sch (d : Dev) (f : Fld) (x : Nat) : (d.setFld f x).sch = d.sch := rfl
@[simp] theorem Dev.setFld_ch (d : Dev) (f : Fld) (x : Nat) : (d.setFld f x).ch = d.ch := rfl
@[simp] theorem Dev.setFld_eng (d : Dev) (f : Fld) (x : Nat) : (d.setFld f x).eng = d.eng := rfl
@[simp] theorem Dev.setFld_pose (d : Dev) (f : Fld) (x : Nat) : (d.setFld f x).pose = d.pose := rfl
@[simp] theorem Dev.setFld_bnd (d : Dev) (f : Fld) (x : Nat) : (d.setFld f x).bnd = d.bnd := rfl
@[simp] theorem Dev.setFld_psq (d : Dev) (f : Fld) (x : Nat) : (d.setFld f x).psq = d.psq := rfl
@[simp] theorem Dev.setFld_pwr (d : Dev) (f : Fld) (x : Nat) : (d.setFld f x).pwr = d.pwr := rfl
@[simp] theorem Dev.setFld_flt (d : Dev) (f : Fld) (x : Nat) : (d.setFld f x).flt = d.flt := rfl
@[simp] theorem Dev.setFld_free (d : Dev) (f : Fld) (x : Nat) : (d.setFld f x).free = d.free := rfl
@[simp] theorem Dev.setFld_lt (d : Dev) (f : Fld) (x : Nat) : (d.setFld f x).lt = d.lt := rfl
@[simp] theorem Dev.setFld_sw (d : Dev) (f : Fld) (x : Nat) : (d.setFld f x).sw = d.sw := rfl
@[simp] theorem Dev.setFld_can (d : Dev) (f : Fld) (x : Nat) : (d.setFld f x).can = d.can := rfl
@[simp] theorem Dev.setFld_loop (d : Dev) (f : Fld) (x : Nat) : (d.setFld f x).loop = d.loop := rfl
@[simp] theorem Dev.setFld_gn (d : Dev) (f : Fld) (x : Nat) : (d.setFld f x).gn = d.gn := rfl
@[simp] theorem Dev.setFld_kept (d : Dev) (f : Fld) (x : Nat) : (d.setFld f x).kept = d.kept := rfl
@[simp] theorem Dev.setFld_key (d : Dev) (f : Fld) (x : Nat) : (d.setFld f x).key = d.key := rfl
@[simp] theorem Dev.setFld_acc (d : Dev) (f : Fld) (x : Nat) : (d.setFld f x).acc = d.acc := rfl
@[simp] theorem Dev.setFld_root (d : Dev) (f : Fld) (x : Nat) : (d.setFld f x).root = d.root := rfl
@[simp] theorem Dev.setFld_tampLock (d : Dev) (f : Fld) (x : Nat) : (d.setFld f x).tampLock = d.tampLock := rfl
@[simp] theorem Dev.setFld_upd (d : Dev) (f : Fld) (x : Nat) : (d.setFld f x).upd = d.upd := rfl
@[simp] theorem Dev.setFld_stg (d : Dev) (f : Fld) (x : Nat) : (d.setFld f x).stg = d.stg := rfl
@[simp] theorem Dev.setFld_tap (d : Dev) (f : Fld) (x : Nat) : (d.setFld f x).tap = d.tap := rfl

@[simp] theorem Dev.setFlag_mem (d : Dev) (f : Fld) (b : Bool) : (d.setFlag f b).mem = d.mem := rfl
@[simp] theorem Dev.setFlag_hl (d : Dev) (f : Fld) (b : Bool) : (d.setFlag f b).hl = d.hl := rfl
@[simp] theorem Dev.setFlag_mt (d : Dev) (f : Fld) (b : Bool) : (d.setFlag f b).mt = d.mt := rfl
@[simp] theorem Dev.setFlag_rtc (d : Dev) (f : Fld) (b : Bool) : (d.setFlag f b).rtc = d.rtc := rfl
@[simp] theorem Dev.setFlag_carry (d : Dev) (f : Fld) (b : Bool) : (d.setFlag f b).carry = d.carry := rfl
@[simp] theorem Dev.setFlag_sch (d : Dev) (f : Fld) (b : Bool) : (d.setFlag f b).sch = d.sch := rfl
@[simp] theorem Dev.setFlag_ch (d : Dev) (f : Fld) (b : Bool) : (d.setFlag f b).ch = d.ch := rfl
@[simp] theorem Dev.setFlag_eng (d : Dev) (f : Fld) (b : Bool) : (d.setFlag f b).eng = d.eng := rfl
@[simp] theorem Dev.setFlag_pose (d : Dev) (f : Fld) (b : Bool) : (d.setFlag f b).pose = d.pose := rfl
@[simp] theorem Dev.setFlag_bnd (d : Dev) (f : Fld) (b : Bool) : (d.setFlag f b).bnd = d.bnd := rfl
@[simp] theorem Dev.setFlag_psq (d : Dev) (f : Fld) (b : Bool) : (d.setFlag f b).psq = d.psq := rfl
@[simp] theorem Dev.setFlag_pwr (d : Dev) (f : Fld) (b : Bool) : (d.setFlag f b).pwr = d.pwr := rfl
@[simp] theorem Dev.setFlag_flt (d : Dev) (f : Fld) (b : Bool) : (d.setFlag f b).flt = d.flt := rfl
@[simp] theorem Dev.setFlag_free (d : Dev) (f : Fld) (b : Bool) : (d.setFlag f b).free = d.free := rfl
@[simp] theorem Dev.setFlag_lt (d : Dev) (f : Fld) (b : Bool) : (d.setFlag f b).lt = d.lt := rfl
@[simp] theorem Dev.setFlag_sw (d : Dev) (f : Fld) (b : Bool) : (d.setFlag f b).sw = d.sw := rfl
@[simp] theorem Dev.setFlag_can (d : Dev) (f : Fld) (b : Bool) : (d.setFlag f b).can = d.can := rfl
@[simp] theorem Dev.setFlag_loop (d : Dev) (f : Fld) (b : Bool) : (d.setFlag f b).loop = d.loop := rfl
@[simp] theorem Dev.setFlag_gn (d : Dev) (f : Fld) (b : Bool) : (d.setFlag f b).gn = d.gn := rfl
@[simp] theorem Dev.setFlag_kept (d : Dev) (f : Fld) (b : Bool) : (d.setFlag f b).kept = d.kept := rfl
@[simp] theorem Dev.setFlag_key (d : Dev) (f : Fld) (b : Bool) : (d.setFlag f b).key = d.key := rfl
@[simp] theorem Dev.setFlag_acc (d : Dev) (f : Fld) (b : Bool) : (d.setFlag f b).acc = d.acc := rfl
@[simp] theorem Dev.setFlag_root (d : Dev) (f : Fld) (b : Bool) : (d.setFlag f b).root = d.root := rfl
@[simp] theorem Dev.setFlag_tampLock (d : Dev) (f : Fld) (b : Bool) : (d.setFlag f b).tampLock = d.tampLock := rfl
@[simp] theorem Dev.setFlag_upd (d : Dev) (f : Fld) (b : Bool) : (d.setFlag f b).upd = d.upd := rfl
@[simp] theorem Dev.setFlag_stg (d : Dev) (f : Fld) (b : Bool) : (d.setFlag f b).stg = d.stg := rfl
@[simp] theorem Dev.setFlag_tap (d : Dev) (f : Fld) (b : Bool) : (d.setFlag f b).tap = d.tap := rfl

@[simp] theorem Dev.addFld_mem (d : Dev) (f : Fld) (k : Nat) : (d.addFld f k).mem = d.mem := rfl
@[simp] theorem Dev.addFld_hl (d : Dev) (f : Fld) (k : Nat) : (d.addFld f k).hl = d.hl := rfl
@[simp] theorem Dev.addFld_mt (d : Dev) (f : Fld) (k : Nat) : (d.addFld f k).mt = d.mt := rfl
@[simp] theorem Dev.addFld_rtc (d : Dev) (f : Fld) (k : Nat) : (d.addFld f k).rtc = d.rtc := rfl
@[simp] theorem Dev.addFld_carry (d : Dev) (f : Fld) (k : Nat) : (d.addFld f k).carry = d.carry := rfl
@[simp] theorem Dev.addFld_sch (d : Dev) (f : Fld) (k : Nat) : (d.addFld f k).sch = d.sch := rfl
@[simp] theorem Dev.addFld_ch (d : Dev) (f : Fld) (k : Nat) : (d.addFld f k).ch = d.ch := rfl
@[simp] theorem Dev.addFld_eng (d : Dev) (f : Fld) (k : Nat) : (d.addFld f k).eng = d.eng := rfl
@[simp] theorem Dev.addFld_pose (d : Dev) (f : Fld) (k : Nat) : (d.addFld f k).pose = d.pose := rfl
@[simp] theorem Dev.addFld_bnd (d : Dev) (f : Fld) (k : Nat) : (d.addFld f k).bnd = d.bnd := rfl
@[simp] theorem Dev.addFld_psq (d : Dev) (f : Fld) (k : Nat) : (d.addFld f k).psq = d.psq := rfl
@[simp] theorem Dev.addFld_pwr (d : Dev) (f : Fld) (k : Nat) : (d.addFld f k).pwr = d.pwr := rfl
@[simp] theorem Dev.addFld_flt (d : Dev) (f : Fld) (k : Nat) : (d.addFld f k).flt = d.flt := rfl
@[simp] theorem Dev.addFld_free (d : Dev) (f : Fld) (k : Nat) : (d.addFld f k).free = d.free := rfl
@[simp] theorem Dev.addFld_lt (d : Dev) (f : Fld) (k : Nat) : (d.addFld f k).lt = d.lt := rfl
@[simp] theorem Dev.addFld_sw (d : Dev) (f : Fld) (k : Nat) : (d.addFld f k).sw = d.sw := rfl
@[simp] theorem Dev.addFld_can (d : Dev) (f : Fld) (k : Nat) : (d.addFld f k).can = d.can := rfl
@[simp] theorem Dev.addFld_loop (d : Dev) (f : Fld) (k : Nat) : (d.addFld f k).loop = d.loop := rfl
@[simp] theorem Dev.addFld_gn (d : Dev) (f : Fld) (k : Nat) : (d.addFld f k).gn = d.gn := rfl
@[simp] theorem Dev.addFld_kept (d : Dev) (f : Fld) (k : Nat) : (d.addFld f k).kept = d.kept := rfl
@[simp] theorem Dev.addFld_key (d : Dev) (f : Fld) (k : Nat) : (d.addFld f k).key = d.key := rfl
@[simp] theorem Dev.addFld_acc (d : Dev) (f : Fld) (k : Nat) : (d.addFld f k).acc = d.acc := rfl
@[simp] theorem Dev.addFld_root (d : Dev) (f : Fld) (k : Nat) : (d.addFld f k).root = d.root := rfl
@[simp] theorem Dev.addFld_tampLock (d : Dev) (f : Fld) (k : Nat) : (d.addFld f k).tampLock = d.tampLock := rfl
@[simp] theorem Dev.addFld_upd (d : Dev) (f : Fld) (k : Nat) : (d.addFld f k).upd = d.upd := rfl
@[simp] theorem Dev.addFld_stg (d : Dev) (f : Fld) (k : Nat) : (d.addFld f k).stg = d.stg := rfl
@[simp] theorem Dev.addFld_tap (d : Dev) (f : Fld) (k : Nat) : (d.addFld f k).tap = d.tap := rfl

@[simp] theorem Dev.count_mem (d : Dev) (o : Nat) : (d.count o).mem = d.mem := rfl
@[simp] theorem Dev.count_hl (d : Dev) (o : Nat) : (d.count o).hl = d.hl := rfl
@[simp] theorem Dev.count_mt (d : Dev) (o : Nat) : (d.count o).mt = d.mt := rfl
@[simp] theorem Dev.count_rtc (d : Dev) (o : Nat) : (d.count o).rtc = d.rtc := rfl
@[simp] theorem Dev.count_carry (d : Dev) (o : Nat) : (d.count o).carry = d.carry := rfl
@[simp] theorem Dev.count_sch (d : Dev) (o : Nat) : (d.count o).sch = d.sch := rfl
@[simp] theorem Dev.count_ch (d : Dev) (o : Nat) : (d.count o).ch = d.ch := rfl
@[simp] theorem Dev.count_eng (d : Dev) (o : Nat) : (d.count o).eng = d.eng := rfl
@[simp] theorem Dev.count_pose (d : Dev) (o : Nat) : (d.count o).pose = d.pose := rfl
@[simp] theorem Dev.count_bnd (d : Dev) (o : Nat) : (d.count o).bnd = d.bnd := rfl
@[simp] theorem Dev.count_psq (d : Dev) (o : Nat) : (d.count o).psq = d.psq := rfl
@[simp] theorem Dev.count_pwr (d : Dev) (o : Nat) : (d.count o).pwr = d.pwr := rfl
@[simp] theorem Dev.count_flt (d : Dev) (o : Nat) : (d.count o).flt = d.flt := rfl
@[simp] theorem Dev.count_free (d : Dev) (o : Nat) : (d.count o).free = d.free := rfl
@[simp] theorem Dev.count_lt (d : Dev) (o : Nat) : (d.count o).lt = d.lt := rfl
@[simp] theorem Dev.count_sw (d : Dev) (o : Nat) : (d.count o).sw = d.sw := rfl
@[simp] theorem Dev.count_can (d : Dev) (o : Nat) : (d.count o).can = d.can := rfl
@[simp] theorem Dev.count_loop (d : Dev) (o : Nat) : (d.count o).loop = d.loop := rfl
@[simp] theorem Dev.count_gn (d : Dev) (o : Nat) : (d.count o).gn = d.gn := rfl
@[simp] theorem Dev.count_kept (d : Dev) (o : Nat) : (d.count o).kept = d.kept := rfl
@[simp] theorem Dev.count_key (d : Dev) (o : Nat) : (d.count o).key = d.key := rfl
@[simp] theorem Dev.count_acc (d : Dev) (o : Nat) : (d.count o).acc = d.acc := rfl
@[simp] theorem Dev.count_root (d : Dev) (o : Nat) : (d.count o).root = d.root := rfl
@[simp] theorem Dev.count_tampLock (d : Dev) (o : Nat) : (d.count o).tampLock = d.tampLock := rfl
@[simp] theorem Dev.count_upd (d : Dev) (o : Nat) : (d.count o).upd = d.upd := rfl
@[simp] theorem Dev.count_stg (d : Dev) (o : Nat) : (d.count o).stg = d.stg := rfl
@[simp] theorem Dev.count_tap (d : Dev) (o : Nat) : (d.count o).tap = d.tap := rfl

@[simp] theorem Dev.setReg64_mem (d : Dev) (lo hi x : Nat) : (d.setReg64 lo hi x).mem = d.mem := rfl
@[simp] theorem Dev.setReg64_hl (d : Dev) (lo hi x : Nat) : (d.setReg64 lo hi x).hl = d.hl := rfl
@[simp] theorem Dev.setReg64_mt (d : Dev) (lo hi x : Nat) : (d.setReg64 lo hi x).mt = d.mt := rfl
@[simp] theorem Dev.setReg64_rtc (d : Dev) (lo hi x : Nat) : (d.setReg64 lo hi x).rtc = d.rtc := rfl
@[simp] theorem Dev.setReg64_carry (d : Dev) (lo hi x : Nat) : (d.setReg64 lo hi x).carry = d.carry := rfl
@[simp] theorem Dev.setReg64_sch (d : Dev) (lo hi x : Nat) : (d.setReg64 lo hi x).sch = d.sch := rfl
@[simp] theorem Dev.setReg64_ch (d : Dev) (lo hi x : Nat) : (d.setReg64 lo hi x).ch = d.ch := rfl
@[simp] theorem Dev.setReg64_eng (d : Dev) (lo hi x : Nat) : (d.setReg64 lo hi x).eng = d.eng := rfl
@[simp] theorem Dev.setReg64_pose (d : Dev) (lo hi x : Nat) : (d.setReg64 lo hi x).pose = d.pose := rfl
@[simp] theorem Dev.setReg64_bnd (d : Dev) (lo hi x : Nat) : (d.setReg64 lo hi x).bnd = d.bnd := rfl
@[simp] theorem Dev.setReg64_psq (d : Dev) (lo hi x : Nat) : (d.setReg64 lo hi x).psq = d.psq := rfl
@[simp] theorem Dev.setReg64_pwr (d : Dev) (lo hi x : Nat) : (d.setReg64 lo hi x).pwr = d.pwr := rfl
@[simp] theorem Dev.setReg64_flt (d : Dev) (lo hi x : Nat) : (d.setReg64 lo hi x).flt = d.flt := rfl
@[simp] theorem Dev.setReg64_free (d : Dev) (lo hi x : Nat) : (d.setReg64 lo hi x).free = d.free := rfl
@[simp] theorem Dev.setReg64_lt (d : Dev) (lo hi x : Nat) : (d.setReg64 lo hi x).lt = d.lt := rfl
@[simp] theorem Dev.setReg64_sw (d : Dev) (lo hi x : Nat) : (d.setReg64 lo hi x).sw = d.sw := rfl
@[simp] theorem Dev.setReg64_can (d : Dev) (lo hi x : Nat) : (d.setReg64 lo hi x).can = d.can := rfl
@[simp] theorem Dev.setReg64_loop (d : Dev) (lo hi x : Nat) : (d.setReg64 lo hi x).loop = d.loop := rfl
@[simp] theorem Dev.setReg64_gn (d : Dev) (lo hi x : Nat) : (d.setReg64 lo hi x).gn = d.gn := rfl
@[simp] theorem Dev.setReg64_kept (d : Dev) (lo hi x : Nat) : (d.setReg64 lo hi x).kept = d.kept := rfl
@[simp] theorem Dev.setReg64_key (d : Dev) (lo hi x : Nat) : (d.setReg64 lo hi x).key = d.key := rfl
@[simp] theorem Dev.setReg64_acc (d : Dev) (lo hi x : Nat) : (d.setReg64 lo hi x).acc = d.acc := rfl
@[simp] theorem Dev.setReg64_root (d : Dev) (lo hi x : Nat) : (d.setReg64 lo hi x).root = d.root := rfl
@[simp] theorem Dev.setReg64_tampLock (d : Dev) (lo hi x : Nat) : (d.setReg64 lo hi x).tampLock = d.tampLock := rfl
@[simp] theorem Dev.setReg64_upd (d : Dev) (lo hi x : Nat) : (d.setReg64 lo hi x).upd = d.upd := rfl
@[simp] theorem Dev.setReg64_stg (d : Dev) (lo hi x : Nat) : (d.setReg64 lo hi x).stg = d.stg := rfl
@[simp] theorem Dev.setReg64_tap (d : Dev) (lo hi x : Nat) : (d.setReg64 lo hi x).tap = d.tap := rfl

@[simp] theorem Dev.resetRegs_mem (d : Dev) (p : Nat → Bool) : (d.resetRegs p).mem = d.mem := rfl
@[simp] theorem Dev.resetRegs_hl (d : Dev) (p : Nat → Bool) : (d.resetRegs p).hl = d.hl := rfl
@[simp] theorem Dev.resetRegs_mt (d : Dev) (p : Nat → Bool) : (d.resetRegs p).mt = d.mt := rfl
@[simp] theorem Dev.resetRegs_rtc (d : Dev) (p : Nat → Bool) : (d.resetRegs p).rtc = d.rtc := rfl
@[simp] theorem Dev.resetRegs_carry (d : Dev) (p : Nat → Bool) : (d.resetRegs p).carry = d.carry := rfl
@[simp] theorem Dev.resetRegs_sch (d : Dev) (p : Nat → Bool) : (d.resetRegs p).sch = d.sch := rfl
@[simp] theorem Dev.resetRegs_ch (d : Dev) (p : Nat → Bool) : (d.resetRegs p).ch = d.ch := rfl
@[simp] theorem Dev.resetRegs_eng (d : Dev) (p : Nat → Bool) : (d.resetRegs p).eng = d.eng := rfl
@[simp] theorem Dev.resetRegs_pose (d : Dev) (p : Nat → Bool) : (d.resetRegs p).pose = d.pose := rfl
@[simp] theorem Dev.resetRegs_bnd (d : Dev) (p : Nat → Bool) : (d.resetRegs p).bnd = d.bnd := rfl
@[simp] theorem Dev.resetRegs_psq (d : Dev) (p : Nat → Bool) : (d.resetRegs p).psq = d.psq := rfl
@[simp] theorem Dev.resetRegs_pwr (d : Dev) (p : Nat → Bool) : (d.resetRegs p).pwr = d.pwr := rfl
@[simp] theorem Dev.resetRegs_flt (d : Dev) (p : Nat → Bool) : (d.resetRegs p).flt = d.flt := rfl
@[simp] theorem Dev.resetRegs_free (d : Dev) (p : Nat → Bool) : (d.resetRegs p).free = d.free := rfl
@[simp] theorem Dev.resetRegs_lt (d : Dev) (p : Nat → Bool) : (d.resetRegs p).lt = d.lt := rfl
@[simp] theorem Dev.resetRegs_sw (d : Dev) (p : Nat → Bool) : (d.resetRegs p).sw = d.sw := rfl
@[simp] theorem Dev.resetRegs_can (d : Dev) (p : Nat → Bool) : (d.resetRegs p).can = d.can := rfl
@[simp] theorem Dev.resetRegs_loop (d : Dev) (p : Nat → Bool) : (d.resetRegs p).loop = d.loop := rfl
@[simp] theorem Dev.resetRegs_gn (d : Dev) (p : Nat → Bool) : (d.resetRegs p).gn = d.gn := rfl
@[simp] theorem Dev.resetRegs_kept (d : Dev) (p : Nat → Bool) : (d.resetRegs p).kept = d.kept := rfl
@[simp] theorem Dev.resetRegs_key (d : Dev) (p : Nat → Bool) : (d.resetRegs p).key = d.key := rfl
@[simp] theorem Dev.resetRegs_acc (d : Dev) (p : Nat → Bool) : (d.resetRegs p).acc = d.acc := rfl
@[simp] theorem Dev.resetRegs_root (d : Dev) (p : Nat → Bool) : (d.resetRegs p).root = d.root := rfl
@[simp] theorem Dev.resetRegs_tampLock (d : Dev) (p : Nat → Bool) : (d.resetRegs p).tampLock = d.tampLock := rfl
@[simp] theorem Dev.resetRegs_upd (d : Dev) (p : Nat → Bool) : (d.resetRegs p).upd = d.upd := rfl
@[simp] theorem Dev.resetRegs_stg (d : Dev) (p : Nat → Bool) : (d.resetRegs p).stg = d.stg := rfl
@[simp] theorem Dev.resetRegs_tap (d : Dev) (p : Nat → Bool) : (d.resetRegs p).tap = d.tap := rfl

@[simp] theorem Dev.memPut_regs (d : Dev) (a : Nat) (b : Byte) : (d.memPut a b).regs = d.regs := rfl
@[simp] theorem Dev.memPut_hl (d : Dev) (a : Nat) (b : Byte) : (d.memPut a b).hl = d.hl := rfl
@[simp] theorem Dev.memPut_mt (d : Dev) (a : Nat) (b : Byte) : (d.memPut a b).mt = d.mt := rfl
@[simp] theorem Dev.memPut_rtc (d : Dev) (a : Nat) (b : Byte) : (d.memPut a b).rtc = d.rtc := rfl
@[simp] theorem Dev.memPut_carry (d : Dev) (a : Nat) (b : Byte) : (d.memPut a b).carry = d.carry := rfl
@[simp] theorem Dev.memPut_sch (d : Dev) (a : Nat) (b : Byte) : (d.memPut a b).sch = d.sch := rfl
@[simp] theorem Dev.memPut_ch (d : Dev) (a : Nat) (b : Byte) : (d.memPut a b).ch = d.ch := rfl
@[simp] theorem Dev.memPut_eng (d : Dev) (a : Nat) (b : Byte) : (d.memPut a b).eng = d.eng := rfl
@[simp] theorem Dev.memPut_pose (d : Dev) (a : Nat) (b : Byte) : (d.memPut a b).pose = d.pose := rfl
@[simp] theorem Dev.memPut_bnd (d : Dev) (a : Nat) (b : Byte) : (d.memPut a b).bnd = d.bnd := rfl
@[simp] theorem Dev.memPut_psq (d : Dev) (a : Nat) (b : Byte) : (d.memPut a b).psq = d.psq := rfl
@[simp] theorem Dev.memPut_pwr (d : Dev) (a : Nat) (b : Byte) : (d.memPut a b).pwr = d.pwr := rfl
@[simp] theorem Dev.memPut_flt (d : Dev) (a : Nat) (b : Byte) : (d.memPut a b).flt = d.flt := rfl
@[simp] theorem Dev.memPut_free (d : Dev) (a : Nat) (b : Byte) : (d.memPut a b).free = d.free := rfl
@[simp] theorem Dev.memPut_lt (d : Dev) (a : Nat) (b : Byte) : (d.memPut a b).lt = d.lt := rfl
@[simp] theorem Dev.memPut_sw (d : Dev) (a : Nat) (b : Byte) : (d.memPut a b).sw = d.sw := rfl
@[simp] theorem Dev.memPut_can (d : Dev) (a : Nat) (b : Byte) : (d.memPut a b).can = d.can := rfl
@[simp] theorem Dev.memPut_loop (d : Dev) (a : Nat) (b : Byte) : (d.memPut a b).loop = d.loop := rfl
@[simp] theorem Dev.memPut_gn (d : Dev) (a : Nat) (b : Byte) : (d.memPut a b).gn = d.gn := rfl
@[simp] theorem Dev.memPut_kept (d : Dev) (a : Nat) (b : Byte) : (d.memPut a b).kept = d.kept := rfl
@[simp] theorem Dev.memPut_key (d : Dev) (a : Nat) (b : Byte) : (d.memPut a b).key = d.key := rfl
@[simp] theorem Dev.memPut_acc (d : Dev) (a : Nat) (b : Byte) : (d.memPut a b).acc = d.acc := rfl
@[simp] theorem Dev.memPut_root (d : Dev) (a : Nat) (b : Byte) : (d.memPut a b).root = d.root := rfl
@[simp] theorem Dev.memPut_tampLock (d : Dev) (a : Nat) (b : Byte) : (d.memPut a b).tampLock = d.tampLock := rfl
@[simp] theorem Dev.memPut_upd (d : Dev) (a : Nat) (b : Byte) : (d.memPut a b).upd = d.upd := rfl
@[simp] theorem Dev.memPut_stg (d : Dev) (a : Nat) (b : Byte) : (d.memPut a b).stg = d.stg := rfl
@[simp] theorem Dev.memPut_tap (d : Dev) (a : Nat) (b : Byte) : (d.memPut a b).tap = d.tap := rfl

@[simp] theorem Dev.setSq_regs (d : Dev) (n : Nat) (x : SqHid) : (d.setSq n x).regs = d.regs := rfl
@[simp] theorem Dev.setSq_mem (d : Dev) (n : Nat) (x : SqHid) : (d.setSq n x).mem = d.mem := rfl
@[simp] theorem Dev.setSq_mt (d : Dev) (n : Nat) (x : SqHid) : (d.setSq n x).mt = d.mt := rfl
@[simp] theorem Dev.setSq_rtc (d : Dev) (n : Nat) (x : SqHid) : (d.setSq n x).rtc = d.rtc := rfl
@[simp] theorem Dev.setSq_carry (d : Dev) (n : Nat) (x : SqHid) : (d.setSq n x).carry = d.carry := rfl
@[simp] theorem Dev.setSq_sch (d : Dev) (n : Nat) (x : SqHid) : (d.setSq n x).sch = d.sch := rfl
@[simp] theorem Dev.setSq_ch (d : Dev) (n : Nat) (x : SqHid) : (d.setSq n x).ch = d.ch := rfl
@[simp] theorem Dev.setSq_eng (d : Dev) (n : Nat) (x : SqHid) : (d.setSq n x).eng = d.eng := rfl
@[simp] theorem Dev.setSq_pose (d : Dev) (n : Nat) (x : SqHid) : (d.setSq n x).pose = d.pose := rfl
@[simp] theorem Dev.setSq_bnd (d : Dev) (n : Nat) (x : SqHid) : (d.setSq n x).bnd = d.bnd := rfl
@[simp] theorem Dev.setSq_psq (d : Dev) (n : Nat) (x : SqHid) : (d.setSq n x).psq = d.psq := rfl
@[simp] theorem Dev.setSq_pwr (d : Dev) (n : Nat) (x : SqHid) : (d.setSq n x).pwr = d.pwr := rfl
@[simp] theorem Dev.setSq_flt (d : Dev) (n : Nat) (x : SqHid) : (d.setSq n x).flt = d.flt := rfl
@[simp] theorem Dev.setSq_free (d : Dev) (n : Nat) (x : SqHid) : (d.setSq n x).free = d.free := rfl
@[simp] theorem Dev.setSq_lt (d : Dev) (n : Nat) (x : SqHid) : (d.setSq n x).lt = d.lt := rfl
@[simp] theorem Dev.setSq_sw (d : Dev) (n : Nat) (x : SqHid) : (d.setSq n x).sw = d.sw := rfl
@[simp] theorem Dev.setSq_can (d : Dev) (n : Nat) (x : SqHid) : (d.setSq n x).can = d.can := rfl
@[simp] theorem Dev.setSq_loop (d : Dev) (n : Nat) (x : SqHid) : (d.setSq n x).loop = d.loop := rfl
@[simp] theorem Dev.setSq_gn (d : Dev) (n : Nat) (x : SqHid) : (d.setSq n x).gn = d.gn := rfl
@[simp] theorem Dev.setSq_kept (d : Dev) (n : Nat) (x : SqHid) : (d.setSq n x).kept = d.kept := rfl
@[simp] theorem Dev.setSq_key (d : Dev) (n : Nat) (x : SqHid) : (d.setSq n x).key = d.key := rfl
@[simp] theorem Dev.setSq_acc (d : Dev) (n : Nat) (x : SqHid) : (d.setSq n x).acc = d.acc := rfl
@[simp] theorem Dev.setSq_root (d : Dev) (n : Nat) (x : SqHid) : (d.setSq n x).root = d.root := rfl
@[simp] theorem Dev.setSq_tampLock (d : Dev) (n : Nat) (x : SqHid) : (d.setSq n x).tampLock = d.tampLock := rfl
@[simp] theorem Dev.setSq_upd (d : Dev) (n : Nat) (x : SqHid) : (d.setSq n x).upd = d.upd := rfl
@[simp] theorem Dev.setSq_stg (d : Dev) (n : Nat) (x : SqHid) : (d.setSq n x).stg = d.stg := rfl
@[simp] theorem Dev.setSq_tap (d : Dev) (n : Nat) (x : SqHid) : (d.setSq n x).tap = d.tap := rfl

@[simp] theorem Dev.setCq_regs (d : Dev) (n : Nat) (x : CqHid) : (d.setCq n x).regs = d.regs := rfl
@[simp] theorem Dev.setCq_mem (d : Dev) (n : Nat) (x : CqHid) : (d.setCq n x).mem = d.mem := rfl
@[simp] theorem Dev.setCq_mt (d : Dev) (n : Nat) (x : CqHid) : (d.setCq n x).mt = d.mt := rfl
@[simp] theorem Dev.setCq_rtc (d : Dev) (n : Nat) (x : CqHid) : (d.setCq n x).rtc = d.rtc := rfl
@[simp] theorem Dev.setCq_carry (d : Dev) (n : Nat) (x : CqHid) : (d.setCq n x).carry = d.carry := rfl
@[simp] theorem Dev.setCq_sch (d : Dev) (n : Nat) (x : CqHid) : (d.setCq n x).sch = d.sch := rfl
@[simp] theorem Dev.setCq_ch (d : Dev) (n : Nat) (x : CqHid) : (d.setCq n x).ch = d.ch := rfl
@[simp] theorem Dev.setCq_eng (d : Dev) (n : Nat) (x : CqHid) : (d.setCq n x).eng = d.eng := rfl
@[simp] theorem Dev.setCq_pose (d : Dev) (n : Nat) (x : CqHid) : (d.setCq n x).pose = d.pose := rfl
@[simp] theorem Dev.setCq_bnd (d : Dev) (n : Nat) (x : CqHid) : (d.setCq n x).bnd = d.bnd := rfl
@[simp] theorem Dev.setCq_psq (d : Dev) (n : Nat) (x : CqHid) : (d.setCq n x).psq = d.psq := rfl
@[simp] theorem Dev.setCq_pwr (d : Dev) (n : Nat) (x : CqHid) : (d.setCq n x).pwr = d.pwr := rfl
@[simp] theorem Dev.setCq_flt (d : Dev) (n : Nat) (x : CqHid) : (d.setCq n x).flt = d.flt := rfl
@[simp] theorem Dev.setCq_free (d : Dev) (n : Nat) (x : CqHid) : (d.setCq n x).free = d.free := rfl
@[simp] theorem Dev.setCq_lt (d : Dev) (n : Nat) (x : CqHid) : (d.setCq n x).lt = d.lt := rfl
@[simp] theorem Dev.setCq_sw (d : Dev) (n : Nat) (x : CqHid) : (d.setCq n x).sw = d.sw := rfl
@[simp] theorem Dev.setCq_can (d : Dev) (n : Nat) (x : CqHid) : (d.setCq n x).can = d.can := rfl
@[simp] theorem Dev.setCq_loop (d : Dev) (n : Nat) (x : CqHid) : (d.setCq n x).loop = d.loop := rfl
@[simp] theorem Dev.setCq_gn (d : Dev) (n : Nat) (x : CqHid) : (d.setCq n x).gn = d.gn := rfl
@[simp] theorem Dev.setCq_kept (d : Dev) (n : Nat) (x : CqHid) : (d.setCq n x).kept = d.kept := rfl
@[simp] theorem Dev.setCq_key (d : Dev) (n : Nat) (x : CqHid) : (d.setCq n x).key = d.key := rfl
@[simp] theorem Dev.setCq_acc (d : Dev) (n : Nat) (x : CqHid) : (d.setCq n x).acc = d.acc := rfl
@[simp] theorem Dev.setCq_root (d : Dev) (n : Nat) (x : CqHid) : (d.setCq n x).root = d.root := rfl
@[simp] theorem Dev.setCq_tampLock (d : Dev) (n : Nat) (x : CqHid) : (d.setCq n x).tampLock = d.tampLock := rfl
@[simp] theorem Dev.setCq_upd (d : Dev) (n : Nat) (x : CqHid) : (d.setCq n x).upd = d.upd := rfl
@[simp] theorem Dev.setCq_stg (d : Dev) (n : Nat) (x : CqHid) : (d.setCq n x).stg = d.stg := rfl
@[simp] theorem Dev.setCq_tap (d : Dev) (n : Nat) (x : CqHid) : (d.setCq n x).tap = d.tap := rfl

@[simp] theorem Dev.setChan_regs (d : Dev) (n : Nat) (x : Chan) : (d.setChan n x).regs = d.regs := rfl
@[simp] theorem Dev.setChan_mem (d : Dev) (n : Nat) (x : Chan) : (d.setChan n x).mem = d.mem := rfl
@[simp] theorem Dev.setChan_hl (d : Dev) (n : Nat) (x : Chan) : (d.setChan n x).hl = d.hl := rfl
@[simp] theorem Dev.setChan_mt (d : Dev) (n : Nat) (x : Chan) : (d.setChan n x).mt = d.mt := rfl
@[simp] theorem Dev.setChan_rtc (d : Dev) (n : Nat) (x : Chan) : (d.setChan n x).rtc = d.rtc := rfl
@[simp] theorem Dev.setChan_carry (d : Dev) (n : Nat) (x : Chan) : (d.setChan n x).carry = d.carry := rfl
@[simp] theorem Dev.setChan_sch (d : Dev) (n : Nat) (x : Chan) : (d.setChan n x).sch = d.sch := rfl
@[simp] theorem Dev.setChan_eng (d : Dev) (n : Nat) (x : Chan) : (d.setChan n x).eng = d.eng := rfl
@[simp] theorem Dev.setChan_pose (d : Dev) (n : Nat) (x : Chan) : (d.setChan n x).pose = d.pose := rfl
@[simp] theorem Dev.setChan_bnd (d : Dev) (n : Nat) (x : Chan) : (d.setChan n x).bnd = d.bnd := rfl
@[simp] theorem Dev.setChan_psq (d : Dev) (n : Nat) (x : Chan) : (d.setChan n x).psq = d.psq := rfl
@[simp] theorem Dev.setChan_pwr (d : Dev) (n : Nat) (x : Chan) : (d.setChan n x).pwr = d.pwr := rfl
@[simp] theorem Dev.setChan_flt (d : Dev) (n : Nat) (x : Chan) : (d.setChan n x).flt = d.flt := rfl
@[simp] theorem Dev.setChan_free (d : Dev) (n : Nat) (x : Chan) : (d.setChan n x).free = d.free := rfl
@[simp] theorem Dev.setChan_lt (d : Dev) (n : Nat) (x : Chan) : (d.setChan n x).lt = d.lt := rfl
@[simp] theorem Dev.setChan_sw (d : Dev) (n : Nat) (x : Chan) : (d.setChan n x).sw = d.sw := rfl
@[simp] theorem Dev.setChan_can (d : Dev) (n : Nat) (x : Chan) : (d.setChan n x).can = d.can := rfl
@[simp] theorem Dev.setChan_loop (d : Dev) (n : Nat) (x : Chan) : (d.setChan n x).loop = d.loop := rfl
@[simp] theorem Dev.setChan_gn (d : Dev) (n : Nat) (x : Chan) : (d.setChan n x).gn = d.gn := rfl
@[simp] theorem Dev.setChan_kept (d : Dev) (n : Nat) (x : Chan) : (d.setChan n x).kept = d.kept := rfl
@[simp] theorem Dev.setChan_key (d : Dev) (n : Nat) (x : Chan) : (d.setChan n x).key = d.key := rfl
@[simp] theorem Dev.setChan_acc (d : Dev) (n : Nat) (x : Chan) : (d.setChan n x).acc = d.acc := rfl
@[simp] theorem Dev.setChan_root (d : Dev) (n : Nat) (x : Chan) : (d.setChan n x).root = d.root := rfl
@[simp] theorem Dev.setChan_tampLock (d : Dev) (n : Nat) (x : Chan) : (d.setChan n x).tampLock = d.tampLock := rfl
@[simp] theorem Dev.setChan_upd (d : Dev) (n : Nat) (x : Chan) : (d.setChan n x).upd = d.upd := rfl
@[simp] theorem Dev.setChan_stg (d : Dev) (n : Nat) (x : Chan) : (d.setChan n x).stg = d.stg := rfl
@[simp] theorem Dev.setChan_tap (d : Dev) (n : Nat) (x : Chan) : (d.setChan n x).tap = d.tap := rfl

@[simp] theorem Dev.setDie_regs (d : Dev) (n : Nat) (x : Die) : (d.setDie n x).regs = d.regs := rfl
@[simp] theorem Dev.setDie_mem (d : Dev) (n : Nat) (x : Die) : (d.setDie n x).mem = d.mem := rfl
@[simp] theorem Dev.setDie_hl (d : Dev) (n : Nat) (x : Die) : (d.setDie n x).hl = d.hl := rfl
@[simp] theorem Dev.setDie_mt (d : Dev) (n : Nat) (x : Die) : (d.setDie n x).mt = d.mt := rfl
@[simp] theorem Dev.setDie_rtc (d : Dev) (n : Nat) (x : Die) : (d.setDie n x).rtc = d.rtc := rfl
@[simp] theorem Dev.setDie_carry (d : Dev) (n : Nat) (x : Die) : (d.setDie n x).carry = d.carry := rfl
@[simp] theorem Dev.setDie_sch (d : Dev) (n : Nat) (x : Die) : (d.setDie n x).sch = d.sch := rfl
@[simp] theorem Dev.setDie_eng (d : Dev) (n : Nat) (x : Die) : (d.setDie n x).eng = d.eng := rfl
@[simp] theorem Dev.setDie_pose (d : Dev) (n : Nat) (x : Die) : (d.setDie n x).pose = d.pose := rfl
@[simp] theorem Dev.setDie_bnd (d : Dev) (n : Nat) (x : Die) : (d.setDie n x).bnd = d.bnd := rfl
@[simp] theorem Dev.setDie_psq (d : Dev) (n : Nat) (x : Die) : (d.setDie n x).psq = d.psq := rfl
@[simp] theorem Dev.setDie_pwr (d : Dev) (n : Nat) (x : Die) : (d.setDie n x).pwr = d.pwr := rfl
@[simp] theorem Dev.setDie_flt (d : Dev) (n : Nat) (x : Die) : (d.setDie n x).flt = d.flt := rfl
@[simp] theorem Dev.setDie_free (d : Dev) (n : Nat) (x : Die) : (d.setDie n x).free = d.free := rfl
@[simp] theorem Dev.setDie_lt (d : Dev) (n : Nat) (x : Die) : (d.setDie n x).lt = d.lt := rfl
@[simp] theorem Dev.setDie_sw (d : Dev) (n : Nat) (x : Die) : (d.setDie n x).sw = d.sw := rfl
@[simp] theorem Dev.setDie_can (d : Dev) (n : Nat) (x : Die) : (d.setDie n x).can = d.can := rfl
@[simp] theorem Dev.setDie_loop (d : Dev) (n : Nat) (x : Die) : (d.setDie n x).loop = d.loop := rfl
@[simp] theorem Dev.setDie_gn (d : Dev) (n : Nat) (x : Die) : (d.setDie n x).gn = d.gn := rfl
@[simp] theorem Dev.setDie_kept (d : Dev) (n : Nat) (x : Die) : (d.setDie n x).kept = d.kept := rfl
@[simp] theorem Dev.setDie_key (d : Dev) (n : Nat) (x : Die) : (d.setDie n x).key = d.key := rfl
@[simp] theorem Dev.setDie_acc (d : Dev) (n : Nat) (x : Die) : (d.setDie n x).acc = d.acc := rfl
@[simp] theorem Dev.setDie_root (d : Dev) (n : Nat) (x : Die) : (d.setDie n x).root = d.root := rfl
@[simp] theorem Dev.setDie_tampLock (d : Dev) (n : Nat) (x : Die) : (d.setDie n x).tampLock = d.tampLock := rfl
@[simp] theorem Dev.setDie_upd (d : Dev) (n : Nat) (x : Die) : (d.setDie n x).upd = d.upd := rfl
@[simp] theorem Dev.setDie_stg (d : Dev) (n : Nat) (x : Die) : (d.setDie n x).stg = d.stg := rfl
@[simp] theorem Dev.setDie_tap (d : Dev) (n : Nat) (x : Die) : (d.setDie n x).tap = d.tap := rfl

@[simp] theorem Dev.setCtx_regs (d : Dev) (n : Nat) (x : Ctx) : (d.setCtx n x).regs = d.regs := rfl
@[simp] theorem Dev.setCtx_mem (d : Dev) (n : Nat) (x : Ctx) : (d.setCtx n x).mem = d.mem := rfl
@[simp] theorem Dev.setCtx_hl (d : Dev) (n : Nat) (x : Ctx) : (d.setCtx n x).hl = d.hl := rfl
@[simp] theorem Dev.setCtx_mt (d : Dev) (n : Nat) (x : Ctx) : (d.setCtx n x).mt = d.mt := rfl
@[simp] theorem Dev.setCtx_rtc (d : Dev) (n : Nat) (x : Ctx) : (d.setCtx n x).rtc = d.rtc := rfl
@[simp] theorem Dev.setCtx_carry (d : Dev) (n : Nat) (x : Ctx) : (d.setCtx n x).carry = d.carry := rfl
@[simp] theorem Dev.setCtx_sch (d : Dev) (n : Nat) (x : Ctx) : (d.setCtx n x).sch = d.sch := rfl
@[simp] theorem Dev.setCtx_ch (d : Dev) (n : Nat) (x : Ctx) : (d.setCtx n x).ch = d.ch := rfl
@[simp] theorem Dev.setCtx_eng (d : Dev) (n : Nat) (x : Ctx) : (d.setCtx n x).eng = d.eng := rfl
@[simp] theorem Dev.setCtx_pose (d : Dev) (n : Nat) (x : Ctx) : (d.setCtx n x).pose = d.pose := rfl
@[simp] theorem Dev.setCtx_bnd (d : Dev) (n : Nat) (x : Ctx) : (d.setCtx n x).bnd = d.bnd := rfl
@[simp] theorem Dev.setCtx_pwr (d : Dev) (n : Nat) (x : Ctx) : (d.setCtx n x).pwr = d.pwr := rfl
@[simp] theorem Dev.setCtx_flt (d : Dev) (n : Nat) (x : Ctx) : (d.setCtx n x).flt = d.flt := rfl
@[simp] theorem Dev.setCtx_free (d : Dev) (n : Nat) (x : Ctx) : (d.setCtx n x).free = d.free := rfl
@[simp] theorem Dev.setCtx_lt (d : Dev) (n : Nat) (x : Ctx) : (d.setCtx n x).lt = d.lt := rfl
@[simp] theorem Dev.setCtx_sw (d : Dev) (n : Nat) (x : Ctx) : (d.setCtx n x).sw = d.sw := rfl
@[simp] theorem Dev.setCtx_can (d : Dev) (n : Nat) (x : Ctx) : (d.setCtx n x).can = d.can := rfl
@[simp] theorem Dev.setCtx_loop (d : Dev) (n : Nat) (x : Ctx) : (d.setCtx n x).loop = d.loop := rfl
@[simp] theorem Dev.setCtx_gn (d : Dev) (n : Nat) (x : Ctx) : (d.setCtx n x).gn = d.gn := rfl
@[simp] theorem Dev.setCtx_kept (d : Dev) (n : Nat) (x : Ctx) : (d.setCtx n x).kept = d.kept := rfl
@[simp] theorem Dev.setCtx_key (d : Dev) (n : Nat) (x : Ctx) : (d.setCtx n x).key = d.key := rfl
@[simp] theorem Dev.setCtx_acc (d : Dev) (n : Nat) (x : Ctx) : (d.setCtx n x).acc = d.acc := rfl
@[simp] theorem Dev.setCtx_root (d : Dev) (n : Nat) (x : Ctx) : (d.setCtx n x).root = d.root := rfl
@[simp] theorem Dev.setCtx_tampLock (d : Dev) (n : Nat) (x : Ctx) : (d.setCtx n x).tampLock = d.tampLock := rfl
@[simp] theorem Dev.setCtx_upd (d : Dev) (n : Nat) (x : Ctx) : (d.setCtx n x).upd = d.upd := rfl
@[simp] theorem Dev.setCtx_stg (d : Dev) (n : Nat) (x : Ctx) : (d.setCtx n x).stg = d.stg := rfl
@[simp] theorem Dev.setCtx_tap (d : Dev) (n : Nat) (x : Ctx) : (d.setCtx n x).tap = d.tap := rfl

@[simp] theorem Dev.setPsqBank_regs (d : Dev) (n : Nat) (x : PsqBank) : (d.setPsqBank n x).regs = d.regs := rfl
@[simp] theorem Dev.setPsqBank_mem (d : Dev) (n : Nat) (x : PsqBank) : (d.setPsqBank n x).mem = d.mem := rfl
@[simp] theorem Dev.setPsqBank_hl (d : Dev) (n : Nat) (x : PsqBank) : (d.setPsqBank n x).hl = d.hl := rfl
@[simp] theorem Dev.setPsqBank_mt (d : Dev) (n : Nat) (x : PsqBank) : (d.setPsqBank n x).mt = d.mt := rfl
@[simp] theorem Dev.setPsqBank_rtc (d : Dev) (n : Nat) (x : PsqBank) : (d.setPsqBank n x).rtc = d.rtc := rfl
@[simp] theorem Dev.setPsqBank_carry (d : Dev) (n : Nat) (x : PsqBank) : (d.setPsqBank n x).carry = d.carry := rfl
@[simp] theorem Dev.setPsqBank_sch (d : Dev) (n : Nat) (x : PsqBank) : (d.setPsqBank n x).sch = d.sch := rfl
@[simp] theorem Dev.setPsqBank_ch (d : Dev) (n : Nat) (x : PsqBank) : (d.setPsqBank n x).ch = d.ch := rfl
@[simp] theorem Dev.setPsqBank_eng (d : Dev) (n : Nat) (x : PsqBank) : (d.setPsqBank n x).eng = d.eng := rfl
@[simp] theorem Dev.setPsqBank_pose (d : Dev) (n : Nat) (x : PsqBank) : (d.setPsqBank n x).pose = d.pose := rfl
@[simp] theorem Dev.setPsqBank_bnd (d : Dev) (n : Nat) (x : PsqBank) : (d.setPsqBank n x).bnd = d.bnd := rfl
@[simp] theorem Dev.setPsqBank_pwr (d : Dev) (n : Nat) (x : PsqBank) : (d.setPsqBank n x).pwr = d.pwr := rfl
@[simp] theorem Dev.setPsqBank_flt (d : Dev) (n : Nat) (x : PsqBank) : (d.setPsqBank n x).flt = d.flt := rfl
@[simp] theorem Dev.setPsqBank_free (d : Dev) (n : Nat) (x : PsqBank) : (d.setPsqBank n x).free = d.free := rfl
@[simp] theorem Dev.setPsqBank_lt (d : Dev) (n : Nat) (x : PsqBank) : (d.setPsqBank n x).lt = d.lt := rfl
@[simp] theorem Dev.setPsqBank_sw (d : Dev) (n : Nat) (x : PsqBank) : (d.setPsqBank n x).sw = d.sw := rfl
@[simp] theorem Dev.setPsqBank_can (d : Dev) (n : Nat) (x : PsqBank) : (d.setPsqBank n x).can = d.can := rfl
@[simp] theorem Dev.setPsqBank_loop (d : Dev) (n : Nat) (x : PsqBank) : (d.setPsqBank n x).loop = d.loop := rfl
@[simp] theorem Dev.setPsqBank_gn (d : Dev) (n : Nat) (x : PsqBank) : (d.setPsqBank n x).gn = d.gn := rfl
@[simp] theorem Dev.setPsqBank_kept (d : Dev) (n : Nat) (x : PsqBank) : (d.setPsqBank n x).kept = d.kept := rfl
@[simp] theorem Dev.setPsqBank_key (d : Dev) (n : Nat) (x : PsqBank) : (d.setPsqBank n x).key = d.key := rfl
@[simp] theorem Dev.setPsqBank_acc (d : Dev) (n : Nat) (x : PsqBank) : (d.setPsqBank n x).acc = d.acc := rfl
@[simp] theorem Dev.setPsqBank_root (d : Dev) (n : Nat) (x : PsqBank) : (d.setPsqBank n x).root = d.root := rfl
@[simp] theorem Dev.setPsqBank_tampLock (d : Dev) (n : Nat) (x : PsqBank) : (d.setPsqBank n x).tampLock = d.tampLock := rfl
@[simp] theorem Dev.setPsqBank_upd (d : Dev) (n : Nat) (x : PsqBank) : (d.setPsqBank n x).upd = d.upd := rfl
@[simp] theorem Dev.setPsqBank_stg (d : Dev) (n : Nat) (x : PsqBank) : (d.setPsqBank n x).stg = d.stg := rfl
@[simp] theorem Dev.setPsqBank_tap (d : Dev) (n : Nat) (x : PsqBank) : (d.setPsqBank n x).tap = d.tap := rfl

@[simp] theorem Dev.setSync_regs (d : Dev) (n : Nat) (x : SyncPin) : (d.setSync n x).regs = d.regs := rfl
@[simp] theorem Dev.setSync_mem (d : Dev) (n : Nat) (x : SyncPin) : (d.setSync n x).mem = d.mem := rfl
@[simp] theorem Dev.setSync_hl (d : Dev) (n : Nat) (x : SyncPin) : (d.setSync n x).hl = d.hl := rfl
@[simp] theorem Dev.setSync_rtc (d : Dev) (n : Nat) (x : SyncPin) : (d.setSync n x).rtc = d.rtc := rfl
@[simp] theorem Dev.setSync_carry (d : Dev) (n : Nat) (x : SyncPin) : (d.setSync n x).carry = d.carry := rfl
@[simp] theorem Dev.setSync_sch (d : Dev) (n : Nat) (x : SyncPin) : (d.setSync n x).sch = d.sch := rfl
@[simp] theorem Dev.setSync_ch (d : Dev) (n : Nat) (x : SyncPin) : (d.setSync n x).ch = d.ch := rfl
@[simp] theorem Dev.setSync_eng (d : Dev) (n : Nat) (x : SyncPin) : (d.setSync n x).eng = d.eng := rfl
@[simp] theorem Dev.setSync_pose (d : Dev) (n : Nat) (x : SyncPin) : (d.setSync n x).pose = d.pose := rfl
@[simp] theorem Dev.setSync_bnd (d : Dev) (n : Nat) (x : SyncPin) : (d.setSync n x).bnd = d.bnd := rfl
@[simp] theorem Dev.setSync_psq (d : Dev) (n : Nat) (x : SyncPin) : (d.setSync n x).psq = d.psq := rfl
@[simp] theorem Dev.setSync_pwr (d : Dev) (n : Nat) (x : SyncPin) : (d.setSync n x).pwr = d.pwr := rfl
@[simp] theorem Dev.setSync_flt (d : Dev) (n : Nat) (x : SyncPin) : (d.setSync n x).flt = d.flt := rfl
@[simp] theorem Dev.setSync_free (d : Dev) (n : Nat) (x : SyncPin) : (d.setSync n x).free = d.free := rfl
@[simp] theorem Dev.setSync_lt (d : Dev) (n : Nat) (x : SyncPin) : (d.setSync n x).lt = d.lt := rfl
@[simp] theorem Dev.setSync_sw (d : Dev) (n : Nat) (x : SyncPin) : (d.setSync n x).sw = d.sw := rfl
@[simp] theorem Dev.setSync_can (d : Dev) (n : Nat) (x : SyncPin) : (d.setSync n x).can = d.can := rfl
@[simp] theorem Dev.setSync_loop (d : Dev) (n : Nat) (x : SyncPin) : (d.setSync n x).loop = d.loop := rfl
@[simp] theorem Dev.setSync_gn (d : Dev) (n : Nat) (x : SyncPin) : (d.setSync n x).gn = d.gn := rfl
@[simp] theorem Dev.setSync_kept (d : Dev) (n : Nat) (x : SyncPin) : (d.setSync n x).kept = d.kept := rfl
@[simp] theorem Dev.setSync_key (d : Dev) (n : Nat) (x : SyncPin) : (d.setSync n x).key = d.key := rfl
@[simp] theorem Dev.setSync_acc (d : Dev) (n : Nat) (x : SyncPin) : (d.setSync n x).acc = d.acc := rfl
@[simp] theorem Dev.setSync_root (d : Dev) (n : Nat) (x : SyncPin) : (d.setSync n x).root = d.root := rfl
@[simp] theorem Dev.setSync_tampLock (d : Dev) (n : Nat) (x : SyncPin) : (d.setSync n x).tampLock = d.tampLock := rfl
@[simp] theorem Dev.setSync_upd (d : Dev) (n : Nat) (x : SyncPin) : (d.setSync n x).upd = d.upd := rfl
@[simp] theorem Dev.setSync_stg (d : Dev) (n : Nat) (x : SyncPin) : (d.setSync n x).stg = d.stg := rfl
@[simp] theorem Dev.setSync_tap (d : Dev) (n : Nat) (x : SyncPin) : (d.setSync n x).tap = d.tap := rfl

@[simp] theorem Dev.setMarker_regs (d : Dev) (n : Nat) (x : MkHid) : (d.setMarker n x).regs = d.regs := rfl
@[simp] theorem Dev.setMarker_mem (d : Dev) (n : Nat) (x : MkHid) : (d.setMarker n x).mem = d.mem := rfl
@[simp] theorem Dev.setMarker_hl (d : Dev) (n : Nat) (x : MkHid) : (d.setMarker n x).hl = d.hl := rfl
@[simp] theorem Dev.setMarker_rtc (d : Dev) (n : Nat) (x : MkHid) : (d.setMarker n x).rtc = d.rtc := rfl
@[simp] theorem Dev.setMarker_carry (d : Dev) (n : Nat) (x : MkHid) : (d.setMarker n x).carry = d.carry := rfl
@[simp] theorem Dev.setMarker_sch (d : Dev) (n : Nat) (x : MkHid) : (d.setMarker n x).sch = d.sch := rfl
@[simp] theorem Dev.setMarker_ch (d : Dev) (n : Nat) (x : MkHid) : (d.setMarker n x).ch = d.ch := rfl
@[simp] theorem Dev.setMarker_eng (d : Dev) (n : Nat) (x : MkHid) : (d.setMarker n x).eng = d.eng := rfl
@[simp] theorem Dev.setMarker_pose (d : Dev) (n : Nat) (x : MkHid) : (d.setMarker n x).pose = d.pose := rfl
@[simp] theorem Dev.setMarker_bnd (d : Dev) (n : Nat) (x : MkHid) : (d.setMarker n x).bnd = d.bnd := rfl
@[simp] theorem Dev.setMarker_psq (d : Dev) (n : Nat) (x : MkHid) : (d.setMarker n x).psq = d.psq := rfl
@[simp] theorem Dev.setMarker_pwr (d : Dev) (n : Nat) (x : MkHid) : (d.setMarker n x).pwr = d.pwr := rfl
@[simp] theorem Dev.setMarker_flt (d : Dev) (n : Nat) (x : MkHid) : (d.setMarker n x).flt = d.flt := rfl
@[simp] theorem Dev.setMarker_free (d : Dev) (n : Nat) (x : MkHid) : (d.setMarker n x).free = d.free := rfl
@[simp] theorem Dev.setMarker_lt (d : Dev) (n : Nat) (x : MkHid) : (d.setMarker n x).lt = d.lt := rfl
@[simp] theorem Dev.setMarker_sw (d : Dev) (n : Nat) (x : MkHid) : (d.setMarker n x).sw = d.sw := rfl
@[simp] theorem Dev.setMarker_can (d : Dev) (n : Nat) (x : MkHid) : (d.setMarker n x).can = d.can := rfl
@[simp] theorem Dev.setMarker_loop (d : Dev) (n : Nat) (x : MkHid) : (d.setMarker n x).loop = d.loop := rfl
@[simp] theorem Dev.setMarker_gn (d : Dev) (n : Nat) (x : MkHid) : (d.setMarker n x).gn = d.gn := rfl
@[simp] theorem Dev.setMarker_kept (d : Dev) (n : Nat) (x : MkHid) : (d.setMarker n x).kept = d.kept := rfl
@[simp] theorem Dev.setMarker_key (d : Dev) (n : Nat) (x : MkHid) : (d.setMarker n x).key = d.key := rfl
@[simp] theorem Dev.setMarker_acc (d : Dev) (n : Nat) (x : MkHid) : (d.setMarker n x).acc = d.acc := rfl
@[simp] theorem Dev.setMarker_root (d : Dev) (n : Nat) (x : MkHid) : (d.setMarker n x).root = d.root := rfl
@[simp] theorem Dev.setMarker_tampLock (d : Dev) (n : Nat) (x : MkHid) : (d.setMarker n x).tampLock = d.tampLock := rfl
@[simp] theorem Dev.setMarker_upd (d : Dev) (n : Nat) (x : MkHid) : (d.setMarker n x).upd = d.upd := rfl
@[simp] theorem Dev.setMarker_stg (d : Dev) (n : Nat) (x : MkHid) : (d.setMarker n x).stg = d.stg := rfl
@[simp] theorem Dev.setMarker_tap (d : Dev) (n : Nat) (x : MkHid) : (d.setMarker n x).tap = d.tap := rfl

end Sys2Proof.Machine
end

