-- ==== Sys2Proof/Laws/Engine.lean ====
section
/-! SUPPORT. What an instruction of an engine can do: the engine table read after a write, the end of an instruction, and the
commands that issue one. -/

namespace Sys2Proof.Machine

@[simp] theorem Dev.engine_setEngine_same (d : Dev) (n : Nat) (x : Eng) : (d.setEngine n x).engine n = x := by
  simp [Dev.setEngine, Dev.engine]

theorem Dev.engine_setEngine_other (d : Dev) {n k : Nat} (x : Eng) (h : k ≠ n) : (d.setEngine n x).engine k = d.engine k := by
  simp [Dev.setEngine, Dev.engine, sparseGet_put_other, h]

@[simp] theorem Dev.engSt_setEngine (d : Dev) (n k : Nat) (x : Eng) : (d.setEngine n x).engSt k = d.engSt k := rfl

@[simp] theorem Eng.stopReq_setG (x : Eng) (r : Nat) (v : Word) : (x.setG r v).stopReq = x.stopReq := by
  unfold Eng.setG; split <;> rfl

@[simp] theorem Eng.stopReq_endLoad (x : Eng) : x.endLoad.stopReq = x.stopReq := by
  unfold Eng.endLoad; split <;> simp

/-- An engine that executes an instruction is RUNNING. -/
theorem Dev.atOp_running {d : Dev} {n op : Nat} (h : d.atOp n op) : d.engSt n = 1 := by
  have := h.1
  simp only [Dev.engIssues, Bool.and_eq_true, decide_eq_true_eq] at this
  exact this.1.1.1.1.2

/-- A command that issues an instruction of its OP settles what the instruction came to. -/
theorem runOp_issues {d : Dev} {n op : Nat} (f : OpFn) (h : d.atOp n op) (nv : Nv) (q : List Instr) :
    runOp op f n ⟨d, nv, q⟩ =
      .next ⟨(settleOp n nv (f d nv n (d.engine n) ((d.engine n).iword (d.engine n).pc))).1,
        (settleOp n nv (f d nv n (d.engine n) ((d.engine n).iword (d.engine n).pc))).2, q⟩ := by
  simp only [runOp, h.1, h.2, decide_true, Bool.and_self, if_true]

@[simp] theorem Eng.stopReq_advance (x : Eng) : x.advance.stopReq = x.stopReq := by
  unfold Eng.advance; split
  · split <;> rfl
  · rfl

/-- An engine at the boundary after an instruction: the pending load has written its register, l is pending, the pc has moved on or
stands at the target. -/
def Eng.ended (y : Eng) (l : Option PendLoad) (a : Option Nat) : Eng :=
  a.elim (y.next l) fun t => { y.endLoad with ld := l, pc := t }

@[simp] theorem Eng.stopReq_ended (y : Eng) (l : Option PendLoad) (a : Option Nat) : (y.ended l a).stopReq = y.stopReq := by
  cases a <;> simp [Eng.ended, Eng.next]

/-- The end of an instruction on a RUNNING engine that no STOP waits for: nothing of the device changes but that engine. -/
theorem Dev.retireOp_running (d : Dev) (n : Nat) (y : Eng) (l : Option PendLoad) (a : Option Nat) (h : d.engSt n = 1)
    (hs : y.stopReq = false) : (d.setEngine n y).retireOp n l a = (d.setEngine n y).setEngine n (y.ended l a) := by
  have h2 := Eng.stopReq_ended y l a
  cases a <;>
    simp only [Eng.ended, Option.elim, Eng.next] at h2 ⊢ <;>
    simp only [Dev.retireOp, Dev.engSt_setEngine, h, if_true, Dev.engine_setEngine_same, h2, hs, Bool.false_and, Bool.false_eq_true,
      if_false]

/-- A command whose instruction replaces the engine by y and then ends takes the engine to y at its end, and changes nothing else. -/
theorem engStep_of_retire {c : Instr} {d : Dev} {n op : Nat} {f : OpFn} {y : Eng} {l : Option PendLoad} {a : Option Nat}
    (hc : ∀ s, exec c s = runOp op f n s) (h : d.atOp n op) (hs : y.stopReq = false)
    (hf : ∀ nv, settleOp n nv (f d nv n (d.engine n) ((d.engine n).iword (d.engine n).pc)) =
      ((d.setEngine n y).retireOp n l a, nv)) :
    EngStep c d n (y.ended l a) := by
  refine ⟨(d.setEngine n y).setEngine n (y.ended l a), fun nv q => ?_, Dev.engine_setEngine_same ..,
    fun k hk => by simp [Dev.engine_setEngine_other, hk], rfl⟩
  rw [hc, runOp_issues f h, hf, Dev.retireOp_running d n y l a (Dev.atOp_running h) hs]

end Sys2Proof.Machine
end

