-- ==== Sys2Proof/Laws/Lines.lean ====
section
/-! SUPPORT. What the shared operations on fault lines, on ERR_N and on the lands that the RTC samples change, and that they change
nothing else. -/

namespace Sys2Proof.Machine
set_option Elab.async false

/-! ### Lines (17 R472) -/

@[simp] theorem Dev.pulseLine_regs (d : Dev) (i : Nat) : (d.pulseLine i).regs = d.regs := rfl
@[simp] theorem Dev.pulseLine_mem (d : Dev) (i : Nat) : (d.pulseLine i).mem = d.mem := rfl
@[simp] theorem Dev.pulseLine_hl (d : Dev) (i : Nat) : (d.pulseLine i).hl = d.hl := rfl
@[simp] theorem Dev.pulseLine_mt (d : Dev) (i : Nat) : (d.pulseLine i).mt = d.mt := rfl
@[simp] theorem Dev.pulseLine_rtc (d : Dev) (i : Nat) : (d.pulseLine i).rtc = d.rtc := rfl
@[simp] theorem Dev.pulseLine_carry (d : Dev) (i : Nat) : (d.pulseLine i).carry = d.carry := rfl
@[simp] theorem Dev.pulseLine_sch (d : Dev) (i : Nat) : (d.pulseLine i).sch = d.sch := rfl
@[simp] theorem Dev.pulseLine_ch (d : Dev) (i : Nat) : (d.pulseLine i).ch = d.ch := rfl
@[simp] theorem Dev.pulseLine_eng (d : Dev) (i : Nat) : (d.pulseLine i).eng = d.eng := rfl
@[simp] theorem Dev.pulseLine_pose (d : Dev) (i : Nat) : (d.pulseLine i).pose = d.pose := rfl
@[simp] theorem Dev.pulseLine_bnd (d : Dev) (i : Nat) : (d.pulseLine i).bnd = d.bnd := rfl
@[simp] theorem Dev.pulseLine_psq (d : Dev) (i : Nat) : (d.pulseLine i).psq = d.psq := rfl
@[simp] theorem Dev.pulseLine_pwr (d : Dev) (i : Nat) : (d.pulseLine i).pwr = d.pwr := rfl
@[simp] theorem Dev.pulseLine_free (d : Dev) (i : Nat) : (d.pulseLine i).free = d.free := rfl
@[simp] theorem Dev.pulseLine_lt (d : Dev) (i : Nat) : (d.pulseLine i).lt = d.lt := rfl
@[simp] theorem Dev.pulseLine_sw (d : Dev) (i : Nat) : (d.pulseLine i).sw = d.sw := rfl
@[simp] theorem Dev.pulseLine_can (d : Dev) (i : Nat) : (d.pulseLine i).can = d.can := rfl
@[simp] theorem Dev.pulseLine_loop (d : Dev) (i : Nat) : (d.pulseLine i).loop = d.loop := rfl
@[simp] theorem Dev.pulseLine_gn (d : Dev) (i : Nat) : (d.pulseLine i).gn = d.gn := rfl
@[simp] theorem Dev.pulseLine_kept (d : Dev) (i : Nat) : (d.pulseLine i).kept = d.kept := rfl
@[simp] theorem Dev.pulseLine_key (d : Dev) (i : Nat) : (d.pulseLine i).key = d.key := rfl
@[simp] theorem Dev.pulseLine_acc (d : Dev) (i : Nat) : (d.pulseLine i).acc = d.acc := rfl
@[simp] theorem Dev.pulseLine_root (d : Dev) (i : Nat) : (d.pulseLine i).root = d.root := rfl
@[simp] theorem Dev.pulseLine_tampLock (d : Dev) (i : Nat) : (d.pulseLine i).tampLock = d.tampLock := rfl
@[simp] theorem Dev.pulseLine_upd (d : Dev) (i : Nat) : (d.pulseLine i).upd = d.upd := rfl
@[simp] theorem Dev.pulseLine_stg (d : Dev) (i : Nat) : (d.pulseLine i).stg = d.stg := rfl
@[simp] theorem Dev.pulseLine_tap (d : Dev) (i : Nat) : (d.pulseLine i).tap = d.tap := rfl

@[simp] theorem Dev.dropLine_regs (d : Dev) (i : Nat) : (d.dropLine i).regs = d.regs := rfl
@[simp] theorem Dev.dropLine_mem (d : Dev) (i : Nat) : (d.dropLine i).mem = d.mem := rfl
@[simp] theorem Dev.dropLine_hl (d : Dev) (i : Nat) : (d.dropLine i).hl = d.hl := rfl
@[simp] theorem Dev.dropLine_mt (d : Dev) (i : Nat) : (d.dropLine i).mt = d.mt := rfl
@[simp] theorem Dev.dropLine_rtc (d : Dev) (i : Nat) : (d.dropLine i).rtc = d.rtc := rfl
@[simp] theorem Dev.dropLine_carry (d : Dev) (i : Nat) : (d.dropLine i).carry = d.carry := rfl
@[simp] theorem Dev.dropLine_sch (d : Dev) (i : Nat) : (d.dropLine i).sch = d.sch := rfl
@[simp] theorem Dev.dropLine_ch (d : Dev) (i : Nat) : (d.dropLine i).ch = d.ch := rfl
@[simp] theorem Dev.dropLine_eng (d : Dev) (i : Nat) : (d.dropLine i).eng = d.eng := rfl
@[simp] theorem Dev.dropLine_pose (d : Dev) (i : Nat) : (d.dropLine i).pose = d.pose := rfl
@[simp] theorem Dev.dropLine_bnd (d : Dev) (i : Nat) : (d.dropLine i).bnd = d.bnd := rfl
@[simp] theorem Dev.dropLine_psq (d : Dev) (i : Nat) : (d.dropLine i).psq = d.psq := rfl
@[simp] theorem Dev.dropLine_pwr (d : Dev) (i : Nat) : (d.dropLine i).pwr = d.pwr := rfl
@[simp] theorem Dev.dropLine_free (d : Dev) (i : Nat) : (d.dropLine i).free = d.free := rfl
@[simp] theorem Dev.dropLine_lt (d : Dev) (i : Nat) : (d.dropLine i).lt = d.lt := rfl
@[simp] theorem Dev.dropLine_sw (d : Dev) (i : Nat) : (d.dropLine i).sw = d.sw := rfl
@[simp] theorem Dev.dropLine_can (d : Dev) (i : Nat) : (d.dropLine i).can = d.can := rfl
@[simp] theorem Dev.dropLine_loop (d : Dev) (i : Nat) : (d.dropLine i).loop = d.loop := rfl
@[simp] theorem Dev.dropLine_gn (d : Dev) (i : Nat) : (d.dropLine i).gn = d.gn := rfl
@[simp] theorem Dev.dropLine_kept (d : Dev) (i : Nat) : (d.dropLine i).kept = d.kept := rfl
@[simp] theorem Dev.dropLine_key (d : Dev) (i : Nat) : (d.dropLine i).key = d.key := rfl
@[simp] theorem Dev.dropLine_acc (d : Dev) (i : Nat) : (d.dropLine i).acc = d.acc := rfl
@[simp] theorem Dev.dropLine_root (d : Dev) (i : Nat) : (d.dropLine i).root = d.root := rfl
@[simp] theorem Dev.dropLine_tampLock (d : Dev) (i : Nat) : (d.dropLine i).tampLock = d.tampLock := rfl
@[simp] theorem Dev.dropLine_upd (d : Dev) (i : Nat) : (d.dropLine i).upd = d.upd := rfl
@[simp] theorem Dev.dropLine_stg (d : Dev) (i : Nat) : (d.dropLine i).stg = d.stg := rfl
@[simp] theorem Dev.dropLine_tap (d : Dev) (i : Nat) : (d.dropLine i).tap = d.tap := rfl

@[simp] theorem Dev.settleLine_regs (d : Dev) (i : Nat) (b : Bool) : (d.settleLine i b).regs = d.regs := by cases b <;> rfl
@[simp] theorem Dev.settleLine_mem (d : Dev) (i : Nat) (b : Bool) : (d.settleLine i b).mem = d.mem := by cases b <;> rfl
@[simp] theorem Dev.settleLine_hl (d : Dev) (i : Nat) (b : Bool) : (d.settleLine i b).hl = d.hl := by cases b <;> rfl
@[simp] theorem Dev.settleLine_mt (d : Dev) (i : Nat) (b : Bool) : (d.settleLine i b).mt = d.mt := by cases b <;> rfl
@[simp] theorem Dev.settleLine_rtc (d : Dev) (i : Nat) (b : Bool) : (d.settleLine i b).rtc = d.rtc := by cases b <;> rfl
@[simp] theorem Dev.settleLine_carry (d : Dev) (i : Nat) (b : Bool) : (d.settleLine i b).carry = d.carry := by cases b <;> rfl
@[simp] theorem Dev.settleLine_sch (d : Dev) (i : Nat) (b : Bool) : (d.settleLine i b).sch = d.sch := by cases b <;> rfl
@[simp] theorem Dev.settleLine_ch (d : Dev) (i : Nat) (b : Bool) : (d.settleLine i b).ch = d.ch := by cases b <;> rfl
@[simp] theorem Dev.settleLine_eng (d : Dev) (i : Nat) (b : Bool) : (d.settleLine i b).eng = d.eng := by cases b <;> rfl
@[simp] theorem Dev.settleLine_pose (d : Dev) (i : Nat) (b : Bool) : (d.settleLine i b).pose = d.pose := by cases b <;> rfl
@[simp] theorem Dev.settleLine_bnd (d : Dev) (i : Nat) (b : Bool) : (d.settleLine i b).bnd = d.bnd := by cases b <;> rfl
@[simp] theorem Dev.settleLine_psq (d : Dev) (i : Nat) (b : Bool) : (d.settleLine i b).psq = d.psq := by cases b <;> rfl
@[simp] theorem Dev.settleLine_pwr (d : Dev) (i : Nat) (b : Bool) : (d.settleLine i b).pwr = d.pwr := by cases b <;> rfl
@[simp] theorem Dev.settleLine_free (d : Dev) (i : Nat) (b : Bool) : (d.settleLine i b).free = d.free := by cases b <;> rfl
@[simp] theorem Dev.settleLine_lt (d : Dev) (i : Nat) (b : Bool) : (d.settleLine i b).lt = d.lt := by cases b <;> rfl
@[simp] theorem Dev.settleLine_sw (d : Dev) (i : Nat) (b : Bool) : (d.settleLine i b).sw = d.sw := by cases b <;> rfl
@[simp] theorem Dev.settleLine_can (d : Dev) (i : Nat) (b : Bool) : (d.settleLine i b).can = d.can := by cases b <;> rfl
@[simp] theorem Dev.settleLine_loop (d : Dev) (i : Nat) (b : Bool) : (d.settleLine i b).loop = d.loop := by cases b <;> rfl
@[simp] theorem Dev.settleLine_gn (d : Dev) (i : Nat) (b : Bool) : (d.settleLine i b).gn = d.gn := by cases b <;> rfl
@[simp] theorem Dev.settleLine_kept (d : Dev) (i : Nat) (b : Bool) : (d.settleLine i b).kept = d.kept := by cases b <;> rfl
@[simp] theorem Dev.settleLine_key (d : Dev) (i : Nat) (b : Bool) : (d.settleLine i b).key = d.key := by cases b <;> rfl
@[simp] theorem Dev.settleLine_acc (d : Dev) (i : Nat) (b : Bool) : (d.settleLine i b).acc = d.acc := by cases b <;> rfl
@[simp] theorem Dev.settleLine_root (d : Dev) (i : Nat) (b : Bool) : (d.settleLine i b).root = d.root := by cases b <;> rfl
@[simp] theorem Dev.settleLine_tampLock (d : Dev) (i : Nat) (b : Bool) : (d.settleLine i b).tampLock = d.tampLock := by cases b <;> rfl
@[simp] theorem Dev.settleLine_upd (d : Dev) (i : Nat) (b : Bool) : (d.settleLine i b).upd = d.upd := by cases b <;> rfl
@[simp] theorem Dev.settleLine_stg (d : Dev) (i : Nat) (b : Bool) : (d.settleLine i b).stg = d.stg := by cases b <;> rfl
@[simp] theorem Dev.settleLine_tap (d : Dev) (i : Nat) (b : Bool) : (d.settleLine i b).tap = d.tap := by cases b <;> rfl

/-- A dropped line is down, and the others stay. -/
@[simp] theorem Dev.dropLine_lines (d : Dev) (i j : Nat) (h : j < 96) :
    (d.dropLine i).flt.lines.getLsbD j = (d.flt.lines.getLsbD j && decide (i ≠ j)) := by
  simp only [Dev.dropLine, BitVec.getLsbD_and, BitVec.getLsbD_not, BitVec.getLsbD_ofNat, Nat.testBit_two_pow, h]
  by_cases hij : i = j <;> simp [hij]

/-- A settled line keeps what it was while a cause is present. -/
@[simp] theorem Dev.settleLine_held (d : Dev) (i : Nat) : d.settleLine i true = d := rfl
@[simp] theorem Dev.settleLine_gone (d : Dev) (i : Nat) : d.settleLine i false = d.dropLine i := rfl

/-! ### ERR_N (17 R478) -/

@[simp] theorem Dev.driveErrn_mem (d : Dev) (low : Bool) : (d.driveErrn low).mem = d.mem := by unfold Dev.driveErrn; split <;> rfl
@[simp] theorem Dev.driveErrn_hl (d : Dev) (low : Bool) : (d.driveErrn low).hl = d.hl := by unfold Dev.driveErrn; split <;> rfl
@[simp] theorem Dev.driveErrn_mt (d : Dev) (low : Bool) : (d.driveErrn low).mt = d.mt := by unfold Dev.driveErrn; split <;> rfl
@[simp] theorem Dev.driveErrn_rtc (d : Dev) (low : Bool) : (d.driveErrn low).rtc = d.rtc := by unfold Dev.driveErrn; split <;> rfl
@[simp] theorem Dev.driveErrn_carry (d : Dev) (low : Bool) : (d.driveErrn low).carry = d.carry := by unfold Dev.driveErrn; split <;> rfl
@[simp] theorem Dev.driveErrn_sch (d : Dev) (low : Bool) : (d.driveErrn low).sch = d.sch := by unfold Dev.driveErrn; split <;> rfl
@[simp] theorem Dev.driveErrn_ch (d : Dev) (low : Bool) : (d.driveErrn low).ch = d.ch := by unfold Dev.driveErrn; split <;> rfl
@[simp] theorem Dev.driveErrn_eng (d : Dev) (low : Bool) : (d.driveErrn low).eng = d.eng := by unfold Dev.driveErrn; split <;> rfl
@[simp] theorem Dev.driveErrn_pose (d : Dev) (low : Bool) : (d.driveErrn low).pose = d.pose := by unfold Dev.driveErrn; split <;> rfl
@[simp] theorem Dev.driveErrn_bnd (d : Dev) (low : Bool) : (d.driveErrn low).bnd = d.bnd := by unfold Dev.driveErrn; split <;> rfl
@[simp] theorem Dev.driveErrn_psq (d : Dev) (low : Bool) : (d.driveErrn low).psq = d.psq := by unfold Dev.driveErrn; split <;> rfl
@[simp] theorem Dev.driveErrn_pwr (d : Dev) (low : Bool) : (d.driveErrn low).pwr = d.pwr := by unfold Dev.driveErrn; split <;> rfl
@[simp] theorem Dev.driveErrn_free (d : Dev) (low : Bool) : (d.driveErrn low).free = d.free := by unfold Dev.driveErrn; split <;> rfl
@[simp] theorem Dev.driveErrn_lt (d : Dev) (low : Bool) : (d.driveErrn low).lt = d.lt := by unfold Dev.driveErrn; split <;> rfl
@[simp] theorem Dev.driveErrn_sw (d : Dev) (low : Bool) : (d.driveErrn low).sw = d.sw := by unfold Dev.driveErrn; split <;> rfl
@[simp] theorem Dev.driveErrn_can (d : Dev) (low : Bool) : (d.driveErrn low).can = d.can := by unfold Dev.driveErrn; split <;> rfl
@[simp] theorem Dev.driveErrn_loop (d : Dev) (low : Bool) : (d.driveErrn low).loop = d.loop := by unfold Dev.driveErrn; split <;> rfl
@[simp] theorem Dev.driveErrn_gn (d : Dev) (low : Bool) : (d.driveErrn low).gn = d.gn := by unfold Dev.driveErrn; split <;> rfl
@[simp] theorem Dev.driveErrn_kept (d : Dev) (low : Bool) : (d.driveErrn low).kept = d.kept := by unfold Dev.driveErrn; split <;> rfl
@[simp] theorem Dev.driveErrn_key (d : Dev) (low : Bool) : (d.driveErrn low).key = d.key := by unfold Dev.driveErrn; split <;> rfl
@[simp] theorem Dev.driveErrn_acc (d : Dev) (low : Bool) : (d.driveErrn low).acc = d.acc := by unfold Dev.driveErrn; split <;> rfl
@[simp] theorem Dev.driveErrn_root (d : Dev) (low : Bool) : (d.driveErrn low).root = d.root := by unfold Dev.driveErrn; split <;> rfl
@[simp] theorem Dev.driveErrn_tampLock (d : Dev) (low : Bool) : (d.driveErrn low).tampLock = d.tampLock := by unfold Dev.driveErrn; split <;> rfl
@[simp] theorem Dev.driveErrn_upd (d : Dev) (low : Bool) : (d.driveErrn low).upd = d.upd := by unfold Dev.driveErrn; split <;> rfl
@[simp] theorem Dev.driveErrn_stg (d : Dev) (low : Bool) : (d.driveErrn low).stg = d.stg := by unfold Dev.driveErrn; split <;> rfl
@[simp] theorem Dev.driveErrn_tap (d : Dev) (low : Bool) : (d.driveErrn low).tap = d.tap := by unfold Dev.driveErrn; split <;> rfl

/-! ### Sampled lands (16 R465) -/

@[simp] theorem Dev.landSample_regs (d : Dev) (k r : Nat) (b : Bool) : ((d.landSample k r b).2).regs = d.regs := rfl
@[simp] theorem Dev.landSample_mem (d : Dev) (k r : Nat) (b : Bool) : ((d.landSample k r b).2).mem = d.mem := rfl
@[simp] theorem Dev.landSample_hl (d : Dev) (k r : Nat) (b : Bool) : ((d.landSample k r b).2).hl = d.hl := rfl
@[simp] theorem Dev.landSample_mt (d : Dev) (k r : Nat) (b : Bool) : ((d.landSample k r b).2).mt = d.mt := rfl
@[simp] theorem Dev.landSample_rtc (d : Dev) (k r : Nat) (b : Bool) : ((d.landSample k r b).2).rtc = d.rtc := rfl
@[simp] theorem Dev.landSample_carry (d : Dev) (k r : Nat) (b : Bool) : ((d.landSample k r b).2).carry = d.carry := rfl
@[simp] theorem Dev.landSample_sch (d : Dev) (k r : Nat) (b : Bool) : ((d.landSample k r b).2).sch = d.sch := rfl
@[simp] theorem Dev.landSample_ch (d : Dev) (k r : Nat) (b : Bool) : ((d.landSample k r b).2).ch = d.ch := rfl
@[simp] theorem Dev.landSample_eng (d : Dev) (k r : Nat) (b : Bool) : ((d.landSample k r b).2).eng = d.eng := rfl
@[simp] theorem Dev.landSample_pose (d : Dev) (k r : Nat) (b : Bool) : ((d.landSample k r b).2).pose = d.pose := rfl
@[simp] theorem Dev.landSample_bnd (d : Dev) (k r : Nat) (b : Bool) : ((d.landSample k r b).2).bnd = d.bnd := rfl
@[simp] theorem Dev.landSample_psq (d : Dev) (k r : Nat) (b : Bool) : ((d.landSample k r b).2).psq = d.psq := rfl
@[simp] theorem Dev.landSample_flt (d : Dev) (k r : Nat) (b : Bool) : ((d.landSample k r b).2).flt = d.flt := rfl
@[simp] theorem Dev.landSample_free (d : Dev) (k r : Nat) (b : Bool) : ((d.landSample k r b).2).free = d.free := rfl
@[simp] theorem Dev.landSample_lt (d : Dev) (k r : Nat) (b : Bool) : ((d.landSample k r b).2).lt = d.lt := rfl
@[simp] theorem Dev.landSample_sw (d : Dev) (k r : Nat) (b : Bool) : ((d.landSample k r b).2).sw = d.sw := rfl
@[simp] theorem Dev.landSample_can (d : Dev) (k r : Nat) (b : Bool) : ((d.landSample k r b).2).can = d.can := rfl
@[simp] theorem Dev.landSample_loop (d : Dev) (k r : Nat) (b : Bool) : ((d.landSample k r b).2).loop = d.loop := rfl
@[simp] theorem Dev.landSample_gn (d : Dev) (k r : Nat) (b : Bool) : ((d.landSample k r b).2).gn = d.gn := rfl
@[simp] theorem Dev.landSample_kept (d : Dev) (k r : Nat) (b : Bool) : ((d.landSample k r b).2).kept = d.kept := rfl
@[simp] theorem Dev.landSample_key (d : Dev) (k r : Nat) (b : Bool) : ((d.landSample k r b).2).key = d.key := rfl
@[simp] theorem Dev.landSample_acc (d : Dev) (k r : Nat) (b : Bool) : ((d.landSample k r b).2).acc = d.acc := rfl
@[simp] theorem Dev.landSample_root (d : Dev) (k r : Nat) (b : Bool) : ((d.landSample k r b).2).root = d.root := rfl
@[simp] theorem Dev.landSample_tampLock (d : Dev) (k r : Nat) (b : Bool) : ((d.landSample k r b).2).tampLock = d.tampLock := rfl
@[simp] theorem Dev.landSample_upd (d : Dev) (k r : Nat) (b : Bool) : ((d.landSample k r b).2).upd = d.upd := rfl
@[simp] theorem Dev.landSample_stg (d : Dev) (k r : Nat) (b : Bool) : ((d.landSample k r b).2).stg = d.stg := rfl
@[simp] theorem Dev.landSample_tap (d : Dev) (k r : Nat) (b : Bool) : ((d.landSample k r b).2).tap = d.tap := rfl

/-- A sample counts as the second active one only right after an active one. -/
theorem Dev.landSample_second (d : Dev) (k r : Nat) :
    ((d.landSample k r true).2.landSample k (r + 1) true).1 = true := by
  simp [Dev.landSample, sparseGet_put_same]

/-- An inactive sample is never the second active one, and the next active one is the first. -/
theorem Dev.landSample_broken (d : Dev) (k r : Nat) (b : Bool) :
    (d.landSample k r false).1 = false ∧ ((d.landSample k r false).2.landSample k (r + 1) b).1 = false := by
  simp [Dev.landSample, sparseGet_put_same]

end Sys2Proof.Machine
end

