-- ==== Sys2Proof/Laws/Queues.lean ====
section
/-! SUPPORT. What the shared runs of a command can do: a device function, a key operation at its turn, a staging operation at its turn. -/

namespace Sys2Proof.Machine

/-- A command that is a function of the device becomes that function's value. -/
theorem becomes_of_onDev {c : Instr} {d d' : Dev} (f : Dev → Dev) (hc : ∀ s, exec c s = onDev s f) (h : f d = d') :
    Becomes c d d' := fun nv q => by rw [hc, ← h]; rfl

/-- A key operation at its turn has its effect on the device right before it. -/
theorem runKey_turn {d e : Dev} {nv : Nv} {op : Nat} {data : List Byte} {det : Option Bool} {a : AccDesc}
    (f : AccDesc → Dev → Nv → Dev × Nv) (q : List Instr) (h : VaultTurn d nv op data det a e) :
    runKey op data det f ⟨d, nv, q⟩ = .next ⟨(f a e nv).1, (f a e nv).2, q⟩ := by
  obtain ⟨h1, h2, h3, h4, h5, h6, h7, h8⟩ := h
  simp only [Dev.vaultQueue] at h1 h2 h4 h5 h6 h7
  obtain ⟨l, h1⟩ := List.head?_eq_some_iff.mp h1
  unfold runKey
  dsimp only
  rw [h1]
  simp only [h2, h3, h4, h5, h6, and_self, if_true]
  rw [← h7, if_pos h8]

/-- A staging operation at its turn, its data read, has its effect. -/
theorem runStaging_turn {d : Dev} {op : Nat} {data : List Byte} {a : AccDesc} (len : BitVec 256 → Nat)
    (f : AccDesc → Dev → Nv → Dev × Nv) (nv : Nv) (q : List Instr) (h : StagingTurn d op a)
    (hl : len a.word = 0 ∨ (data.length = len a.word ∧ d.canMaster = true)) :
    runStaging op data len f ⟨d, nv, q⟩ = .next ⟨(f a (d.takeDesc a) nv).1, (f a (d.takeDesc a) nv).2, q⟩ := by
  obtain ⟨h1, h2, h3⟩ := h
  unfold runStaging
  dsimp only
  rw [h1]
  simp only [h2, h3]
  rw [if_pos ⟨trivial, hl⟩]

end Sys2Proof.Machine
end

