-- ==== Sys2Proof/Tests/Slice0.lean ====
section
/-! SUPPORT. Tests. First the checks of WellFormed, each with a command that it refuses; then single steps, their values worked out by
hand from the spec; then, for each statement with hypotheses, states and operands that meet them, one entry of the list for each clause. -/

namespace Sys2Proof.Slice0Tests
open Sys2Proof Sys2Proof.Machine
set_option Elab.async false

/-! ### Helpers -/

/-- Every entry holds. -/
def allMet (l : List Bool) : Bool := l.all id

/-- The device with every domain on, the clocks running, MT loaded and at 1,000 s, and the link up. -/
def on : Dev :=
  let d := State.reset.dev
  ({ d with
    mt := { d.mt with now := 4000000000000, prev := 3999999999960, loaded := true, refOk := true },
    hl := { d.hl with bme := true, msixEn := true, msixMask := false },
    pwr := { d.pwr with on := 0x3FFF, good := 0x3FFF, pll := true, xtal := true, park := .run } }).setFlag R.HL_LINK_UP true

/-- That device with a schedule that is ready. -/
def ready : Dev := (on.setFlag R.SCH_STAT_READY true).setFlag R.MT_STATE_READY true

/-- A completion owed to SQ 0 and CQ 0. -/
def owed : CplRef := { id := 0, sq := 0, cq := 0, epoch := 0, notify := false, cookie := 0 }

/-- An accepted descriptor of which the bits of w stand from bit 0 up. -/
def taken (w : Nat) : AccDesc := { ref := owed, word := BitVec.ofNat 256 w, addr := 0 }

/-- A device to which a descriptor is handed. -/
def handed (d : Dev) (w : Nat) : Dev := { d with hl := { d.hl with handed := [taken w] } }

/-- The descriptor is the next one of its type. -/
def nextIs (d : Dev) (w : Nat) (ty : Nat) : Bool := decide ((d.nextDesc fun x => descType x == ty) = some (taken w))

/-- A schedule entry of an action that is due now. -/
def due (action target : Nat) (st : EntSt) : Entry :=
  { ins := 1, fire := on.now, final := on.now, action := action, target := target, arg := 0, prio := 0, policy := 0,
    maxLate := 0, group := 0, src := .host owed 0, imm := false, rsv := false, st := st, win := true, refetched := false,
    doomed := false, clu := false, late := 0 }

/-- A device whose schedule holds one entry. -/
def hold (d : Dev) (e : Entry) : Dev := { d with sch := { d.sch with ents := [e] } }

/-! ### Hypotheses met: host link -/

theorem test_empty_queue_met : State.reset.pending = [] := rfl

/-- A state of the block with other stores. -/
def withNv (n : Nv) : State := { State.reset with nv := n }

theorem test_fuses_met :
    step (withNv { State.reset.nv with sealFuse := true, revoked := 1 }) =
      .next (withNv { State.reset.nv with sealFuse := true, revoked := 1 }) := rfl

theorem test_lifecycle_met : allMet [
    decide (({ State.reset.nv with sealFuse := true } : Nv).life = 1),
    decide (({ State.reset.nv with retireFuse := true } : Nv).life = 2)] = true := by decide +kernel

theorem test_stores_form_met : ({ State.reset.nv with journal := 4, active := [(5, 0)] } : Nv).Inv :=
  ⟨by decide, by decide, by decide, by decide, by decide, by decide⟩

theorem test_off_domain_met : allMet [
    decide (writtenReg (.chCmdOn 5 1) = some (R.CH_CMD 5)), !State.reset.dev.domOn (domOf (R.CH_CMD 5)),
    decide (writtenReg (.registerWrite (.bar0 0x60004) 1) = some 0x60004), !State.reset.dev.domOn (domOf 0x60004),
    decide ((4 ≠ 4 ∨ (0x00002 : Nat) % 4 ≠ 0)), decide ((3 : Nat) ≠ 4 ∨ (0x00004 : Nat) % 4 ≠ 0)] = true := by
  decide +kernel

theorem test_access_codes_met : allMet [
    (regRow R.HL_BAD_ACCESS_CNT).any (·.cnt), (regRow R.HL_RING_CTRL).any (!·.cnt)] = true := by decide +kernel

theorem test_host_memory_met : allMet [
    decide ((2 ^ 64 - 2) + ([1#8, 2#8] : List Byte).length ≤ 2 ^ 64), decide (0 + ([] : List Byte).length ≤ 2 ^ 64)] = true := by
  decide +kernel

theorem test_register_write_met : allMet [
    decide (((0x10008 : BitVec 20)).toNat % 4 = 0), decide ((0x3FC#13).toNat % 4 = 0 ∧ (0x3FC#13).toNat < 0x400),
    decide ((0x400#13).toNat % 4 = 0 ∧ 0x400 ≤ (0x400#13).toNat), decide (on.hl.cfg.mps ≤ 1 ∧ on.hl.cfg.mrrs ≤ 2)] = true := by
  decide +kernel

theorem test_ring_commands_met : allMet [
    (let d := (on.setFlag (R.HL_SQ_CFG_EN 63) true).setFld (R.HL_SQ_CFG_SIZE_LOG2 63) 4
     d.domOn 8 && d.flag (R.HL_SQ_CFG_EN 63) && decide (bitsOf 15#32 0 12 < d.sqSize 63)),
    (let d := ((on.setFlag (R.HL_CQ_CFG_EN 63) true).setFld (R.HL_CQ_CFG_SIZE_LOG2 63) 4).setFld (R.HL_CQ_TAIL_INDEX 63) 15
     d.domOn 8 && d.flag (R.HL_CQ_CFG_EN 63) && decide (bitsOf 15#32 0 12 < d.cqSize 63) &&
       decide ((bitsOf 15#32 0 12 + d.cqSize 63 - d.fld (R.HL_CQ_HEAD_INDEX 63)) % d.cqSize 63 ≤
         (d.fld (R.HL_CQ_TAIL_INDEX 63) + d.cqSize 63 - d.fld (R.HL_CQ_HEAD_INDEX 63)) % d.cqSize 63)),
    on.domOn 8 && !on.flag (R.HL_SQ_CFG_EN 0) && (1#32).getLsbD 0,
    (let d := on.setFlag (R.HL_SQ_CFG_EN 0) true; d.domOn 8 && d.flag (R.HL_SQ_CFG_EN 0) && !(0#32).getLsbD 0),
    on.domOn 8 && !on.flag (R.HL_CQ_CFG_EN 0) && (1#32).getLsbD 0,
    (let d := on.setFlag (R.HL_CQ_CFG_EN 0) true; d.domOn 8 && d.flag (R.HL_CQ_CFG_EN 0) && !(0#32).getLsbD 0)] = true := by
  decide +kernel

theorem test_ring_events_met : allMet [
    (let d := ((on.setFlag (R.HL_SQ_CFG_EN 0) true).setFld (R.HL_SQ_CFG_SIZE_LOG2 0) 4).setFld (R.HL_SQ_TAIL_INDEX 0) 1
     d.mayFetch 0),
    decide (((on.setSq 0 { on.sq 0 with reads := [1] }).sq 0).reads = ([0#256] : List (BitVec 256)).length :: []),
    decide (((on.setSq 0 { on.sq 0 with reads := [1] }).sq 0).reads ≠ []),
    (let x : HeldCpl := { ref := owed, status := 0, detail := 0, cflags := 0, source := 0 }
     let d : Dev := { ((on.setFlag (R.HL_CQ_CFG_EN 0) true).setFld (R.HL_CQ_CFG_SIZE_LOG2 0) 4) with hl := { on.hl with held := [x] } }
     decide ((d.hl.held.find? fun x => x.ref.cq == 0) = some x) && d.canMaster && d.flag (R.HL_CQ_CFG_EN 0) && !d.cqFull 0),
    decide (((on.setCq 0 { CqHid.init with last := some (16, [0#8]) }).cq 0).last = some (16, [0#8])),
    (let d := (((on.setFlag (R.HL_CQ_CFG_EN 0) true).setFlag (R.HL_CQ_CFG_IEN 0) true).setFld (R.HL_CQ_COAL_TIME 0) 1).setCq 0
        { CqHid.init with unsig := 1 }
     d.flag (R.HL_CQ_CFG_EN 0) && d.flag (R.HL_CQ_CFG_IEN 0) && decide (d.fld (R.HL_CQ_COAL_TIME 0) ≠ 0) &&
       decide ((d.cq 0).unsig ≠ 0) && decide ((d.cq 0).oldest + usTicks (d.fld (R.HL_CQ_COAL_TIME 0)) ≤ d.now)),
    (let d : Dev := { on with hl := { on.hl with msixPend := 1, msixTab := sparsePut msixDefault [] 3 0 } }
     d.hl.msixPend.getLsbD 0 && d.canSend 0)] = true := by decide +kernel

theorem test_link_commands_met : allMet [
    on.flag R.HL_LINK_UP, on.domOn 8, decide ((2 : Nat) ≠ 4 ∨ (0x00000 : Nat) % 4 ≠ 0),
    decide ((4 : Nat) ≠ 4 ∨ (0xFFFFF : Nat) % 4 ≠ 0), !State.reset.dev.domOn (domOf 0xFFFFC) ] = true := by decide +kernel

theorem test_disabled_queue_met : on.flag (R.HL_CQ_CFG_EN 0) = false := by decide +kernel

theorem test_completion_written_met : allMet [
    (let d := (on.setFld (R.HL_CQ_CFG_SIZE_LOG2 63) 4).setFld (R.HL_CQ_TAIL_INDEX 63) 15
     let i := d.fld (R.HL_CQ_TAIL_INDEX 63)
     decide (i < d.cqSize 63 ∧ d.cqSize 63 ≤ 4096 ∧ d.reg64 (R.HL_CQ_BASE_LO 63) (R.HL_CQ_BASE_HI 63) + 16 * i + 16 ≤ 2 ^ 64)),
    (let d := on.setFld (R.HL_CQ_CFG_SIZE_LOG2 0) 12
     decide (d.fld (R.HL_CQ_TAIL_INDEX 0) < d.cqSize 0 ∧ d.cqSize 0 ≤ 4096 ∧
       d.reg64 (R.HL_CQ_BASE_LO 0) (R.HL_CQ_BASE_HI 0) + 16 ≤ 2 ^ 64))] = true := by decide +kernel

/-! ### Hypotheses met: machine time -/

theorem test_time_registers_met : allMet [
    on.domOn 3 && (1#32).getLsbD 0, on.domOn 3 && on.mt.step.isNone,
    decide (({ on with mt := { on.mt with step := some ⟨0, 0⟩ } }).mt.step = some ⟨0, 0⟩)] = true := by decide +kernel

theorem test_time_events_met : allMet [
    on.mt.loaded && on.mt.refOk,
    (let d := on.setFld R.MT_STATE_STATE 2
     decide (d.mtSt = 2 ∧ d.mt.lastGood + d.lossTicks ≤ d.now ∧ d.substitute = none)),
    (let d := (({ on with mt := { on.mt with runs := [(1, 3)], hist := [⟨1, 0, on.now⟩] } }).setFld R.MT_STATE_STATE 2).setFld R.MT_SRC_CFG_PRI0 1
     decide (d.mtSt = 2 ∧ d.mt.lastGood + d.lossTicks ≤ d.now) && d.substitute.isSome),
    (let d := on.setFld R.MT_STATE_STATE 1; decide (d.mtSt = 1 ∧ d.mt.hoEntry + d.holdTicks ≤ d.now)),
    (let d := on.setFlag R.MT_STATE_SLEWING true; d.flag R.MT_STATE_SLEWING && decide (d.ofsErr ≤ d.deadband)),
    (let d : Dev := { on with mt := { on.mt with step := some ⟨0, 0⟩ } }; decide (d.mt.step = some ⟨0, 0⟩ ∧ 0 ≤ d.now)),
    (let d := (on.setFlag (R.MT_PPS_CFG_EN 0) true).setFlag (R.MT_PPS_CFG_BASE 0) true; (d.ppsNow 0).isSome && d.ppsRuns 0),
    (let d := on.setPpsEnd 1 (some on.now); decide (d.ppsEnd 1 = some on.now ∧ on.now ≤ d.now)),
    (let d := on.setSync 7 { lvl := true, pulse := some (0, 0) }; decide ((d.sync 7).pulse = some (0, 0) ∧ 0 ≤ d.now)),
    (let d := (on.setFlag (R.MT_MK_CFG_EN 7) true).setReg (R.MT_MK_CFG 7) 0x03
     d.mt.loaded && d.flag (R.MT_MK_CFG_EN 7) && decide (d.flag (R.MT_MK_CFG_SRC 7) = false) &&
       (d.reg (R.MT_MK_CFG 7)).getLsbD 1),
    (let d : Dev := { ready with mt := { ready.mt with refNext := some 0 } }
     let d := d.setFlag R.MT_CANREF_CFG_MASTER_EN true
     decide (d.mt.refNext = some 0) && d.schReady && d.flag R.MT_CANREF_CFG_MASTER_EN && decide (0 ≤ d.now)),
    (let d : Dev := { on with mt := { on.mt with loaded := false } }
     d.domOn 3 && d.pwr.pll && d.mt.refOk && !d.mt.loaded && d.carry.isNone),
    (let c : Carry := { mt := 0, rtc := 0, ofs := 0, rate := 0, terr := 0, state := 0, ofsValid := false, goodT := none, hoEntry := 0, cal := 0 }
     let d : Dev := { on with mt := { on.mt with loaded := false }, carry := some c }
     d.domOn 3 && d.pwr.pll && d.mt.refOk && !d.mt.loaded && decide (d.carry = some c)),
    (let d : Dev := { on with pwr := { on.pwr with park := .closed, parkAt := 0 } }
     d.mt.loaded && decide (d.pwr.park = .closed ∧ d.pwr.parkAt + secTicks ≤ d.now)),
    on.domOn 3] = true := by decide +kernel

theorem test_cycle_rate_met : allMet [
    decide (on.mt.now < 2 ^ 63 ∧ on.mt.frac < 2 ^ 32 ∧ (on.reg R.MT_RATE_LIM).toNat ≤ 0x010624DD),
    decide ((on.setReg R.MT_RATE 0x80000000).mt.now < 2 ^ 63)] = true := by decide +kernel

theorem test_marker_fifo_met : allMet [
    (let d := on.setMarker 7 { fifo := [(5, true)], last := some 5 }
     d.domOn 3 && decide ((d.marker 7).fifo = (5, true) :: []) && (1#32).getLsbD 0),
    (let d := on.setMarker 0 { fifo := List.replicate 16 (5, true), last := some 5 }
     decide ((d.marker 0).fifo.length = 16) &&
       decide (∀ l ∈ (d.marker 0).last, l + max 2 (d.fld (R.MT_MK_CFG_MIN_GAP 0)) * 40 ≤ 4000000))] = true := by decide +kernel

/-! ### Hypotheses met: the schedule and its actions -/

theorem test_schedule_commands_met : allMet [
    (let w := 0x10 + on.now * 2 ^ 32 + 0x0F * 2 ^ 96
     let d := handed ready w
     let f := actOfDesc (taken w).word
     nextIs d w 0x10 && d.domOn 3 && (d.takeDesc (taken w)).schReady && decide (f.bad d.now = none) &&
       decide ((d.takeDesc (taken w)).mayInsert 0 f.prio f.imm = some false)),
    (let d := handed ready 0x11
     nextIs d 0x11 0x11 && decide (cancelBad (taken 0x11).word = none) && !(taken 0x11).word.getLsbD 12),
    (let d := handed ready 0x1011
     nextIs d 0x1011 0x11 && decide (cancelBad (taken 0x1011).word = none) && (taken 0x1011).word.getLsbD 12),
    on.domOn 3 && decide (1#32 &&& 7#32 = 1#32 ∧ 2#32 &&& 7#32 = 2#32 ∧ 4#32 &&& 7#32 = 4#32),
    (let e := { due 0x0F 0 .waiting with win := false }
     let d := hold on e
     decide (d.entry 1 = some e ∧ d.sch.lastCommit ≠ some d.mt.cyc ∧ d.windowUsed < 960) && d.commitTurn e),
    (let e := { due 0x0F 0 .waiting with win := false, imm := true }
     let d := hold on e
     decide (d.entry 1 = some e ∧ d.sch.lastCommit ≠ some d.mt.cyc ∧ e.imm = true) && d.commitTurn e),
    (let e := { due 0x0F 0 .redo with final := on.now + 8000 }
     let d := hold on e
     decide (d.entry 1 = some e ∧ e.st = .redo ∧ e.src = .host owed 0) && d.canMaster && decide (d.now + leadOf e.action ≤ e.final) &&
       decide (descSeq (taken 0x10).word = 0 ∧ descCookie (taken 0x10).word = owed.cookie) && !e.doomed),
    (let e := { due 0x0F 0 .redo with src := .eng 3 0x100 }
     let d := hold on e
     decide (d.entry 1 = some e ∧ e.st = .redo ∧ e.src.cls ≠ 0) && !e.doomed),
    (let e := due 0x0F 0 .committed
     let d := hold on e
     decide (d.entry 1 = some e ∧ e.st = .committed ∧ e.final ≤ d.now + leadOf e.action) && !d.injected 2 none)] = true := by
  decide +kernel

/-- A device whose schedule holds a dispatched entry of an action, with its target an output in MODE 1. -/
def placing (d : Dev) (a t : Nat) (v : Word) : Dev × Entry :=
  let e := { due a t .dispatched with arg := v }
  (hold (((d.setFld (R.CH_CFG_MODE 20) 1).setFlag (R.CH_STAT_SAFE 20) false).setFlag (R.MT_SYNC_CFG_OE 7) true) e, e)

theorem test_actions_met : allMet [
    (let p := placing on 0x01 20 0; decide (p.1.entry 1 = some p.2) && p.1.placeable p.2 0x01 && p.1.targetAccepts p.2 && !p.1.cfgWaits p.2),
    (let p := placing on 0x01 20 1; p.1.placeable p.2 0x01 && p.1.targetAccepts p.2 && decide (p.2.arg = 1)),
    (let p := placing on 0x01 20 2; p.1.placeable p.2 0x01 && p.1.targetAccepts p.2 && decide (p.2.arg = 2)),
    (let p := placing (on.setFlag (R.CH_CFG_PWM_EN 20) true) 0x02 20 500
     !p.1.cfgWaits p.2 && p.1.placeable p.2 0x02 && p.1.targetAccepts p.2 && decide (p.1.entry 1 = some p.2)),
    (let p := placing on 0x03 20 10; !p.1.cfgWaits p.2 && p.1.placeable p.2 0x03 && p.1.targetAccepts p.2 && decide (p.1.entry 1 = some p.2)),
    (let p := placing (on.setFld (R.CH_CFG_OWNER 20) 2) 0x04 20 0
     !p.1.cfgWaits p.2 && p.1.placeable p.2 0x04 && p.1.acceptsProfile p.2.target && decide (p.1.entry 1 = some p.2)),
    (let p := placing on 0x05 3 7
     p.1.placeable p.2 0x05 && (p.1.loopLatch p.2.target (.sp p.2.arg.toInt p.2.placed) (p.1.targetAccepts p.2)).2),
    (let p := placing (on.setFlag (R.LOOP_L_CFG_LAW_EN (lawIdx 3 1)) true) 0x06 3 1
     p.1.placeable p.2 0x06 && (p.1.loopLatch p.2.target (.mode p.2.arg.toNat p.2.placed) (p.1.targetAccepts p.2)).2),
    (let p := placing on 0x07 20 3; !p.1.cfgWaits p.2 && p.1.placeable p.2 0x07 && p.1.targetAccepts p.2 && decide (p.2.arg = 3)),
    (let p := placing on 0x08 0x25 0; p.1.placeable p.2 0x08),
    (let f : SwFrame := { id := 4, port := 9, cells := 1, data := List.replicate 60 0, mt := 0, vid := 0, pcp := 0, tagged := false,
                          mgmt := false, gen := none, entry := none, desc := none, sent := [] }
     let p := placing { on with sw := { on.sw with held := [⟨5, 4, 0, 0⟩], frames := [f] } } 0x09 2 5
     p.1.placeable p.2 0x09 && (p.1.launchEth p.2.target p.2.arg.toNat).2),
    (let p := placing ({ on with lt := { on.lt with loaded := some .back } }) 0x0A 0 0
     let d := (p.1.setFlag R.LT_CTRL_EN true).setFlag R.LT_STAT_SEALED true
     d.placeable p.2 0x0A && d.flag R.LT_CTRL_EN && d.flag R.LT_STAT_SEALED && d.backReady),
    (let p := placing on 0x0B 7 1; p.1.placeable p.2 0x0B && p.1.flag (R.MT_SYNC_CFG_OE p.2.target)),
    (let p := placing on 0x0C 7 1; p.1.placeable p.2 0x0C && p.1.flag (R.MT_SYNC_CFG_OE p.2.target)),
    (let p := placing ((on.setFlag (R.ENG_STAT_IMG_VALID 3) true).setFlag (R.ENG_CTRL_WAKE_START 3) true) 0x0D 3 0
     p.1.placeable p.2 0x0D && !p.2.clu && decide (p.1.wakeKind p.2.target = .start)),
    (let p := placing on 0x0F 0 9; p.1.placeable p.2 0x0F && decide (p.1.entry 1 = some p.2))] = true := by decide +kernel

/-! ### Hypotheses met: GNSS, pose and boundaries -/

/-- The device with the GNSS block in operation. -/
def sky : Dev :=
  ({ on with gn := { GnState.init with loaded := true } }).setFlag R.GN_CTRL_EN true

theorem test_gnss_commands_met : allMet [
    (let w := 0x90 + 6 * 2 ^ 96
     nextIs (handed sky w) w 0x90 && decide ((handed sky w).correctionsFail (taken w).word = none) && (handed sky w).canMaster &&
       decide ((List.replicate 6 0#8).length = descField (taken w).word 12 2)),
    sky.domOn 10 && sky.mt.loaded && sky.flag R.GN_CTRL_EN && sky.gn.loaded && sky.epochDue.isSome,
    (let d := (on.setFld R.GN_LOG_CFG_SIZE_LOG2 4).setFld R.GN_LOG_TAIL_INDEX 15
     d.domOn 10 && decide (bitsOf 15#32 0 12 < d.logSize) &&
       decide ((bitsOf 15#32 0 12 + d.logSize - d.fld R.GN_LOG_HEAD_INDEX) % d.logSize ≤
         (d.fld R.GN_LOG_TAIL_INDEX + d.logSize - d.fld R.GN_LOG_HEAD_INDEX) % d.logSize)),
    on.domOn 10 && !on.flag R.GN_LOG_CFG_EN && (1#32).getLsbD 0,
    sky.mayBurst && sky.gn.retry.isNone && decide (1000 * sky.ncoh ≤ (100000#17).toNat ∧ (100000#17).toNat ≤ 100000),
    (let d : Dev := { sky with gn := { sky.gn with retry := some (0, 5) } }; decide (d.gn.retry = some (0, 5) ∧ 0 ≤ d.now) && d.mayBurst),
    (let d : Dev := { sky with gn := { sky.gn with burst := some (3, 0) } }; decide (d.gn.burst = some (3, 0) ∧ 0 ≤ d.now)),
    on.domOn 10 && !on.flag R.GN_CTRL_EN, sky.domOn 10 && sky.flag R.GN_CTRL_EN && !(0#32).getLsbD 0,
    decide (1#32 &&& 3#32 = 1#32 ∧ 2#32 &&& 3#32 = 2#32),
    (let d := sky.setFld R.GN_STAT_STATE 3; d.domOn 10 && decide (d.fld R.GN_STAT_STATE = 3 ∧ d.gn.saveAt + 60 * secTicks ≤ d.now)),
    (let d := sky.setFld R.GN_IF_CFG_IFEN 1; d.domOn 10 && d.streamOn 0 && decide ((0#64).toNat + msTicks 1 ≤ d.now)),
    (let t : GnTrk := { slot := 63, sat := { sys := 0, id := 0, elev := 90, cn0 := 45 }, l5 := false, antB := false }
     let d := (sky.setFld R.GN_IF_CFG_IFEN 15).setFld R.GN_SIG_EN_SIG 0x7F
     d.domOn 10 && d.flag R.GN_CTRL_EN && d.gn.loaded && d.streamOn (streamOf t.l5 t.antB) && d.sigOn t.sat.sys t.l5 && d.trkFits t),
    (let d : Dev := { sky with gn := { sky.gn with out := [(trkNo 63 false false, 0)] } }
     d.domOn 10 && decide ((trkNo 63 false false, 0) ∈ d.gn.out ∧ 0 + secTicks ≤ d.now)),
    on.domOn 10 && !on.gn.loaded && !on.flag R.GN_CTRL_EN && (navPart ([(5, 1), (128, 4)] : Sparse Byte)).isSome] = true := by decide +kernel

/-- An estimate at 0. -/
def still : PoseEst :=
  { e := 0, n := 0, u := 0, hdg := 0, pitch := 0, roll := 0, speed := 0, curv := 0, accel := 0, sdPos := 0, sdHdg := 0, slip := 0 }

/-- A track point at MT 0. -/
def origin : PosePt :=
  { mt := 0, seq := 0, state := 0, org := 0, est := still, trk := still, att := false, hdg2 := false, imu := false, way := 0 }

theorem test_pose_commands_met : allMet [
    (let d := on.setFlag R.POSE_CTRL_EN true; d.flag R.POSE_CTRL_EN && d.mt.loaded && d.pointDue.isSome),
    (let d := on.setPoseSt 2; decide (d.poseSt = 2) && !d.fixFresh d.now),
    (let d := (on.setFld R.POSE_STAT_STATE 3).setFld R.POSE_DR_DR_LIMIT 1
     decide (d.poseSt = 3 ∧ d.pose.drEntry + max 1 (d.fld R.POSE_DR_DR_LIMIT) * secTicks < d.now)),
    (let d := ({ on with pose := { on.pose with hist := [origin] } }).setFlag R.POSE_CTRL_IMU_EN true
     d.domOn 3 && d.flag R.POSE_CTRL_IMU_EN && d.inHistory (d.reg64 R.POSE_IMU_MT_LO R.POSE_IMU_MT_HI)),
    (let d : Dev := { on with pose := { on.pose with hist := [origin] } }; d.domOn 3 && d.lastPt.isSome),
    (let w := 0x50 + 1 * 2 ^ 96 + 1 * 2 ^ 128
     let d := handed on w
     nextIs d w 0x50 && d.domOn 3 && d.bnd.load.isNone && decide ((d.takeDesc (taken w)).mapDescBad (taken w).word = none) &&
       decide (descField (taken w).word 12 4 ≤ 32768)),
    (let l : BndLoad := { ref := owed, swap := 0, gen := 1, org := 0, count := 1, half := 0, addr := 0 }
     let d : Dev := { on with bnd := { on.bnd with load := some l } }
     decide (d.bnd.load = some l ∧ ([0#128] : List (BitVec 128)).length = l.count) && d.canMaster),
    (let m : BndMap := { gen := 1, org := 0, half := 0, ents := [0] }
     let d : Dev := { on with bnd := { on.bnd with stg := some (m, none, none) } }
     d.domOn 3 && decide (1#32 &&& 7#32 = 1#32 ∧ d.bnd.stg = some (m, none, none))),
    on.domOn 3 && decide (2#32 &&& 7#32 = 2#32),
    (let m : BndMap := { gen := 1, org := 0, half := 0, ents := [0] }
     let d : Dev := { on with bnd := { on.bnd with act := some m } }
     d.domOn 3 && decide (4#32 &&& 7#32 = 4#32 ∧ d.bnd.act = some m)),
    on.domOn 3 && !on.flag (R.BND_LP_W2_EN 255), (let d := on.setFlag (R.BND_LP_W2_EN 255) true
     d.domOn 3 && d.flag (R.BND_LP_W2_EN 255) && !(0#32).getLsbD 15)] = true := by decide +kernel

/-! ### Hypotheses met: field channels and the valve drive -/

/-- Channel 20 as an output in MODE 1 that no safe state holds. -/
def out20 : Dev := (on.setFld (R.CH_CFG_MODE 20) 1).setFlag (R.CH_STAT_SAFE 20) false

/-- That channel switched on since reset. -/
def out20on : Dev := out20.setChan 20 { Chan.init with on := true, onSince := some 0 }

theorem test_channel_registers_met : allMet [
    out20.domOn (chDom 20) && decide (1#32 &&& 31#32 = 1#32) && out20.acceptsOn 20,
    decide (2#32 &&& 31#32 = 2#32) && out20.acceptsOff 20,
    decide (4#32 &&& 31#32 = 4#32 ∧ 8#32 &&& 31#32 = 8#32 ∧ 16#32 &&& 31#32 = 16#32),
    on.domOn (chDom (16 * 7)) && decide (1#32 &&& 3#32 = 1#32), on.domOn 13 && decide (2#32 &&& 3#32 = 2#32),
    (let v := 0x3#32
     on.domOn (chDom 127) && !on.modeRefused 127 (bitsOf v 0 4) (on.elimAfter 127 v) && !on.running 127 && decide (8 ≤ 127) && !on.modeBusy 127 (bitsOf v 0 4) &&
       !on.elimRefused 127 v false)] = true := by
  decide +kernel

theorem test_on_off_met : allMet [
    decide ((20 : Nat) < 128 ∧ out20.mode (20 / 2 * 2) ≠ 4 ∧ (out20.chan 20).pulse = none) && out20.acceptsOn 20 && !(out20.chan 20).on &&
      !(out20.chan 20).elimHold && !out20.vfBad 1 && !out20.flag (R.CH_STAT_RETRY_WAIT 20) && !out20.flag R.FLT_STATE_STOP_ACTIVE,
    out20.domOn (chDom 20) && !out20.running 20 && !out20.pwmRuns 20 && decide (out20.mode 20 ≠ 4 ∧ out20.mode 20 ≠ 3),
    (let d := out20.setFld (R.CH_CFG_MODE 20) 3
     decide (d.mode 20 = 3 ∧ (d.chan 20).pulse = none) && d.domOn (chDom 20) && d.acceptsOn 20 && !d.pwmRuns 20 &&
       !(d.chan 20).prot && !(d.chan 20).on),
    (let d := (out20.setFlag (R.CH_CFG_PWM_EN 20) true).setFld (R.CH_DUTY_DUTY 20) 0x8000
     let e := d.commandOn 20 d.now
     d.acceptsOn 20 && d.pwmRuns 20 && decide ((d.chan 20).perAt < d.now ∧ 10 ≤ (e.onSteps 20 (e.dutyAt 20 d.now).1 d.now).1)),
    out20on.acceptsOff 20 && decide (out20on.mode 20 ≠ 3 ∧ (out20on.chan 20).pulse = none)] = true := by decide +kernel

theorem test_protections_met : allMet [
    decide ((31 : Nat) < 128 ∧ (32 : Nat) < 128) && !on.inInrush (on.leader 31) && !on.inInrush (on.leader 32) &&
      decide (on.ocCause 31 35999 ≠ some 1 ∧ on.ocCause 32 15000 = some 1 ∧ on.ocCause 127 (2 ^ 32 - 1) = some 1),
    out20on.domOn (chDom 20) && isOutput (out20on.mode 20) && out20on.driven 20 && decide (out20on.ocCause 20 (36000#32).toNat = some 1) &&
      out20on.outOn 20 && canConduct (out20on.mode 20) true && decide (out20on.gate 20 = some true) &&
      decide (msTicks 10 ≤ out20on.timeAbove 20 [(BitVec.ofNat 64 (out20on.now - msTicks 50), BitVec.ofNat 64 (out20on.now - msTicks 40))]),
    decide (1500 ≤ (1500#16).toInt ∧ 1750 ≤ (1750#16).toInt) && (on.chan 127).otArm,
    (let d := on.setChan 3 { Chan.init with retry := some 0 }; decide ((d.chan 3).retry = some 0) && !(d.chan 3).otWait),
    (let d := out20.setFlag (R.CH_STAT_CMD_ON 20) true
     let e := ((d.setChan 20 { Chan.init with retry := some 0 }).newTj 20 25).endRetry 20
     !e.flag (R.CH_STAT_SAFE 20) && (e.group 20).any fun k => e.flag (R.CH_STAT_CMD_ON k)),
    (let e := ((on.setChan 3 { Chan.init with retry := some 0, otWait := true }).newTj 3 1549).endRetry 3
     e.flag (R.CH_STAT_SAFE 3) && decide ((1549#16).toInt < 1550)),
    decide ((out20on.chan 20).onSince = some 0 ∧ 0 + secTicks ≤ out20on.now),
    on.domOn (chDom (16 * 7)) && decide (bankHard 7 ≤ (60000#32).toNat ∧ bankHard 1 ≤ (120000#32).toNat),
    decide ((on.reg (R.CH_BANK_IAVG 7)).toNat ≤ bankLimit 7 ∧ bankLimit 7 < (24001#32).toNat),
    decide ((5499#16).toNat < 5500) && !(on.setFld (R.CH_BANK_VF_VF 0) 5499).flag (R.CH_BANK_STAT_VF_UV 0),
    (let d := on.setFlag (R.CH_BANK_STAT_VF_UV 0) true
     decide (6000 < (6001#16).toNat ∧ (0#64).toNat + msTicks 1 ≤ d.now) && (d.setFld (R.CH_BANK_VF_VF 0) 6001).flag (R.CH_BANK_STAT_VF_UV 0)),
    decide (38000 < (38001#16).toNat) && !(on.setFld (R.CH_BANK_VF_VF 0) 38001).flag (R.CH_BANK_STAT_VF_OV 0),
    (let d := on.setFlag (R.CH_BANK_STAT_VF_OV 0) true
     decide ((36499#16).toNat < 36500 ∧ (0#64).toNat + msTicks 1 ≤ d.now) && (d.setFld (R.CH_BANK_VF_VF 0) 36499).flag (R.CH_BANK_STAT_VF_OV 0))] = true := by
  decide +kernel

theorem test_channel_events_met : allMet [
    (let d := out20on.setFlag (R.CH_CFG_PWM_EN 20) true
     d.domOn (chDom 20) && !d.running 20 && isOutput (d.mode 20) && d.pwmRuns 20 && (d.chan 20).on &&
       decide ((d.chan 20).perAt < d.pwmStart 20 d.now ∧ (BitVec.ofNat 64 (d.pwmStart 20 d.now)).toNat = d.pwmStart 20 d.now ∧ d.leader 20 = 20 ∧ (d.chan 20).pwmFrom ≤ d.pwmStart 20 d.now)),
    (let d := on.setFlag (R.PSQ_CH_STAT_RUN 20) true
     d.running 20 && !d.pwmEn 20 && d.domOn (chDom 20) &&
       decide ((d.chan 20).perAt < d.pwmStart 20 d.now ∧ (BitVec.ofNat 64 (d.pwmStart 20 d.now)).toNat = d.pwmStart 20 d.now)),
    (let d := on.setChan 20 { Chan.init with pulse := some (0, 1) }; decide ((d.chan 20).pulse = some (0, 1) ∧ 0 ≤ d.now)),
    (let d := (out20.setFlag (R.CH_DIAG_OFFDIAG_EN 20) true).setFld (R.CH_BANK_VF_VF 1) 24000; d.offDiagnosable 20),
    (let d := ((out20on.setFlag (R.CH_DIAG_ONDIAG_EN 20) true).setFld (R.CH_DIAG_OL_TH 20) 5).setReg (R.CH_I 20) 100
     d.openNow 20 (100#32).toInt.natAbs),
    (let d := out20.setFlag (R.CH_DIAG_XCON_EN 21) true
     d.domOn (chDom 21) && d.flag (R.CH_DIAG_XCON_EN 21) && isOutput (d.mode 20) && !d.driven 21 && decide ((0#64).toNat + 80000 ≤ d.now)),
    (let d := on.setFlag (R.CH_CFG_ELIM 127) true; d.flag (R.CH_CFG_ELIM 127) && !(d.chan 127).elimBad),
    on.domOn (chDom 64) && (on.die 1).armed && decide ((0#64).toNat + msTicks (max 1 (min 100 (on.fld (R.CH_DIE_WD_TIMEOUT 1)))) ≤ on.now),
    (let w := 0xA0 + 127 * 2 ^ 32 + 1 * 2 ^ 40
     nextIs (handed on w) w 0xA0 && decide (cfgBad (taken w).word on.now = none) && (handed on w).canMaster &&
       decide (([0#512] : List (BitVec 512)).length = cfgCount (taken w).word)),
    (let p : CfgPend := { ref := owed, first := 0, kind := 0, recs := [0], apply := on.now }
     let d : Dev := { on with ch := { on.ch with cfgs := [p] } }
     decide ((d.ch.cfgs.find? fun p => decide (p.apply ≤ d.now)) = some p))] = true := by decide +kernel

/-- A track point at MT 0, nothing estimated. -/
def still20 : PosePt :=
  let e : PoseEst :=
    { e := 0, n := 0, u := 0, hdg := 0, pitch := 0, roll := 0, speed := 0, curv := 0, accel := 0, sdPos := 0, sdHdg := 0, slip := 0 }
  { mt := 0, seq := 0, state := 0, org := 0, est := e, trk := e, att := false, hdg2 := false, imu := false, way := 0 }

/-- Channel 20 as a DIN1 input. -/
def din20 : Dev := on.setFld (R.CH_CFG_MODE 20) 6

/-- 24 V lies above the rising threshold of DIN1 wherever that lies within its tolerance, so the comparator's output changes. -/
theorem test_input_edge_met : din20.compare 20 (24000#32).toInt ≠ (din20.chan 20).raw := by
  have h : din20.thresholds 20 = ((10500, 1000), (9000, 1000)) := by decide +kernel
  have hr : (din20.chan 20).raw = false := by decide +kernel
  have hv : (24000#32).toInt = 24000 := by decide
  rw [hr, hv, Dev.compare, h, if_pos]
  · decide
  · simp only [atTolerance]; omega

theorem test_input_commands_met : allMet [
    din20.domOn (chDom 20) && hasLevel (din20.mode 20) && din20.runHeld 20 (0#64).toNat,
    (1#32).getLsbD 0, isInput (din20.mode 20) && decide ((din20.chan 20).ainAt < din20.now / din20.ainTicks 20 * din20.ainTicks 20),
    decide ((on.setFld (R.CH_CFG_MODE 20) 9).mode 20 = 9 ∧ 25000 < (50000#32).toInt ∧ (50000#32).toInt ≤ 50000),
    decide (50000 < (50001#32).toInt),
    (let d := on.setChan 20 { Chan.init with burden := some 0 }; decide ((d.chan 20).burden = some 0 ∧ 0 ≤ d.now)),
    (let d := (din20.setChan 20 { Chan.init with wbLow := some 0 }).setFlag (R.CH_IN_CFG_WB_EN 20) true
     decide ((d.chan 20).wbLow = some 0) && isInput (d.mode 20) && d.flag (R.CH_IN_CFG_WB_EN 20) &&
       !d.flag (R.CH_IN_STAT_WB_NOW 20) && decide (0 + d.wbTicks 20 ≤ d.now)),
    (let d := (din20.setChan 20 { Chan.init with wbHigh := some 0 }).setFlag (R.CH_IN_STAT_WB_NOW 20) true
     decide ((d.chan 20).wbHigh = some 0) && d.flag (R.CH_IN_STAT_WB_NOW 20) && decide (0 + d.wbTicks 20 ≤ d.now)),
    (let d := din20.setFlag (R.CH_IN_CFG_TAG_EN 20) true
     isInput (d.mode 20) && d.flag (R.CH_IN_CFG_TAG_EN 20) && !d.flag (R.CH_IN_CFG_TAG_MODE 20) &&
       decide ((d.chan 20).tag.fin < d.tagDue 20)),
    (let d := (din20.setFlag (R.CH_IN_CFG_TAG_EN 20) true).setFlag (R.CH_IN_CFG_TAG_MODE 20) true
     let d : Dev := { d with pose := { d.pose with hist := [{ still20 with mt := 4000, state := 2, way := 10 ^ 13 }, { still20 with mt := 2000, state := 2 }] } }
     isInput (d.mode 20) && d.flag (R.CH_IN_CFG_TAG_EN 20) && d.flag (R.CH_IN_CFG_TAG_MODE 20) &&
       (firstPass (d.tagWay 20) (d.chan 20).tag.fin d.pose.hist).isSome),
    (let d := din20.setChan 20 { Chan.init with tags := [TagWin.init] }
     decide ((d.chan 20).tags = TagWin.init :: [] ∧ TagWin.init.fin + d.filtTicks 20 + 8000 ≤ d.now))] = true := by decide +kernel

/-- Channel 20 with a profile that stands at the first word of its image, which is w. -/
def atFirst (w : Nat) : Dev :=
  ((on.setFlag (R.PSQ_CH_STAT_RUN 20) true).setCtx 20 { Ctx.init with pc := 32 }).setPsqBank 1
    { PsqBank.init with store := [(32, BitVec.ofNat 32 w)] }

/-- The profile executes the word's OP now. -/
def atWordB (d : Dev) (op : Nat) : Bool :=
  d.domOn 6 && d.running 20 && (d.ctx 20).stall.isNone && decide (psqOp (d.ctxWord 20) = op ∧ (d.ctx 20).cur ≤ d.now)

theorem test_microcode_met : allMet [
    atWordB (atFirst 0) 0, atWordB (atFirst 0x10000000) 1 && decide (10 * ((atFirst 0x10000000).ctxTarget 20 : Int) ≤ (2000000#32).toInt),
    atWordB (atFirst 0x1000FFFF) 1 &&
      decide (((atFirst 0x1000FFFF).ctx 20).cur + usTicks (psqT ((atFirst 0x1000FFFF).ctxWord 20)) ≤ on.now ∧
        (0x80000000#32).toInt < 10 * ((atFirst 0x1000FFFF).ctxTarget 20 : Int)),
    atWordB (atFirst 0x20000000) 2, atWordB (atFirst 0x30000000) 3 && decide (psqT ((atFirst 0x30000000).ctxWord 20) = 0),
    atWordB (atFirst 0x30000001) 3 && decide (psqT ((atFirst 0x30000001).ctxWord 20) ≠ 0), atWordB (atFirst 0x4000FFFF) 4,
    atWordB (atFirst 0x50000000) 5, atWordB (atFirst 0x60000000) 6 && decide (10 * psqI ((atFirst 0x60000000).ctxWord 20) ≤ (0#32).toInt.natAbs),
    atWordB (atFirst 0x6FFF0000) 6 && decide ((0#32).toInt.natAbs < 10 * psqI ((atFirst 0x6FFF0000).ctxWord 20)),
    atWordB (atFirst 0x70000001) 7, atWordB (atFirst 0x80000000) 8,
    atWordB (atFirst 0x90FFFFFF) 9 && decide (((atFirst 0x90FFFFFF).ctx 20).cur + usTicks (2 ^ 24 - 1) ≤ on.now),
    atWordB (atFirst 0xA0000000) 0xA &&
      (kink { Ctx.init with kblank := 0, krise := 2, kdrop := 1 } [⟨100, 0⟩, ⟨110, 40⟩, ⟨95, 80⟩, ⟨98, 120⟩]).isSome,
    atWordB (atFirst 0xB0000000) 0xB, atWordB (atFirst 0xC0000000) 0xC, atWordB (atFirst 0xD0000000) 0xD, atWordB (atFirst 0xE0000000) 0xE,
    atWordB (atFirst 0xF0000000) 0xF] = true := by decide +kernel

theorem test_valve_drive_met : allMet [
    on.domOn 6 && decide (on.fld (R.PSQ_CH_COIL_R_R20 127) = 0 ∧ (on.ctx 127).coilAt < on.now / msTicks 1 * msTicks 1 ∧
      on.coilRm 127 0 0 = none),
    decide ((on.setFld (R.PSQ_CH_COIL_R_R20 127) 1).fld (R.PSQ_CH_COIL_R_R20 127) ≠ 0),
    (let h : HeldStart := { chan := 20, ent := due 4 20 .dispatched, holdA := 0, free := some 0 }
     let d := on.setPsqBank 1 { PsqBank.init with held := [h] }
     decide (d.heldOf 20 = some h ∧ h.free = some 0 ∧ 0 ≤ d.now) && d.heldFirst h),
    (let h : HeldStart := { chan := 20, ent := due 4 20 .dispatched, holdA := 0, free := none }
     let d := on.setPsqBank 1 { PsqBank.init with held := [h] }
     decide (d.heldOf 20 = some h ∧ h.free = none ∧ h.ent.final + usTicks h.ent.maxLate ≤ d.now + 8000)),
    on.domOn 6 && !on.flag R.PSQ_LD_STAT_BUSY,
    (let d := on.setFlag R.PSQ_LD_STAT_BUSY true
     d.flag R.PSQ_LD_STAT_BUSY && decide ((List.replicate 512 (0#32)).length = 512) && !d.flag R.PSQ_LD_CFG_SRC && d.canMaster) &&
      decide (State.reset.nv.life = 0),
    (let d := on.setFlag (R.PSQ_BANK_STAT_STG_VALID 7) true; d.flag (R.PSQ_BANK_STAT_STG_VALID 7) && decide (1#32 &&& 3#32 = 1#32)),
    (let d := on.setPsqBank 7 { PsqBank.init with swapAt := some 40 }; decide ((d.psqBank 7).swapAt = some 40 ∧ 40 ≤ d.now)),
    decide (2#32 &&& 3#32 = 2#32),
    (let d := on.setCtx 20 { Ctx.init with stall := some (0, false) }; decide ((d.ctx 20).stall = some (0, false) ∧ sparseGet (fun _ => none) (d.psqBank 1).src (d.ctx 20).half = none) && d.canMaster),
    !on.grpRefused 7 3 true 0 && !on.grpRefused 7 3 false 0x80000020] = true := by decide +kernel

/-! ### Hypotheses met: the loop array -/

theorem test_loop_commands_met : allMet [
    (let d := on.setFld (R.LOOP_S_PER_SPER 159) 1000
     d.domOn 6 && d.mt.loaded && (d.lastSample 159).isSome && (d.slot 159).lastS.isNone),
    decide (1#32 &&& 7#32 = 1#32 ∧ 2#32 &&& 7#32 = 2#32 ∧ 4#32 &&& 7#32 = 4#32 ∧ 128 ≤ 128), (1#32).getLsbD 0,
    (let d := on.setSlot 0 { LoopSlot.init with st := 3 }
     decide ((d.slot 0).st = 3 ∧ (d.slot 0).holdAt + 40000 * d.fld (R.LOOP_S_HOLD_HOLD 0) ≤ d.now ∧ (d.slot 0).next = none ∧
       d.reg (R.LOOP_S_SRAMP 0) = 0))] = true := by decide +kernel

/-! ### Hypotheses met: the engines -/

/-- The device with engine 15 RUNNING at the word w, its state changed by f. -/
def runs (w : Nat) (f : Eng → Eng := id) : Dev :=
  (on.setEngine 15 (f { Eng.init with imem := [(0, BitVec.ofNat 32 w)] })).setFld (R.ENG_STAT_STATE 15) 1

/-- A word with an OP and its other bits. -/
def opWord (op rest : Nat) : Nat := op * 2 ^ 26 + rest

/-- Engine 15 executes an OP now. -/
def atOpB (d : Dev) (op : Nat) : Bool := d.engIssues 15 && decide (opOf ((d.engine 15).iword (d.engine 15).pc) = op)

/-- Fields RD, RA and RB of a word. -/
def regsOf (rd ra rb : Nat) : Nat := rd * 2 ^ 22 + ra * 2 ^ 18 + rb * 2 ^ 14

theorem test_engine_arithmetic_met : allMet [
    [0x02, 0x03, 0x2F, 0x04, 0x05, 0x06, 0x07, 0x08, 0x09, 0x0A, 0x0B, 0x0C].all fun op =>
      let d := runs (opWord op (regsOf 15 15 15))
      atOpB d op && !(d.engine 15).stopReq && decide (bitsOf ((d.engine 15).iword 0) 0 14 = 0),
    [0x0D, 0x0E, 0x0F].all fun op =>
      let d := runs (opWord op (regsOf 1 2 3)) fun x => x.setG 3 7
      atOpB d op && decide ((d.engine 15).gr (rbOf ((d.engine 15).iword 0)) ≠ 0),
    (let d := runs (opWord 0x10 (regsOf 14 1 1))
     atOpB d 0x10 && decide (rdOf ((d.engine 15).iword 0) % 2 = 0 ∧ rdOf ((d.engine 15).iword 0) ≠ 0)),
    (let d := runs (opWord 0x11 (regsOf 2 4 5)) fun x => x.setG 4 0x1FFFC
     let w := (d.engine 15).iword 0
     atOpB d 0x11 && decide (rdOf w % 2 = 0 ∧ rdOf w ≠ 0 ∧ raOf w / 2 ≠ rdOf w / 2 ∧ rbOf w / 2 ≠ rdOf w / 2 ∧ raOf w ≠ rbOf w ∧
       ((d.engine 15).gr (raOf w)).toNat % 4 = 0 ∧ ((d.engine 15).gr (raOf w)).toNat < 0x20000 ∧
       ((d.engine 15).gr (rbOf w)).toNat < 0x20000) && !d.injected 8 (some 15))] = true := by decide +kernel

theorem test_alu_flags_met : decide ((31 : Nat) < 32 ∧ (0 : Nat) < 32 ∧ (5#32 : Word) ≠ 0) = true := by decide +kernel

theorem test_branch_conditions_met : allMet [
    (let d := runs (opWord 0x25 (15 * 2 ^ 22)); atOpB d 0x25 && !(d.engine 15).stopReq && decide (rdOf ((d.engine 15).iword 0) = 15))] = true := by
  decide +kernel

theorem test_engine_immediates_met : allMet [
    atOpB (runs (opWord 0x01 0)) 0x01,
    [0x12, 0x13, 0x14, 0x15, 0x1A].all fun op => atOpB (runs (opWord op (regsOf 1 2 0 + 0x3FFF))) op,
    [0x16, 0x17, 0x18].all fun op =>
      let d := runs (opWord op (regsOf 1 2 0 + 31)); atOpB d op && decide (bitsOf ((d.engine 15).iword 0) 5 13 = 0),
    (let d := runs (opWord 0x19 (regsOf 0 2 0 + 5)); atOpB d 0x19 && decide (rdOf ((d.engine 15).iword 0) = 0))] = true := by
  decide +kernel

theorem test_engine_memory_met : allMet [
    [0x1B, 0x1C, 0x1D, 0x1E, 0x1F, 0x21, 0x22, 0x23].all fun op =>
      let d := runs (opWord op (regsOf 1 2 0)) fun x => x.setG 2 0x1FFFC
      let x := d.engine 15
      let a := (x.gr (raOf (x.iword 0)) + immS (x.iword 0)).toNat
      atOpB d op && !x.stopReq && !d.injected 8 (some 15) && decide (a % 4 = 0 ∧ a < 0x20000),
    [0x20, 0x24].all fun op =>
      let d := runs (opWord op (regsOf 1 2 0 + 0x3FFFC)) fun x => x.setG 2 0x1FFFC
      let x := d.engine 15
      let p := (x.gr (raOf (x.iword 0))).toNat
      atOpB d op && decide (rdOf (x.iword 0) ≠ raOf (x.iword 0) ∧ p % 4 = 0 ∧ p < 0x20000)] = true := by decide +kernel

theorem test_engine_transfers_met : allMet [
    (let d := runs (opWord 0x25 4); atOpB d 0x25 && !condHolds (d.engine 15).flags 0 && decide (rdOf ((d.engine 15).iword 0) ≠ 15)),
    (let d := runs (opWord 0x25 (14 * 2 ^ 22 + 0x7FFF))
     atOpB d 0x25 && condHolds (d.engine 15).flags 14 && decide (targetTrap (0 + offB ((d.engine 15).iword 0)) = none)),
    (let d := runs (opWord 0x26 4)
     atOpB d 0x26 && !d.pushTraps 15 && decide (rdOf ((d.engine 15).iword 0) = 0 ∧ targetTrap (0 + offB ((d.engine 15).iword 0)) = none)),
    [0x27, 0x28].all fun op =>
      let d := runs (opWord op (regsOf 0 2 0)) fun x => x.setG 2 0x1FFFC
      atOpB d op && !d.pushTraps 15 && decide (bitsOf ((d.engine 15).iword 0) 0 18 = 0 ∧ targetTrap ((d.engine 15).gr 2) = none),
    (let d := runs (opWord 0x29 0) fun x => { x with rsd := 1, sp := 1, stk := [(0, 8)] }
     atOpB d 0x29 && !d.popTraps 15 && decide (targetTrap (d.engine 15).rstkTop = none ∧ bitsOf ((d.engine 15).iword 0) 0 26 = 0)),
    (let d := runs (opWord 0x2A 0)
     atOpB d 0x2A && decide (targetTrap (d.engine 15).epc = none) && !(d.engine 15).eflags.getLsbD 10),
    (let d := runs (opWord 0x2A 0) fun x =>
       { x with epc := 4, eflags := 0x400, erc := 2,
                imem := x.imem ++ [(1, BitVec.ofNat 32 (opWord 0x2C 0)), (2, BitVec.ofNat 32 (opWord 0x02 0))] }
     let x := d.engine 15
     atOpB d 0x2A && decide (targetTrap x.epc = none ∧ opOf (x.iword x.epc.toNat) = 0x2C ∧ x.erc ≠ 0) && x.eflags.getLsbD 10 &&
       !noRepeat (opOf (x.iword (x.epc.toNat + 4)))),
    [0x2B, 0x2C].all fun op => [0, 5].all fun rc =>
      let d := runs (opWord op 0) fun x => { x with rc := BitVec.ofNat 32 rc, imem := x.imem ++ [(1, BitVec.ofNat 32 (opWord 0x02 0))] }
      let x := d.engine 15
      atOpB d op && !x.stopReq && decide (x.pc + 4 < 0x20000 ∧ bitsOf (x.iword 0) 0 26 = 0) && !noRepeat (opOf (x.iword 4)) &&
        opListed (opOf (x.iword 4))] = true := by decide +kernel

theorem test_engine_system_met : allMet [
    (let d := runs (opWord 0x2D (regsOf 1 0 0 + 0x19)); atOpB d 0x2D && decide (raOf ((d.engine 15).iword 0) = 0)),
    (let d := runs (opWord 0x2D (regsOf 1 0 0 + 0x0C)) fun x => { x with rsd := 1 }; atOpB d 0x2D && !d.popTraps 15),
    (let d := runs (opWord 0x2E (regsOf 0 1 0 + 0x0C)); atOpB d 0x2E && specialRw 0x0C && !d.pushTraps 15),
    (let d := runs (opWord 0x30 (regsOf 0 1 2)); atOpB d 0x30 && decide (0 ≤ d.now)),
    (let d := runs (opWord 0x30 (regsOf 0 1 2)) fun x => x.setG 2 0x10000; atOpB d 0x30 && decide (d.now < 0 + 0x10000 * 2 ^ 32)),
    (let d := runs (opWord 0x31 (regsOf 1 2 0))
     atOpB d 0x31 && decide (bitsOf ((d.engine 15).iword 0) 0 18 = 0 ∧ spanTrap ((d.engine 15).gr 2) 8 24 = none ∧ (d.engine 15).outst < 64 ∧
       (actOfEmit (BitVec.ofNat 192 ((d.engine 15).num 0 24))).action = 0)),
    (let d := (runs (opWord 0x32 (regsOf 1 2 3)) fun x => x.setG 3 0x8003C).setFlag R.SW_CTRL_EN true
     let b := (d.engine 15).gr 3
     atOpB d 0x32 && decide (bitsOf b 20 12 = 0 ∧ spanTrap ((d.engine 15).gr 2) 4 (bitsOf b 0 16) = none ∧ 14 ≤ bitsOf b 0 16) &&
       d.domOn 7 && (d.swSend ((d.engine 15).bytes 0 60) 0 true none).2.isSome),
    (let f : SwFrame := { id := 4, port := 0, cells := 1, data := List.replicate 60 0, mt := 0, vid := 0, pcp := 0, tagged := false,
                          mgmt := false, gen := none, entry := none, desc := none, sent := [] }
     let d := runs (opWord 0x33 (regsOf 1 2 3)) fun x => x.setG 3 60
     let d : Dev := { d with sw := { d.sw with frames := [f], queues := [(16 * 9 + 15, [⟨4, 0, false, none, true⟩])] } }
     atOpB d 0x33 && decide (spanTrap ((d.engine 15).gr 2) 4 60 = none ∧ d.swOldest (d.role 15) = some f ∧ f.data.length ≤ 60)),
    (let d := runs (opWord 0x34 (regsOf 1 2 3)) fun x => (x.setG 3 1).setG 2 0x10114
     let a := (d.engine 15).gr 2
     atOpB d 0x34 && decide ((d.engine 15).gr 3 ≠ 0 ∧ bitsOf a 10 6 = 0 ∧ bitsOf a 8 2 < 2) &&
       (d.decideLeave (d.engLeave 15 a 1)).1.isNone),
    atOpB (runs (opWord 0x35 0xFFFF)) 0x35] = true := by decide +kernel

theorem test_trap_entry_met : allMet [
    (let x := (runs 0).engine 15; !x.flags.getLsbD 9 && x.rep.isNone && x.ld.isNone && decide (0x20 < 256))] = true := by decide +kernel

theorem test_instruction_traps_met : allMet [
    [0x0D, 0x0E, 0x0F].all fun op =>
      let d := runs (opWord op (regsOf 1 2 3)); atOpB d op && decide ((d.engine 15).gr (rbOf ((d.engine 15).iword 0)) = 0),
    [0x02, 0x10, 0x34].all fun op => atOpB (runs (opWord op 1)) op,
    (let d := runs (opWord 0x1B 2); atOpB d 0x1B && decide (((0#32) + immS ((d.engine 15).iword 0)).toNat % 4 ≠ 0)), atOpB (runs (opWord 0x21 1)) 0x21,
    (let d := runs (opWord 0x1C 0x20000); atOpB d 0x1C && decide (0x20000 ≤ ((0#32) + immS ((d.engine 15).iword 0)).toNat)),
    (let d := runs (opWord 0x23 0x3FFFF); atOpB d 0x23 && decide (0x20000 ≤ ((0#32) + immS ((d.engine 15).iword 0)).toNat)),
    (let d := runs (opWord 0x27 (regsOf 0 2 0)) fun x => x.setG 2 2; atOpB d 0x27 && decide (((d.engine 15).gr 2).toNat % 4 ≠ 0)),
    (let d := runs (opWord 0x27 (regsOf 0 2 0)) fun x => x.setG 2 0x20000; atOpB d 0x27 && decide (0x20000 ≤ ((d.engine 15).gr 2).toNat)),
    [0x2B, 0x2C].all fun op =>
      let d := runs (opWord op 0) fun x => { x with imem := x.imem ++ [(1, BitVec.ofNat 32 (opWord 0x25 0))] }
      atOpB d op && noRepeat (opOf ((d.engine 15).iword 4))] = true := by decide +kernel

theorem test_engine_control_met : allMet [
    (let d := (on.setFlag (R.ENG_STAT_IMG_VALID 15) true)
     d.domOn (engDom 15) && decide (1#32 &&& 3#32 = 1#32 ∧ d.engSt 15 = 0) && d.flag (R.ENG_STAT_IMG_VALID 15)),
    decide ((on.setEngSt 15 2).engSt 15 = 2 ∧ 2#32 &&& 3#32 = 2#32),
    (let w := 0x60 + 15 * 2 ^ 96
     nextIs (handed on w) w 0x60 && decide (imgDescBad (taken w).word on.now = none ∧ byteOf (taken w).word 12 = 15 ∧
       bitsOf (taken w).word 12 2 ≠ 2) && (handed on w).domOn (engDom 15)),
    (let ld : ImgLoad := { ref := none, mode := 0, flash := false, cancelOld := false, addr := 0, old := 0, gen := 0, swapMt := 0 }
     let d := (on.setEngine 15 { Eng.init with load := some ld }).setEngSt 15 3
     let l := loadBytes State.reset.nv ld (List.replicate 64 0#8)
     decide ((d.engine 15).load = some ld ∧ d.engSt 15 = 3 ∧ 64 ≤ l.length ∧ l.length = imgLength l) && !d.wakeLoadsFirst 15 && d.canMaster),
    (let ld : ImgLoad := { ref := none, mode := 2, flash := false, cancelOld := false, addr := 0, old := 14, gen := 0, swapMt := 0 }
     let d := (on.setEngine 15 { Eng.init with load := some ld }).setEngSt 15 4
     decide ((d.engine 15).load = some ld ∧ d.engSt 15 = 4 ∧ ld.swapMt ≤ d.now ∧ d.engSt ld.old = 0)),
    (let d : Dev := { on with pwr := { on.pwr with on := 0x3FDF, good := 0x3FDF } }
     d.domOn 2 && decide (2#32 &&& 3#32 = 2#32 ∧ d.pwr.on.getLsbD 5 = false ∧ d.pwr.park = .run) &&
       (d.decideLeave { bank := none, amount := 0, mw := 1300, start := d.now, us := 1000, safety := false, req := 4, owner := 1 }).1.isNone),
    decide (1#32 &&& 3#32 = 1#32) && on.pwr.on.getLsbD 5 && (clusterEngines 1).all (fun n => on.engSt n == 0) && !on.domBusy 5,
    (let d := (on.setEngine 15 { Eng.init with wait := some 0 }).setEngSt 15 2; decide ((d.engine 15).wait = some 0 ∧ d.engSt 15 = 2 ∧ 0 ≤ d.now ∧ (0 : Nat) ≠ 2 ^ 64 - 1)),
    (let d := runs 0 fun x => { x with flags := 0x100, ien := 0x1F, mbox := true }; d.irqOpen 15 && (d.irq 15).isSome && decide (d.engSt 15 = 1)),
    (let d := runs 0; d.domOn (engDom 15) && decide (d.engSt 15 = 1 ∧ (d.engine 15).pc < 0x20000) && !d.injected 7 (some 15) &&
       !d.injectedTwice 7 (some 15) && !(d.engine 15).fromFlash && d.canMaster)] = true := by decide +kernel

/-! ### Hypotheses met: the switch and the CAN controllers -/

/-- A stored frame of 60 bytes. -/
def frame4 : SwFrame :=
  { id := 4, port := 0, cells := 1, data := List.replicate 60 0, mt := 0, vid := 0, pcp := 0, tagged := false, mgmt := false,
    gen := none, entry := none, desc := none, sent := [] }

/-- The device with the switch enabled, port 7 enabled and its link up, and the frame in its queue 7. -/
def port7 : Dev :=
  ((({ on with sw := { on.sw with frames := [frame4], queues := [(qKey 7 7, [⟨4, 0, false, none, true⟩])] } }).setFlag R.SW_CTRL_EN
    true).setFlag (R.SW_P_CFG_EN 7) true).setFlag (R.SW_P_STAT_LINK 7) true

theorem test_switch_traffic_met : allMet [
    port7.ethUp 7 && port7.flag R.SW_CTRL_EN && (port7.swPort 7).rx.isNone && decide ((List.replicate 60 0#8).length = 60),
    port7.domOn 7 && port7.portFree 7 && !port7.injected 10 (some 7) &&
      decide ((port7.serveQueue 7).map (fun x => (x.1, x.2.1.mark)) = some (7, false)),
    on.domOn 7,
    (let w := 0x20 + 60 * 2 ^ 96
     nextIs (handed on w) w 0x20 && decide (txBad (taken w).word = none) && (handed on w).canMaster &&
       decide ((List.replicate 60 0#8).length = descField (taken w).word 12 2)),
    (let w := 0x21 + 1600 * 2 ^ 96
     nextIs (handed on w) w 0x21 && decide (rxBad (taken w).word = none) &&
       decide (((handed on w).sw.bufs.filter fun b => b.queue == bitsOf (taken w).word 112 3).length < 1024)),
    (let w := 0x40 + 256 * 2 ^ 96 + 1 * 2 ^ 144
     nextIs (handed on w) w 0x40 && decide ((handed on w).tableBad (taken w).word = none) && (handed on w).canMaster &&
       decide ((List.replicate 256 0#256).length = descField (taken w).word 12 2)),
    nextIs (handed on 0x41) 0x41 0x41,
    (let b : SwBarrier := { ref := owed, act := 0, met := some 7 }
     let d : Dev := { on with sw := { on.sw with barriers := [b] } }
     decide ((d.sw.barriers.find? fun b => b.met.isSome) = some b))] = true := by decide +kernel

theorem test_switch_commands_met : allMet [
    on.domOn 7, on.domOn 7 && (on.swPort 7).swap.isNone && (3#32).getLsbD 1,
    (let d := on.setSwPort 0 { SwPort.init with swap := some 0 }; decide ((d.swPort 0).swap = some 0 ∧ 0 ≤ d.now)),
    (let e : SwElem := ⟨4, 0, false, none, true⟩
     decide (port7.swQueue 7 7 = e :: [] ∧ e.since + msTicks (max 1 (port7.fld R.SW_AGE_AGE_MS)) < port7.now) &&
       !port7.canSends (7 - 16) e.fid),
    (let x : SwHeld := ⟨131071, 4, 0, 0⟩
     let d := ({ on with sw := { on.sw with held := [x] } }).setFld R.SW_HOLD_TO_HOLD_TO 1
     decide ((d.sw.held.find? fun x => x.handle == 131071) = some x) && !d.handleCommitted x.handle &&
       decide (x.since + max 1 (d.fld R.SW_HOLD_TO_HOLD_TO) * secTicks ≤ d.now)),
    (0x80000005#32).getLsbD 31 && !on.handleCommitted ((0x80000005#32).toNat % 2 ^ 17),
    (let d := on.setFlag R.SW_CTRL_GLEAN_EN true
     d.flag R.SW_CTRL_GLEAN_EN && decide (d.sw.gleanAt + msTicks (max 10 (min 10000 (d.fld R.SW_GLEAN_CFG_AUDIT_MS))) ≤ d.now)),
    port7.flag (R.SW_P_STAT_LINK 7), on.domOn 8 && !on.flag (R.SW_P_STAT_LINK 7) && on.speedOk 7 (on.actSpeed 7), !on.flag R.SW_MDIO_CMD_BUSY,
    (let d := (on.setFlag R.SW_MDIO_CMD_BUSY true).setFld R.SW_MDIO_CMD_OP 2
     d.flag R.SW_MDIO_CMD_BUSY && decide (2 ≤ d.fld R.SW_MDIO_CMD_OP)), (1#32).getLsbD 0] = true := by decide +kernel

/-- A frame of no data with identifier 0x123. -/
def plain : CanFrame := { id := 0x123, ide := false, rtr := false, fdf := false, brs := false, esi := false, dlc := 0, data := [] }

/-- Controller 15 in NORMAL and in step with its bus, its hidden state x. -/
def can15 (x : CanHid) : Dev :=
  (({ on with can := [(15, x)] }).setFld (R.CAN_STAT_MODE_NOW 15) 1).setFlag (R.CAN_STAT_SYNCED 15) true

theorem test_can_commands_met : allMet [
    on.domOn 9,
    (let d := can15 { CanHid.init with modePend := some 2 }; decide ((d.canc 15).modePend = some 2) && (d.canc 15).att.isNone),
    (let d := can15 CanHid.init
     decide (d.canMode 15 = 1) && d.flag (R.CAN_STAT_SYNCED 15) && (d.canc 15).att.isNone &&
       decide ((d.setFlag (R.CAN_STAT_RX_ACTIVE 15) false).fld (R.CAN_ERRCNT_REC 15) ≤ 127)),
    (let d := can15 { CanHid.init with pend := [⟨.req 63, plain, 0⟩] }
     decide (d.canMode 15 = 1) && d.flag (R.CAN_STAT_SYNCED 15) && !d.busOff 15 && (d.canc 15).att.isNone && (d.canc 15).modePend.isNone &&
       decide (d.canWinner 15 = some ⟨.req 63, plain, 0⟩)),
    (let d := can15 { CanHid.init with att := some (⟨.req 63, plain, 0⟩, 5, false) }
     decide ((d.canc 15).att = some (⟨.req 63, plain, 0⟩, 5, false) ∧ 63 < 64 ∧ d.canMode 15 = 1)),
    (let d := can15 CanHid.init
     decide (d.canMode 15 ≠ 0) && !d.busOff 15 && d.domOn 9 && (d.canc 15).att.isNone),
    (let d := (can15 { CanHid.init with recover := some 0 }).setFld (R.CAN_STAT_ERR_STATE 15) 2
     decide ((d.canc 15).recover = some 0) && d.busOff 15 && decide (0 + 1408 * d.bitTicks 15 ≤ d.now)),
    (let d := (can15 CanHid.init).setFlag (R.CAN_STAT_SYNCED 15) false
     decide (d.canMode 15 = 1) && !d.flag (R.CAN_STAT_SYNCED 15) && !d.busOff 15 &&
       decide ((d.canc 15).integAt + 11 * d.bitTicks 15 ≤ d.now))] = true := by decide +kernel

/-! ### Hypotheses met: lighting, power and faults -/

/-- The lighting unit enabled, with a grid since 0 and its chain state x. -/
def lit (f : LtState → LtState) : Dev :=
  ({ on with lt := f { LtState.init with grid := some 0 } }).setFlag R.LT_CTRL_EN true

theorem test_lighting_commands_met : allMet [
    on.domOn 9 && decide (1#32 &&& 3#32 = 1#32 ∧ 2#32 &&& 3#32 = 2#32),
    (let w := 0x80 + 64 * 2 ^ 128
     nextIs (handed on w) w 0x80 && (handed on w).canMaster && decide ((List.replicate 64 0#8).length = descField (taken w).word 16 4)),
    !on.flag R.LT_WADDR_FRONT && !on.flag R.LT_STAT_SEALED,
    (let d := lit fun x => { x with shift := some (.zero, 0, 5) }; decide (d.lt.shift = some (.zero, 0, 5) ∧ 5 ≤ d.now)),
    (let d := (lit fun x => { x with loaded := some (.page 1), pageAt := 0 }).syncGrid
     d.flag R.LT_CTRL_EN && d.lt.grid.isSome && decide (d.lt.loaded = some (.page 1)) && !d.flag R.LT_STAT_SUSPENDED &&
       decide (max (d.periodStart (d.lt.pageAt + max 1 d.lt.per)) (d.firstStart d.lt.loadAt) ≤ d.now)),
    (let e := ((((lit fun x => { x with loaded := some .back }).setFlag R.LT_CTRL_FLIP_MODE true).setFlag R.LT_STAT_SEALED true).setReg64 R.LT_READY_LO R.LT_READY_HI 0).syncGrid
     e.flag R.LT_CTRL_EN && e.flag R.LT_CTRL_FLIP_MODE && e.backReady &&
       decide (e.firstStart (e.reg64 R.LT_READY_LO R.LT_READY_HI + 400) ≤ e.now)),
    !on.flag R.LT_CTRL_EN && (1#32).getLsbD 0, (4#32).getLsbD 2] = true := by decide +kernel

/-- The device in Fallow: PD0 and PD1 on. -/
def asleep : Dev := { on with pwr := { on.pwr with on := 3, good := 3, park := .fallow, vaon := true, vbat := true, wakePend := none } }

theorem test_power_commands_met : allMet [
    on.domOn (domOf R.PWR_CMD) && decide (on.pwr.park = .run),
    (let d : Dev := { on with pwr := { on.pwr with park := .closing } }
     decide (d.pwr.park = .closing) && d.sch.ents.all fun e => e.uncommitted),
    (let d : Dev := { on with pwr := { on.pwr with park := .closed, mtRec := true } }; decide (d.pwr.park = .closed) && d.pwr.mtRec && d.sch.ents.all fun e => e.uncommitted),
    (let d := asleep.setFlag R.PWR_WAKE_EN_WK_HOST true
     let d : Dev := { d with pwr := { d.pwr with samp := [(4, 9)] } }
     d.pwr.vaon && (d.wakeActs 4 8 0).1),
    (let d : Dev := { asleep with pwr := { asleep.pwr with wakePend := some (2, 1) } }
     d.pwr.vaon && !(d.wakeActs 0 0 0).1 && decide ((d.wakeActs 0 0 0).2.pwr.park = .fallow ∧ (d.wakeActs 0 0 0).2.pwr.wakePend = some (2, 1))),
    (let d : Dev := { asleep with pwr := { asleep.pwr with strobe := 0 } }
     d.pwr.vaon && decide (d.pwr.park = .fallow) && d.strobeDue 0 &&
       decide ((BitVec.ofNat 16 (d.fld R.PWR_WAKE_EN_WK_IN) &&& ~~~(0#16 ^^^ BitVec.ofNat 16 (d.fld R.PWR_WAKE_LVL_LVL))) &&& d.pwr.strobe = 0)),
    (let d := ({ asleep with pwr := { asleep.pwr with strobe := 0xFFFF } }).setFld R.PWR_WAKE_EN_WK_IN 0x8000
     decide (((List.range 16).find? ((BitVec.ofNat 16 (d.fld R.PWR_WAKE_EN_WK_IN) &&&
       ~~~(0xFFFF#16 ^^^ BitVec.ofNat 16 (d.fld R.PWR_WAKE_LVL_LVL))) &&& d.pwr.strobe).getLsbD) = some 15)),
    (let d := asleep.setReg R.PWR_WAKE_EN 0x80000
     let d : Dev := { d with pwr := { d.pwr with samp := [(19, 5)] } }
     d.pwr.vaon && decide (d.pwr.park ≠ .run) && (d.landSample 19 4 (true && (d.reg R.PWR_WAKE_EN).getLsbD 19)).1),
    on.domOn (domOf R.PWR_DOM_CTRL) && switchable.all (fun k => !(0x0#32).getLsbD (16 + k) && !(0x80000000#32).getLsbD k),
    (let d := on.setFlag (domPend 10) true; d.mayPowerOff 10),
    (let d : Dev := { on with pwr := { on.pwr with good := 0x1FFF } }
     d.pwr.on.getLsbD 13 && !d.pwr.good.getLsbD 13 && d.domReady 13 && d.refSettled 13 0),
    on.refSettled 2 50000,
    (let d : Dev := { on with pwr := { on.pwr with vaon := true, mainEn := true } }; d.pwr.vaon && d.pwr.mainEn),
    decide (State.reset.dev.pwr.park = .fallow ∧ State.reset.dev.pwr.wakePend = some (7, 0)) && State.reset.dev.pwr.vaon,
    on.pwr.pll, (on.pwr.vaon || on.pwr.vbat), !((on.setFld R.PWR_TEMP_TEMP 0).judgeHeat).hotLong,
    (let d : Dev := { on with pwr := { on.pwr with hotSince := some 0 } }
     let e := (d.setFld R.PWR_TEMP_TEMP 30000).judgeHeat
     on.domOn 2 && e.hotLong && !e.flt.lines.getLsbD Src.pwrTherm),
    (let k : Booking := { id := 3, bank := none, amount := 0, mw := 5, diss := 0, start := 0, fin := on.now, req := 5, owner := 0 }
     let d : Dev := { on with pwr := { on.pwr with books := [k] } }
     decide ((d.pwr.books.find? fun k => decide (k.id = 3 ∧ k.fin ≤ d.now)) = some k ∧ d.gn.burst.map Prod.fst ≠ some k.id) &&
       (List.range 128).all fun c => decide ((d.ctx c).booking ≠ some k.id))] = true := by decide +kernel

/-- A request for mw of module power from now. -/
def asks (mw : Nat) : LeaveReq :=
  { bank := none, amount := 0, mw := mw, start := on.now, us := 10, safety := false, req := 7, owner := 0 }

theorem test_leave_met : allMet [
    (on.decideLeave (asks 1)).1.isNone,
    (on.decideLeave { asks 0 with bank := some 7, amount := 1 }).1.isNone,
    decide ((on.decideLeave (asks (2 ^ 32))).1 = some 0x01 ∧ (asks (2 ^ 32)).req < 8)] = true := by decide +kernel

theorem test_latch_rule_met : allMet [
    !on.flag (fltBit (R.FLT_STATUS 0) 95) && !on.flag R.FLT_STATE_WINDOW && decide (on.now < 2 ^ 64),
    (let d := (on.setFlag R.FLT_STATE_WINDOW true).setFlag R.FLT_STATE_MISSED true
     !d.flag (fltBit (R.FLT_STATUS 0) 0) && d.flag R.FLT_STATE_WINDOW && d.flag R.FLT_STATE_MISSED),
    (let d := on.latchFault 7
     d.flag R.FLT_STATE_WINDOW && d.firstYields 3 && !d.flag (fltBit (R.FLT_STATUS 0) 3) && !d.firstYields 8),
    !on.flag R.FLT_CTRL_IEN] = true := by decide +kernel

/-- Two lines that rise in one sample: the lower index is latched and recorded, the other is counted as missed (17 R475). -/
theorem test_same_sample : allMet [
    (let d := (on.latchFault 7).latchFault 3
     d.flag (fltBit (R.FLT_STATUS 0) 3) && !d.flag (fltBit (R.FLT_STATUS 0) 7) && decide (d.fld R.FLT_FIRST_SRC = 3) &&
       d.flag R.FLT_STATE_MISSED && decide (d.reg R.FLT_LATCH_CNT = 1#32 ∧ d.reg R.FLT_MISSED_CNT = 1#32))] = true := by
  decide +kernel

theorem test_fault_commands_met : allMet [
    on.domOn 2, (let d := on.setFlag R.FLT_STATE_WINDOW true; d.flag R.FLT_STATE_WINDOW && (1#32).getLsbD 0),
    (let d : Dev := { on with flt := { on.flt with errnEnd := some 0 } }; decide (d.flt.errnEnd = some 0 ∧ 0 ≤ d.now)),
    (2#32).getLsbD 1, !on.flag (R.FLT_STOPn_CFG_EN 3) && (0x80000000#32).getLsbD 31, decide (State.reset.nv.life = 0),
    decide (max (0#64).toNat on.flt.errnAt + 4000 ≤ on.now),
    (on.setFlag (R.FLT_STOPn_CFG_EN 3) true).stopSeen 3 (0#64).toNat && !on.flag ⟨R.FLT_STOP_STAT, 3, 1⟩,
    ((on.setFlag (R.FLT_STOPn_CFG_EN 3) true).setFlag ⟨R.FLT_STOP_STAT, 3, 1⟩ true).stopSeen 3 (0#64).toNat] = true := by decide +kernel

/-! ### Hypotheses met: keys, access, update and debug -/

/-- The device with a key of KIND kind, of every usage, in slot 5, the entropy source in order, a root, and a key operation handed to the
vault. -/
def vault (kind : Nat) (key : List Byte) (w : Nat) : Dev :=
  let d := handed { on with key := { KeyState.init with keys := [(5, key)] }, root := { on.root with root := some 7 } } w
  ((((d.setFld (R.KEY_SLOT_KIND 5) kind).setFld (R.KEY_SLOT_USAGE 5) 0x7F).setFlag (R.KEY_SLOT_VALID 5) true).setFlag
    R.KEY_STAT_TRNG_OK true)

/-- The word of a key operation: OP, SLOT, AUX, IN_LEN, OUT_OFS. -/
def keyWord (op slot aux len out : Nat) : Nat :=
  0x30 + op * 2 ^ 32 + slot * 2 ^ 40 + aux * 2 ^ 48 + len * 2 ^ 128 + out * 2 ^ 160

/-- The device right before a key operation's effect. -/
def before (d : Dev) (op w : Nat) : Dev :=
  let a := taken w
  let q := d.vaultQueue State.reset.nv
  if keySlot a.word < 128 ∧ op ≠ 0x01 then q.popKey.useSlot State.reset.nv (keySlot a.word) none else q.popKey

/-- A key operation is at its turn with its checks passed and its input there. -/
def turnMet (d : Dev) (op w : Nat) (data : List Byte) : Bool :=
  let a := taken w
  let nv := State.reset.nv
  let q := d.vaultQueue nv
  decide (q.key.held.head? = some a) && !q.vaultBusy && decide (keyOp a.word = op) && q.domOn 2 &&
    decide (q.keyCheck nv a.word = none) && q.keyInput a data && (before d op w).keyFits nv a.word

/-- Sixteen bytes 0, 1, … 15. -/
def key16 : List Byte := (List.range 16).map (BitVec.ofNat 8)

/-- A header of KIND 1 with usage 1. -/
def header1 : List Byte := [1, 1, 0, 0, 0, 0, 0, 0]

/-- That header and a key of 0x40 to 0x4F, wrapped under key16 (NIST SP 800-38F). -/
def wrapped : List Byte := beBytes 32 0x88c83abcdbfbc60fd025fadcf8e7cf934dba43b414f2d3160149038a187eee07

theorem test_vault_operations_met : allMet [
    (let data := header1 ++ key16; let w := keyWord 0x01 127 0 24 0
     turnMet (vault 1 key16 w) 0x01 w data && decide (keyHeader data = some (1, 1) ∧ keyLen 1 + 8 = data.length)),
    (let data := header1 ++ List.replicate 32 0; let w := keyWord 0x02 0xFF 6 40 0
     turnMet (vault 1 key16 w) 0x02 w data && decide (keyHeader data = some (1, 1) ∧ (1 : Nat) ≠ 4)),
    (let w := keyWord 0x03 5 6 32 0
     turnMet (vault 1 key16 w) 0x03 w wrapped &&
       (match unwrapOf ((before (vault 1 key16 w) 0x03 w).slotKey (keySlot (taken w).word)) wrapped with
        | some p => decide (keyHeader p = some (1, 1) ∧ keyLen 1 + 8 = p.length)
        | none => false)),
    (let w := keyWord 0x04 5 0 0 0; turnMet (vault 1 key16 w) 0x04 w []),
    (let w := keyWord 0x10 5 0 17 32; turnMet (vault 1 key16 w) 0x10 w (List.replicate 17 0)),
    (let w := keyWord 0x11 5 0 17 32; turnMet (vault 1 key16 w) 0x11 w (List.replicate 17 0)),
    (let w := keyWord 0x12 5 0 0 0; turnMet (vault 1 key16 w) 0x12 w []),
    (let w := keyWord 0x13 5 0 16 0; turnMet (vault 1 key16 w) 0x13 w (List.replicate 16 0)),
    (let w := keyWord 0x14 5 0 1 16; turnMet (vault 3 key16 w) 0x14 w [0]),
    (let w := keyWord 0x15 5 0 32 0; turnMet (vault 3 key16 w) 0x15 w (List.replicate 32 0)),
    (let w := keyWord 0x16 0xFF 0 0 0; turnMet (vault 1 key16 w) 0x16 w []),
    (let w := keyWord 0x17 5 0 96 0; turnMet (vault 4 key16 w) 0x17 w (List.replicate 96 0)),
    (let w := keyWord 0x18 0xFF 0 4096 4096; turnMet (vault 1 key16 w) 0x18 w []),
    (let w := keyWord 0x20 0xFF 0 0 0; turnMet (vault 1 key16 w) 0x20 w []),
    (let data := List.replicate 8 0 ++ wrapped; let w := keyWord 0x30 5 15 40 0
     turnMet (vault 1 key16 w) 0x30 w data &&
       ((unwrapOf ((before (vault 1 key16 w) 0x30 w).slotKey (keySlot (taken w).word)) (data.drop 8)).bind tokenKey).isSome),
    (let w := keyWord 0x31 0xFF 15 0 0; turnMet (vault 1 key16 w) 0x31 w []),
    (let w := keyWord 0x32 5 0 16 0; turnMet (vault 3 key16 w) 0x32 w (List.replicate 16 0))] = true := by decide +kernel

theorem test_vault_events_met : allMet [
    (let d := ({ on with mt := { on.mt with prev := 3999999999999 } }).setFlag R.KEY_STAT_TRNG_OK true
     d.domOn 2 && d.mt.loaded && decide (d.mt.prev / msTicks 100 ≠ d.now / msTicks 100 ∧ d.key.maskAt ≠ d.now / msTicks 100) &&
       d.flag R.KEY_STAT_TRNG_OK),
    (let d : Dev := { on with key := { KeyState.init with trngAt := some 5 } }
     let d := d.setFlag R.KEY_STAT_TRNG_OK false
     d.domOn 2 && !d.flag R.KEY_STAT_TRNG_OK && decide (d.key.trngAt = some 5 ∧ 5 ≤ d.now)),
    (let d : Dev := { on with pwr := { on.pwr with vaon := true } }
     let d := d.setFld R.KEY_TAMP_CFG_EN 0x1F
     (d.pwr.vaon || d.pwr.vbat) && (d.fld R.KEY_TAMP_CFG_EN).testBit 4 && decide (1250 < (1251#16).toInt ∧ (65035#16).toInt < -500) &&
       decide ((d.tampSources none 0 3000 250 0).1 = 0 ∧ (d.tampSources none 0 3000 1251 0).1 ≠ 0)),
    (let d : Dev := { on with pwr := { on.pwr with vaon := true, samp := [(8, 5), (9, 5), (10, 5)] } }
     let d := ((d.setFld R.KEY_TAMP_CFG_EN 0x1F).setFlag R.KEY_TAMP_CFG_LID0_POL true).setFlag R.KEY_TAMP_CFG_LID1_POL true
     let p := d.meshSample (some true) 35
     let a := d.lidSample 0 true 4
     p.1 && a.1 && (a.2.lidSample 1 true 4).1 && (d.lockTamper 1 0).domOn 2 && !d.tampLock),
    (let d : Dev := { State.reset.dev with pwr := { State.reset.dev.pwr with vaon := false, vbat := true } }
     let d := d.setFld R.KEY_TAMP_CFG_EN 0x1F
     (d.pwr.vaon || d.pwr.vbat) && (d.fld R.KEY_TAMP_CFG_EN).testBit 3 && !d.pwr.vaon && decide ((2199#16).toNat < 2200) &&
       !(d.lockTamper 8 0).domOn 2)] = true := by
  decide +kernel

/-- The device with an access session x. -/
def session (x : AccSess) : Dev := { on with acc := { on.acc with sess := some x } }

/-- A session whose POLL left at MT 5 and which has sent its final frame or not. -/
def polled (sent : Bool) (tf : Option Nat) : AccSess :=
  { nonce := List.replicate 16 0, tp := some 5, tf := tf, sent := sent, ans := [] }

theorem test_access_commands_met : allMet [
    on.domOn 2 && decide (1#32 &&& 7#32 = 1#32 ∧ 4#32 &&& 7#32 = 4#32 ∧ 2#32 &&& 7#32 = 2#32),
    (on.setFlag R.ACC_CTRL_IRQ_START true).flag R.ACC_CTRL_IRQ_START,
    (let d := session (polled false none)
     decide (d.acc.sess = some (polled false none) ∧ (d.stampOwn (polled false none)).acc.sess = some (polled false none) ∧
       (polled false none).tp = some 5 ∧ (polled false none).sent = false ∧
       5 + (d.stampOwn (polled false none)).accHalf ≤ (d.stampOwn (polled false none)).now) &&
       ((d.stampOwn (polled false none)).radioRun State.reset.nv 2 (some [])).1 &&
       ((d.stampOwn (polled false none)).radioRun State.reset.nv 3 (some [])).1),
    (let x := polled true (some 9)
     let d := session x
     decide (d.acc.sess = some x ∧ (d.stampOwn x).acc.sess = some x ∧ x.sent = true ∧ x.tp = some 5 ∧ x.tf = some 9 ∧
       9 + (d.stampOwn x).accHalf ≤ (d.stampOwn x).now)),
    (let d : Dev := { on with acc := { on.acc with auth := some 0, lock := some 0 } }; decide (d.acc.auth = some 0 ∧ d.acc.lock = some 0 ∧ 0 ≤ d.now)),
    (let d := ({ on with acc := { on.acc with next := some 0, relFrom := 0 } }).setFld R.ACC_REL_CFG_REL_TO 1
     decide (d.acc.next = some 0 ∧ 0 ≤ d.now ∧ d.fld R.ACC_REL_CFG_REL_TO ≠ 0 ∧
       d.acc.relFrom + d.fld R.ACC_REL_CFG_REL_TO * secTicks ≤ d.now)),
    !on.flag R.ACC_REL_CFG_REL_EN && (1#32).getLsbD 0,
    (let d : Dev := { on with acc := { on.acc with resNew := some 4, wait := false } }
     decide (d.acc.resNew = some 4 ∧ d.acc.wait = false ∧ d.pwr.jobs = []))] = true := by decide +kernel

/-- A staging descriptor is at its turn. -/
def stagingMet (d : Dev) (op w : Nat) : Bool :=
  nextIs d w 0x70 && decide (d.stgBad (taken w).word = none ∧ stgOp (taken w).word = op)

/-- The device with staging session 3 open. -/
def staging (w : Nat) : Dev := handed { on with stg := some { num := 3, last := 0 } } w

theorem test_update_commands_met : allMet [
    on.domOn 2 && decide (on.pwr.park = .run),
    (let w := 0x70 + 1 * 2 ^ 32 + 0xFF * 2 ^ 40
     let d := handed on w
     stagingMet d 1 w && d.canMaster && (d.takeDesc (taken w)).stg.isNone &&
       (d.takeDesc (taken w)).credOk State.reset.nv (byteOf (taken w).word 5) []),
    (let w := 0x70 + 2 * 2 ^ 32 + 1 * 2 ^ 48 + 3 * 2 ^ 160
     let d := (staging w).setFld R.UPD_FLASH_SIZE_MIB 64
     stagingMet d 2 w && decide (d.stg = some { num := 3, last := 0 } ∧ descField (taken w).word 20 4 = 3 ∧
       (List.replicate 4096 0#8).length = 4096 * descField (taken w).word 6 2) && d.canMaster),
    (let w := 0x70 + 3 * 2 ^ 32 + 3 * 2 ^ 160; stagingMet (staging w) 3 w && decide (descField (taken w).word 20 4 = 3)),
    (let w := 0x70 + 4 * 2 ^ 32 + 3 * 2 ^ 160; stagingMet (staging w) 4 w),
    (let d : Dev := { on with mt := { on.mt with now := 1800 * secTicks }, stg := some { num := 3, last := 0 } }
     d.domOn 2 && d.mt.loaded && decide (d.stg = some { num := 3, last := 0 } ∧ 0 + 1800 * secTicks ≤ d.now)),
    (let d : Dev := { on with pwr := { on.pwr with jobs := [(.reserve, 0, 0)] } }
     decide ((d.pwr.jobs.find? fun x => decide (x.2.2 ≤ d.now)) = some (.reserve, 0, 0)) && (d.askJob .reserve).1)] = true := by
  decide +kernel

theorem test_debug_commands_met : allMet [
    !State.reset.nv.tapShut, ({ on with tap := { on.tap with ir := 5, dbg := true } } : Dev).dbgOpen State.reset.nv 15,
    (let d := ({ on with tap := { on.tap with ir := 5, dbg := true } }).setFlag (R.ENG_STAT_IMG_VALID 15) true
     d.dbgOpen State.reset.nv 15 && decide (d.engSt 15 = 0) && d.flag (R.ENG_STAT_IMG_VALID 15)),
    on.domOn (engDom 15), decide ((0xFFFFC#20).toNat % 4 = 0),
    ({ State.reset.nv with dbgKill := true }).tapShut, ({ State.reset.nv with retireFuse := true }).tapShut] = true := by decide +kernel

/-! ### Ill-formed commands, one for each check of WellFormed -/

theorem test_wf_refuses_empty_read : (Instr.descriptorAccept 0 []).wellFormed = false := by decide
theorem test_wf_refuses_good_access : (Instr.badAccess 0x10 4 true).wellFormed = false := by decide
theorem test_wf_refuses_access_of_no_bytes : (Instr.badAccess 0x10 0 true).wellFormed = false := by decide
theorem test_wf_refuses_unaligned_offset : (Instr.offDomainAccess 0x11 true).wellFormed = false := by decide
theorem test_wf_refuses_unaligned_register : (Instr.registerWrite (.bar0 0x11) 0).wellFormed = false := by decide
theorem test_wf_refuses_short_corrections : (Instr.gnssCorrections (List.replicate 5 0)).wellFormed = false := by decide
theorem test_wf_refuses_empty_map : (Instr.mapLoadEnd []).wellFormed = false := by decide
theorem test_wf_refuses_long_config : (Instr.channelConfiguration (List.replicate 129 0)).wellFormed = false := by decide +kernel
theorem test_wf_refuses_short_profile_image : (Instr.psqLoadEnd (some [0])).wellFormed = false := by decide
theorem test_wf_refuses_feedback_count : (Instr.loopSample 127 (List.replicate 4 (0, true)) .clean).wellFormed = false := by decide
theorem test_wf_refuses_one_feedback : (Instr.loopSample 128 [(0, true)] .clean).wellFormed = false := by decide
theorem test_wf_refuses_short_engine_image : (Instr.imageLoadEnd 0 (some [0])).wellFormed = false := by decide
theorem test_wf_refuses_short_frame_head : (Instr.frameIngress 0 (.head 0 [0] none)).wellFormed = false := by decide
theorem test_wf_refuses_short_transmit : (Instr.frameTransmit (List.replicate 59 0) none).wellFormed = false := by decide +kernel
theorem test_wf_refuses_long_table : (Instr.tableUpdate (List.replicate 257 0)).wellFormed = false := by decide +kernel
theorem test_wf_refuses_can_length :
    (Instr.canFrameReceive 0 (.frame ⟨1, false, false, false, false, false, 2, [0]⟩ 0 .none none)).wellFormed = false := by decide
theorem test_wf_refuses_remote_fd :
    (Instr.canFrameReceive 0 (.frame ⟨1, false, true, true, false, false, 0, []⟩ 0 .none none)).wellFormed = false := by decide
theorem test_wf_refuses_can_no_error : (Instr.canError 0 ⟨0, false, false, false, false⟩).wellFormed = false := by decide
theorem test_wf_refuses_frame_length : (Instr.lightingFrame [0]).wellFormed = false := by decide
theorem test_wf_refuses_key_lengths :
    ([.writeClear [0], .derive [0] none, .unwrap [0] none, .ctrEnc [0] none, .ctrDec [0] none, .cmacVer [0] none, .hmacVer [0] none,
      .ecdsaVer [0] none, .enrol [0] none, .codeSet [0], .cmacGen (List.replicate 16385 0) none, .hmacGen (List.replicate 16385 0) none,
      .sha256 (List.replicate 16385 0)] : List Instr).all (fun i => !i.wellFormed) = true := by decide +kernel
theorem test_wf_refuses_boot_record : (Instr.boot ⟨none, false, [1024], false, []⟩).wellFormed = false := by decide
theorem test_wf_refuses_boot_order : (Instr.boot ⟨none, false, [2, 1], false, []⟩).wellFormed = false := by decide
theorem test_wf_refuses_credential : (Instr.stagingOpen [0]).wellFormed = false := by decide
theorem test_wf_refuses_staging_block : (Instr.stagingWrite [0] false).wellFormed = false := by decide
theorem test_wf_refuses_preload : (Instr.samplePreload [true] []).wellFormed = false := by decide
theorem test_wf_accepts :
    ([.sqDoorbell 63 15, .registerWrite (.bar0 0xF1004) 1, .loopSample 159 (List.replicate 4 (0, true)) .clean, .engAdd 15,
      .stagingOpen []] : List Instr).all Instr.wellFormed = true := by decide

/-! ### Single steps -/

/-- The device after a command, or before it where it does not answer a next state. -/
def after (c : Instr) (d : Dev) : Dev :=
  match step { dev := d, nv := State.reset.nv, pending := [c] } with
  | .next s => s.dev
  | _ => d

/-- FIPS 180-4, the hash of "abc". -/
theorem test_sha256 :
    sha256Of [0x61, 0x62, 0x63] = 0xBA7816BF8F01CFEA414140DE5DAE2223B00361A396177A9CB410FF61F20015AD#256 := by decide +kernel

/-- FIPS 197, appendix C.1. -/
theorem test_aes128 :
    aesEnc ((List.range 16).map (BitVec.ofNat 8)) 0x00112233445566778899AABBCCDDEEFF#128 = 0x69C4E0D86A7B0430D8CDB78070B4C55A#128 := by
  decide +kernel

/-- FIPS 197, appendix C.3, the inverse cipher. -/
theorem test_aes256_inverse :
    aesDec ((List.range 32).map (BitVec.ofNat 8)) 0x8EA2B7CA516745BFEAFC49904B496089#128 = 0x00112233445566778899AABBCCDDEEFF#128 := by
  decide +kernel

/-- RFC 3394, section 4.1. -/
theorem test_key_unwrap :
    unwrapOf ((List.range 16).map (BitVec.ofNat 8)) (beBytes 24 0x1FA68B0A8112B447AEF34BD8FB5A7B829D3E862371D2CFE5) =
      some (beBytes 16 0x00112233445566778899AABBCCDDEEFF) := by decide +kernel

/-- RFC 4493, the tag of the empty message. -/
theorem test_cmac_empty :
    cmacOf (beBytes 16 0x2B7E151628AED2A6ABF7158809CF4F3C) [] = beBytes 16 0xBB1D6929E95937287FA37D129B756746 := by decide +kernel

/-- R85: with RATE 0 a REF100 cycle adds 40 ticks. -/
theorem test_ref_cycle : (after .ref100Cycle (on.setReg R.MT_RATE 0)).now = 4000000000040 := by decide +kernel

/-- R85: RATE is clamped to MT_RATE_LIM, and a negative fraction borrows from MT. -/
theorem test_ref_cycle_clamped :
    (let d := after .ref100Cycle (on.setReg R.MT_RATE 0x80000000); (d.now, d.mt.frac)) = (4000000000039, 2 ^ 32 - 0x010624DD) := by
  decide +kernel

/-- R24: a write to a register of a domain that is off is counted and does nothing else. -/
theorem test_off_domain_write :
    (let d := after (.registerWrite (.bar0 0x70004) 5) State.reset.dev; (d.reg R.PWR_OFFACC_CNT, d.reg 0x70004)) =
      (1, State.reset.dev.reg 0x70004) := by decide +kernel

/-- R13: a write clears a counter, whatever its value. -/
theorem test_counter_clears :
    (after (.registerWrite (.bar0 0x10030) 7) (on.setReg 0x10030 5)).reg 0x10030 =
      ((on.setReg 0x10030 5).writeByCode 0x10030 7).reg 0x10030 := by decide +kernel

/-- R45: an access of 2 bytes reaches no register. -/
theorem test_bad_access : (after (.badAccess 0x10000 2 true) on).reg R.HL_BAD_ACCESS_CNT = 1 := by decide +kernel

/-- R54: a doorbell with an index not below the ring size is ignored. -/
theorem test_doorbell_out_of_range :
    (let d := (on.setFlag (R.HL_SQ_CFG_EN 3) true).setFld (R.HL_SQ_CFG_SIZE_LOG2 3) 4
     let e := after (.sqDoorbell 3 16) d
     (e.fld (R.HL_SQ_TAIL_INDEX 3), e.flag (R.HL_SQ_STAT_DB_ERR 3))) = (0, true) := by decide +kernel

/-- 07: CMD ON of an output in MODE 1 turns its stage on and counts. -/
theorem test_channel_on :
    (let d := after (.chCmdOn 20 1) out20; (d.driven 20, d.reg (R.CH_ON_CNT 20), d.flag (R.CH_STAT_CMD_ON 20))) = (true, 1, true) := by
  decide +kernel

/-- 07: CMD SAFE of an output whose SAFE field is 0 switches it off. -/
theorem test_channel_safe :
    (let d := after (.chCmdSafe 20 4) out20on; (d.driven 20, d.flag (R.CH_STAT_SAFE 20))) = (false, true) := by decide +kernel

/-- R362: ADD of 0xFFFF_FFFF and 1 into g3 gives 0 with Z and C. -/
theorem test_add_wraps :
    (let d := after (.engAdd 15) (runs (opWord 0x02 (regsOf 3 1 2)) fun x => (x.setG 1 0xFFFFFFFF).setG 2 1)
     ((d.engine 15).gr 3, (d.engine 15).flags, (d.engine 15).pc)) = (0, 5, 4) := by decide +kernel

/-- R362: 0x8000_0000 ÷ −1 gives 0x8000_0000 with V and N. -/
theorem test_div_overflow :
    (let d := after (.engDiv 15) (runs (opWord 0x0D (regsOf 3 1 2)) fun x => (x.setG 1 0x80000000).setG 2 0xFFFFFFFF)
     ((d.engine 15).gr 3, (d.engine 15).flags)) = (0x80000000, 10) := by decide +kernel

/-- R320: the register of a load is written at the end of the next instruction. -/
theorem test_load_delay :
    (let d := after (.engLw 15 false) (runs (opWord 0x1B (regsOf 3 0 0 + 8)) fun x =>
        { x with dmem := [(8, 0x78), (9, 0x56), (10, 0x34), (11, 0x12)], imem := x.imem ++ [(1, BitVec.ofNat 32 (opWord 0x01 0))] })
     ((d.engine 15).gr 3, ((after (.engNop 15) d).engine 15).gr 3)) = (0, 0x12345678) := by decide +kernel

/-- R357, R371: a word of zeros traps ILLEGAL_OP with the word in EVAL. -/
theorem test_illegal_word :
    (let x := (after (.engTrap 15) (runs 0)).engine 15; (x.ecause, x.eval, x.flags)) = (1, 0, 0x200) := by decide +kernel

/-- R322: REP with RC = 2 runs its instruction twice and goes on behind it. -/
theorem test_repeat :
    (let d := runs (opWord 0x2B 0) fun x =>
        { x with rc := 2, imem := x.imem ++ [(1, BitVec.ofNat 32 (opWord 0x12 (regsOf 1 1 0 + 5)))] }
     let e := after (.engAddi 15) (after (.engAddi 15) (after (.engRep 15) d))
     ((e.engine 15).gr 1, (e.engine 15).pc)) = (10, 8) := by decide +kernel

/-- 16: the loss of the PLL's lock sets CLK in PWR_EVT. -/
theorem test_pll_loss : (after .pllLockLoss on).flag R.PWR_EVT_CLK = true := by decide +kernel

/-- 03 R115: SET takes MT_RTC_SET into the RTC at its next edge. -/
theorem test_rtc_set :
    (let d := after (.rtcSet 1) (on.setReg64 R.MT_RTC_SET_LO R.MT_RTC_SET_HI 0x123456789ABC)
     (d.rtc.cnt, (d.rtc.edge 9).cnt, (d.rtc.edge 9).valid)) = (0, 0x123456789ABC, true) := by decide +kernel

/-- 07 R209: a half-bridge switched on keeps both switches off for the dead time (10 steps at reset), then its high switch conducts. -/
theorem test_dead_time :
    (let d := after (.chCmdOn 20 1) (out20.setFld (R.CH_CFG_MODE 20) 3)
     (d.gate 20, ({ d with mt := { d.mt with now := d.now + d.deadTime 20 } } : Dev).gate 20)) = (none, some true) := by decide +kernel

/-- 06 R172: the azimuths of east, south, west and north-west. -/
theorem test_azimuths : [azimuth 1 0, azimuth 0 (-1), azimuth (-1) 0, azimuth (-1) 1] =
    [2 ^ 30, 2 ^ 31, 3 * 2 ^ 30, 7 * 2 ^ 29] := by decide +kernel

/-- 06 R170: heading east (ψ a quarter turn), an offset of (x, y) lies x to the east and y to the north. -/
theorem test_offset_heading_east : turned (2 ^ 30) (5, 7, 9) = (5, 7, 9) := by decide +kernel

/-- 13 R374: the reserved bits of a port mask read back as 0. -/
theorem test_flood_mask : (after (.registerWrite (.bar0 0xA1008) 0xFFFFFFFF) on).reg 0xA1008 = 0xFFFF03FF := by decide +kernel

/-- R541: IDCODE. -/
theorem test_idcode : (after .idcode on).tap.dr = 0x18128FC3 := by decide +kernel

/-- R542: with DBG_KILL blown EXTEST acts as BYPASS. -/
theorem test_shut_port :
    (match exec .extest ⟨on, { State.reset.nv with dbgKill := true }, []⟩ with
     | .next s => decide (s.dev.tap.ir = 1 ∧ s.dev.tap.dr = 0)
     | _ => false) = true := by decide +kernel

/-- The first step of a cold start takes the machine out of Fallow (16). -/
theorem test_cold_start : (after (.coldStart 0) State.reset.dev).pwr.park = .run := by decide +kernel

end Sys2Proof.Slice0Tests
end

/-! PROOFS (00_scope). No command brings a fuse back, and every command answers a next state with the queue left alone. Each function
that writes the stores has one lemma: the fuses after it are later than those before; the commands follow from these by the form of
their meaning (a function of the device, a key operation, a staging operation, a fuse write, an engine instruction). -/

namespace Sys2Proof.Machine

/-! ### The order of the fuses -/

@[refl] theorem Nv.Later.refl (a : Nv) : a.Later a :=
  ⟨id, id, id, fun _ h => h, le_rfl, fun _ h => h, fun _ h => h⟩

theorem Nv.Later.trans {a b c : Nv} (h : a.Later b) (k : b.Later c) : a.Later c where
  sealed := k.sealed ∘ h.sealed
  retired := k.retired ∘ h.retired
  killed := k.killed ∘ h.killed
  hash i := k.hash i ∘ h.hash i
  count := h.count.trans k.count
  written i := k.written i ∘ h.written i
  revoked i := k.revoked i ∘ h.revoked i

/-- Whatever happens to the flash, the journal, the calibration and the key table, no fuse changes. -/
theorem Nv.later_of_flash (nv : Nv) (j : Nat) (c : Sparse (BitVec 32)) (t : List KeyRec) (h k : Nat) (a b : Sparse (BitVec 8)) :
    nv.Later { nv with journal := j, calib := c, keyTab := t, keyHalf := h, keySeq := k, active := a, staging := b } :=
  ⟨id, id, id, fun _ h => h, le_rfl, fun _ h => h, fun _ h => h⟩

theorem Nv.later_seal (nv : Nv) : nv.Later { nv with sealFuse := true } :=
  { Nv.Later.refl nv with sealed := fun _ => rfl }

theorem Nv.later_retire (nv : Nv) : nv.Later { nv with retireFuse := true } :=
  { Nv.Later.refl nv with retired := fun _ => rfl }

theorem Nv.later_dbgKill (nv : Nv) : nv.Later { nv with dbgKill := true } :=
  { Nv.Later.refl nv with killed := fun _ => rfl }

/-- A key hash is fused only where there is none. -/
theorem Nv.later_pkh (nv : Nv) (k : BitVec 256) (h : nv.pkh = none) : nv.Later { nv with pkh := some k } :=
  { Nv.Later.refl nv with hash := fun i hi => by simp [h] at hi }

theorem Nv.later_svn (nv : Nv) (n : Nat) : nv.Later { nv with svn := max nv.svn n } :=
  { Nv.Later.refl nv with count := le_max_left _ _ }

theorem Nv.later_written (nv : Nv) (s : Nat) (a : BitVec 32) :
    nv.Later { nv with written := sparsePut (fun _ => none) nv.written s (some a) } :=
  { Nv.Later.refl nv with
    written := fun i hi => by
      by_cases h : i = s
      · subst h; simp
      · simpa [sparseGet_put_other _ _ _ h] using hi }

theorem Nv.later_revoked (nv : Nv) (m : BitVec 128) : nv.Later { nv with revoked := nv.revoked ||| m } :=
  { Nv.Later.refl nv with revoked := fun i hi => by simp [hi] }

/-! ### What the operations on the stores do to the fuses -/

theorem Nv.append_later (nv : Nv) (r : KeyRec) : nv.Later (nv.append r) := by
  unfold Nv.append
  split <;> exact nv.later_of_flash ..

theorem Dev.appendRec_later (d : Dev) (nv : Nv) (r : KeyRec) : nv.Later (d.appendRec nv r).2 := by
  unfold Dev.appendRec
  split
  · exact nv.append_later r
  · rfl

theorem Dev.writeSlot_later (d : Dev) (nv : Nv) (s kind usage origin : Nat) (parent : Option Nat) (key : List Byte)
    (src : Option KeyRec) : nv.Later (d.writeSlot nv s kind usage origin parent key src).2 := by
  unfold Dev.writeSlot
  dsimp only
  split
  · exact nv.later_written ..
  · rfl

theorem writeClear_later (data : List Byte) (a : AccDesc) (d : Dev) (nv : Nv) : nv.Later (writeClear data a d nv).2 := by
  unfold writeClear
  split
  · rfl
  · split
    · rfl
    · exact d.writeSlot_later nv (keySlot a.word) _ _ 0 none (data.drop 8) none

theorem fillSlot_later (type : Nat) (data : List Byte) (kind usage : Nat) (key : List Byte) (a : AccDesc) (d : Dev) (nv : Nv) :
    nv.Later (fillSlot type data kind usage key a d nv).2 := by
  unfold fillSlot
  dsimp only
  split
  · rfl
  · exact (d.writeSlot_later nv ..).trans (Dev.appendRec_later ..)

theorem deriveKey_later (data : List Byte) (a : AccDesc) (d : Dev) (nv : Nv) : nv.Later (deriveKey data a d nv).2 := by
  unfold deriveKey
  split
  · rfl
  · split
    · rfl
    · exact fillSlot_later ..

theorem unwrapKey_later (data : List Byte) (a : AccDesc) (d : Dev) (nv : Nv) : nv.Later (unwrapKey data a d nv).2 := by
  unfold unwrapKey
  split
  · rfl
  · split
    · rfl
    · split
      · rfl
      · exact fillSlot_later ..

/-- REVOKE blows the slot's fuse in SEALED and appends a record in OPEN. -/
theorem revokeKey_later (a : AccDesc) (d : Dev) (nv : Nv) : nv.Later (revokeKey a d nv).2 := by
  have fuse : nv.Later (if nv.life = 1 then { nv with revoked := nv.revoked ||| BitVec.ofNat 128 (2 ^ keySlot a.word) } else nv) := by
    split
    · exact nv.later_revoked _
    · rfl
  unfold revokeKey
  dsimp only
  generalize (if nv.life = 1 then _ else nv) = n at fuse ⊢
  split
  · exact fuse.trans (Dev.appendRec_later ..)
  · exact fuse

theorem enrolToken_later (data : List Byte) (a : AccDesc) (d : Dev) (nv : Nv) : nv.Later (enrolToken data a d nv).2 := by
  unfold enrolToken
  split
  · rfl
  · exact Dev.appendRec_later ..

theorem Dev.openSession_later (d : Dev) (nv : Nv) (a : AccDesc) : nv.Later (d.openSession nv a).2 := by
  unfold Dev.openSession
  dsimp only
  split
  · exact nv.later_of_flash ..
  · rfl

theorem Dev.stgOpen_later (d : Dev) (nv : Nv) (a : AccDesc) (cred : List Byte) : nv.Later (d.stgOpen nv a cred).2 := by
  unfold Dev.stgOpen
  split
  · rfl
  · split
    · exact Dev.openSession_later _ nv a
    · rfl

theorem Dev.withHolder_later (d : Dev) (nv : Nv) (a : AccDesc) (f : Dev → Dev × Nv) (h : ∀ e, nv.Later (f e).2) :
    nv.Later (d.withHolder nv a f).2 := by
  unfold Dev.withHolder
  split
  · rfl
  · split
    · exact h _
    · rfl

theorem Dev.program_later (d : Dev) (nv : Nv) (a : AccDesc) (off : Nat) (data : List Byte) (fail : Bool) :
    nv.Later (d.program nv a off data fail).2 := by
  unfold Dev.program
  split <;> exact nv.later_of_flash ..

theorem Dev.stgWrite_later (d : Dev) (nv : Nv) (a : AccDesc) (data : List Byte) (fail : Bool) :
    nv.Later (d.stgWrite nv a data fail).2 := by
  unfold Dev.stgWrite
  dsimp only
  split
  · exact Dev.program_later ..
  · rfl

theorem Dev.stgCommit_later (d : Dev) (nv : Nv) (a : AccDesc) (flashErr : Bool) : nv.Later (d.stgCommit nv a flashErr).2 := by
  unfold Dev.stgCommit
  split
  · rfl
  · exact nv.later_of_flash ..

/-- SEAL blows the fuse, then the WRITTEN fuse of every VALID slot. -/
theorem Dev.sealPart_later (d : Dev) (nv : Nv) : nv.Later (d.sealPart nv).2 := by
  unfold Dev.sealPart
  exact List.foldlRecOn _ _ (motive := nv.Later) nv.later_seal fun n h s _ => h.trans (n.later_written s _)

theorem Dev.blowFuse_later (d : Dev) (nv : Nv) (cmd : Nat) (fail : Bool) : nv.Later (d.blowFuse nv cmd fail).2 := by
  unfold Dev.blowFuse
  split
  · rfl
  · next ok =>
    dsimp only
    split
    · refine nv.later_pkh _ ?_
      simp only [Dev.lifeOk, Bool.or_eq_true, Bool.not_eq_true', Bool.and_eq_false_iff, not_or] at ok
      simpa using ok.2.2
    · exact d.sealPart_later nv
    · exact nv.later_retire
    · exact nv.later_dbgKill

theorem Dev.writeLife_later (d : Dev) (nv : Nv) (v : Word) (fail : Bool) : nv.Later (d.writeLife nv v fail).2 := by
  unfold Dev.writeLife
  dsimp only
  split
  · rfl
  · split
    · rfl
    · split
      · exact Dev.blowFuse_later ..
      · rfl

theorem Dev.runJob_later (d : Dev) (nv : Nv) (j : LeaveJob) (fail : Bool) : nv.Later (d.runJob nv j fail).2 := by
  cases j with
  | verify a l => rfl
  | append r => exact nv.append_later r
  | reserve => rfl
  | stage a off l => exact d.program_later nv a off l fail
  | life cmd => exact d.blowFuse_later nv cmd fail

theorem Dev.retryJob_later (d : Dev) (nv : Nv) (fail : Bool) : nv.Later (d.retryJob nv fail).2 := by
  unfold Dev.retryJob
  split
  · dsimp only
    split
    · exact Dev.runJob_later ..
    · split <;> rfl
  · rfl

theorem busWrite_later (d : Dev) (nv : Nv) (off : Nat) (v : Word) : nv.Later (busWrite d nv off v).2 := by
  unfold busWrite
  split
  · split
    · exact Dev.writeLife_later ..
    · rfl
  · rfl

/-- An activation writes the journal and the active area only. -/
theorem Dev.bootActivate_later (d : Dev) (nv : Nv) (x : BootIn) : nv.Later (d.bootActivate nv x).2 := by
  unfold Dev.bootActivate
  dsimp only
  split
  · split
    · exact nv.later_of_flash ..
    · split
      · exact nv.later_of_flash ..
      · split <;> exact nv.later_of_flash ..
  · rfl

theorem Dev.bootSettings_later (d : Dev) (nv : Nv) (x : BootIn) : nv.Later (d.bootSettings nv x).2 := by
  unfold Dev.bootSettings
  exact List.foldlRecOn _ _ (motive := fun r : Dev × Nv => nv.Later r.2) (Nv.Later.refl nv)
    fun (r : Dev × Nv) h (e : Nat × Word) _ => h.trans (busWrite_later r.1 r.2 e.1 e.2)

/-- A turn of the start writes the stores in steps 3, 5 and 6 only. -/
theorem Dev.bootTurn_later (d : Dev) (nv : Nv) (x : BootIn) : nv.Later (d.bootTurn nv x).2 := by
  unfold Dev.bootTurn
  split
  case h_4 => exact d.bootActivate_later nv x
  case h_6 => exact nv.later_svn _
  case h_7 => exact d.bootSettings_later nv x
  all_goals rfl

/-! ### What the engine instructions do to the fuses -/

/-- The stores that an instruction leaves, nv being those before it. -/
def OpRes.stores (nv : Nv) : OpRes → Nv
  | .done _ nv' => nv'
  | .load _ nv' _ => nv'
  | _ => nv

/-- An instruction takes the fuses to a later state. -/
def KeepsFuses (f : OpFn) : Prop := ∀ (d : Dev) (nv : Nv) (n : Nat) (x : Eng) (w : Word), nv.Later ((f d nv n x w).stores nv)

theorem settleOp_stores (n : Nat) (nv : Nv) (r : OpRes) : (settleOp n nv r).2 = r.stores nv := by cases r <;> rfl

@[simp] theorem keepsFuses_opR (f : Eng → Word → Word → Alu) : KeepsFuses (opR f) := by
  intro d nv n x w; unfold opR; split <;> rfl

@[simp] theorem keepsFuses_opDiv (f : Word → Word → Alu) : KeepsFuses (opDiv f) := by
  intro d nv n x w
  unfold opDiv
  split
  · rfl
  · exact keepsFuses_opR _ d nv n x w

@[simp] theorem keepsFuses_opI (rsv : Word) (f : Word → Word → Alu) : KeepsFuses (opI rsv f) := by
  intro d nv n x w; unfold opI; split <;> rfl

@[simp] theorem keepsFuses_opLoad (size : Nat) (ext : Nat → Word) (addr : Eng → Word → Word) (post : Option (Eng → Word → Word))
    (det : Bool) : KeepsFuses (opLoad size ext addr post det) := by
  intro d nv n x w
  unfold opLoad
  dsimp only
  split
  · rfl
  · rfl
  · split <;> rfl

/-- A store in a window is a register write. -/
@[simp] theorem keepsFuses_opStore (size : Nat) (addr : Eng → Word → Word) (post : Option (Eng → Word → Word)) :
    KeepsFuses (opStore size addr post) := by
  intro d nv n x w
  unfold opStore
  dsimp only
  split
  · rfl
  · exact busWrite_later ..
  · rfl

@[simp] theorem keepsFuses_opPrefix (intr : Bool) : KeepsFuses (opPrefix intr) := by
  intro d nv n x w; unfold opPrefix; dsimp only; repeat' split
  all_goals rfl

@[simp] theorem keepsFuses_opNop : KeepsFuses opNop := by intro d nv n x w; unfold opNop; split <;> rfl

@[simp] theorem keepsFuses_opMac : KeepsFuses opMac := by intro d nv n x w; unfold opMac; split <;> rfl

@[simp] theorem keepsFuses_opMacm (det : Option Bool) : KeepsFuses (opMacm det) := by
  intro d nv n x w
  unfold opMacm
  dsimp only
  split
  · rfl
  · split
    · rfl
    · rfl
    · split <;> rfl

@[simp] theorem keepsFuses_opLui : KeepsFuses opLui := fun _ nv _ _ _ => Nv.Later.refl nv

@[simp] theorem keepsFuses_opCmpi : KeepsFuses opCmpi := by intro d nv n x w; unfold opCmpi; split <;> rfl

@[simp] theorem keepsFuses_opLwp (det : Bool) : KeepsFuses (opLwp det) := by
  intro d nv n x w
  unfold opLwp
  split
  · rfl
  · exact keepsFuses_opLoad _ _ _ _ _ d nv n x w

@[simp] theorem OpRes.stores_jumpTo (nv : Nv) (d : Dev) (t : Word) : (jumpTo d t).stores nv = nv := by
  unfold jumpTo; split <;> rfl

@[simp] theorem OpRes.stores_callTo (nv : Nv) (d : Dev) (n : Nat) (x : Eng) (t : Word) : (callTo d n x t).stores nv = nv := by
  unfold callTo
  split
  · rfl
  · split <;> rfl

@[simp] theorem keepsFuses_opB : KeepsFuses opB := by
  intro d nv n x w
  unfold opB
  split
  · rfl
  · split
    · rw [OpRes.stores_jumpTo]
    · rfl

@[simp] theorem keepsFuses_opCall : KeepsFuses opCall := by
  intro d nv n x w
  unfold opCall
  split
  · rfl
  · rw [OpRes.stores_callTo]

@[simp] theorem keepsFuses_opJr : KeepsFuses opJr := by
  intro d nv n x w
  unfold opJr
  split
  · rfl
  · rw [OpRes.stores_jumpTo]

@[simp] theorem keepsFuses_opCallr : KeepsFuses opCallr := by
  intro d nv n x w
  unfold opCallr
  split
  · rfl
  · rw [OpRes.stores_callTo]

@[simp] theorem keepsFuses_opRet : KeepsFuses opRet := by
  intro d nv n x w; unfold opRet; repeat' split
  all_goals rfl

@[simp] theorem keepsFuses_opReti : KeepsFuses opReti := by
  intro d nv n x w; unfold opReti; dsimp only; repeat' split
  all_goals rfl

@[simp] theorem keepsFuses_opMfs : KeepsFuses opMfs := by
  intro d nv n x w; unfold opMfs; repeat' split
  all_goals rfl

@[simp] theorem keepsFuses_opMts : KeepsFuses opMts := by
  intro d nv n x w; unfold opMts; dsimp only; repeat' split
  all_goals rfl

@[simp] theorem keepsFuses_opWaitmt : KeepsFuses opWaitmt := by
  intro d nv n x w; unfold opWaitmt; dsimp only; repeat' split
  all_goals rfl

@[simp] theorem keepsFuses_opEmit : KeepsFuses opEmit := by
  intro d nv n x w; unfold opEmit; dsimp only; repeat' split
  all_goals rfl

@[simp] theorem keepsFuses_opSend (tab : Option (Bool × BitVec 12)) : KeepsFuses (opSend tab) := by
  intro d nv n x w; unfold opSend; dsimp only; repeat' split
  all_goals rfl

@[simp] theorem keepsFuses_opRecv : KeepsFuses opRecv := by
  intro d nv n x w; unfold opRecv; dsimp only; repeat' split
  all_goals rfl

@[simp] theorem keepsFuses_opLeave : KeepsFuses opLeave := by
  intro d nv n x w; unfold opLeave; dsimp only; repeat' split
  all_goals rfl

@[simp] theorem keepsFuses_opTrap : KeepsFuses opTrap := by intro d nv n x w; unfold opTrap; split <;> rfl

theorem keepsFuses_opTable (op : Nat) : KeepsFuses (opTable op) := by
  unfold opTable
  split <;> simp

theorem Dev.stepEng_later (d : Dev) (nv : Nv) (e : Nat) : nv.Later (d.stepEng nv e).2 := by
  unfold Dev.stepEng
  dsimp only
  split
  · split <;> rfl
  · split <;> (rw [settleOp_stores]; exact keepsFuses_opTable ..)

/-! ### What a command can do -/

/-- A command on s ends in a next state: the queue is as it was and no fuse has come back. -/
def Completes (s : State) (o : Host.Outcome State Fault Refusal) : Prop :=
  ∃ d nv, o = .next ⟨d, nv, s.pending⟩ ∧ s.nv.Later nv

/-- A next state that keeps the queue and takes the fuses to a later state. -/
theorem completes_next (s : State) (d : Dev) {nv : Nv} (h : s.nv.Later nv) : Completes s (.next { s with dev := d, nv := nv }) :=
  ⟨d, nv, rfl, h⟩

/-- A next state that keeps the queue and the stores. -/
theorem completes_dev (s : State) (d : Dev) : Completes s (.next { s with dev := d }) := completes_next s d (.refl s.nv)

theorem completes_stay (s : State) : Completes s (.next s) := completes_dev s s.dev

theorem onDev_completes (s : State) (f : Dev → Dev) : Completes s (onDev s f) := completes_dev s _

theorem runKey_completes (op : Nat) (data : List Byte) (det : Option Bool) {f : AccDesc → Dev → Nv → Dev × Nv} (s : State)
    (h : ∀ a d (nv : Nv), nv.Later (f a d nv).2) : Completes s (runKey op data det f s) := by
  unfold runKey
  dsimp only
  generalize (if Dev.vaultBusy _ = true then _ else _) = e
  split
  · split
    · split
      · exact completes_dev s _
      · split
        · generalize (ite (keySlot _ < 128 ∧ op ≠ 0x01) _ _) = e'
          split
          · exact completes_next s _ (h ..)
          · exact completes_dev s _
        · exact completes_dev s _
    · exact completes_dev s _
  · exact completes_dev s _

theorem runStaging_completes (op : Nat) (data : List Byte) (len : BitVec 256 → Nat) {f : AccDesc → Dev → Nv → Dev × Nv}
    (s : State) (h : ∀ a d (nv : Nv), nv.Later (f a d nv).2) : Completes s (runStaging op data len f s) := by
  unfold runStaging
  dsimp only
  split
  · split
    · split
      · exact completes_dev s _
      · exact completes_stay s
    · split
      · exact completes_next s _ (h ..)
      · exact completes_stay s
  · exact completes_stay s

theorem lifeWrite_completes (v : BitVec 32) (fail : Bool) (s : State) : Completes s (lifeWrite v fail s) := by
  unfold lifeWrite
  split
  · exact completes_next s _ (Dev.writeLife_later ..)
  · exact completes_dev s _

theorem runOp_completes (op : Nat) {f : OpFn} (n : Nat) (s : State) (h : KeepsFuses f) : Completes s (runOp op f n s) := by
  unfold runOp
  dsimp only
  split
  · refine completes_next s _ ?_
    rw [settleOp_stores]
    exact h ..
  · exact completes_stay s

theorem execEngTrap_completes (e : Fin 16) (s : State) : Completes s (execEngTrap e s) := by
  unfold execEngTrap
  dsimp only
  split
  · split
    · exact completes_dev s _
    · exact completes_stay s
  · exact runOp_completes _ _ s keepsFuses_opTrap

theorem execGroupCancel_completes (n : Fin 16) (s : State) : Completes s (execGroupCancel n s) := by
  unfold execGroupCancel
  dsimp only
  split
  · exact runOp_completes _ _ s keepsFuses_opEmit
  · exact completes_stay s

theorem execReservationWriteEnd_completes (s : State) : Completes s (execReservationWriteEnd s) := by
  unfold execReservationWriteEnd
  dsimp only
  split
  · split
    · exact completes_stay s
    · exact completes_next s _ (s.nv.append_later _)
  · exact completes_stay s

theorem execRegisterWrite_completes (t : RegTarget) (v : BitVec 32) (s : State) : Completes s (execRegisterWrite t v s) := by
  unfold execRegisterWrite
  split
  · exact completes_next s _ (busWrite_later ..)
  · exact onDev_completes s _
  · exact onDev_completes s _
  · exact onDev_completes s _

theorem execBoot_completes (x : BootIn) (s : State) : Completes s (execBoot x s) := by
  unfold execBoot
  split
  · exact completes_next s _ (Dev.bootTurn_later ..)
  · exact completes_stay s

theorem execDbgStep_completes (e : Fin 16) (s : State) : Completes s (execDbgStep e s) := by
  unfold execDbgStep
  dsimp only
  split
  · exact completes_next s _ (Dev.stepEng_later ..)
  · exact completes_stay s

theorem execDbgBar0Access_completes (off : BitVec 20) (wr : Option (BitVec 32)) (s : State) :
    Completes s (execDbgBar0Access off wr s) := by
  unfold execDbgBar0Access
  dsimp only
  split
  · cases wr with
    | some v => exact completes_next s _ (busWrite_later ..)
    | none => exact completes_dev s _
  · exact completes_stay s

/-- Every command completes, by the form of its meaning in the dispatch. -/
theorem exec_completes (c : Instr) (s : State) : Completes s (exec c s) := by
  unfold exec
  cases c
  case writeClear data => exact runKey_completes _ _ _ s (writeClear_later data)
  case derive data det => exact runKey_completes _ _ _ s (deriveKey_later data)
  case unwrap data det => exact runKey_completes _ _ _ s (unwrapKey_later data)
  case revoke => exact runKey_completes _ _ _ s revokeKey_later
  case enrol data det => exact runKey_completes _ _ _ s (enrolToken_later data)
  case tokRevoke | codeSet data => exact runKey_completes _ _ _ s fun _ _ _ => Dev.appendRec_later ..
  case ctrEnc data det | ctrDec data det | cmacGen data det | cmacVer data det | hmacGen data det | hmacVer data det | sha256 data |
      ecdsaVer data det | random | rootGen =>
    exact runKey_completes _ _ _ s fun _ _ nv => .refl nv
  case stagingOpen cred => exact runStaging_completes _ _ _ s fun a d nv => d.stgOpen_later nv a cred
  case stagingWrite data fail =>
    exact runStaging_completes _ _ _ s fun a d nv => d.withHolder_later nv a _ fun e => e.stgWrite_later nv a data fail
  case stagingCommit flashErr =>
    exact runStaging_completes _ _ _ s fun a d nv => d.withHolder_later nv a _ fun e => e.stgCommit_later nv a flashErr
  case stagingAbandon => exact runStaging_completes _ _ _ s fun a d nv => d.withHolder_later nv a _ fun _ => .refl nv
  case fusePkh v fail | sealLife v fail | retireLife v fail | dbgKill v fail => exact lifeWrite_completes v fail s
  case leaveRetry fail => exact completes_next s _ (Dev.retryJob_later ..)
  case reservationWriteEnd => exact execReservationWriteEnd_completes s
  case registerWrite t v => exact execRegisterWrite_completes t v s
  case boot x => exact execBoot_completes x s
  case dbgStep e => exact execDbgStep_completes e s
  case dbgBar0Access off wr => exact execDbgBar0Access_completes off wr s
  case groupCancel n => exact execGroupCancel_completes n s
  case engTrap e => exact execEngTrap_completes e s
  case engNop e | engAdd e | engSub e | engAddc e | engAnd e | engOr e | engXor e | engShl e | engShr e | engSar e | engMul e |
      engMulh e | engMulhu e | engDiv e | engDivu e | engRemu e | engMac e | engMacm e det | engAddi e | engCmpi e |
      engAndi e | engOri e | engXori e | engShli e | engShri e | engSari e | engLui e | engLw e det | engLh e det |
      engLhu e det | engLb e det | engLbu e det | engLwp e det | engSw e | engSh e | engSb e | engSwp e | engB e | engCall e |
      engJr e | engCallr e | engRet e | engReti e | engRep e | engRepi e | engMfs e | engMts e | engWaitmt e | engEmit e |
      engSend e tab | engRecv e | engLeave e =>
    exact runOp_completes _ _ s (by simp)
  -- What is left is a function of the device alone, some of them through `onChan`.
  all_goals exact onDev_completes s _

/-! ### One step -/

/-- No step brings a fuse back. -/
theorem step_later {s t : State} (h : step s = .next t) : s.nv.Later t.nv := by
  unfold step at h
  split at h
  · cases h
    rfl
  · next c rest _ =>
    obtain ⟨d, nv, hn, hl⟩ := exec_completes c { s with pending := rest }
    rw [hn] at h
    cases h
    exact hl

/-! ### The lifecycle state by its fuses (00 R6) -/

theorem Nv.life_eq_two {n : Nv} : n.life = 2 ↔ n.retireFuse = true := by
  unfold Nv.life
  cases n.retireFuse <;> cases n.sealFuse <;> decide

theorem Nv.life_eq_zero {n : Nv} : n.life = 0 ↔ n.retireFuse = false ∧ n.sealFuse = false := by
  unfold Nv.life
  cases n.retireFuse <;> cases n.sealFuse <;> decide

theorem Nv.life_eq_one {n : Nv} : n.life = 1 ↔ n.retireFuse = false ∧ n.sealFuse = true := by
  unfold Nv.life
  cases n.retireFuse <;> cases n.sealFuse <;> decide

end Sys2Proof.Machine

section
open Sys2Proof Sys2Proof.Machine

/-- Settles O4: the command at the front of the queue takes the fuses to a later state. -/
theorem fusesNeverReturn : Obligations.FusesNeverReturn := fun _ _ => step_later

/-- Settles O5: the lifecycle state is read off the seal and the retire fuse, and neither comes back. -/
theorem lifecycleMovesForward : Obligations.LifecycleMovesForward := by
  intro s t h
  have later := step_later h
  constructor
  · intro sealed opened
    have kept := later.sealed (Nv.life_eq_one.mp sealed).2
    simp [(Nv.life_eq_zero.mp opened).2] at kept
  · intro retired
    exact Nv.life_eq_two.mpr (later.retired (Nv.life_eq_two.mp retired))

/-- Settles O3: every dispatch arm ends in a next state with the queue it was given. -/
theorem everyCommandCompletes : Obligations.EveryCommandCompletes := by
  intro c s
  obtain ⟨d, nv, hn, _⟩ := exec_completes c s
  exact ⟨_, hn, rfl⟩

end

/-! PROOFS (00_scope, 02). What a register write by access codes, a write of host memory and a REGISTER_WRITE change and leave. -/

namespace Sys2Proof.Machine

/-! ### Access codes (00 R13) -/

/-- The word of a register with a row, after a write by its access codes. -/
theorem Dev.reg_writeByCode_same (d : Dev) {off : Nat} (v : Word) {r : RegRow} (h : regRow off = some r) :
    (d.writeByCode off v).reg off = r.write (d.reg off) v := by
  simp [Dev.writeByCode, h]

theorem Dev.reg_writeByCode_other (d : Dev) {off o : Nat} (v : Word) (h : o ≠ off) :
    (d.writeByCode off v).reg o = d.reg o := by
  unfold Dev.writeByCode
  split
  · exact d.reg_setReg_other _ h
  · rfl

theorem RegRow.write_counter {r : RegRow} (h : r.cnt = true) (old v : Word) : r.write old v = 0 := by simp [RegRow.write, h]

/-- The bits of a register that is no counter, after a write by its access codes. -/
theorem RegRow.getLsbD_write {r : RegRow} (h : r.cnt = false) (old v : Word) {i : Nat} (hi : i < 32) :
    (r.write old v).getLsbD i =
      (!(r.w1c.testBit i && v.getLsbD i) && (if r.rw.testBit i then v.getLsbD i else old.getLsbD i)) := by
  have bit (n : Nat) : (BitVec.ofNat 32 n).getLsbD i = n.testBit i := by rw [BitVec.getLsbD_ofNat]; simp [hi]
  simp only [RegRow.write, h, Bool.false_eq_true, if_false, BitVec.getLsbD_and, BitVec.getLsbD_or, BitVec.getLsbD_not, bit, hi,
    decide_true, Bool.true_and]
  cases r.rw.testBit i <;> simp [Bool.and_comm]

/-! ### The MSI-X table and configuration space (02 R43, R44) -/

theorem Dev.bar2Read_table (d : Dev) {o : Nat} (h : o < 0x400) (h4 : o % 4 = 0) :
    d.bar2Read o = sparseGet msixDefault d.hl.msixTab (o / 4) := by
  have word : 4 * (o / 16) + o / 4 % 4 = o / 4 := by omega
  simp only [Dev.bar2Read, h, if_true, Dev.msixWord, word]

theorem Dev.bar2Write_beyond (d : Dev) {o : Nat} (v : Word) (h : 0x400 ≤ o) : d.bar2Write o v = d := by
  simp [Dev.bar2Write, Nat.not_lt.mpr h]

theorem Dev.bar2Write_table (d : Dev) {o : Nat} (v : Word) (h : o < 0x400) :
    d.bar2Write o v = { d with hl := { d.hl with msixTab := sparsePut msixDefault d.hl.msixTab (o / 4) v } } := by
  simp [Dev.bar2Write, h]

/-- A written word of the MSI-X table reads as written. -/
theorem Dev.bar2Read_write_same (d : Dev) {o : Nat} (v : Word) (h : o < 0x400) (h4 : o % 4 = 0) :
    (d.bar2Write o v).bar2Read o = v := by
  rw [Dev.bar2Read_table _ h h4, d.bar2Write_table v h]
  exact sparseGet_put_same ..

theorem Dev.bar2Read_write_other (d : Dev) {o k : Nat} (v : Word) (h : o < 0x400) (h4 : o % 4 = 0) (hk : k < 0x400) (hk4 : k % 4 = 0)
    (ne : k ≠ o) : (d.bar2Write o v).bar2Read k = d.bar2Read k := by
  rw [Dev.bar2Read_table _ hk hk4, d.bar2Read_table hk hk4, d.bar2Write_table v h]
  exact sparseGet_put_other _ _ _ (by omega)

/-- A write to configuration space leaves codes of R43 in the two sizes of Device Control. -/
theorem PcieCfg.write_keeps_codes (x : PcieCfg) (r : CfgReg) (v : Word) :
    (x.mps ≤ 1 → (x.write r v).mps ≤ 1) ∧ (x.mrrs ≤ 2 → (x.write r v).mrrs ≤ 2) := by
  cases r with
  | devCtl =>
    simp only [PcieCfg.write]
    constructor <;> intro h <;> split <;> assumption
  | devCtl2 | linkCtl => exact ⟨id, id⟩
  | bar i | aer i =>
    simp only [PcieCfg.write]
    split <;> exact ⟨id, id⟩

end Sys2Proof.Machine

section
open Sys2Proof Sys2Proof.Machine

/-- Settles O11: the written register by its row's masks, bit by bit, and the frame of setting one register. -/
theorem accessCodes : Obligations.AccessCodes := by
  intro d off v r hr
  refine ⟨fun o ho => d.reg_writeByCode_other v ho, fun hc => ?_, fun hc i hi => ?_⟩
  · rw [d.reg_writeByCode_same v hr, RegRow.write_counter hc]
  · rw [d.reg_writeByCode_same v hr, RegRow.getLsbD_write hc _ _ hi]

/-- Settles O12, by induction on the bytes written: the first byte lies below what the rest writes, so the rest leaves it. -/
theorem hostMemoryWrites : Obligations.HostMemoryWrites := by
  intro l
  induction l with
  | nil => intro d a i _; simp [Dev.memWrite]
  | cons b t ih =>
    intro d a i h
    simp only [List.length_cons] at h ⊢
    have fits : a % 2 ^ 64 = a := Nat.mod_eq_of_lt (by omega)
    rw [Dev.memWrite, ih _ _ _ (by omega), Dev.memByte_put, fits]
    obtain below | rfl | above := Nat.lt_trichotomy i a
    · simp [show ¬ a + 1 ≤ i by omega, show ¬ a ≤ i by omega, below.ne]
    · simp
    · have tail : i - a = i - (a + 1) + 1 := by omega
      simp [tail, above.ne', above.le, Nat.succ_le_of_lt above, Nat.add_right_comm a 1, Nat.add_assoc]

/-- Settles O13: the offset of a register is its own word's offset, so each kind of target is written where it was named. -/
theorem registerWriteCompletes : Obligations.RegisterWriteCompletes := by
  have aligned {n : Nat} (h : n % 4 = 0) : n / 4 * 4 = n := Nat.div_mul_cancel (Nat.dvd_of_mod_eq_zero h)
  have bar2 (d : Dev) (off : BitVec 13) (v : Word) (h : off.toNat % 4 = 0) :
      Becomes (.registerWrite (.bar2 off) v) d (d.bar2Write off.toNat v) :=
    becomes_of_onDev (fun d => d.bar2Write (off.toNat / 4 * 4) v) (fun _ => rfl) (by rw [aligned h])
  refine ⟨fun d nv q off v h => ?_, fun d off v h => ⟨fun beyond => ?_, fun table => ?_⟩, fun d r v => ⟨fun nv q => rfl, ?_⟩,
    fun d nv q v => rfl⟩
  · have write : exec (.registerWrite (.bar0 off) v) ⟨d, nv, q⟩ =
        .next ⟨(busWrite d nv (off.toNat / 4 * 4) v).1, (busWrite d nv (off.toNat / 4 * 4) v).2, q⟩ := rfl
    rw [write, aligned h]
  · have written := bar2 d off v h
    rwa [d.bar2Write_beyond v beyond] at written
  · refine ⟨_, bar2 d off v h, d.bar2Read_write_same v table h, fun o ho h4 ne => d.bar2Read_write_other v table h ho h4 ne, ?_⟩
    rw [d.bar2Write_table v table]
  · exact d.hl.cfg.write_keeps_codes r v

end

/-! PROOFS (01). Accesses to a register whose power domain is off, and the saturating counters that count them. -/

namespace Sys2Proof.Machine

/-! ### Counters (00 R13) -/

/-- A field as wide as its register holds the register's value. -/
@[simp] theorem Fld.ext_word (off : Nat) (v : Word) : (⟨off, 0, 32⟩ : Fld).ext v = v.toNat := by
  simp [Fld.ext, Nat.mod_eq_of_lt v.isLt]

theorem Dev.toNat_reg_count_same (d : Dev) (k : Nat) :
    ((d.count k).reg k).toNat = min ((d.reg k).toNat + 1) (2 ^ 32 - 1) := by
  have saturates : min ((d.reg k).toNat + 1) (2 ^ 32 - 1) % 2 ^ 32 = min ((d.reg k).toNat + 1) (2 ^ 32 - 1) :=
    Nat.mod_eq_of_lt (by omega)
  have counted := d.fld_setFld_same ⟨k, 0, 32⟩ (min (d.fld ⟨k, 0, 32⟩ + 1) (2 ^ 32 - 1)) le_rfl
  simpa only [Dev.count, Dev.addFld, Dev.fld, Fld.ext_word, saturates] using counted

theorem Dev.reg_count_other (d : Dev) {k off : Nat} (h : off ≠ k) : (d.count k).reg off = d.reg off :=
  d.reg_setFld_other _ _ h

/-! ### Accesses to a domain that is off (01 R24) -/

theorem busRead_off (d : Dev) (nv : Nv) {off : Nat} (h : d.domOn (domOf off) = false) :
    busRead d nv off = (0, d.count R.PWR_OFFACC_CNT) := by
  simp [busRead, h]

theorem busWrite_off (d : Dev) (nv : Nv) {off : Nat} (v : Word) (h : d.domOn (domOf off) = false) :
    busWrite d nv off v = (d.count R.PWR_OFFACC_CNT, nv) := by
  simp [busWrite, Dev.access_off, h]

theorem onDev_access_off {d : Dev} {off : Nat} (nv : Nv) (q : List Instr) (f : Dev → Dev) (h : d.domOn (domOf off) = false) :
    onDev ⟨d, nv, q⟩ (fun d => d.access off f) = .next ⟨d.count R.PWR_OFFACC_CNT, nv, q⟩ := by
  simp only [onDev, d.access_off off f h]

theorem lifeWrite_off {d : Dev} (nv : Nv) (q : List Instr) (v : BitVec 32) (fail : Bool)
    (h : d.domOn (domOf R.UPD_LIFE_CMD) = false) :
    lifeWrite v fail ⟨d, nv, q⟩ = .next ⟨d.count R.PWR_OFFACC_CNT, nv, q⟩ := by
  have off : d.domOn 2 = false := h
  simp [lifeWrite, off]

theorem execRegisterWrite_off {d : Dev} {off : BitVec 20} (nv : Nv) (q : List Instr) (v : BitVec 32)
    (h : d.domOn (domOf (off.toNat / 4 * 4)) = false) :
    execRegisterWrite (.bar0 off) v ⟨d, nv, q⟩ = .next ⟨d.count R.PWR_OFFACC_CNT, nv, q⟩ := by
  simp only [execRegisterWrite, busWrite_off d nv v h]

/-- A command that writes a register of a domain that is off is counted: a fuse command by its own check of PD2, REGISTER_WRITE on the
register bus, every other one by `Dev.access`. -/
theorem exec_off {c : Instr} {off : Nat} {d : Dev} (nv : Nv) (q : List Instr) (hc : writtenReg c = some off)
    (h : d.domOn (domOf off) = false) : exec c ⟨d, nv, q⟩ = .next ⟨d.count R.PWR_OFFACC_CNT, nv, q⟩ := by
  cases c
  case registerWrite t v =>
    cases t with
    | bar0 o => cases hc; exact execRegisterWrite_off nv q v h
    | bar2 o | msixControl | cfg r => cases hc
  case fusePkh v fail | sealLife v fail | retireLife v fail | dbgKill v fail =>
    cases hc; exact lifeWrite_off nv q v fail h
  -- What is left writes no register, or the one register that its `Dev.access` names.
  all_goals cases hc
  all_goals exact onDev_access_off nv q _ h

theorem badAccess_counts (d : Dev) {off : BitVec 20} {size : Nat} (wr : Bool) (h : size ≠ 4 ∨ off.toNat % 4 ≠ 0) :
    Becomes (.badAccess off size wr) d (d.count R.HL_BAD_ACCESS_CNT) :=
  becomes_of_onDev (fun d => if size = 4 ∧ off.toNat % 4 = 0 then d else d.count R.HL_BAD_ACCESS_CNT) (fun _ => rfl)
    (if_neg (not_and_or.mpr h))

end Sys2Proof.Machine

section
open Sys2Proof Sys2Proof.Machine

/-- Settles O1: `step` takes the front of the queue off and hands the rest to `exec`. -/
theorem stepRunsFront : Obligations.StepRunsFront := fun _ _ => rfl

/-- Settles O9: writes by the way each command reaches its register, reads by the register bus, refused accesses by their size and
alignment, and both counters as 32-bit words that stop at their largest value. -/
theorem offDomainAccesses : Obligations.OffDomainAccesses :=
  ⟨fun _ _ _ nv q hc h => exec_off nv q hc h, fun d nv _ h => busRead_off d nv h, fun d _ _ wr h => badAccess_counts d wr h,
    fun d _ k _ => ⟨d.toNat_reg_count_same k, fun h => d.reg_count_other h⟩⟩

end

/-! PROOFS (02). Completions: what becomes of one whose CQ is disabled, and what the write of one changes in host memory. -/

namespace Sys2Proof.Machine

/-! ### Completions (02 R63 to R69, R81) -/

/-- A completion whose CQ is disabled is discarded, and owed no longer (02 R81). -/
theorem Dev.complete_disabled (d : Dev) (ref : CplRef) (status detail source cflags : Nat)
    (h : d.flag (R.HL_CQ_CFG_EN ref.cq) = false) :
    d.complete ref status detail source cflags =
      ({ d with hl := { d.hl with outst := d.hl.outst.filter fun o => o.2 != ref.id } } : Dev).discardCpl :=
  if_pos (.inr (.inr h))

theorem Dev.reg_count_same (d : Dev) (k : Nat) :
    (d.count k).reg k = BitVec.ofNat 32 (min ((d.reg k).toNat + 1) 0xFFFFFFFF) := by
  apply BitVec.eq_of_toNat_eq
  rw [d.toNat_reg_count_same k, BitVec.toNat_ofNat]
  omega

/-- CQ 0 with IEN set and a ring of 16 slots at address 0, the link up, and its vector 0 unmasked with the message 1 at 0x1000. -/
def signallingDev : Dev :=
  let d := State.reset.dev
  ({ d with hl := { d.hl with bme := true, msixEn := true, msixTab := [(0, 0x1000), (2, 1), (3, 0)] } }).setFlag R.HL_LINK_UP true
    |>.setFlag (R.HL_CQ_CFG_IEN 0) true |>.setFld (R.HL_CQ_CFG_SIZE_LOG2 0) 4

/-- A completion for CQ 0 of a descriptor with NOTIFY. -/
def notifyingCpl : HeldCpl where
  ref := { id := 0, sq := 0, cq := 0, epoch := 0, notify := true, cookie := 0 }
  status := 0
  detail := 0
  cflags := 0
  source := 0

/-- The completion's slot ends at byte 16; the message of its vector follows it to host memory (02 R68, R69). -/
theorem writeCpl_sends_message :
    (signallingDev.writeCpl notifyingCpl).memByte 0x1000 = 1 ∧ signallingDev.memByte 0x1000 = 0 := by decide +kernel

/-- The slot and the ring of that completion are in range. -/
theorem signallingDev_slot :
    signallingDev.fld (R.HL_CQ_TAIL_INDEX 0) = 0 ∧ signallingDev.cqSize 0 = 16 ∧
      signallingDev.reg64 (R.HL_CQ_BASE_LO 0) (R.HL_CQ_BASE_HI 0) = 0 := by decide +kernel

end Sys2Proof.Machine

section
open Sys2Proof Sys2Proof.Machine

/-- Settles O17: the disabled CQ decides between discarding, holding and writing, and the count is one 32-bit word that saturates. -/
theorem disabledQueueDiscards : Obligations.DisabledQueueDiscards :=
  fun d ref status detail source cflags h =>
    ⟨d.complete_disabled ref status detail source cflags h, d.reg_count_same R.HL_CPL_DISCARD_CNT⟩

/-- Refutes O18: `Dev.writeCpl` also raises the CQ's vector (02 R68), and where the vector may be sent its message is a second write of
host memory, at the address in the MSI-X table. Here the slot is bytes 0 to 15 and the message changes byte 0x1000. -/
theorem not_completionIsWritten : ¬ Obligations.CompletionIsWritten := by
  intro h
  obtain ⟨index, size, base⟩ := signallingDev_slot
  obtain ⟨message, before⟩ := writeCpl_sends_message
  have claim := h signallingDev notifyingCpl
  simp only [show notifyingCpl.ref.cq = 0 from rfl, index, size, base] at claim
  obtain ⟨_, frame, _⟩ := claim (by decide) (by decide) (by decide) (by decide)
  have kept := frame 0x1000 (by decide)
  rw [message, before] at kept
  exact absurd kept (by decide)

end

/-! PROOFS (02). The host's ring commands: doorbells, and the rise and the fall of EN of an SQ and of a CQ. -/

namespace Sys2Proof.Machine

/-! ### Updates of registers alone -/

/-- e is d but for registers that l names. -/
structure OnlyRegs (l : List Nat) (d e : Dev) : Prop where
  others : RegsBut l d e
  frame : e = { d with regs := e.regs }

@[refl] theorem OnlyRegs.refl {l : List Nat} (d : Dev) : OnlyRegs l d d := ⟨fun _ _ => rfl, rfl⟩

theorem OnlyRegs.trans {l m : List Nat} {d e g : Dev} (h : OnlyRegs l d e) (k : OnlyRegs m e g) : OnlyRegs (l ++ m) d g where
  others o ho :=
    (k.others o fun hm => ho (List.mem_append_right l hm)).trans (h.others o fun hl => ho (List.mem_append_left m hl))
  frame := k.frame.trans (congrArg (fun x : Dev => { x with regs := g.regs }) h.frame)

theorem OnlyRegs.setFld {l : List Nat} {d e : Dev} {f : Fld} {x : Nat} (h : OnlyRegs l d e) (hf : f.off ∈ l) :
    OnlyRegs l d (e.setFld f x) where
  others o ho := (e.reg_setFld_other f x (ne_of_mem_of_not_mem hf ho).symm).trans (h.others o ho)
  frame := congrArg (fun y : Dev => { y with regs := (e.setFld f x).regs }) h.frame

theorem OnlyRegs.setFlag {l : List Nat} {d e : Dev} {f : Fld} {b : Bool} (h : OnlyRegs l d e) (hf : f.off ∈ l) :
    OnlyRegs l d (e.setFlag f b) := h.setFld hf

/-- A field of a register that stays. -/
theorem OnlyRegs.fld {l : List Nat} {d e : Dev} (h : OnlyRegs l d e) (f : Fld) (hf : f.off ∉ l) : e.fld f = d.fld f := by
  unfold Dev.fld
  rw [h.others f.off hf]

theorem OnlyRegs.flag {l : List Nat} {d e : Dev} (h : OnlyRegs l d e) (f : Fld) (hf : f.off ∉ l) : e.flag f = d.flag f := by
  unfold Dev.flag
  rw [h.fld f hf]

/-- What an SQ's hidden state and registers leave alone. -/
theorem OnlyRegs.setSq_frame {l : List Nat} {d e : Dev} (h : OnlyRegs l d e) (n : Nat) (x : SqHid) :
    e.setSq n x = { d with regs := (e.setSq n x).regs, hl := { d.hl with sq := (e.setSq n x).hl.sq } } := by
  rw [h.frame]
  rfl

/-- What a CQ's hidden state and registers leave alone. -/
theorem OnlyRegs.setCq_frame {l : List Nat} {d e : Dev} (h : OnlyRegs l d e) (n : Nat) (x : CqHid) :
    e.setCq n x = { d with regs := (e.setCq n x).regs, hl := { d.hl with cq := (e.setCq n x).hl.cq } } := by
  rw [h.frame]
  rfl

theorem Dev.flag_setFlag_bit (d : Dev) {f : Fld} (b : Bool) (one : f.w = 1) (lo : f.lo < 32) : (d.setFlag f b).flag f = b :=
  d.flag_setFlag_same f b (by omega) (by omega)

@[simp] theorem Dev.sq_setSq_same (d : Dev) (n : Nat) (x : SqHid) : (d.setSq n x).sq n = x := sparseGet_put_same ..

@[simp] theorem Dev.reg_setSq (d : Dev) (n : Nat) (x : SqHid) (o : Nat) : (d.setSq n x).reg o = d.reg o := rfl
@[simp] theorem Dev.fld_setSq (d : Dev) (n : Nat) (x : SqHid) (f : Fld) : (d.setSq n x).fld f = d.fld f := rfl
@[simp] theorem Dev.flag_setSq (d : Dev) (n : Nat) (x : SqHid) (f : Fld) : (d.setSq n x).flag f = d.flag f := rfl
@[simp] theorem Dev.reg_setCq (d : Dev) (n : Nat) (x : CqHid) (o : Nat) : (d.setCq n x).reg o = d.reg o := rfl
@[simp] theorem Dev.fld_setCq (d : Dev) (n : Nat) (x : CqHid) (f : Fld) : (d.setCq n x).fld f = d.fld f := rfl
@[simp] theorem Dev.flag_setCq (d : Dev) (n : Nat) (x : CqHid) (f : Fld) : (d.setCq n x).flag f = d.flag f := rfl

@[simp] theorem Dev.cq_setCq_same (d : Dev) (n : Nat) (x : CqHid) : (d.setCq n x).cq n = x := sparseGet_put_same ..

/-! ### The host-ring window (01 R23) -/

/-- A command that writes a register of the host-ring window has its effect while PD8 is on. -/
theorem becomes_of_ringAccess {c : Instr} {d : Dev} (off : Nat) (f : Dev → Dev) (hc : ∀ s, exec c s = onDev s fun d => d.access off f)
    (ring : off / 0x10000 = 1) (on : d.domOn 8 = true) : Becomes c d (f d) := by
  have dom : domOf off = 8 := by simp [domOf, ring]
  exact becomes_of_onDev _ hc (d.access_on off f (dom ▸ on))

theorem sqCfg_ring (n : Fin 64) : R.HL_SQ_CFG n / 0x10000 = 1 := by unfold R.HL_SQ_CFG; omega

theorem cqCfg_ring (n : Fin 64) : R.HL_CQ_CFG n / 0x10000 = 1 := by unfold R.HL_CQ_CFG; omega

/-! ### Doorbells (02 R54) -/

theorem Dev.writeSqDb_inRange (d : Dev) (n : Nat) (v : Word) (en : d.flag (R.HL_SQ_CFG_EN n) = true)
    (range : bitsOf v 0 12 < d.sqSize n) : d.writeSqDb n v = d.setFld (R.HL_SQ_TAIL_INDEX n) (bitsOf v 0 12) := by
  simp [Dev.writeSqDb, en, range]

/-- A CQ doorbell is taken when it releases written slots only. -/
theorem Dev.writeCqDb_inRange (d : Dev) (n : Nat) (v : Word) (en : d.flag (R.HL_CQ_CFG_EN n) = true)
    (range : bitsOf v 0 12 < d.cqSize n)
    (written : (bitsOf v 0 12 + d.cqSize n - d.fld (R.HL_CQ_HEAD_INDEX n)) % d.cqSize n ≤
      (d.fld (R.HL_CQ_TAIL_INDEX n) + d.cqSize n - d.fld (R.HL_CQ_HEAD_INDEX n)) % d.cqSize n) :
    d.writeCqDb n v = d.setFld (R.HL_CQ_HEAD_INDEX n) (bitsOf v 0 12) := by
  simp [Dev.writeCqDb, en, range, written]

/-! ### EN of an SQ (02 R79, R80) -/

/-- The fields of HL_SQn_CFG that a write takes while EN is 0, and EN set. -/
def Dev.sqCfgTaken (d : Dev) (n : Nat) (v : Word) : Dev :=
  let d := d.setFld (R.HL_SQ_CFG_WEIGHT n) ((R.HL_SQ_CFG_WEIGHT n).ext v)
  (((d.setFld (R.HL_SQ_CFG_URGENT n) ((R.HL_SQ_CFG_URGENT n).ext v)).setFld (R.HL_SQ_CFG_SIZE_LOG2 n)
    (sizeField (d.fld (R.HL_SQ_CFG_SIZE_LOG2 n)) ((R.HL_SQ_CFG_SIZE_LOG2 n).ext v))).setFld (R.HL_SQ_CFG_CQ n)
    ((R.HL_SQ_CFG_CQ n).ext v)).setFlag (R.HL_SQ_CFG_EN n) true

/-- HEAD as an enabled SQ starts from it: 0 when it lies beyond the ring. -/
def Dev.sqHeadStarts (d : Dev) (n : Nat) : Dev :=
  if d.fld (R.HL_SQ_HEAD_INDEX n) < d.sqSize n then d else d.setFld (R.HL_SQ_HEAD_INDEX n) 0

/-- An SQ with nothing to fetch: TAIL at HEAD, STOPPED clear. -/
def Dev.sqTailAtHead (d : Dev) (n : Nat) : Dev :=
  (d.setFld (R.HL_SQ_TAIL_INDEX n) (d.fld (R.HL_SQ_HEAD_INDEX n))).setFlag (R.HL_SQ_STAT_STOPPED n) false

/-- The registers of an SQ that starts. -/
def Dev.sqStarted (d : Dev) (n : Nat) (v : Word) : Dev := ((d.sqCfgTaken n v).sqHeadStarts n).sqTailAtHead n

theorem Dev.writeSqCfg_rise (d : Dev) (n : Nat) (v : Word) (en : d.flag (R.HL_SQ_CFG_EN n) = false) (set : v.getLsbD 0 = true) :
    d.writeSqCfg n v = (d.sqStarted n v).setSq n SqHid.init := by
  simp only [Dev.writeSqCfg, en, set, Bool.not_false, Bool.and_self, if_true, Bool.false_eq_true, if_false]
  rfl

/-- A write that clears EN: WEIGHT is taken, and the reads in flight are forgotten. -/
theorem Dev.writeSqCfg_fall (d : Dev) (n : Nat) (v : Word) (en : d.flag (R.HL_SQ_CFG_EN n) = true) (clear : v.getLsbD 0 = false) :
    d.writeSqCfg n v = ((d.setFld (R.HL_SQ_CFG_WEIGHT n) ((R.HL_SQ_CFG_WEIGHT n).ext v)).setFlag (R.HL_SQ_CFG_EN n) false).setSq n
      { d.sq n with reads := [] } := by
  simp only [Dev.writeSqCfg, en, clear, Bool.not_false, Bool.and_self, if_true, Bool.false_and, Bool.false_eq_true, if_false]
  rfl

theorem Dev.sqCfgTaken_onlyRegs (d : Dev) (n : Nat) (v : Word) : OnlyRegs [R.HL_SQ_CFG n] d (d.sqCfgTaken n v) :=
  .setFlag (.setFld (.setFld (.setFld (.setFld (.refl d) (.head _)) (.head _)) (.head _)) (.head _)) (.head _)

theorem Dev.sqHeadStarts_onlyRegs (d : Dev) (n : Nat) : OnlyRegs [R.HL_SQ_HEAD n] d (d.sqHeadStarts n) := by
  unfold Dev.sqHeadStarts
  split
  · rfl
  · exact .setFld (.refl d) (.head _)

theorem Dev.sqTailAtHead_onlyRegs (d : Dev) (n : Nat) : OnlyRegs [R.HL_SQ_TAIL n, R.HL_SQ_STAT n] d (d.sqTailAtHead n) :=
  .setFlag (.setFld (.refl d) (.head _)) (.tail _ (.head _))

/-- Starting an SQ writes its own four registers only. -/
theorem Dev.sqStarted_onlyRegs (d : Dev) (n : Nat) (v : Word) :
    OnlyRegs ([R.HL_SQ_CFG n] ++ [R.HL_SQ_HEAD n] ++ [R.HL_SQ_TAIL n, R.HL_SQ_STAT n]) d (d.sqStarted n v) :=
  ((d.sqCfgTaken_onlyRegs n v).trans (Dev.sqHeadStarts_onlyRegs _ n)).trans (Dev.sqTailAtHead_onlyRegs _ n)

theorem Dev.sqStarted_enabled (d : Dev) (n : Nat) (v : Word) : (d.sqStarted n v).flag (R.HL_SQ_CFG_EN n) = true := by
  unfold Dev.sqStarted
  rw [(Dev.sqTailAtHead_onlyRegs _ n).flag _ (by simp [R.HL_SQ_CFG_EN, R.HL_SQ_CFG, R.HL_SQ_TAIL, R.HL_SQ_STAT]),
    (Dev.sqHeadStarts_onlyRegs _ n).flag _ (by simp [R.HL_SQ_CFG_EN, R.HL_SQ_CFG, R.HL_SQ_HEAD])]
  exact Dev.flag_setFlag_bit _ true rfl (by simp [R.HL_SQ_CFG_EN])

theorem Dev.sqTailAtHead_running (d : Dev) (n : Nat) : (d.sqTailAtHead n).flag (R.HL_SQ_STAT_STOPPED n) = false :=
  Dev.flag_setFlag_bit _ false rfl (by simp [R.HL_SQ_STAT_STOPPED])

theorem Dev.sqTailAtHead_empty (d : Dev) (n : Nat) :
    (d.sqTailAtHead n).fld (R.HL_SQ_TAIL_INDEX n) = (d.sqTailAtHead n).fld (R.HL_SQ_HEAD_INDEX n) := by
  rw [(d.sqTailAtHead_onlyRegs n).fld (R.HL_SQ_HEAD_INDEX n)
    (by simp [R.HL_SQ_HEAD_INDEX, R.HL_SQ_HEAD, R.HL_SQ_TAIL, R.HL_SQ_STAT])]
  unfold Dev.sqTailAtHead Dev.setFlag
  rw [Dev.fld_setFld_off _ _ _ _ (by simp [R.HL_SQ_TAIL_INDEX, R.HL_SQ_STAT_STOPPED, R.HL_SQ_TAIL, R.HL_SQ_STAT]),
    d.fld_setFld_same _ _ (by simp [R.HL_SQ_TAIL_INDEX])]
  exact Nat.mod_eq_of_lt ((R.HL_SQ_HEAD_INDEX n).ext_lt _)

/-! ### EN of a CQ (02 R64, R79, R81) -/

/-- The fields of HL_CQn_CFG that a write takes while EN is 0, and EN set. -/
def Dev.cqCfgTaken (d : Dev) (n : Nat) (v : Word) : Dev :=
  let d := d.setFlag (R.HL_CQ_CFG_IEN n) (v.getLsbD 1)
  ((d.setFld (R.HL_CQ_CFG_SIZE_LOG2 n) (sizeField (d.fld (R.HL_CQ_CFG_SIZE_LOG2 n)) ((R.HL_CQ_CFG_SIZE_LOG2 n).ext v))).setFld
    (R.HL_CQ_CFG_VECTOR n) ((R.HL_CQ_CFG_VECTOR n).ext v)).setFlag (R.HL_CQ_CFG_EN n) true

/-- A CQ at its first pass: write index 0 in phase 1, nothing released. -/
def Dev.cqFirstPass (d : Dev) (n : Nat) : Dev :=
  ((d.setFld (R.HL_CQ_TAIL_INDEX n) 0).setFlag (R.HL_CQ_TAIL_PHASE n) true).setFld (R.HL_CQ_HEAD_INDEX n) 0

theorem Dev.writeCqCfg_rise (d : Dev) (n : Nat) (v : Word) (en : d.flag (R.HL_CQ_CFG_EN n) = false) (set : v.getLsbD 0 = true) :
    d.writeCqCfg n v = ((d.cqCfgTaken n v).cqFirstPass n).setCq n CqHid.init := by
  simp only [Dev.writeCqCfg, en, set, Bool.not_false, Bool.and_self, if_true, Bool.false_eq_true, if_false]
  rfl

theorem Dev.writeCqCfg_fall (d : Dev) (n : Nat) (v : Word) (en : d.flag (R.HL_CQ_CFG_EN n) = true) (clear : v.getLsbD 0 = false) :
    d.writeCqCfg n v = ((d.setFlag (R.HL_CQ_CFG_IEN n) (v.getLsbD 1)).setFlag (R.HL_CQ_CFG_EN n) false).dropHeld n := by
  simp only [Dev.writeCqCfg, en, clear, Bool.not_false, Bool.and_self, if_true, Bool.false_and, Bool.false_eq_true, if_false]

theorem Dev.cqCfgTaken_onlyRegs (d : Dev) (n : Nat) (v : Word) : OnlyRegs [R.HL_CQ_CFG n] d (d.cqCfgTaken n v) :=
  .setFlag (.setFld (.setFld (.setFlag (.refl d) (.head _)) (.head _)) (.head _)) (.head _)

theorem Dev.cqFirstPass_onlyRegs (d : Dev) (n : Nat) : OnlyRegs [R.HL_CQ_TAIL n, R.HL_CQ_HEAD n] d (d.cqFirstPass n) :=
  .setFld (.setFlag (.setFld (.refl d) (.head _)) (.head _)) (.tail _ (.head _))

theorem Dev.cqFirstPass_enabled (d : Dev) (n : Nat) (v : Word) :
    ((d.cqCfgTaken n v).cqFirstPass n).flag (R.HL_CQ_CFG_EN n) = true := by
  rw [(Dev.cqFirstPass_onlyRegs _ n).flag _ (by simp [R.HL_CQ_CFG_EN, R.HL_CQ_CFG, R.HL_CQ_TAIL, R.HL_CQ_HEAD])]
  exact Dev.flag_setFlag_bit _ true rfl (by simp [R.HL_CQ_CFG_EN])

theorem Dev.cqFirstPass_head (d : Dev) (n : Nat) : (d.cqFirstPass n).fld (R.HL_CQ_HEAD_INDEX n) = 0 :=
  Dev.fld_setFld_same _ _ 0 (by simp [R.HL_CQ_HEAD_INDEX])

theorem Dev.cqFirstPass_tail (d : Dev) (n : Nat) : (d.cqFirstPass n).fld (R.HL_CQ_TAIL_INDEX n) = 0 := by
  unfold Dev.cqFirstPass Dev.setFlag
  rw [Dev.fld_setFld_off _ _ _ _ (by simp [R.HL_CQ_TAIL_INDEX, R.HL_CQ_HEAD_INDEX, R.HL_CQ_TAIL, R.HL_CQ_HEAD]),
    Dev.fld_setFld_apart _ _ _ _ (by simp [R.HL_CQ_TAIL_PHASE]) (by simp [R.HL_CQ_TAIL_PHASE, R.HL_CQ_TAIL_INDEX]),
    d.fld_setFld_same _ _ (by simp [R.HL_CQ_TAIL_INDEX]), Nat.zero_mod]

theorem Dev.cqFirstPass_phase (d : Dev) (n : Nat) : (d.cqFirstPass n).flag (R.HL_CQ_TAIL_PHASE n) = true := by
  have written : OnlyRegs [R.HL_CQ_HEAD n] ((d.setFld (R.HL_CQ_TAIL_INDEX n) 0).setFlag (R.HL_CQ_TAIL_PHASE n) true) (d.cqFirstPass n) :=
    .setFld (.refl _) (.head _)
  rw [written.flag _ (by simp [R.HL_CQ_TAIL_PHASE, R.HL_CQ_TAIL, R.HL_CQ_HEAD])]
  exact Dev.flag_setFlag_bit _ true rfl (by simp [R.HL_CQ_TAIL_PHASE])

/-- Starting a CQ writes its own three registers only. -/
theorem Dev.cqFirstPass_taken_onlyRegs (d : Dev) (n : Nat) (v : Word) :
    OnlyRegs ([R.HL_CQ_CFG n] ++ [R.HL_CQ_TAIL n, R.HL_CQ_HEAD n]) d ((d.cqCfgTaken n v).cqFirstPass n) :=
  (d.cqCfgTaken_onlyRegs n v).trans (Dev.cqFirstPass_onlyRegs _ n)

end Sys2Proof.Machine

section
open Sys2Proof Sys2Proof.Machine

/-- Settles O14: each command reaches its register in the host-ring window, and the write's case there is the one of its premises. -/
theorem ringCommandsComplete : Obligations.RingCommandsComplete := by
  refine ⟨fun d nv q n v on en range => ?_, fun d nv q n v on en range written => ?_, fun d nv q n v on en set => ?_,
    fun d nv q n v on en clear => ?_, fun d nv q n v on en set => ?_, fun d nv q n v on en clear => ?_, fun d nv q v on => ?_⟩
  · rw [← d.writeSqDb_inRange n v en range]
    exact becomes_of_ringAccess (R.HL_SQDB n) (fun d => d.writeSqDb n v) (fun _ => rfl) (by unfold R.HL_SQDB; omega) on nv q
  · rw [← d.writeCqDb_inRange n v en range written]
    exact becomes_of_ringAccess (R.HL_CQDB n) (fun d => d.writeCqDb n v) (fun _ => rfl) (by unfold R.HL_CQDB; omega) on nv q
  · have becomes : Becomes (.sqEnable n v) d (d.writeSqCfg n v) :=
      becomes_of_ringAccess _ (fun d => d.writeSqCfg n v) (fun _ => rfl) (sqCfg_ring n) on
    rw [d.writeSqCfg_rise n v en set] at becomes
    have only := d.sqStarted_onlyRegs n v
    refine ⟨_, becomes nv q, Dev.sq_setSq_same .., ?_, ?_, ?_, fun o cfg head tail stat => ?_, only.setSq_frame n _⟩
    · rw [Dev.flag_setSq, d.sqStarted_enabled n v]
    · rw [Dev.flag_setSq, Dev.sqStarted, Dev.sqTailAtHead_running]
    · rw [Dev.fld_setSq, Dev.fld_setSq, Dev.sqStarted, Dev.sqTailAtHead_empty]
    · rw [Dev.reg_setSq, only.others o (by simp [cfg, head, tail, stat])]
  · have becomes : Becomes (.sqDisable n v) d (d.writeSqCfg n v) :=
      becomes_of_ringAccess _ (fun d => d.writeSqCfg n v) (fun _ => rfl) (sqCfg_ring n) on
    rw [d.writeSqCfg_fall n v en clear] at becomes
    have only : OnlyRegs [R.HL_SQ_CFG n] d
        ((d.setFld (R.HL_SQ_CFG_WEIGHT n) ((R.HL_SQ_CFG_WEIGHT n).ext v)).setFlag (R.HL_SQ_CFG_EN n) false) :=
      .setFlag (.setFld (.refl d) (.head _)) (.head _)
    refine ⟨_, becomes nv q, ?_, ?_, fun o cfg => ?_, only.setSq_frame n _⟩
    · rw [Dev.sq_setSq_same]
    · rw [Dev.flag_setSq, Dev.flag_setFlag_bit _ false rfl (by simp [R.HL_SQ_CFG_EN])]
    · rw [Dev.reg_setSq, only.others o (by simp [cfg])]
  · have becomes : Becomes (.cqEnable n v) d (d.writeCqCfg n v) :=
      becomes_of_ringAccess _ (fun d => d.writeCqCfg n v) (fun _ => rfl) (cqCfg_ring n) on
    rw [d.writeCqCfg_rise n v en set] at becomes
    have only := d.cqFirstPass_taken_onlyRegs n v
    refine ⟨_, becomes nv q, Dev.cq_setCq_same .., ?_, ?_, ?_, ?_, fun o cfg head tail => ?_, only.setCq_frame n _⟩
    · rw [Dev.flag_setCq, d.cqFirstPass_enabled n v]
    · rw [Dev.fld_setCq, Dev.cqFirstPass_tail]
    · rw [Dev.fld_setCq, Dev.cqFirstPass_head]
    · rw [Dev.flag_setCq, Dev.cqFirstPass_phase]
    · rw [Dev.reg_setCq, only.others o (by simp [cfg, head, tail])]
  · rw [← d.writeCqCfg_fall n v en clear]
    exact becomes_of_ringAccess _ (fun d => d.writeCqCfg n v) (fun _ => rfl) (cqCfg_ring n) on nv q
  · exact becomes_of_ringAccess R.HL_RING_CTRL (fun d => d.writeRingCtrl v) (fun _ => rfl) rfl on nv q

end

/-! PROOFS (02). The module's side of a ring, and resets and link events: each command by the case of its premises. -/

namespace Sys2Proof.Machine

/-! ### The module's side of a ring (02 R59, R68 to R78) -/

/-- An issued read joins its SQ's reads in flight, whatever class the SQ has. -/
theorem Dev.issueRead_reads (d : Dev) (n : Nat) : ((d.issueRead n).sq n).reads = (d.sq n).reads ++ [d.readLen n] := by
  have joined : (d.setSq n { d.sq n with reads := (d.sq n).reads ++ [d.readLen n] }).sq n =
    { d.sq n with reads := (d.sq n).reads ++ [d.readLen n] } := d.sq_setSq_same n _
  unfold Dev.issueRead
  dsimp only
  split
  · rw [joined]
  · exact congrArg SqHid.reads joined

theorem becomes_descriptorFetch {d : Dev} {n : Fin 64} (may : d.mayFetch n = true) : Becomes (.descriptorFetch n) d (d.issueRead n) :=
  becomes_of_onDev (fun d => if d.mayFetch n then d.issueRead n else d) (fun _ => rfl) (if_pos may)

theorem becomes_descriptorAccept {d : Dev} {n : Fin 64} {ds : List (BitVec 256)} {rest : List Nat}
    (oldest : (d.sq n).reads = ds.length :: rest) :
    Becomes (.descriptorAccept n ds) d (ds.foldl (fun d w => d.acceptOne n w) (d.setSq n { d.sq n with reads := rest })) := by
  intro nv q
  change execDescriptorAccept n ds ⟨d, nv, q⟩ = _
  simp only [execDescriptorAccept, onDev, oldest, if_true]

/-- A failed read: nothing more in flight, the SQ stopped, the failure counted and raised. -/
theorem becomes_fetchErr {d : Dev} {n : Fin 64} (reading : (d.sq n).reads ≠ []) :
    Becomes (.fetchErr n) d (((((d.setSq n { d.sq n with reads := [] }).setFlag (R.HL_SQ_STAT_FETCH_ERR n) true).setFlag
      (R.HL_SQ_STAT_STOPPED n) true).count R.HL_FETCH_ERR_CNT).raiseFault Src.hlFetch 0) := by
  intro nv q
  change execFetchErr n ⟨d, nv, q⟩ = _
  simp only [execFetchErr, onDev, List.isEmpty_iff, reading, if_false]

theorem becomes_heldCompletionWrite {d : Dev} {n : Fin 64} {x : HeldCpl}
    (oldest : (d.hl.held.find? fun x => x.ref.cq == n.val) = some x) (master : d.canMaster = true)
    (en : d.flag (R.HL_CQ_CFG_EN n) = true) (space : d.cqFull n = false) :
    Becomes (.heldCompletionWrite n) d
      ((({ d with hl := { d.hl with held := d.hl.held.erase x } }).updatePend n).writeCpl x) := by
  intro nv q
  change execHeldCompletionWrite n ⟨d, nv, q⟩ = _
  simp only [execHeldCompletionWrite, onDev, oldest, master, en, space, Bool.not_false, Bool.and_self, if_true]

theorem becomes_writeErr {d : Dev} {n : Fin 64} {a : Nat} {old : List Byte} (last : (d.cq n).last = some (a, old)) :
    Becomes (.writeErr n) d (((d.unwriteCpl n a old).setFlag (R.HL_CQ_STAT_WRITE_ERR n) true).discardCpl) := by
  intro nv q
  change execWriteErr n ⟨d, nv, q⟩ = _
  simp only [execWriteErr, onDev, last]

theorem becomes_coalesceTimeout {d : Dev} {n : Fin 64} (en : d.flag (R.HL_CQ_CFG_EN n) = true)
    (ien : d.flag (R.HL_CQ_CFG_IEN n) = true) (time : d.fld (R.HL_CQ_COAL_TIME n) ≠ 0) (waits : (d.cq n).unsig ≠ 0)
    (due : (d.cq n).oldest + usTicks (d.fld (R.HL_CQ_COAL_TIME n)) ≤ d.now) :
    Becomes (.coalesceTimeout n) d (d.signalCq n) := by
  intro nv q
  change execCoalesceTimeout n ⟨d, nv, q⟩ = _
  simp [execCoalesceTimeout, onDev, en, ien, time, waits, due]

theorem becomes_msixPendingSend {d : Dev} {v : Fin 64} (pending : d.hl.msixPend.getLsbD v = true) (send : d.canSend v = true) :
    Becomes (.msixPendingSend v) d
      (({ d with hl := { d.hl with msixPend := d.hl.msixPend &&& ~~~(BitVec.ofNat 64 (2 ^ v.val)) } }).sendVector v) := by
  intro nv q
  change execMsixPendingSend v ⟨d, nv, q⟩ = _
  simp only [execMsixPendingSend, onDev, pending, send, Bool.and_self, if_true]

/-! ### The link (02 R84) -/

theorem becomes_linkDown {d : Dev} (up : d.flag R.HL_LINK_UP = true) :
    Becomes .linkDown d (((((d.setReg R.HL_LINK 0).forgetBufs).setFlag R.HL_LINK_EVT_LINK_DOWN true).count
      R.HL_LINK_DOWN_CNT).raiseFault Src.hlLink 0) :=
  becomes_of_onDev Dev.dropLink (fun _ => rfl) (if_pos up)

/-- The link comes up in a host link that has power. -/
theorem becomes_pcieLinkUp {d : Dev} (speed : Fin 3) (x2 : Bool) (on : d.domOn 8 = true) :
    Becomes (.pcieLinkUp speed x2) d
      (((d.setFld R.HL_LINK_SPEED (speed + 1)).setFld R.HL_LINK_WIDTH (if x2 then 2 else 1)).setFlag R.HL_LINK_UP true) := by
  intro nv q
  change execPcieLinkUp speed x2 ⟨d, nv, q⟩ = _
  simp only [execPcieLinkUp, onDev, on, if_true]

end Sys2Proof.Machine

section
open Sys2Proof Sys2Proof.Machine

/-- Settles O15: each event at the case of its premises; a fetched read joins those in flight, and a refused completion counts as
discarded. -/
theorem ringEventsComplete : Obligations.RingEventsComplete :=
  ⟨fun d nv q n may => ⟨becomes_descriptorFetch may nv q, d.issueRead_reads n⟩,
    fun _ nv q _ _ _ oldest => becomes_descriptorAccept oldest nv q,
    fun _ nv q _ reading => becomes_fetchErr reading nv q,
    fun _ nv q _ _ oldest master en space => becomes_heldCompletionWrite oldest master en space nv q,
    fun _ nv q _ _ _ last => becomes_writeErr last nv q,
    fun _ nv q _ en ien time waits due => becomes_coalesceTimeout en ien time waits due nv q,
    fun _ nv q _ pending send => becomes_msixPendingSend pending send nv q⟩

/-- Settles O16: resets and power states act in every state, the link's loss and return on the state of the link and of PD8, and a
refused access is counted by its size, its alignment or its domain. -/
theorem linkCommandsComplete : Obligations.LinkCommandsComplete :=
  ⟨fun _ _ _ => rfl, fun _ _ _ => rfl, fun _ _ _ => rfl, fun _ nv q up => becomes_linkDown up nv q,
    fun _ nv q speed x2 on => becomes_pcieLinkUp speed x2 on nv q, fun _ _ _ => rfl, fun _ _ _ => rfl,
    fun _ _ _ => ⟨rfl, rfl⟩, fun d nv q _ _ wr bad => badAccess_counts d wr bad nv q,
    fun _ nv q _ _ off => exec_off nv q rfl off⟩

end

/-! PROOFS (03). The rules that the statements on Machine Time share: events, the window of their registers, offset steps, the marker
FIFOs and the accumulator of MT. -/

namespace Sys2Proof.Machine

/-! ### Events (02 R68, R69) -/

@[simp] theorem Dev.memWrite_regs (l : List Byte) : ∀ (d : Dev) (a : Nat), (d.memWrite a l).regs = d.regs := by
  induction l with
  | nil => exact fun _ _ => rfl
  | cons b t ih => exact fun d a => ih (d.memPut a b) (a + 1)

@[simp] theorem Dev.memWrite_mt (l : List Byte) : ∀ (d : Dev) (a : Nat), (d.memWrite a l).mt = d.mt := by
  induction l with
  | nil => exact fun _ _ => rfl
  | cons b t ih => exact fun d a => ih (d.memPut a b) (a + 1)

/-- A vector raised writes its message to host memory or sets its pending bit, and no register. -/
@[simp] theorem Dev.raiseVector_regs (d : Dev) (v : Nat) : (d.raiseVector v).regs = d.regs := by
  unfold Dev.raiseVector
  split
  · exact Dev.memWrite_regs _ d _
  · rfl

@[simp] theorem Dev.raiseVector_mt (d : Dev) (v : Nat) : (d.raiseVector v).mt = d.mt := by
  unfold Dev.raiseVector
  split
  · exact Dev.memWrite_mt _ d _
  · rfl

/-- An event changes one register, by its own bit. -/
theorem Dev.event_regs (d : Dev) (evt bit ien vec : Nat) :
    (d.event evt bit ien vec).regs = (d.setFlag ⟨evt, bit, 1⟩ true).regs := by
  unfold Dev.event
  dsimp only
  split
  · exact Dev.raiseVector_regs ..
  · rfl

@[simp] theorem Dev.event_mt (d : Dev) (evt bit ien vec : Nat) : (d.event evt bit ien vec).mt = d.mt := by
  unfold Dev.event
  dsimp only
  split
  · exact Dev.raiseVector_mt ..
  · rfl

@[simp] theorem Dev.mtEvent_mt (d : Dev) (f : Fld) : (d.mtEvent f).mt = d.mt := d.event_mt ..

theorem Dev.fld_mtEvent (d : Dev) (f g : Fld) : (d.mtEvent f).fld g = (d.setFlag ⟨R.MT_EVT, f.lo, 1⟩ true).fld g := by
  unfold Dev.fld Dev.reg Dev.mtEvent
  rw [d.event_regs]

/-- An event of the MT block leaves every other register, and every other bit of MT_EVT. -/
theorem Dev.fld_mtEvent_other (d : Dev) {f g : Fld} (lo : f.lo < 32) (h : g.off ≠ R.MT_EVT ∨ f.lo + 1 ≤ g.lo ∨ g.lo + g.w ≤ f.lo) :
    (d.mtEvent f).fld g = d.fld g := by
  rw [d.fld_mtEvent]
  obtain off | apart := h
  · exact d.fld_setFld_off _ g _ off
  · exact d.fld_setFld_apart _ g _ lo apart

theorem Dev.flag_mtEvent_other (d : Dev) {f g : Fld} (lo : f.lo < 32)
    (h : g.off ≠ R.MT_EVT ∨ f.lo + 1 ≤ g.lo ∨ g.lo + g.w ≤ f.lo) : (d.mtEvent f).flag g = d.flag g := by
  unfold Dev.flag
  rw [d.fld_mtEvent_other lo h]

/-- The bit of an event stands after it. -/
theorem Dev.flag_mtEvent_same (d : Dev) {bit : Nat} (lo : bit < 32) :
    (d.mtEvent ⟨R.MT_EVT, bit, 1⟩).flag ⟨R.MT_EVT, bit, 1⟩ = true := by
  have written := d.flag_setFlag_bit (f := ⟨R.MT_EVT, bit, 1⟩) true rfl lo
  unfold Dev.flag at written ⊢
  rwa [d.fld_mtEvent]

/-! ### Updates of registers alone -/

theorem OnlyRegs.setReg {l : List Nat} {d e : Dev} {o : Nat} {v : Word} (h : OnlyRegs l d e) (ho : o ∈ l) :
    OnlyRegs l d (e.setReg o v) where
  others k hk := (e.reg_setReg_other v (ne_of_mem_of_not_mem ho hk).symm).trans (h.others k hk)
  frame := congrArg (fun y : Dev => { y with regs := (e.setReg o v).regs }) h.frame

theorem OnlyRegs.setReg64 {l : List Nat} {d e : Dev} {lo hi x : Nat} (h : OnlyRegs l d e) (hlo : lo ∈ l) (hhi : hi ∈ l) :
    OnlyRegs l d (e.setReg64 lo hi x) := (h.setReg hlo).setReg hhi

theorem OnlyRegs.mt {l : List Nat} {d e : Dev} (h : OnlyRegs l d e) : e.mt = d.mt := by rw [h.frame]

theorem OnlyRegs.mem {l : List Nat} {d e : Dev} (h : OnlyRegs l d e) : e.mem = d.mem := by rw [h.frame]

theorem OnlyRegs.marker {l : List Nat} {d e : Dev} (h : OnlyRegs l d e) (k : Nat) : e.marker k = d.marker k := by
  unfold Dev.marker
  rw [h.mt]

theorem Dev.reg64_setReg64_same (d : Dev) {lo hi x : Nat} (ne : lo ≠ hi) (h : x < 2 ^ 64) :
    (d.setReg64 lo hi x).reg64 lo hi = x := by
  unfold Dev.reg64 Dev.setReg64
  rw [Dev.reg_setReg_other _ _ ne, Dev.reg_setReg_same, Dev.reg_setReg_same, BitVec.toNat_ofNat, BitVec.toNat_ofNat]
  omega

theorem Dev.flag_setReg64_off (d : Dev) {lo hi x : Nat} {g : Fld} (hlo : g.off ≠ lo) (hhi : g.off ≠ hi) :
    (d.setReg64 lo hi x).flag g = d.flag g := by
  unfold Dev.flag Dev.setReg64
  rw [Dev.fld_setReg_off _ g _ _ hhi, Dev.fld_setReg_off _ g _ _ hlo]

/-- A counting field holds the sum, or its largest value (00 R13). -/
theorem Dev.fld_addFld_same (d : Dev) (f : Fld) (k : Nat) (h : f.lo + f.w ≤ 32) :
    (d.addFld f k).fld f = min (d.fld f + k) (2 ^ f.w - 1) := by
  unfold Dev.addFld
  rw [d.fld_setFld_same f _ h]
  have pos : 0 < 2 ^ f.w := by positivity
  exact Nat.mod_eq_of_lt (by omega)

/-! ### The window of Machine Time's registers (01 R23) -/

/-- A command that writes a register of Machine Time has its effect while PD3 is on. -/
theorem becomes_of_timeAccess {c : Instr} {d : Dev} (off : Nat) (f : Dev → Dev) (hc : ∀ s, exec c s = onDev s fun d => d.access off f)
    (time : off / 0x10000 = 2) (on : d.domOn 3 = true) : Becomes c d (f d) := by
  have dom : domOf off = 3 := by simp [domOf, time]
  exact becomes_of_onDev _ hc (d.access_on off f (dom ▸ on))

/-- A read in a domain that is on changes nothing. -/
theorem busRead_keeps {d : Dev} {off : Nat} (nv : Nv) (on : d.domOn (domOf off) = true) : (busRead d nv off).2 = d := by
  simp only [busRead, on, if_true]

/-! ### Slew and step (03 R95, R99) -/

theorem Dev.updateSlew_onlyRegs (d : Dev) : OnlyRegs [R.MT_STATE] d d.updateSlew := by
  unfold Dev.updateSlew
  split
  · exact .setFlag (.refl d) (.head _)
  · split
    · exact .setFlag (.refl d) (.head _)
    · rfl

@[simp] theorem Dev.updateSlew_mt (d : Dev) : d.updateSlew.mt = d.mt := d.updateSlew_onlyRegs.mt

theorem Dev.flag_updateSlew (d : Dev) {g : Fld} (h : g.off ≠ R.MT_STATE) : d.updateSlew.flag g = d.flag g :=
  d.updateSlew_onlyRegs.flag g (by simp [h])

/-- The look for an offset above 1 ms moves the pending step and the excursion only. -/
theorem Dev.stepEval_mt (d : Dev) : ∃ step exc, d.stepEval.mt = { d.mt with step := step, exc := exc } := by
  unfold Dev.stepEval
  split
  · split
    · exact ⟨_, _, rfl⟩
    · split
      · exact ⟨_, _, rfl⟩
      · exact ⟨_, _, Dev.mtEvent_mt ..⟩
  · split <;> exact ⟨_, _, rfl⟩

theorem Dev.stepEval_ofs (d : Dev) : d.stepEval.mt.ofs = d.mt.ofs := by
  obtain ⟨_, _, moved⟩ := d.stepEval_mt
  rw [moved]

theorem Dev.stepEval_now (d : Dev) : d.stepEval.mt.now = d.mt.now := by
  obtain ⟨_, _, moved⟩ := d.stepEval_mt
  rw [moved]

/-- Of the registers it writes MT_STATE and the STEP_NEEDED bit of MT_EVT. -/
theorem Dev.flag_stepEval (d : Dev) {g : Fld} (state : g.off ≠ R.MT_STATE) (evt : g.off ≠ R.MT_EVT ∨ 4 ≤ g.lo ∨ g.lo + g.w ≤ 3) :
    d.stepEval.flag g = d.flag g := by
  unfold Dev.stepEval
  split
  · split
    · exact Dev.flag_setFlag_off _ R.MT_STATE_STEP_PEND g true state
    · split
      · rfl
      · exact Dev.flag_mtEvent_other _ (f := R.MT_EVT_STEP_NEEDED) (by decide) evt
  · split <;> rfl

/-- A device whose pending step was withdrawn: STEP_NEEDED is set, once for the excursion (03 R99). -/
def Dev.stepWithdrawn (d : Dev) : Dev :=
  let e := (d.setFlag R.MT_STEP_ARM false).dropStep
  (({ e with mt := { e.mt with exc := true } }).mtEvent R.MT_EVT_STEP_NEEDED).updateSlew

/-- A device that made the step p, before it looks for a new excursion. -/
def Dev.stepMade (d : Dev) (p : StepPend) : Dev :=
  (({ d with mt := { d.mt with ofs := p.ofs * 2 ^ 32, stepT := some p.t } }).dropStep.setFlag R.MT_STEP_ARM false).mtEvent
    R.MT_EVT_STEPPED

theorem Dev.writeMtStep_arm (d : Dev) : d.writeMtStep 1 = (d.setFlag R.MT_STEP_ARM true).stepEval.updateSlew :=
  if_pos (by decide)

theorem Dev.writeMtStep_idle (d : Dev) (idle : d.mt.step = none) : d.writeMtStep 0 = d.setFlag R.MT_STEP_ARM false := by
  have clear : (0 : Word).getLsbD 0 = false := by decide
  simp only [Dev.writeMtStep, clear, idle, Option.isSome_none, Bool.false_eq_true, if_false]

theorem Dev.writeMtStep_pending (d : Dev) {p : StepPend} (pending : d.mt.step = some p) : d.writeMtStep 0 = d.stepWithdrawn := by
  have clear : (0 : Word).getLsbD 0 = false := by decide
  simp only [Dev.writeMtStep, clear, pending, Option.isSome_some, Bool.false_eq_true, if_false, if_true]
  rfl

theorem Dev.stepWithdrawn_mt (d : Dev) : d.stepWithdrawn.mt = { d.mt with step := none, exc := true } := by
  unfold Dev.stepWithdrawn
  rw [Dev.updateSlew_mt, Dev.mtEvent_mt]
  rfl

theorem Dev.stepWithdrawn_disarmed (d : Dev) : d.stepWithdrawn.flag R.MT_STEP_ARM = false := by
  unfold Dev.stepWithdrawn
  rw [Dev.flag_updateSlew _ (by decide), Dev.flag_mtEvent_other _ (by decide) (by decide)]
  exact (Dev.flag_setFlag_off _ R.MT_STATE_STEP_PEND R.MT_STEP_ARM false (by decide)).trans
    (d.flag_setFlag_bit (f := R.MT_STEP_ARM) false rfl (by decide))

theorem Dev.stepWithdrawn_needed (d : Dev) : d.stepWithdrawn.flag R.MT_EVT_STEP_NEEDED = true := by
  unfold Dev.stepWithdrawn
  rw [Dev.flag_updateSlew _ (by decide)]
  exact Dev.flag_mtEvent_same _ (by decide)

theorem Dev.stepMade_mt (d : Dev) (p : StepPend) :
    (d.stepMade p).mt = { d.mt with ofs := p.ofs * 2 ^ 32, stepT := some p.t, step := none } := by
  unfold Dev.stepMade
  rw [Dev.mtEvent_mt]
  rfl

theorem Dev.stepMade_disarmed (d : Dev) (p : StepPend) : (d.stepMade p).flag R.MT_STEP_ARM = false := by
  unfold Dev.stepMade
  rw [Dev.flag_mtEvent_other _ (by decide) (by decide)]
  exact Dev.flag_setFlag_bit _ false rfl (by decide)

theorem Dev.stepMade_stepped (d : Dev) (p : StepPend) : (d.stepMade p).flag R.MT_EVT_STEPPED = true :=
  Dev.flag_mtEvent_same _ (by decide)

/-! ### Markers (03 R108, R109) -/

@[simp] theorem Dev.marker_setMarker_same (d : Dev) (n : Nat) (x : MkHid) : (d.setMarker n x).marker n = x := sparseGet_put_same ..

theorem Dev.marker_setMarker_other (d : Dev) {n k : Nat} (x : MkHid) (h : k ≠ n) : (d.setMarker n x).marker k = d.marker k :=
  sparseGet_put_other _ _ _ h

/-- Showing a FIFO writes its own three registers only. -/
theorem Dev.showMarker_onlyRegs (d : Dev) (n : Nat) :
    OnlyRegs [R.MT_MK_STAT n, R.MT_MK_TS_LO n, R.MT_MK_TS_HI n] d (d.showMarker n) := by
  have shown (r : Bool) (t : Nat) : OnlyRegs [R.MT_MK_STAT n, R.MT_MK_TS_LO n, R.MT_MK_TS_HI n] d
      (((d.setFld (R.MT_MK_STAT_COUNT n) (d.marker n).fifo.length).setFlag (R.MT_MK_STAT_HEAD_RISE n) r).setReg64
        (R.MT_MK_TS_LO n) (R.MT_MK_TS_HI n) t) :=
    .setReg64 (.setFlag (.setFld (.refl d) (.head _)) (.head _)) (.tail _ (.head _)) (.tail _ (.tail _ (.head _)))
  unfold Dev.showMarker
  dsimp only
  split <;> exact shown ..

theorem Dev.showMarker_cons (d : Dev) {n t : Nat} {up : Bool} {q : List (Nat × Bool)} (h : (d.marker n).fifo = (t, up) :: q) :
    d.showMarker n = ((d.setFld (R.MT_MK_STAT_COUNT n) (q.length + 1)).setFlag (R.MT_MK_STAT_HEAD_RISE n) up).setReg64
      (R.MT_MK_TS_LO n) (R.MT_MK_TS_HI n) t := by
  simp only [Dev.showMarker, h, List.length_cons]

/-- An edge far enough from the last one at a full FIFO is dropped and counted, with OVF and MK_OVF. -/
theorem Dev.markEdge_full (d : Dev) {n t : Nat} (up : Bool) (full : (d.marker n).fifo.length = 16)
    (gap : ∀ l, (d.marker n).last = some l → l + max 2 (d.fld (R.MT_MK_CFG_MIN_GAP n)) * 40 ≤ t) :
    d.markEdge n t up = ((d.addFld (R.MT_MK_STAT_DROP n) 1).setFlag (R.MT_MK_STAT_OVF n) true).mtEvent R.MT_EVT_MK_OVF := by
  cases last : (d.marker n).last with
  | none => simp [Dev.markEdge, last, full]
  | some l => simp [Dev.markEdge, last, full, Nat.not_lt.mpr (gap l last)]

theorem mkPop_time (n : Fin 8) : R.MT_MK_POP n / 0x10000 = 2 := by unfold R.MT_MK_POP; omega

theorem becomes_mkPop {d : Dev} (n : Fin 8) {v : Word} (on : d.domOn 3 = true) (set : v.getLsbD 0 = true) :
    Becomes (.mkPop n v) d (d.popMarker n) := by
  have pops := becomes_of_timeAccess (c := .mkPop n v) (R.MT_MK_POP n) (fun d => if v.getLsbD 0 then d.popMarker n else d)
    (fun _ => rfl) (mkPop_time n) on
  rwa [if_pos set] at pops

/-! ### The counter (03 R85, R86) -/

/-- RATE as it acts is below one tick in a hundred. -/
theorem Dev.clampRate_bounds (d : Dev) (x : Int) : -0x010624DD ≤ d.clampRate x ∧ d.clampRate x ≤ 0x010624DD := by
  unfold Dev.clampRate Dev.rateLim
  omega

/-- A limit that the maximum of MT_RATE_LIM does not cut acts as written. -/
theorem Dev.clampRate_eq (d : Dev) (x : Int) (h : (d.reg R.MT_RATE_LIM).toNat ≤ 0x010624DD) :
    d.clampRate x = max (-((d.reg R.MT_RATE_LIM).toNat : Int)) (min ((d.reg R.MT_RATE_LIM).toNat : Int) x) := by
  unfold Dev.clampRate Dev.rateLim
  rw [min_eq_left (by exact_mod_cast h)]

/-- The 96-bit accumulator before it wraps: MT above its fraction, and the cycle's ticks. -/
def Dev.accNext (d : Dev) : Int :=
  (d.mt.now : Int) * 2 ^ 32 + d.mt.frac + 40 * 2 ^ 32 + d.clampRate (d.reg R.MT_RATE).toInt

theorem Dev.refCycle_now (d : Dev) : d.refCycle.mt.now = (d.accNext % 2 ^ 96).toNat / 2 ^ 32 := rfl

theorem Dev.refCycle_frac (d : Dev) : d.refCycle.mt.frac = (d.accNext % 2 ^ 96).toNat % 2 ^ 32 := rfl

/-- Below 2⁶³ ticks the accumulator does not wrap. -/
theorem Dev.accNext_fits (d : Dev) (now : d.mt.now < 2 ^ 63) (frac : d.mt.frac < 2 ^ 32) :
    ((d.accNext % 2 ^ 96).toNat : Int) = d.accNext := by
  obtain ⟨low, high⟩ := d.clampRate_bounds (d.reg R.MT_RATE).toInt
  have range : 0 ≤ d.accNext ∧ d.accNext < 2 ^ 96 := by unfold Dev.accNext; omega
  rw [Int.emod_eq_of_lt range.1 range.2, Int.toNat_of_nonneg range.1]

theorem Dev.refCycle_acc (d : Dev) (now : d.mt.now < 2 ^ 63) (frac : d.mt.frac < 2 ^ 32) :
    (d.refCycle.mt.now : Int) * 2 ^ 32 + d.refCycle.mt.frac = d.accNext := by
  rw [← d.accNext_fits now frac, d.refCycle_now, d.refCycle_frac]
  omega

end Sys2Proof.Machine

section
open Sys2Proof Sys2Proof.Machine

/-- Settles O21: below 2⁶³ ticks the accumulator does not wrap, so MT and its fraction are its quotient and remainder, and a cycle's 40
ticks outweigh every RATE as it acts. -/
theorem cycleAddsRate : Obligations.CycleAddsRate := by
  intro d now frac lim r d'
  have acc : (d'.mt.now : Int) * 2 ^ 32 + d'.mt.frac = d.accNext := d.refCycle_acc now frac
  have part : d'.mt.frac < 2 ^ 32 := Nat.mod_lt _ (by decide)
  have bounds := d.clampRate_bounds (d.reg R.MT_RATE).toInt
  have rate : d.clampRate (d.reg R.MT_RATE).toInt = r := d.clampRate_eq _ lim
  unfold Dev.accNext at acc
  exact ⟨rate ▸ acc, part, by omega, rfl, rfl⟩

/-- Settles O22: TS shows the head of the FIFO and a read changes nothing; POP takes the head off one marker and writes its three
registers; a full FIFO drops the edge. -/
theorem markerFifo : Obligations.MarkerFifo := by
  refine ⟨fun d nv n t up q on head fits => ?_, fun d n v on set => ?_, fun d n t up full gap => ?_⟩
  · have lo : domOf (R.MT_MK_TS_LO n) = 3 := by simp [domOf, show R.MT_MK_TS_LO n / 0x10000 = 2 by unfold R.MT_MK_TS_LO; omega]
    have hi : domOf (R.MT_MK_TS_HI n) = 3 := by simp [domOf, show R.MT_MK_TS_HI n / 0x10000 = 2 by unfold R.MT_MK_TS_HI; omega]
    refine ⟨?_, ?_, busRead_keeps nv (lo ▸ on), busRead_keeps nv (hi ▸ on)⟩
    · rw [d.showMarker_cons head, Dev.reg64_setReg64_same _ (by simp [R.MT_MK_TS_LO, R.MT_MK_TS_HI]) fits]
    · rw [d.showMarker_cons head, Dev.flag_setReg64_off _ (by simp [R.MT_MK_STAT_HEAD_RISE, R.MT_MK_STAT, R.MT_MK_TS_LO])
        (by simp [R.MT_MK_STAT_HEAD_RISE, R.MT_MK_STAT, R.MT_MK_TS_HI])]
      exact Dev.flag_setFlag_bit _ up rfl (by simp [R.MT_MK_STAT_HEAD_RISE])
  · have only := Dev.showMarker_onlyRegs (d.setMarker n { d.marker n with fifo := (d.marker n).fifo.tail }) n
    refine ⟨_, becomes_mkPop n on set, ?_, fun k other => ?_, only.others, only.mem⟩
    · exact congrArg MkHid.fifo ((only.marker n).trans (Dev.marker_setMarker_same ..))
    · exact (only.marker k).trans (d.marker_setMarker_other _ other)
  · have apart : R.MT_MK_STAT n ≠ R.MT_EVT := by unfold R.MT_MK_STAT R.MT_EVT; omega
    rw [d.markEdge_full up full gap]
    refine ⟨?_, ?_, ?_, Dev.flag_mtEvent_same _ (by decide)⟩
    · unfold Dev.marker
      rw [Dev.mtEvent_mt, Dev.setFlag_mt, Dev.addFld_mt]
    · rw [Dev.fld_mtEvent_other _ (by decide) (.inl apart)]
      exact (Dev.fld_setFld_apart _ (R.MT_MK_STAT_OVF n) (R.MT_MK_STAT_DROP n) _ (by simp [R.MT_MK_STAT_OVF])
        (by simp [R.MT_MK_STAT_OVF, R.MT_MK_STAT_DROP])).trans (d.fld_addFld_same _ 1 (by simp [R.MT_MK_STAT_DROP]))
    · rw [Dev.flag_mtEvent_other _ (by decide) (.inl apart)]
      exact Dev.flag_setFlag_bit _ true rfl (by simp [R.MT_MK_STAT_OVF])

end

/-! PROOFS (03). The commands and the events of Machine Time: each by the case of its premises. -/

namespace Sys2Proof.Machine

/-! ### Register commands (03 R87, R92, R99, R115) -/

theorem becomes_mtCapture {d : Dev} {v : Word} (on : d.domOn 3 = true) (set : v.getLsbD 0 = true) :
    Becomes (.mtCapture v) d ((d.setReg64 R.MT_SNAP_LO R.MT_SNAP_HI d.now).setReg64 R.MT_SNAP_GT_LO R.MT_SNAP_GT_HI
      (ofInt 64 (d.gnssTime d.now))) := by
  have captures := becomes_of_timeAccess (c := .mtCapture v) R.MT_SNAP_CMD (fun d => d.writeSnap v) (fun _ => rfl) rfl on
  rwa [Dev.writeSnap, if_pos set] at captures

theorem becomes_pairSubmit {d : Dev} {v : Word} (on : d.domOn 3 = true) (set : v.getLsbD 0 = true) :
    Becomes (.pairSubmit v) d (d.measure 2 (d.reg64 R.MT_PAIR_ST_LO R.MT_PAIR_ST_HI) (d.reg64 R.MT_PAIR_MT_LO R.MT_PAIR_MT_HI)
      (bitsOf v 16 16) true) := by
  have submits := becomes_of_timeAccess (c := .pairSubmit v) R.MT_PAIR_CMD (fun d => d.writePair v) (fun _ => rfl) rfl on
  rwa [Dev.writePair, if_pos set] at submits

theorem becomes_stepArm {d : Dev} (on : d.domOn 3 = true) :
    Becomes .stepArm d ((d.setFlag R.MT_STEP_ARM true).stepEval.updateSlew) := by
  rw [← d.writeMtStep_arm]
  exact becomes_of_timeAccess R.MT_STEP (fun d => d.writeMtStep 1) (fun _ => rfl) rfl on

theorem becomes_stepWithdraw {d : Dev} (on : d.domOn 3 = true) : Becomes .stepWithdraw d (d.writeMtStep 0) :=
  becomes_of_timeAccess R.MT_STEP (fun d => d.writeMtStep 0) (fun _ => rfl) rfl on

theorem becomes_rtcSet {d : Dev} {v : Word} (on : d.domOn 3 = true) (set : v.getLsbD 0 = true) :
    Becomes (.rtcSet v) d
      { d with rtc := { d.rtc with load := some (d.reg64 R.MT_RTC_SET_LO R.MT_RTC_SET_HI % 2 ^ 48) } } := by
  have sets := becomes_of_timeAccess (c := .rtcSet v) R.MT_RTC_CMD (fun d => d.writeRtcCmd v) (fun _ => rfl) rfl on
  rwa [Dev.writeRtcCmd, if_pos set] at sets

/-- A load that waits is what the next edge brings. -/
theorem Rtc.edge_load {r : Rtc} {v : Nat} (n : Nat) (waits : r.load = some v) :
    r.edge n = { r with cnt := v, valid := true, load := none } := by
  simp only [Rtc.edge, waits]

/-! ### The counter and the states (03 R85, R93, R95, R96) -/

theorem becomes_ref100Cycle {d : Dev} (loaded : d.mt.loaded = true) (ref : d.mt.refOk = true) :
    Becomes .ref100Cycle d d.refCycle.rtcCycle.slewWatch.loopWatch := by
  intro nv q
  change execRef100Cycle ⟨d, nv, q⟩ = _
  simp only [execRef100Cycle, onDev, loaded, ref, Bool.and_self, if_true]

theorem becomes_lossToExpiry_holdover {d : Dev} (locked : d.mtSt = 2) (lost : d.mt.lastGood + d.lossTicks ≤ d.now)
    (alone : d.substitute = none) : Becomes .lossToExpiry d d.enterHoldover := by
  intro nv q
  change execLossToExpiry ⟨d, nv, q⟩ = _
  simp only [execLossToExpiry, onDev, locked, lost, and_self, if_true, alone]

theorem becomes_lossToExpiry_substitute {d : Dev} {x t : Nat} (locked : d.mtSt = 2) (lost : d.mt.lastGood + d.lossTicks ≤ d.now)
    (other : d.substitute = some (x, t)) :
    Becomes .lossToExpiry d ({ (d.changeSource x) with mt := { (d.changeSource x).mt with lastGood := t } }).showGood := by
  intro nv q
  change execLossToExpiry ⟨d, nv, q⟩ = _
  simp only [execLossToExpiry, onDev, locked, lost, and_self, if_true, other]

theorem becomes_holdLimitExpiry {d : Dev} (holdover : d.mtSt = 1) (expired : d.mt.hoEntry + d.holdTicks ≤ d.now) :
    Becomes .holdLimitExpiry d d.enterFreerun :=
  becomes_of_onDev (fun d => if d.mtSt = 1 ∧ d.mt.hoEntry + d.holdTicks ≤ d.now then d.enterFreerun else d) (fun _ => rfl)
    (if_pos ⟨holdover, expired⟩)

theorem becomes_slewDone {d : Dev} (slewing : d.flag R.MT_STATE_SLEWING = true) (near : d.ofsErr ≤ d.deadband) :
    Becomes .slewDone d ((d.setFlag R.MT_STATE_SLEWING false).mtEvent R.MT_EVT_SLEW_DONE) := by
  intro nv q
  change execSlewDone ⟨d, nv, q⟩ = _
  simp only [execSlewDone, onDev, slewing, near, decide_true, Bool.and_self, if_true]

/-- At T the pending step is made, and the offset is looked at anew. -/
theorem becomes_ofsStep {d : Dev} {p : StepPend} (pending : d.mt.step = some p) (due : p.t ≤ d.now) :
    Becomes .ofsStep d (d.stepMade p).stepEval.updateSlew := by
  intro nv q
  change execOfsStep ⟨d, nv, q⟩ = _
  simp only [execOfsStep, onDev, pending, due, if_true]
  rfl

/-! ### PPS, SYNC, markers, reference frames (03 R102 to R111) -/

theorem becomes_ppsPulse {d : Dev} {n : Fin 2} {e : Nat} {st : Bool} (edge : d.ppsNow n = some (e, st)) (runs : d.ppsRuns n = true) :
    Becomes (.ppsPulse n) d (d.ppsEmit n e st) := by
  intro nv q
  change execPpsPulse n ⟨d, nv, q⟩ = _
  simp only [execPpsPulse, onDev, edge, runs, if_true]

theorem becomes_ppsPulseEnd {d : Dev} {n : Fin 2} {t : Nat} (pulse : d.ppsEnd n = some t) (due : t ≤ d.now) :
    Becomes (.ppsPulseEnd n) d (d.setPpsEnd n none) := by
  intro nv q
  change execPpsPulseEnd n ⟨d, nv, q⟩ = _
  simp only [execPpsPulseEnd, onDev, pulse, due, if_true]

theorem becomes_syncPulseEnd {d : Dev} {n : Fin 8} {t op : Nat} (pulse : (d.sync n).pulse = some (t, op)) (due : t ≤ d.now) :
    Becomes (.syncPulseEnd n) d ((d.setSync n { lvl := d.flag (R.MT_SYNC_CFG_IDLE n), pulse := none }).endOp op t) := by
  intro nv q
  change execSyncPulseEnd n ⟨d, nv, q⟩ = _
  simp only [execSyncPulseEnd, onDev, pulse, due, if_true]

theorem becomes_markerEdge {d : Dev} {n : Fin 8} {tok : Bool} (t : BitVec 64) {rising : Bool} (loaded : d.mt.loaded = true)
    (en : d.flag (R.MT_MK_CFG_EN n) = true) (src : d.flag (R.MT_MK_CFG_SRC n) = tok)
    (edge : (d.reg (R.MT_MK_CFG n)).getLsbD (if rising then 1 else 2) = true) :
    Becomes (.markerEdge n tok t rising) d (d.markEdge n t.toNat rising) := by
  intro nv q
  change execMarkerEdge n tok t rising ⟨d, nv, q⟩ = _
  simp only [execMarkerEdge, onDev, loaded, en, src, edge, beq_self_eq_true, Bool.and_self, if_true]

theorem becomes_canrefInsert {d : Dev} {t : Nat} (next : d.mt.refNext = some t) (ready : d.schReady = true)
    (master : d.flag R.MT_CANREF_CFG_MASTER_EN = true) (due : t ≤ d.now) : Becomes .canrefInsert d (d.insertRef t) := by
  intro nv q
  change execCanrefInsert ⟨d, nv, q⟩ = _
  simp only [execCanrefInsert, onDev, next, ready, master, due, decide_true, Bool.and_self, if_true]

/-! ### Start-up, Fallow and REF100 (03 R113 to R116) -/

theorem becomes_mtLoad_cold {d : Dev} (rtc : BitVec 48) (on : d.domOn 3 = true) (pll : d.pwr.pll = true) (ref : d.mt.refOk = true)
    (unloaded : d.mt.loaded = false) (fresh : d.carry = none) :
    Becomes (.mtLoad rtc) d (((d.setRtc rtc.toNat).loadCold rtc.toNat).pwrEvent R.PWR_EVT_WOKE) := by
  intro nv q
  change execMtLoad rtc ⟨d, nv, q⟩ = _
  simp only [execMtLoad, onDev, on, pll, ref, unloaded, fresh, Bool.not_false, Bool.and_self, if_true]

theorem becomes_mtLoad_carry {d : Dev} (rtc : BitVec 48) {c : Carry} (on : d.domOn 3 = true) (pll : d.pwr.pll = true)
    (ref : d.mt.refOk = true) (unloaded : d.mt.loaded = false) (kept : d.carry = some c) :
    Becomes (.mtLoad rtc) d (((d.setRtc rtc.toNat).loadCarry c rtc.toNat).pwrEvent R.PWR_EVT_WOKE) := by
  intro nv q
  change execMtLoad rtc ⟨d, nv, q⟩ = _
  simp only [execMtLoad, onDev, on, pll, ref, unloaded, kept, Bool.not_false, Bool.and_self, if_true]

/-- The carry-over of MT at an RTC count, with the calibration that counts Fallow. -/
def Dev.carryAt (d : Dev) (rtc : Nat) (cal : Word) : Carry where
  mt := d.now
  rtc := rtc
  ofs := d.mt.ofs
  rate := d.reg R.MT_RATE
  terr := d.terr
  state := d.mtSt
  ofsValid := d.flag R.MT_STATE_OFS_VALID
  goodT := d.mt.goodT
  hoEntry := d.mt.hoEntry
  cal := cal

/-- A device that recorded MT for Fallow. -/
def Dev.fallowRecorded (d : Dev) (rtc : Nat) (cal : Word) : Dev :=
  let e := (d.setReg R.MT_RTC_CAL cal).setRtc rtc
  { e with carry := some (e.carryAt rtc cal), pwr := { e.pwr with mtRec := true } }

theorem becomes_mtFallowRecord {d : Dev} (rtc : BitVec 48) (cal : Word) (loaded : d.mt.loaded = true) (closed : d.pwr.park = .closed)
    (waited : d.pwr.parkAt + secTicks ≤ d.now) : Becomes (.mtFallowRecord rtc cal) d (d.fallowRecorded rtc.toNat cal) := by
  intro nv q
  change execMtFallowRecord rtc cal ⟨d, nv, q⟩ = _
  simp only [execMtFallowRecord, onDev, loaded, closed, waited, beq_self_eq_true, decide_true, Bool.and_self, if_true]
  rfl

/-- The record takes the registers as they were, but for MT_RTC_CAL. -/
theorem Dev.fallowRecorded_regs (d : Dev) (rtc : Nat) (cal : Word) : RegsBut [R.MT_RTC_CAL] d (d.fallowRecorded rtc cal) :=
  fun _ other => d.reg_setReg_other cal (by simpa using other)

theorem becomes_mtRef {d : Dev} (absent : Bool) (on : d.domOn 3 = true) :
    Becomes (.mtRef absent) d
      ((if absent then { d with mt := { d.mt with refOk := false } } else d).setLine Src.mtRef 0) := by
  intro nv q
  change execMtRef absent ⟨d, nv, q⟩ = _
  simp only [execMtRef, onDev, on, if_true]

end Sys2Proof.Machine

section
open Sys2Proof Sys2Proof.Machine

/-- Settles O19: each command reaches its register in the window of Machine Time, and the write's case there is the one of its
premises. -/
theorem timeRegisterCommandsComplete : Obligations.TimeRegisterCommandsComplete := by
  refine ⟨fun d v on set => becomes_mtCapture on set, fun d v on set => becomes_pairSubmit on set, fun d on => becomes_stepArm on,
    fun d on idle => ?_, fun d p on pending => ?_, fun d n v on set => becomes_mkPop n on set, fun d v on set => ?_⟩
  · rw [← d.writeMtStep_idle idle]
    exact becomes_stepWithdraw on
  · have withdraws := becomes_stepWithdraw on
    rw [d.writeMtStep_pending pending] at withdraws
    refine ⟨_, withdraws, ?_, ?_, d.stepWithdrawn_disarmed, d.stepWithdrawn_needed⟩
    · rw [d.stepWithdrawn_mt]
    · rw [d.stepWithdrawn_mt]
  · refine ⟨becomes_rtcSet on set, fun n => ?_⟩
    rw [Rtc.edge_load n rfl]
    exact ⟨rfl, rfl⟩

/-- Settles O20: each event at the case of its premises; the step's marks outlast the new look at the offset, and the record's registers
are those that setting MT_RTC_CAL leaves. -/
theorem timeEventsComplete : Obligations.TimeEventsComplete := by
  refine ⟨fun d loaded ref => becomes_ref100Cycle loaded ref,
    fun d locked lost => ⟨becomes_lossToExpiry_holdover locked lost, fun x t => becomes_lossToExpiry_substitute locked lost⟩,
    fun d holdover expired => becomes_holdLimitExpiry holdover expired, fun d slewing near => becomes_slewDone slewing near,
    fun d p pending due => ?_, fun d n e st edge runs => becomes_ppsPulse edge runs,
    fun d n t pulse due => becomes_ppsPulseEnd pulse due, fun d n t op pulse due => becomes_syncPulseEnd pulse due,
    fun d n tok t rising loaded en src edge => becomes_markerEdge t loaded en src edge,
    fun d t next ready master due => becomes_canrefInsert next ready master due,
    fun d rtc on pll ref unloaded =>
      ⟨becomes_mtLoad_cold rtc on pll ref unloaded, fun c => becomes_mtLoad_carry rtc on pll ref unloaded⟩,
    fun d rtc cal loaded closed waited => ?_, fun d on => ⟨becomes_mtRef true on, becomes_mtRef false on⟩⟩
  · refine ⟨_, becomes_ofsStep pending due, ?_, ?_, ?_, ?_⟩
    · rw [Dev.updateSlew_mt, Dev.stepEval_ofs, d.stepMade_mt]
    · rw [Dev.updateSlew_mt, Dev.stepEval_now, d.stepMade_mt]
    · rw [Dev.flag_updateSlew _ (by decide), Dev.flag_stepEval _ (by decide) (by decide), d.stepMade_stepped]
    · rw [Dev.flag_updateSlew _ (by decide), Dev.flag_stepEval _ (by decide) (by decide), d.stepMade_disarmed]
  · have kept := d.fallowRecorded_regs rtc.toNat cal
    refine ⟨_, _, becomes_mtFallowRecord rtc cal loaded closed waited, rfl, rfl, rfl, rfl, ?_, ?_, rfl, kept, rfl⟩
    · exact kept R.MT_RATE (by decide)
    · exact congrArg R.MT_STATE_STATE.ext (kept R.MT_STATE (by decide))

end

/-! PROOFS (04). The schedule's commands: a rule for each operation that they share, then each command at the case of its premises. -/

namespace Sys2Proof.Machine

/-! ### The schedule's share of a descriptor (04 R122, R135) -/

/-- Whether a descriptor is one of the two types that the schedule parses. -/
abbrev isSchedDesc (w : BitVec 256) : Bool := descType w == 0x10 || descType w == 0x11

/-- The oldest descriptor, when it passes the command's test, is taken and handled. -/
theorem Dev.withSched_next {d : Dev} {a : AccDesc} {p : BitVec 256 → Bool} (f : AccDesc → Dev → Dev)
    (next : d.nextDesc isSchedDesc = some a) (passes : p a.word = true) : d.withSched p f = f a (d.takeDesc a) := by
  simp only [Dev.withSched, next, passes, if_true]

theorem becomes_of_withSched {c : Instr} {d d' : Dev} {a : AccDesc} {p : BitVec 256 → Bool} {f : AccDesc → Dev → Dev}
    (hc : ∀ s, exec c s = onDev s fun d => d.withSched p f) (next : d.nextDesc isSchedDesc = some a) (passes : p a.word = true)
    (handles : f a (d.takeDesc a) = d') : Becomes c d d' :=
  becomes_of_onDev _ hc ((Dev.withSched_next f next passes).trans handles)

theorem Dev.insertHost_admitted {d : Dev} {a : AccDesc} {rsv : Bool} (on : d.domOn 3 = true) (ready : d.schReady = true)
    (good : (actOfDesc a.word).bad d.now = none)
    (room : d.mayInsert 0 (actOfDesc a.word).prio (actOfDesc a.word).imm = some rsv) :
    d.insertHost a = d.addEntry (actOfDesc a.word) (.host a.ref (descSeq a.word)) rsv := by
  simp only [Dev.insertHost, on, ready, good, room, Bool.not_true, Bool.false_eq_true, if_false]

theorem Dev.cancelAny_passed {d : Dev} {a : AccDesc} (good : cancelBad a.word = none) :
    d.cancelAny a = if a.word.getLsbD 12 then d.abortDesc a else d.cancelDesc a := by
  simp only [Dev.cancelAny, good]

theorem becomes_scheduleAction {d : Dev} {a : AccDesc} {rsv : Bool} (next : d.nextDesc isSchedDesc = some a)
    (action : descType a.word = 0x10) (on : d.domOn 3 = true) (ready : (d.takeDesc a).schReady = true)
    (good : (actOfDesc a.word).bad d.now = none)
    (room : (d.takeDesc a).mayInsert 0 (actOfDesc a.word).prio (actOfDesc a.word).imm = some rsv) :
    Becomes .scheduleAction d ((d.takeDesc a).addEntry (actOfDesc a.word) (.host a.ref (descSeq a.word)) rsv) :=
  becomes_of_withSched (fun _ => rfl) next (beq_iff_eq.mpr action) (Dev.insertHost_admitted on ready good room)

theorem becomes_scheduleCancel {d : Dev} {a : AccDesc} (next : d.nextDesc isSchedDesc = some a) (cancel : descType a.word = 0x11)
    (good : cancelBad a.word = none) (plain : a.word.getLsbD 12 = false) :
    Becomes .scheduleCancel d ((d.takeDesc a).cancelDesc a) := by
  refine becomes_of_withSched (fun _ => rfl) next ?_ ?_
  · simp only [cancel, plain, beq_self_eq_true, Bool.not_false, Bool.and_self]
  · simp only [Dev.cancelAny_passed good, plain, Bool.false_eq_true, if_false]

theorem becomes_abort {d : Dev} {a : AccDesc} (next : d.nextDesc isSchedDesc = some a) (cancel : descType a.word = 0x11)
    (good : cancelBad a.word = none) (aborts : a.word.getLsbD 12 = true) : Becomes .abort d ((d.takeDesc a).abortDesc a) := by
  refine becomes_of_withSched (fun _ => rfl) next ?_ ?_
  · simp only [cancel, aborts, beq_self_eq_true, Bool.and_self]
  · simp only [Dev.cancelAny_passed good, aborts, if_true]

/-! ### Flushes (04 R140) -/

theorem becomes_of_schCtrl {c : Instr} {d d' : Dev} (v : Word)
    (hc : ∀ s, exec c s = onDev s fun d => d.access R.SCH_CTRL fun d => d.writeSchCtrl v) (on : d.domOn 3 = true)
    (h : d.writeSchCtrl v = d') : Becomes c d d' :=
  becomes_of_onDev _ hc ((d.access_on R.SCH_CTRL _ on).trans h)

/-- The three flush bits of a word are those of its low three bits. -/
theorem flushBit_of_low {v w : Word} (low : v &&& 7#32 = w) {k : Nat} (hk : k < 3) : v.getLsbD k = w.getLsbD k := by
  have set : (7#32).getLsbD k = true := by interval_cases k <;> rfl
  rw [← low, BitVec.getLsbD_and, set, Bool.and_true]

/-- A write to SCH_CTRL by the three flush bits of the written word. -/
theorem Dev.writeSchCtrl_low (d : Dev) {v w : Word} (low : v &&& 7#32 = w) : d.writeSchCtrl v = d.writeSchCtrl w := by
  simp only [Dev.writeSchCtrl, flushBit_of_low low (k := 0) (by decide), flushBit_of_low low (k := 1) (by decide),
    flushBit_of_low low (k := 2) (by decide)]

/-! ### Commit, redo and dispatch (04 R124, R125, R130, R141) -/

theorem becomes_commit {d : Dev} {ins : Word} {e : Entry} (det : Bool) (found : d.entry ins.toNat = some e)
    (turn : d.commitTurn e = true) (free : d.sch.lastCommit ≠ some d.mt.cyc) (room : e.imm = true ∨ d.windowUsed < 960) :
    Becomes (.commit ins det) d (d.beginCommit e det) := by
  have commitFree : d.commitFree = true := bne_iff_ne.mpr free
  have commitRoom : d.commitRoom e = true := by rwa [Dev.commitRoom, Bool.or_eq_true, decide_eq_true_eq]
  intro nv q
  change execCommit ins det ⟨d, nv, q⟩ = _
  simp only [execCommit, onDev, found, turn, commitFree, commitRoom, Bool.and_self, if_true]

theorem becomes_entryRefetch_desc {d : Dev} {ins : Word} {e : Entry} {ref : CplRef} {seq : BitVec 16} {w : BitVec 256}
    (found : d.entry ins.toNat = some e) (redo : e.st = .redo) (src : e.src = .host ref seq) (master : d.canMaster = true)
    (early : d.now + leadOf e.action ≤ e.final) (sameSeq : descSeq w = seq) (sameCookie : descCookie w = ref.cookie)
    (sound : e.doomed = false) : Becomes (.entryRefetch ins (.desc w false)) d (d.redoOk e) := by
  have inTime : ¬ (d.canMaster = false ∨ e.final < d.now + leadOf e.action) :=
    not_or.mpr ⟨ne_false_of_eq_true master, Nat.not_lt.mpr early⟩
  intro nv q
  change execEntryRefetch ins (.desc w false) ⟨d, nv, q⟩ = _
  simp only [execEntryRefetch, onDev, found, redo, src, inTime, sameSeq, sameCookie, sound, ne_eq, not_true_eq_false, or_self,
    Bool.or_self, Bool.false_eq_true, if_false]

/-- The copy of an entry that the host did not send stands inside the module. -/
theorem becomes_entryRefetch_inside {d : Dev} {ins : Word} {e : Entry} (found : d.entry ins.toNat = some e) (redo : e.st = .redo)
    (own : e.src.cls ≠ 0) (sound : e.doomed = false) : Becomes (.entryRefetch ins (.inside false)) d (d.redoOk e) := by
  intro nv q
  change execEntryRefetch ins (.inside false) ⟨d, nv, q⟩ = _
  cases src : e.src with
  | host ref seq => exact absurd (congrArg EntSrc.cls src) own
  | eng | bnd | mt =>
    simp only [execEntryRefetch, onDev, found, redo, src, sound, ne_eq, not_true_eq_false, Bool.or_self, Bool.false_eq_true, if_false]

theorem becomes_dispatch {d : Dev} {ins : Word} {e : Entry} (found : d.entry ins.toNat = some e) (committed : e.st = .committed)
    (due : e.final ≤ d.now + leadOf e.action) (clean : d.injected 2 none = false) :
    Becomes (.dispatch ins false false) d (d.setEntry { e with st := .dispatched }) := by
  intro nv q
  change execDispatch ins false false ⟨d, nv, q⟩ = _
  simp only [execDispatch, onDev, found, committed, due, clean, and_self, if_true, Bool.or_self, Bool.false_eq_true, if_false]

end Sys2Proof.Machine

section
open Sys2Proof Sys2Proof.Machine

/-- Settles O23: each command at the case of its premises; a flush by the write of SCH_CTRL with that one bit. -/
theorem scheduleCommandsComplete : Obligations.ScheduleCommandsComplete :=
  ⟨fun _ _ _ next action on ready good room => becomes_scheduleAction next action on ready good room,
    fun _ _ next cancel good => ⟨becomes_scheduleCancel next cancel good, becomes_abort next cancel good⟩,
    fun d v on =>
      ⟨fun host => becomes_of_schCtrl v (fun _ => rfl) on (d.writeSchCtrl_low host),
        fun eng => becomes_of_schCtrl v (fun _ => rfl) on (d.writeSchCtrl_low eng),
        fun bnd => becomes_of_schCtrl v (fun _ => rfl) on (d.writeSchCtrl_low bnd)⟩,
    fun _ _ det _ found turn free room => becomes_commit det found turn free room,
    fun _ _ _ _ _ _ found redo src master early sameSeq sameCookie sound =>
      becomes_entryRefetch_desc found redo src master early sameSeq sameCookie sound,
    fun _ _ _ found redo own sound => becomes_entryRefetch_inside found redo own sound,
    fun _ _ _ found committed due clean => becomes_dispatch found committed due clean⟩

end

/-! PROOFS (04). The actions of the schedule: the placed event of an entry that may be placed, by what the action does there. -/

namespace Sys2Proof.Machine

/-! ### Placement (04 R131, R132, 07 R206, R237) -/

section Placed
variable {d d' : Dev} {ins : Word} {e : Entry} {a : Nat} {f : Entry → Dev → Dev}

theorem Dev.place_placeable {n : Nat} (found : d.entry n = some e) (may : d.placeable e a = true) : d.place n a f = f e d := by
  simp only [Dev.place, found, may, if_true]

theorem becomes_of_place {c : Instr} (hc : ∀ s, exec c s = onDev s fun d => d.place ins.toNat a f)
    (found : d.entry ins.toNat = some e) (may : d.placeable e a = true) (acts : f e d = d') : Becomes c d d' :=
  becomes_of_onDev _ hc ((Dev.place_placeable found may).trans acts)

/-- A channel takes an action that its die acknowledges and that waits for no configuration; a profile start asks only the channel's
side of the target (07 R204). -/
theorem becomes_of_placeChan {c : Instr} (hc : ∀ s, exec c s = onDev s fun d => d.placeChan ins.toNat a true f)
    (found : d.entry ins.toNat = some e) (may : d.placeable e a = true) (configured : d.cfgWaits e = false)
    (accepts : (if a = 0x04 then d.acceptsProfile e.target else d.targetAccepts e) = true) (acts : f e d = d') : Becomes c d d' := by
  refine becomes_of_place hc found may ?_
  simp only [configured, Bool.not_true, Bool.false_eq_true, if_false]
  by_cases profile : a = 0x04
  · rw [if_pos profile] at accepts
    rwa [if_pos profile, if_pos accepts]
  · rw [if_neg profile] at accepts
    rwa [if_neg profile, if_pos accepts]

theorem Dev.placeSync_driven {g : Dev → Dev} (driven : d.flag (R.MT_SYNC_CFG_OE e.target) = true) :
    d.placeSync e g = (g (d.syncCut e.target e.placed)).fired e e.placed := if_pos driven

theorem Dev.placeLoop_latched {x : LoopAct} (latched : d.loopLatch e.target x (d.targetAccepts e) = (d', true)) :
    d.placeLoop e x = d'.fired e e.placed := by
  simp only [Dev.placeLoop, latched]

/-! ### Channels (07 R204, R205, R211, R212) -/

theorem becomes_chSet (found : d.entry ins.toNat = some e) (may : d.placeable e 0x01 = true) (accepts : d.targetAccepts e = true)
    (configured : d.cfgWaits e = false) :
    Becomes (.chSet ins true) d
      ((if e.arg = 0 then d.commandOff e.target e.placed else if e.arg = 1 then d.commandOn e.target e.placed
        else Dev.feedFault (d.safeChanAt e.target e.placed) e.target).fired e e.placed) :=
  becomes_of_placeChan (fun _ => rfl) found may configured accepts rfl

/-- The current of a snapshot is not what calibrates its voltage. -/
theorem Dev.calV_setSnapI (d : Dev) (c : Nat) (v : Word) (raw : Int) : (d.setReg (R.CH_SNAP_I c) v).calV c raw = d.calV c raw := by
  have gain : (d.setReg (R.CH_SNAP_I c) v).reg (R.CH_CAL_VG c) = d.reg (R.CH_CAL_VG c) :=
    d.reg_setReg_other v (by simp [R.CH_CAL_VG, R.CH_SNAP_I])
  have offset : (d.setReg (R.CH_SNAP_I c) v).fld (R.CH_CAL_VO_OFS c) = d.fld (R.CH_CAL_VO_OFS c) :=
    d.fld_setReg_off _ _ v (by simp [R.CH_CAL_VO_OFS, R.CH_CAL_VO, R.CH_SNAP_I])
  simp only [Dev.calV, Dev.fldInt, gain, offset]

theorem becomes_adcSnap_both (cur volt : Word) (found : d.entry ins.toNat = some e) (may : d.placeable e 0x07 = true)
    (accepts : d.targetAccepts e = true) (configured : d.cfgWaits e = false) (both : e.arg = 3) :
    Becomes (.adcSnap ins true cur volt) d
      ((((d.setReg (R.CH_SNAP_I e.target) (BitVec.ofInt 32 (d.calI e.target cur.toInt))).setFld (R.CH_SNAP_V_V e.target)
        (d.calV e.target volt.toInt)).setReg64 (R.CH_SNAP_MT_LO e.target) (R.CH_SNAP_MT_HI e.target) e.placed).fired e e.placed) := by
  have current : e.arg.getLsbD 0 = true := by rw [both]; rfl
  have voltage : e.arg.getLsbD 1 = true := by rw [both]; rfl
  refine becomes_of_placeChan (fun _ => rfl) found may configured accepts ?_
  simp only [current, voltage, if_true, Dev.calV_setSnapI]

/-! ### Switch, lighting, SYNC and engines (13 R397, 15 R441, 03 R106, 11 R353) -/

theorem becomes_ethTx (found : d.entry ins.toNat = some e) (may : d.placeable e 0x09 = true)
    (launched : d.launchEth e.target e.arg.toNat = (d', true)) : Becomes (.ethTx ins) d (d'.fired e e.placed) :=
  becomes_of_place (fun _ => rfl) found may (by simp only [launched])

theorem becomes_ltFlip (found : d.entry ins.toNat = some e) (may : d.placeable e 0x0A = true) (on : d.flag R.LT_CTRL_EN = true)
    (isSealed : d.flag R.LT_STAT_SEALED = true) (shifted : d.backReady = true) :
    Becomes (.ltFlip ins) d ((d.flip e.placed).fired e e.placed) :=
  becomes_of_place (fun _ => rfl) found may (by simp only [on, isSealed, shifted, Bool.and_self, if_true])

theorem becomes_engWake_start (found : d.entry ins.toNat = some e) (may : d.placeable e 0x0D = true) (direct : e.clu = false)
    (starts : d.wakeKind e.target = .start) :
    Becomes (.engWake ins) d
      ((d.startEng (d.roleHolder e.target) (d.engEntry (d.roleHolder e.target) true) (e.arg &&& 0xFFFF#32) d.now).fired e e.placed) :=
  becomes_of_place (fun _ => rfl) found may (by simp only [direct, starts, Bool.false_eq_true, if_false])

end Placed

end Sys2Proof.Machine

section
open Sys2Proof Sys2Proof.Machine

/-- Settles O24: each action by its placed event, where its target still accepts it. -/
theorem actionsComplete : Obligations.ActionsComplete := by
  refine ⟨fun d ins e found may accepts configured => ?_,
    fun d ins e found may accepts configured => becomes_of_placeChan (fun _ => rfl) found may configured accepts rfl,
    fun d ins e found may accepts configured => becomes_of_placeChan (fun _ => rfl) found may configured accepts rfl,
    fun d ins e found may accepts configured => becomes_of_placeChan (fun _ => rfl) found may configured accepts rfl,
    fun d d' ins e found may latched => becomes_of_place (fun _ => rfl) found may (Dev.placeLoop_latched latched),
    fun d d' ins e found may latched => becomes_of_place (fun _ => rfl) found may (Dev.placeLoop_latched latched),
    fun d ins cur volt e found may accepts configured both => becomes_adcSnap_both cur volt found may accepts configured both,
    fun d ins det e found may => becomes_of_place (fun _ => rfl) found may rfl,
    fun d d' ins e found may launched => becomes_ethTx found may launched,
    fun d ins e found may on isSealed shifted => becomes_ltFlip found may on isSealed shifted,
    fun d ins e found may driven => becomes_of_place (fun _ => rfl) found may (Dev.placeSync_driven driven),
    fun d ins e found may driven => becomes_of_place (fun _ => rfl) found may (Dev.placeSync_driven driven),
    fun d ins e found may direct starts => becomes_engWake_start found may direct starts,
    fun d ins e found may => becomes_of_place (fun _ => rfl) found may rfl⟩
  have sets := becomes_chSet found may accepts configured
  refine ⟨fun off => ?_, fun on => ?_, fun safe => ?_⟩
  · rwa [if_pos off] at sets
  · rwa [on, if_neg (by decide), if_pos rfl] at sets
  · rwa [safe, if_neg (by decide), if_neg (by decide)] at sets

end

/-! PROOFS (05). The commands of the GNSS baseband: each at the case of its premises, with the fix log's restart and the end of a Forager
burst as updates of their own. -/

namespace Sys2Proof.Machine

/-! ### Writes by access codes (00 R13) -/

/-- A one-bit field is its register's bit. -/
theorem Dev.flag_eq_getLsbD (d : Dev) (off i : Nat) : d.flag ⟨off, i, 1⟩ = (d.reg off).getLsbD i := by
  have bit : (Fld.ext ⟨off, i, 1⟩ (d.reg off)).testBit 0 = (d.reg off).getLsbD i := by rw [Fld.testBit_ext]; rfl
  have low : Fld.ext ⟨off, i, 1⟩ (d.reg off) < 2 := Fld.ext_lt _ _
  rw [← bit]
  unfold Dev.flag Dev.fld
  generalize Fld.ext ⟨off, i, 1⟩ (d.reg off) = x at low
  interval_cases x <;> rfl

/-- An RW bit takes the written one. -/
theorem Dev.flag_writeByCode_rw (d : Dev) {off i : Nat} (v : Word) {r : RegRow} (row : regRow off = some r) (plain : r.cnt = false)
    (rw : r.rw.testBit i = true) (keeps : r.w1c.testBit i = false) (hi : i < 32) :
    (d.writeByCode off v).flag ⟨off, i, 1⟩ = v.getLsbD i := by
  rw [Dev.flag_eq_getLsbD, d.reg_writeByCode_same v row, RegRow.getLsbD_write plain _ _ hi, rw, keeps]
  rfl

theorem OnlyRegs.writeByCode {l : List Nat} {d e : Dev} {off : Nat} {v : Word} (h : OnlyRegs l d e) (ho : off ∈ l) :
    OnlyRegs l d (e.writeByCode off v) := by
  unfold Dev.writeByCode
  split
  · exact h.setReg ho
  · exact h

/-- The bits of a word under a mask, by what the masked word is. -/
theorem getLsbD_of_masked {v m w : Word} (masked : v &&& m = w) {k : Nat} (set : m.getLsbD k = true) :
    v.getLsbD k = w.getLsbD k := by
  rw [← masked, BitVec.getLsbD_and, set, Bool.and_true]

/-! ### The window of the GNSS registers (01 R23) -/

/-- A command that writes a register of the GNSS baseband has its effect while PD10 is on. -/
theorem becomes_of_gnssAccess {c : Instr} {d d' : Dev} (off : Nat) (f : Dev → Dev)
    (hc : ∀ s, exec c s = onDev s fun d => d.access off f) (gnss : off / 0x10000 = 4) (on : d.domOn 10 = true) (h : f d = d') :
    Becomes c d d' := by
  have dom : domOf off = 10 := by simp [domOf, gnss]
  exact becomes_of_onDev _ hc ((d.access_on off f (dom ▸ on)).trans h)

/-! ### Corrections and fix epochs (05 R155, R159) -/

theorem becomes_gnssCorrections {d : Dev} {a : AccDesc} {data : List (BitVec 8)}
    (next : (d.nextDesc fun w => descType w == 0x90) = some a) (passes : d.correctionsFail a.word = none)
    (master : d.canMaster = true) (whole : data.length = descField a.word 12 2) :
    Becomes (.gnssCorrections data) d ((d.takeDesc a).corrections a data) := by
  intro nv q
  change execGnssCorrections data ⟨d, nv, q⟩ = _
  simp only [execGnssCorrections, onDev, next, passes, master, whole, decide_true, Bool.and_self, if_true]

theorem becomes_fixEpoch {d : Dev} {g : Int} {mt : Nat} (a b : FixSol) (x : FixEnv) (on : d.domOn 10 = true)
    (time : d.mt.loaded = true) (en : d.flag R.GN_CTRL_EN = true) (firmware : d.gn.loaded = true) (due : d.epochDue = some (g, mt)) :
    Becomes (.fixEpoch a b x) d (d.fixAt g mt a b x) := by
  intro nv q
  change execFixEpoch a b x ⟨d, nv, q⟩ = _
  simp only [execFixEpoch, onDev, on, time, en, firmware, due, Bool.and_self, if_true]

/-! ### The fix log (05 R164) -/

theorem Dev.writeLogHead_inRange (d : Dev) {v : Word} (range : bitsOf v 0 12 < d.logSize)
    (written : (bitsOf v 0 12 + d.logSize - d.fld R.GN_LOG_HEAD_INDEX) % d.logSize ≤
      (d.fld R.GN_LOG_TAIL_INDEX + d.logSize - d.fld R.GN_LOG_HEAD_INDEX) % d.logSize) :
    d.writeLogHead v = d.setFld R.GN_LOG_HEAD_INDEX (bitsOf v 0 12) := if_pos ⟨range, written⟩

/-- GN_LOG_CFG as a write leaves it while EN is 0: SIZE_LOG2 is taken too. -/
def Dev.logCfgTaken (d : Dev) (v : Word) : Dev :=
  (d.writeByCode R.GN_LOG_CFG v).setFld R.GN_LOG_CFG_SIZE_LOG2 (R.GN_LOG_CFG_SIZE_LOG2.ext v)

/-- The fix log at its first pass: write index 0 in phase 1, nothing released. -/
def Dev.logFirstPass (d : Dev) : Dev :=
  ((d.setFld R.GN_LOG_TAIL_INDEX 0).setFlag R.GN_LOG_TAIL_PHASE true).setFld R.GN_LOG_HEAD_INDEX 0

theorem Dev.writeLogCfg_rise (d : Dev) {v : Word} (en : d.flag R.GN_LOG_CFG_EN = false) (set : v.getLsbD 0 = true) :
    d.writeLogCfg v = (d.logCfgTaken v).logFirstPass := by
  simp only [Dev.writeLogCfg, en, set, Bool.not_false, Bool.and_self, if_true, Bool.false_eq_true, if_false]
  rfl

theorem Dev.logCfgTaken_onlyRegs (d : Dev) (v : Word) : OnlyRegs [R.GN_LOG_CFG] d (d.logCfgTaken v) :=
  .setFld (.writeByCode (.refl d) (.head _)) (.head _)

theorem Dev.logFirstPass_onlyRegs (d : Dev) : OnlyRegs [R.GN_LOG_TAIL, R.GN_LOG_HEAD] d d.logFirstPass :=
  .setFld (.setFlag (.setFld (.refl d) (.head _)) (.head _)) (.tail _ (.head _))

theorem Dev.logCfgTaken_enabled (d : Dev) (v : Word) : (d.logCfgTaken v).flag R.GN_LOG_CFG_EN = v.getLsbD 0 := by
  unfold Dev.logCfgTaken Dev.flag
  rw [Dev.fld_setFld_apart _ _ R.GN_LOG_CFG_EN _ (by decide) (by decide)]
  exact d.flag_writeByCode_rw (off := R.GN_LOG_CFG) v rfl rfl rfl rfl (by decide)

theorem Dev.logFirstPass_head (d : Dev) : d.logFirstPass.fld R.GN_LOG_HEAD_INDEX = 0 :=
  Dev.fld_setFld_same _ _ 0 (by decide)

theorem Dev.logFirstPass_tail (d : Dev) : d.logFirstPass.fld R.GN_LOG_TAIL_INDEX = 0 := by
  unfold Dev.logFirstPass Dev.setFlag
  rw [Dev.fld_setFld_off _ _ R.GN_LOG_TAIL_INDEX _ (by decide),
    Dev.fld_setFld_apart _ _ R.GN_LOG_TAIL_INDEX _ (by decide) (by decide)]
  exact d.fld_setFld_same _ 0 (by decide)

theorem Dev.logFirstPass_phase (d : Dev) : d.logFirstPass.flag R.GN_LOG_TAIL_PHASE = true := by
  unfold Dev.logFirstPass Dev.flag
  rw [Dev.fld_setFld_off _ _ R.GN_LOG_TAIL_PHASE _ (by decide)]
  exact Dev.flag_setFlag_bit _ true rfl (by decide)

theorem becomes_gnLogEnable {d : Dev} {v : Word} (on : d.domOn 10 = true) (en : d.flag R.GN_LOG_CFG_EN = false)
    (set : v.getLsbD 0 = true) : Becomes (.gnLogEnable v) d (d.logCfgTaken v).logFirstPass :=
  becomes_of_gnssAccess R.GN_LOG_CFG (fun d => d.writeLogCfg v) (fun _ => rfl) rfl on (d.writeLogCfg_rise en set)

/-- Starting the fix log writes its own three registers only. -/
theorem Dev.logStarted_onlyRegs (d : Dev) (v : Word) :
    OnlyRegs ([R.GN_LOG_CFG] ++ [R.GN_LOG_TAIL, R.GN_LOG_HEAD]) d (d.logCfgTaken v).logFirstPass :=
  (d.logCfgTaken_onlyRegs v).trans (Dev.logFirstPass_onlyRegs _)

theorem Dev.logStarted_enabled (d : Dev) {v : Word} (set : v.getLsbD 0 = true) :
    (d.logCfgTaken v).logFirstPass.flag R.GN_LOG_CFG_EN = true := by
  rw [(Dev.logFirstPass_onlyRegs _).flag R.GN_LOG_CFG_EN (by decide), d.logCfgTaken_enabled, set]

/-! ### Forager bursts (05 R151, R152) -/

theorem becomes_foragerBurst {d : Dev} {us : BitVec 17} (may : d.mayBurst = true) (fresh : d.gn.retry = none)
    (pass : 1000 * d.ncoh ≤ us.toNat) (short : us.toNat ≤ 100000) : Becomes (.foragerBurst us) d (d.askBurst us.toNat) := by
  have fits : d.burstOk us.toNat = true := decide_eq_true ⟨pass, short⟩
  intro nv q
  change execForagerBurst us ⟨d, nv, q⟩ = _
  simp only [execForagerBurst, onDev, may, fresh, fits, Option.isNone_none, Bool.and_self, if_true]

theorem becomes_acqRetry {d : Dev} {t us : Nat} (refused : d.gn.retry = some (t, us)) (may : d.mayBurst = true) (due : t ≤ d.now) :
    Becomes .acqRetry d (d.askBurst us) := by
  intro nv q
  change execAcqRetry ⟨d, nv, q⟩ = _
  simp only [execAcqRetry, onDev, refused, may, due, decide_true, Bool.and_self, if_true]

/-- A device whose burst's leave k is returned and whose PD11 is off. -/
def Dev.burstReturned (d : Dev) (k : Nat) : Dev :=
  let e := (d.endBooking k).gnSet fun g => { g with burst := none }
  let off : BitVec 14 := ~~~(BitVec.ofNat 14 (2 ^ 11))
  { e with pwr := { e.pwr with on := e.pwr.on &&& off, good := e.pwr.good &&& off } }

theorem Dev.endBurst_eq {d : Dev} {k t : Nat} (burst : d.gn.burst = some (k, t)) :
    d.endBurst = (d.burstReturned k).setFlag R.GN_STAT_FORAGER_ON false := by
  simp only [Dev.endBurst, burst]
  rfl

theorem becomes_foragerBurstEnd {d : Dev} {k t : Nat} (burst : d.gn.burst = some (k, t)) (passed : t ≤ d.now) :
    Becomes .foragerBurstEnd d ((d.burstReturned k).setFlag R.GN_STAT_FORAGER_ON false) := by
  rw [← Dev.endBurst_eq burst]
  intro nv q
  change execForagerBurstEnd ⟨d, nv, q⟩ = _
  simp only [execForagerBurstEnd, onDev, burst, passed, if_true]

/-- Of the domains only PD11 goes off. -/
theorem Dev.burstReturned_domOn (d : Dev) (k j : Nat) : (d.burstReturned k).domOn j = (d.domOn j && decide (j ≠ 11)) := by
  by_cases small : j < 14
  · have mask : (~~~(BitVec.ofNat 14 (2 ^ 11))).getLsbD j = decide (j ≠ 11) := by interval_cases j <;> rfl
    exact (BitVec.getLsbD_and ..).trans (congrArg _ mask)
  · have beyond (x : BitVec 14) : x.getLsbD j = false := x.getLsbD_of_ge j (Nat.not_lt.mp small)
    unfold Dev.domOn
    rw [beyond, beyond, Bool.false_and]

theorem Dev.burstReturned_books (d : Dev) (k : Nat) : ∀ b ∈ (d.burstReturned k).pwr.books, b.id ≠ k :=
  fun _ hb => bne_iff_ne.mp (List.mem_filter.mp hb).2

/-! ### Start, stop and kept data (05 R159, R165) -/

theorem becomes_gnEnable {d : Dev} (v : Word) (sky : GnSky) (bad : List KeptItem) (on : d.domOn 10 = true) :
    Becomes (.gnEnable v sky bad) d (d.writeGnCtrl v sky bad) :=
  becomes_of_gnssAccess R.GN_CTRL (fun d => d.writeGnCtrl v sky bad) (fun _ => rfl) rfl on rfl

theorem Dev.writeByCode_gnCtrl_enabled (d : Dev) (v : Word) : (d.writeByCode R.GN_CTRL v).flag R.GN_CTRL_EN = v.getLsbD 0 :=
  d.flag_writeByCode_rw (off := R.GN_CTRL) v rfl rfl rfl rfl (by decide)

/-- A write that clears EN stops the block, whatever the sky. -/
theorem Dev.writeGnCtrl_fall (d : Dev) {v : Word} (sky : GnSky) (bad : List KeptItem) (en : d.flag R.GN_CTRL_EN = true)
    (clear : v.getLsbD 0 = false) : d.writeGnCtrl v sky bad = (d.writeByCode R.GN_CTRL v).gnStop := by
  simp only [Dev.writeGnCtrl, Dev.writeByCode_gnCtrl_enabled, en, clear, Bool.not_true, Bool.not_false, Bool.and_self,
    Bool.false_eq_true, if_false, if_true]

theorem becomes_gnDisable {d : Dev} {v : Word} (on : d.domOn 10 = true) (en : d.flag R.GN_CTRL_EN = true)
    (clear : v.getLsbD 0 = false) : Becomes (.gnDisable v) d (d.writeByCode R.GN_CTRL v).gnStop := by
  refine becomes_of_gnssAccess R.GN_CTRL _ (fun _ => rfl) rfl on ?_
  simp only [clear, Bool.false_eq_true, if_false]
  exact d.writeGnCtrl_fall _ _ en clear

theorem Dev.writeKept_save (d : Dev) {v : Word} (save : v &&& 3#32 = 1#32) : d.writeKept v = d.saveKept := by
  have set : v.getLsbD 0 = true := getLsbD_of_masked save rfl
  have clear : v.getLsbD 1 = false := getLsbD_of_masked save rfl
  simp only [Dev.writeKept, set, clear, if_true, Bool.false_eq_true, if_false]

theorem Dev.writeKept_discard (d : Dev) {v : Word} (discard : v &&& 3#32 = 2#32) :
    d.writeKept v = ({ d with kept := none }).showKept := by
  have clear : v.getLsbD 0 = false := getLsbD_of_masked discard rfl
  have set : v.getLsbD 1 = true := getLsbD_of_masked discard rfl
  simp only [Dev.writeKept, set, clear, if_true, Bool.false_eq_true, if_false]

theorem becomes_keptPeriodicSave {d : Dev} (on : d.domOn 10 = true) (tracking : d.fld R.GN_STAT_STATE = 3)
    (due : d.gn.saveAt + 60 * secTicks ≤ d.now) : Becomes .keptPeriodicSave d d.saveKept := by
  intro nv q
  change execKeptPeriodicSave ⟨d, nv, q⟩ = _
  simp only [execKeptPeriodicSave, onDev, on, tracking, due, decide_true, Bool.and_self, if_true]

/-! ### The origin (05 R163) -/

/-- The generation that the next origin carries. -/
def Dev.nextOrgGen (d : Dev) : Nat := (d.fld R.GN_ORG_CMD_GEN + 1) % 256

/-- The origin that the registers hold, as APPLY takes it. -/
def Dev.orgWritten (d : Dev) : GnOrg where
  gen := d.nextOrgGen
  from_ := d.now + msTicks 1
  lat := toInt 64 (d.reg64 R.GN_ORG_LAT_LO R.GN_ORG_LAT_HI)
  lon := toInt 64 (d.reg64 R.GN_ORG_LON_LO R.GN_ORG_LON_HI)
  hgt := (d.reg R.GN_ORG_HGT).toInt

/-- A device that took the written origin over. -/
def Dev.orgApplied (d : Dev) : Dev :=
  (d.gnSet fun g => { g with orgs := d.orgWritten :: g.orgs }).setFld R.GN_ORG_CMD_GEN d.nextOrgGen

theorem becomes_orgApply {d : Dev} {v : Word} (on : d.domOn 10 = true) (set : v.getLsbD 0 = true) :
    Becomes (.orgApply v) d d.orgApplied :=
  becomes_of_gnssAccess R.GN_ORG_CMD (fun d => d.writeOrgCmd v) (fun _ => rfl) rfl on (if_pos set)

theorem Dev.orgApplied_gen (d : Dev) : d.orgApplied.fld R.GN_ORG_CMD_GEN = d.nextOrgGen :=
  (Dev.fld_setFld_same _ _ _ (by decide)).trans (Nat.mod_mod ..)

theorem Dev.orgApplied_regs (d : Dev) : RegsBut [R.GN_ORG_CMD] d d.orgApplied :=
  fun _ other => Dev.reg_setFld_other _ R.GN_ORG_CMD_GEN _ (List.ne_of_not_mem_cons other)

/-! ### Streams and trackers (05 R146, R150) -/

theorem becomes_noData {d : Dev} {n : Fin 4} {last : BitVec 64} (on : d.domOn 10 = true) (stream : d.streamOn n = true)
    (quiet : last.toNat + msTicks 1 ≤ d.now) :
    Becomes (.noData ⟨n, last⟩) d
      ((((d.setFlag (R.GN_IF_STAT_NO_DATA n) true).gnEvent R.GN_EVT_IF_FAULT).setLine Src.gnIf 0).dropTrk
        fun k => k % 4 == n.val) := by
  intro nv q
  change execNoData ⟨n, last⟩ ⟨d, nv, q⟩ = _
  simp only [execNoData, onDev, on, stream, quiet, decide_true, Bool.and_self, if_true]

theorem becomes_noDataClear {d : Dev} (n : Fin 4) (on : d.domOn 10 = true) : Becomes (.noDataClear n) d (d.clearNoData n) :=
  becomes_of_onDev (fun d => if d.domOn 10 then d.clearNoData n else d) (fun _ => rfl) (if_pos on)

theorem becomes_trackerLock {d : Dev} {t : GnTrk} (on : d.domOn 10 = true) (en : d.flag R.GN_CTRL_EN = true)
    (firmware : d.gn.loaded = true) (stream : d.streamOn (streamOf t.l5 t.antB) = true) (signal : d.sigOn t.sat.sys t.l5 = true)
    (fits : d.trkFits t = true) : Becomes (.trackerLock t) d (d.lockTrk t) := by
  intro nv q
  change execTrackerLock t ⟨d, nv, q⟩ = _
  simp only [execTrackerLock, onDev, on, en, firmware, stream, signal, fits, Bool.and_self, if_true]

/-- A tracker's loss of lock at an MT lasts for 1 s from there. -/
theorem Dev.lostFor_of_out {d : Dev} {t : GnTrk} {u : Nat} (lost : (trkNo t.slot t.l5 t.antB, u) ∈ d.gn.out)
    (second : u + secTicks ≤ d.now) : d.lostFor t = true := by
  refine List.any_eq_true.mpr ⟨_, lost, ?_⟩
  simp only [beq_self_eq_true, second, decide_true, Bool.and_self]

theorem becomes_trackerRelease {d : Dev} {t : GnTrk} {u : Nat} (on : d.domOn 10 = true)
    (lost : (trkNo t.slot t.l5 t.antB, u) ∈ d.gn.out) (second : u + secTicks ≤ d.now) :
    Becomes (.trackerRelease t) d (d.releaseTrk t) := by
  intro nv q
  change execTrackerRelease t ⟨d, nv, q⟩ = _
  simp only [execTrackerRelease, onDev, on, Dev.lostFor_of_out lost second, Bool.and_self, if_true]

/-! ### The navigation firmware (05 R166) -/

/-- A device with the navigation firmware of a version in PD10. -/
def Dev.navLoaded (d : Dev) (version : Nat) : Dev :=
  (d.gnSet fun g => { g with loaded := true }).setReg R.GN_NAV_VER (BitVec.ofNat 32 version)

theorem Dev.navLoaded_enabled (d : Dev) (version : Nat) : (d.navLoaded version).flag R.GN_CTRL_EN = d.flag R.GN_CTRL_EN := by
  unfold Dev.navLoaded Dev.flag
  rw [Dev.fld_setReg_off _ R.GN_CTRL_EN _ _ (by decide)]
  rfl

/-- The firmware arrives in a block that is not enabled, so nothing starts. -/
theorem exec_navFirmwareLoaded {d : Dev} {nv : Nv} {p : Part} (q : List Instr) (sky : GnSky) (bad : List KeptItem)
    (part : navPart nv.active = some p) (on : d.domOn 10 = true) (awaited : d.gn.loaded = false)
    (idle : d.flag R.GN_CTRL_EN = false) :
    exec (.navFirmwareLoaded sky bad) ⟨d, nv, q⟩ = .next ⟨d.navLoaded p.version, nv, q⟩ := by
  have stays : (d.navLoaded p.version).flag R.GN_CTRL_EN = false := (d.navLoaded_enabled p.version).trans idle
  unfold Dev.navLoaded at stays ⊢
  change execNavFirmwareLoaded sky bad ⟨d, nv, q⟩ = _
  simp only [execNavFirmwareLoaded, onDev, part, on, awaited, stays, Bool.not_false, Bool.and_self, if_true, Bool.false_eq_true,
    if_false]

end Sys2Proof.Machine

section
open Sys2Proof Sys2Proof.Machine

/-- Settles O25: each command at the case of its premises. The log's restart is GN_LOG_CFG taken and the ring at its first pass, the end
of a burst the return of its leave, and APPLY one more origin in front of the earlier ones. -/
theorem gnssCommandsComplete : Obligations.GnssCommandsComplete := by
  refine ⟨fun d a data next passes master whole => becomes_gnssCorrections next passes master whole,
    fun d a b x g mt on time en firmware due => becomes_fixEpoch a b x on time en firmware due,
    fun d v on range written =>
      becomes_of_gnssAccess R.GN_LOG_HEAD _ (fun _ => rfl) rfl on (d.writeLogHead_inRange range written),
    fun d v on en set => ?logEnable, fun d us may fresh pass short => becomes_foragerBurst may fresh pass short,
    fun d t us refused may due => becomes_acqRetry refused may due, fun d k t burst passed => ?burstEnd,
    fun d v sky bad on _ _ => becomes_gnEnable v sky bad on, fun d v on en clear => becomes_gnDisable on en clear,
    fun d v on =>
      ⟨fun save => becomes_of_gnssAccess R.GN_KEPT_CMD _ (fun _ => rfl) rfl on (d.writeKept_save save),
        fun discard => becomes_of_gnssAccess R.GN_KEPT_CMD _ (fun _ => rfl) rfl on (d.writeKept_discard discard)⟩,
    fun d on tracking due => becomes_keptPeriodicSave on tracking due, fun d v on set => ?orgApply,
    fun d n last on stream quiet => becomes_noData on stream quiet, fun d n on => becomes_noDataClear n on,
    fun d t on en firmware stream signal fits => becomes_trackerLock on en firmware stream signal fits,
    fun d t u on lost second => becomes_trackerRelease on lost second,
    fun d nv q sky bad p part on awaited idle => exec_navFirmwareLoaded q sky bad part on awaited idle⟩
  case logEnable =>
    have only := d.logStarted_onlyRegs v
    exact ⟨_, becomes_gnLogEnable on en set, Dev.logFirstPass_tail _, Dev.logFirstPass_phase _, Dev.logFirstPass_head _,
      d.logStarted_enabled set, only.others, only.frame⟩
  case burstEnd =>
    refine ⟨_, becomes_foragerBurstEnd burst passed, rfl, d.burstReturned_books k, ?_, fun j other => ?_, ?_, fun o other => ?_⟩
    · exact (d.burstReturned_domOn k 11).trans (Bool.and_false _)
    · exact (d.burstReturned_domOn k j).trans (by rw [decide_eq_true other, Bool.and_true])
    · exact Dev.flag_setFlag_bit _ false rfl (by decide)
    · exact Dev.reg_setFld_other _ R.GN_STAT_FORAGER_ON _ (List.ne_of_not_mem_cons other)
  case orgApply => exact ⟨_, becomes_orgApply on set, d.orgApplied_gen, ⟨_, rfl, rfl, rfl⟩, d.orgApplied_regs, rfl⟩

end

/-! PROOFS (06). The commands of the pose unit and of the boundary unit: each at the case of its premises, with a capture as a run of
registers, and the start of a map load and the fall of a lever point's EN as updates of their own. -/

namespace Sys2Proof.Machine

/-! ### The window of the pose and boundary registers (01 R23) -/

/-- A command that writes a register of the pose unit or of the boundary unit has its effect while PD3 is on. -/
theorem becomes_of_poseAccess {c : Instr} {d d' : Dev} (off : Nat) (f : Dev → Dev)
    (hc : ∀ s, exec c s = onDev s fun d => d.access off f) (pose : off / 0x10000 = 5) (on : d.domOn 3 = true) (h : f d = d') :
    Becomes c d d' := by
  have dom : domOf off = 3 := by simp [domOf, pose]
  exact becomes_of_onDev _ hc ((d.access_on off f (dom ▸ on)).trans h)

/-! ### Track points and the states' limits (06 R169, R176) -/

theorem becomes_trackPoint {d : Dev} {t : Nat} (calcs : List CalcDet) (segs : List SegDet) (en : d.flag R.POSE_CTRL_EN = true)
    (time : d.mt.loaded = true) (due : d.pointDue = some t) :
    Becomes (.trackPoint calcs segs) d (((d.addPoint t).swapIfDue t).bndPoint calcs segs) := by
  intro nv q
  change execTrackPoint calcs segs ⟨d, nv, q⟩ = _
  simp only [execTrackPoint, onDev, en, time, due, Bool.and_self, if_true]

theorem becomes_fixToExpiry {d : Dev} (fused : d.poseSt = 2) (stale : d.fixFresh d.now = false) :
    Becomes .fixToExpiry d (if d.drInputs then d.setPoseSt 3 else d.poseLost false) :=
  becomes_of_onDev
    (fun d => if d.poseSt = 2 ∧ d.fixFresh d.now = false then (if d.drInputs then d.setPoseSt 3 else d.poseLost false) else d)
    (fun _ => rfl) (if_pos ⟨fused, stale⟩)

theorem becomes_drLimitExpiry {d : Dev} (reckoning : d.poseSt = 3)
    (expired : d.pose.drEntry + max 1 (d.fld R.POSE_DR_DR_LIMIT) * secTicks < d.now) :
    Becomes .drLimitExpiry d (d.poseLost true) :=
  becomes_of_onDev
    (fun d =>
      if d.poseSt = 3 ∧ d.pose.drEntry + max 1 (d.fld R.POSE_DR_DR_LIMIT) * secTicks < d.now then d.poseLost true else d)
    (fun _ => rfl) (if_pos ⟨reckoning, expired⟩)

/-! ### IMU samples (06 R174) -/

/-- A submitted sample whose MT lies in the history is used. -/
theorem Dev.imuSubmit_used (d : Dev) {v : Word} (submit : v.getLsbD 0 = true) (en : d.flag R.POSE_CTRL_IMU_EN = true)
    (recent : d.inHistory (d.reg64 R.POSE_IMU_MT_LO R.POSE_IMU_MT_HI) = true) :
    d.imuSubmit v =
      (((((d.poseSet fun x => { x with lastImu := some d.now }).useInput (d.reg64 R.POSE_IMU_MT_LO R.POSE_IMU_MT_HI)
        (.imu (d.reg R.POSE_IMU_W0) (d.reg R.POSE_IMU_W1) (d.reg R.POSE_IMU_W2))).count R.POSE_IMU_CNT)).poseMove d.now) := by
  simp only [Dev.imuSubmit, submit, en, recent, Bool.and_self, if_true]

/-! ### Snapshots (06 R177) -/

/-- A device with a run of k registers set, the w-th of them at off w to v w. -/
def Dev.setRegs (d : Dev) (off : Nat → Nat) (v : Nat → Word) (k : Nat) : Dev :=
  d.forAll (List.range k) fun w d => d.setReg (off w) (v w)

theorem Dev.setRegs_succ (d : Dev) (off : Nat → Nat) (v : Nat → Word) (k : Nat) :
    d.setRegs off v (k + 1) = (d.setRegs off v k).setReg (off k) (v k) := by
  simp only [Dev.setRegs, Dev.forAll, List.range_succ, List.foldl_append, List.foldl_cons, List.foldl_nil]

/-- A run of registers writes those registers only. -/
theorem Dev.setRegs_onlyRegs (d : Dev) (off : Nat → Nat) (v : Nat → Word) (k : Nat) :
    OnlyRegs ((List.range k).map off) d (d.setRegs off v k) := by
  induction k with
  | zero => exact .refl d
  | succ k ih =>
    rw [d.setRegs_succ, List.range_succ, List.map_append]
    exact ih.trans (.setReg (.refl _) (.head _))

/-- Each register of a run holds its own value, where no two of them are one. -/
theorem Dev.reg_setRegs (d : Dev) {off : Nat → Nat} (v : Nat → Word) (apart : Function.Injective off) {w k : Nat} (h : w < k) :
    (d.setRegs off v k).reg (off w) = v w := by
  induction k with
  | zero => exact absurd h (Nat.not_lt_zero w)
  | succ k ih =>
    rw [d.setRegs_succ]
    obtain rfl | ne := Decidable.eq_or_ne w k
    · exact Dev.reg_setReg_same ..
    · rw [Dev.reg_setReg_other _ _ (apart.ne ne), ih (by omega)]

theorem poseSnapW_injective (n : Nat) : Function.Injective (R.POSE_SNAP_W n) := by
  intro a b h
  simp only [R.POSE_SNAP_W] at h
  omega

/-- A device whose snapshot set n holds a track point. -/
def Dev.captured (d : Dev) (n : Nat) (p : PosePt) : Dev := d.setRegs (R.POSE_SNAP_W n) (fun w => (ptWords p).getD w 0) 16

theorem becomes_poseCapture {d : Dev} {n : Fin 4} {v : Word} {p : PosePt} (on : d.domOn 3 = true) (capture : v.getLsbD 0 = true)
    (newest : d.lastPt = some p) : Becomes (.poseCapture n v) d (d.captured n p) := by
  refine becomes_of_poseAccess (R.POSE_SNAP_CMD n) (fun d => d.poseCapture n v) (fun _ => rfl)
    (by unfold R.POSE_SNAP_CMD; omega) on ?_
  simp only [Dev.poseCapture, capture, newest, if_true]
  rfl

/-! ### Map loads (06 R181 to R184) -/

/-- The oldest descriptor that may pass is taken and handled. -/
theorem Dev.withDesc_next {d : Dev} {a : AccDesc} {p : BitVec 256 → Bool} (f : AccDesc → Dev → Dev)
    (next : d.nextDesc p = some a) : d.withDesc p f = f a (d.takeDesc a) := by
  simp only [Dev.withDesc, next]

/-- The half of the map store that a generation of at most 32,768 entries loads into. -/
def Dev.freeHalf (d : Dev) : Nat :=
  match d.bnd.act with
  | some m => 1 - m.half
  | none => 0

/-- The load that a map-load descriptor of at most 32,768 entries asks for. -/
def Dev.loadOf (d : Dev) (a : AccDesc) : BndLoad where
  ref := a.ref
  swap := bitsOf a.word 12 2
  gen := descField a.word 16 2
  org := byteOf a.word 18
  count := descField a.word 12 4
  half := d.freeHalf
  addr := descField a.word 4 8

/-- A device that loads a map. -/
def Dev.loadBegun (d : Dev) (l : BndLoad) : Dev := ({ d with bnd := { d.bnd with load := some l } }).showMaps

theorem Dev.mapLoad_begins {d : Dev} {a : AccDesc} (on : d.domOn 3 = true) (sound : d.mapDescBad a.word = none)
    (fits : descField a.word 12 4 ≤ 32768) : d.mapLoad a = d.loadBegun (d.loadOf a) := by
  have half : ¬ 32768 < descField a.word 12 4 := Nat.not_lt.mpr fits
  simp only [Dev.mapLoad, on, sound, half, false_and, Bool.not_true, Bool.false_eq_true, if_false]
  rfl

/-- What the registers show of the maps leaves the unit's own state. -/
@[simp] theorem Dev.showMaps_bnd (d : Dev) : d.showMaps.bnd = d.bnd := rfl

theorem Dev.loadBegun_load (d : Dev) (l : BndLoad) : (d.loadBegun l).bnd.load = some l := by
  rw [Dev.loadBegun, Dev.showMaps_bnd]

theorem becomes_boundaryMapLoad {d : Dev} {a : AccDesc} (idle : d.bnd.load = none)
    (next : (d.nextDesc fun w => descType w == 0x50) = some a) (on : d.domOn 3 = true)
    (sound : (d.takeDesc a).mapDescBad a.word = none) (fits : descField a.word 12 4 ≤ 32768) :
    Becomes .boundaryMapLoad d ((d.takeDesc a).loadBegun ((d.takeDesc a).loadOf a)) := by
  intro nv q
  change execBoundaryMapLoad ⟨d, nv, q⟩ = _
  simp only [execBoundaryMapLoad, onDev, idle, Option.isSome_none, Bool.false_eq_true, if_false, Dev.withDesc_next _ next,
    Dev.mapLoad_begins (d := d.takeDesc a) on sound fits]

theorem becomes_mapLoadEnd {d : Dev} {l : BndLoad} {ents : List (BitVec 128)} (loading : d.bnd.load = some l)
    (master : d.canMaster = true) (whole : ents.length = l.count) : Becomes (.mapLoadEnd ents) d (d.mapLoaded l ents) := by
  intro nv q
  change execMapLoadEnd ents ⟨d, nv, q⟩ = _
  simp only [execMapLoadEnd, onDev, loading, master, whole, decide_true, Bool.and_self, if_true]

/-! ### BND_CMD (06 R183, R184) -/

theorem Dev.writeBndCmd_swap (d : Dev) {v : Word} {m : BndMap} {ref : Option CplRef} {t : Option Nat} (swap : v &&& 7#32 = 1#32)
    (staged : d.bnd.stg = some (m, ref, t)) :
    d.writeBndCmd v = { d with bnd := { d.bnd with stg := some (m, ref, some (d.reg64 R.BND_SWAP_MT_LO R.BND_SWAP_MT_HI)) } } := by
  have set : v.getLsbD 0 = true := getLsbD_of_masked swap rfl
  have noDrop : v.getLsbD 1 = false := getLsbD_of_masked swap rfl
  have noDeact : v.getLsbD 2 = false := getLsbD_of_masked swap rfl
  simp only [Dev.writeBndCmd, set, noDrop, noDeact, staged, if_true, Bool.false_and, Bool.false_eq_true, if_false]

theorem Dev.writeBndCmd_drop (d : Dev) {v : Word} (drop : v &&& 7#32 = 2#32) :
    d.writeBndCmd v = d.dropStaged (d.fld R.BND_GEN_ACT_GEN) := by
  have noSwap : v.getLsbD 0 = false := getLsbD_of_masked drop rfl
  have set : v.getLsbD 1 = true := getLsbD_of_masked drop rfl
  have noDeact : v.getLsbD 2 = false := getLsbD_of_masked drop rfl
  simp only [Dev.writeBndCmd, noSwap, set, noDeact, if_true, Bool.false_and, Bool.false_eq_true, if_false]

theorem Dev.writeBndCmd_deact (d : Dev) {v : Word} {m : BndMap} (deact : v &&& 7#32 = 4#32) (active : d.bnd.act = some m) :
    d.writeBndCmd v = (({ d with bnd := { d.bnd with act := none, bad := [] } }).showMaps).withdrawAll := by
  have noSwap : v.getLsbD 0 = false := getLsbD_of_masked deact rfl
  have noDrop : v.getLsbD 1 = false := getLsbD_of_masked deact rfl
  have set : v.getLsbD 2 = true := getLsbD_of_masked deact rfl
  simp only [Dev.writeBndCmd, noSwap, noDrop, set, active, Option.isSome_some, Bool.and_self, if_true, Bool.false_eq_true, if_false]

/-! ### Lever points (06 R186, R193) -/

theorem becomes_leverPointWrite {d d' : Dev} {p : Fin 256} {w : Fin 8} {v : Word} (on : d.domOn 3 = true)
    (writes : d.writeLever p w v = d') : Becomes (.leverPointWrite p w v) d d' :=
  becomes_of_poseAccess (R.BND_LP_W0 p + 4 * w) (fun d => d.writeLever p w v) (fun _ => rfl) (by unfold R.BND_LP_W0; omega) on writes

/-- The words of a lever point that a write takes by the access codes, and only while EN is 0. -/
theorem Dev.writeLever_plain (d : Dev) (p : Nat) {w : Nat} (v : Word) (other : w ≠ 2) (low : w < 5)
    (en : d.flag (R.BND_LP_W2_EN p) = false) : d.writeLever p w v = d.writeByCode (R.BND_LP_W0 p + 4 * w) v := by
  have plain : w = 0 ∨ w = 1 ∨ w = 3 ∨ w = 4 := by omega
  obtain rfl | rfl | rfl | rfl := plain <;> simp only [Dev.writeLever, en, Bool.false_eq_true, if_false]

/-- A lever point that is no longer enabled: its uncommitted entries withdrawn, its refusal and its crossings without an entry
forgotten. -/
def Dev.leverDisabled (d : Dev) (p : Nat) : Dev :=
  ((d.setFlag (R.BND_LP_W2_EN p) false).withdrawPoint p).bndSet fun b =>
    { b with refused := b.refused.filter fun q => q != p, cross := b.cross.filter fun x => x.p != p || x.ins.isSome }

theorem Dev.writeLever_fall (d : Dev) (p : Nat) {v : Word} (en : d.flag (R.BND_LP_W2_EN p) = true) (clear : v.getLsbD 15 = false) :
    d.writeLever p 2 v = (d.leverDisabled p).undegrade p := by
  simp only [Dev.writeLever, en, clear, if_true, Bool.false_eq_true, if_false]
  rfl

/-- A withdrawal writes its counter and no other register. -/
theorem Dev.flag_withdraw (d : Dev) (q : Entry → Bool) {g : Fld} (h : g.off ≠ R.BND_WITHDRAW_CNT) :
    (d.withdraw q).flag g = d.flag g := by
  unfold Dev.flag Dev.withdraw Dev.addFld
  dsimp only
  rw [Dev.fld_setFld_off _ R.BND_WITHDRAW_CNT_COUNT g _ h]
  rfl

/-- After a lever point's withdrawal none of its entries is uncommitted. -/
theorem Dev.withdrawPoint_committed (d : Dev) (p : Nat) {e : Entry} (stays : e ∈ (d.withdrawPoint p).sch.ents)
    (own : e.src = .bnd p) : e.uncommitted = false := by
  have kept := (List.mem_filter.mp stays).2
  simpa [own, EntSrc.cls] using kept

theorem Dev.leverDisabled_clear (d : Dev) (p : Nat) : (d.leverDisabled p).flag (R.BND_LP_W2_EN p) = false := by
  have apart : (R.BND_LP_W2_EN p).off ≠ R.BND_WITHDRAW_CNT := by
    simp only [R.BND_LP_W2_EN, R.BND_LP_W2, R.BND_WITHDRAW_CNT]
    omega
  exact (Dev.flag_withdraw _ _ apart).trans (d.flag_setFlag_bit false rfl (by simp [R.BND_LP_W2_EN]))

theorem Dev.undegrade_onlyRegs (d : Dev) (p : Nat) : OnlyRegs [R.BND_LP_STAT p, R.BND_STAT] d (d.undegrade p) := by
  unfold Dev.undegrade
  split
  · exact .setFld (.setFld (.setFlag (.refl d) (.head _)) (.head _)) (.tail _ (.head _))
  · rfl

theorem Dev.undegrade_clear (d : Dev) (p : Nat) : (d.undegrade p).flag (R.BND_LP_STAT_DEGRADED p) = false := by
  unfold Dev.undegrade
  split
  · have cleared := d.flag_setFlag_bit (f := R.BND_LP_STAT_DEGRADED p) false rfl (by simp [R.BND_LP_STAT_DEGRADED])
    have apart : (R.BND_LP_STAT_DEGRADED p).off ≠ R.BND_STAT_DEGR_CNT.off := by
      simp only [R.BND_LP_STAT_DEGRADED, R.BND_LP_STAT, R.BND_STAT_DEGR_CNT, R.BND_STAT]
      omega
    unfold Dev.flag at cleared ⊢
    rw [Dev.fld_setFld_off _ _ _ _ apart, Dev.fld_setFld_apart _ _ _ _ (by simp [R.BND_LP_STAT_DEGR_WHY])
      (by simp [R.BND_LP_STAT_DEGRADED, R.BND_LP_STAT_DEGR_WHY]), cleared]
  · next sound => exact Bool.eq_false_of_not_eq_true sound

end Sys2Proof.Machine

section
open Sys2Proof Sys2Proof.Machine

/-- Settles O26: each command at the case of its premises. A capture sets the sixteen registers of its set, a map load begins with the
descriptor's fields, and the fall of a lever point's EN withdraws its uncommitted entries before it leaves the degraded state. -/
theorem poseCommandsComplete : Obligations.PoseCommandsComplete := by
  refine ⟨fun d calcs segs t en time due => becomes_trackPoint calcs segs en time due,
    fun d fused stale => becomes_fixToExpiry fused stale, fun d reckoning expired => becomes_drLimitExpiry reckoning expired,
    fun d v on submit en recent =>
      becomes_of_poseAccess R.POSE_IMU_CMD _ (fun _ => rfl) rfl on (d.imuSubmit_used submit en recent),
    fun d n v p on capture newest => ?poseCapture, fun d a idle next on sound fits => ?mapLoad,
    fun d l ents loading master whole => becomes_mapLoadEnd loading master whole,
    fun d v m ref t on swap staged => becomes_of_poseAccess R.BND_CMD _ (fun _ => rfl) rfl on (d.writeBndCmd_swap swap staged),
    fun d v on drop => becomes_of_poseAccess R.BND_CMD _ (fun _ => rfl) rfl on (d.writeBndCmd_drop drop),
    fun d v m on deact active => becomes_of_poseAccess R.BND_CMD _ (fun _ => rfl) rfl on (d.writeBndCmd_deact deact active),
    fun d p w v on other low en => becomes_leverPointWrite on (d.writeLever_plain p v other low en),
    fun d p v on en clear => ?leverFall⟩
  case poseCapture =>
    have only := d.setRegs_onlyRegs (R.POSE_SNAP_W n) (fun w => (ptWords p).getD w 0) 16
    exact ⟨_, becomes_poseCapture on capture newest, fun w h => d.reg_setRegs _ (poseSnapW_injective n) h, only.others, only.frame⟩
  case mapLoad =>
    exact ⟨_, _, becomes_boundaryMapLoad idle next on sound fits, Dev.loadBegun_load _ _, rfl, rfl, rfl, rfl, rfl⟩
  case leverFall =>
    have only := (d.leverDisabled p).undegrade_onlyRegs p
    refine ⟨_, becomes_leverPointWrite on (d.writeLever_fall p en clear), ?_, Dev.undegrade_clear _ _, fun e stays own => ?_, only.mem⟩
    · have apart : (R.BND_LP_W2_EN p).off ∉ [R.BND_LP_STAT p, R.BND_STAT] := by
        simp only [R.BND_LP_W2_EN, R.BND_LP_W2, R.BND_LP_STAT, R.BND_STAT, List.mem_cons, List.not_mem_nil, or_false]
        omega
      rw [only.flag _ apart, d.leverDisabled_clear]
    · rw [only.frame] at stays
      exact Dev.withdrawPoint_committed _ p stays own

end

/-! PROOFS (07). The rules that the statements on the field channels share: a channel's hidden state, updates of one channel alone, and
what the gates of a channel follow. -/

namespace Sys2Proof.Machine

/-! ### A channel's hidden state -/

@[simp] theorem Dev.chan_setChan_same (d : Dev) (c : Nat) (x : Chan) : (d.setChan c x).chan c = x := sparseGet_put_same ..

theorem Dev.chan_setChan_other (d : Dev) {k c : Nat} (x : Chan) (h : k ≠ c) : (d.setChan c x).chan k = d.chan k :=
  sparseGet_put_other _ _ x h

@[simp] theorem Dev.chan_setFld (d : Dev) (f : Fld) (x k : Nat) : (d.setFld f x).chan k = d.chan k := rfl
@[simp] theorem Dev.chan_setFlag (d : Dev) (f : Fld) (b : Bool) (k : Nat) : (d.setFlag f b).chan k = d.chan k := rfl
@[simp] theorem Dev.reg_setChan (d : Dev) (c : Nat) (x : Chan) (o : Nat) : (d.setChan c x).reg o = d.reg o := rfl
@[simp] theorem Dev.fld_setChan (d : Dev) (c : Nat) (x : Chan) (f : Fld) : (d.setChan c x).fld f = d.fld f := rfl
@[simp] theorem Dev.flag_setChan (d : Dev) (c : Nat) (x : Chan) (f : Fld) : (d.setChan c x).flag f = d.flag f := rfl

/-! ### Updates of registers and of one channel -/

theorem Dev.fld_of_regs {d e : Dev} (same : e.regs = d.regs) (f : Fld) : e.fld f = d.fld f := by
  unfold Dev.fld Dev.reg
  rw [same]

theorem Dev.flag_of_fld {d : Dev} {f : Fld} {b : Bool} (h : d.fld f = b.toNat) : d.flag f = b := by
  unfold Dev.flag
  rw [h]
  cases b <;> rfl

theorem Dev.flag_of_reg {d e : Dev} {f : Fld} (same : e.reg f.off = d.reg f.off) : e.flag f = d.flag f := by
  unfold Dev.flag Dev.fld
  rw [same]

namespace RegsBut
variable {l : List Nat} {d e : Dev}

@[refl] theorem refl (d : Dev) : RegsBut l d d := fun _ _ => rfl

theorem trans {g : Dev} (h : RegsBut l d e) (k : RegsBut l e g) : RegsBut l d g := fun o ho => (k o ho).trans (h o ho)

theorem mono {m : List Nat} (h : RegsBut l d e) (sub : l ⊆ m) : RegsBut m d e := fun o ho => h o fun hl => ho (sub hl)

theorem of_regs {g : Dev} (h : RegsBut l d e) (same : g.regs = e.regs) : RegsBut l d g := fun o ho => by
  rw [← h o ho, Dev.reg, Dev.reg, same]

theorem setReg {o : Nat} {v : Word} (h : RegsBut l d e) (ho : o ∈ l) : RegsBut l d (e.setReg o v) := fun k hk =>
  (e.reg_setReg_other v (ne_of_mem_of_not_mem ho hk).symm).trans (h k hk)

theorem setFld {f : Fld} {x : Nat} (h : RegsBut l d e) (hf : f.off ∈ l) : RegsBut l d (e.setFld f x) := h.setReg hf

theorem setFlag {f : Fld} {b : Bool} (h : RegsBut l d e) (hf : f.off ∈ l) : RegsBut l d (e.setFlag f b) := h.setReg hf

theorem fld (h : RegsBut l d e) (f : Fld) (hf : f.off ∉ l) : e.fld f = d.fld f := by
  unfold Dev.fld
  rw [h f.off hf]

end RegsBut

/-- e is d but for registers that l names and for the hidden state of channel c. -/
structure OnlyChan (c : Nat) (l : List Nat) (d e : Dev) : Prop where
  others : RegsBut l d e
  frame : e = { d with regs := e.regs, ch := e.ch }
  chans : ∀ k, k ≠ c → e.chan k = d.chan k

namespace OnlyChan
variable {c : Nat} {l : List Nat} {d e : Dev}

@[refl] theorem refl (d : Dev) : OnlyChan c l d d := ⟨fun _ _ => rfl, rfl, fun _ _ => rfl⟩

theorem setFld {f : Fld} {x : Nat} (h : OnlyChan c l d e) (hf : f.off ∈ l) : OnlyChan c l d (e.setFld f x) where
  others := h.others.setFld hf
  frame := congrArg (fun y : Dev => { y with regs := (e.setFld f x).regs, ch := (e.setFld f x).ch }) h.frame
  chans := h.chans

theorem setFlag {f : Fld} {b : Bool} (h : OnlyChan c l d e) (hf : f.off ∈ l) : OnlyChan c l d (e.setFlag f b) := h.setFld hf

theorem count {o : Nat} (h : OnlyChan c l d e) (ho : o ∈ l) : OnlyChan c l d (e.count o) := h.setFld ho

theorem setChan {x : Chan} (h : OnlyChan c l d e) : OnlyChan c l d (e.setChan c x) where
  others := h.others
  frame := congrArg (fun y : Dev => { y with regs := (e.setChan c x).regs, ch := (e.setChan c x).ch }) h.frame
  chans k hk := (e.chan_setChan_other x hk).trans (h.chans k hk)

theorem noteOff {t : Nat} (h : OnlyChan c l d e) : OnlyChan c l d (e.noteOff c t) := by
  unfold Dev.noteOff
  split
  · exact h.setChan
  · exact h

theorem stageOff {t : Nat} (h : OnlyChan c l d e) : OnlyChan c l d (e.stageOff c t) := by
  unfold Dev.stageOff
  dsimp only
  split
  · exact h.noteOff.setChan
  · exact h.setChan

theorem endRetry (h : OnlyChan c l d e) (stat : R.CH_STAT c ∈ l) : OnlyChan c l d (e.endRetry c) := h.setChan.setFlag stat

theorem mem (h : OnlyChan c l d e) : e.mem = d.mem := by rw [h.frame]
theorem mt (h : OnlyChan c l d e) : e.mt = d.mt := by rw [h.frame]
theorem psq (h : OnlyChan c l d e) : e.psq = d.psq := by rw [h.frame]
theorem pwr (h : OnlyChan c l d e) : e.pwr = d.pwr := by rw [h.frame]

end OnlyChan

/-! ### Turn-ons and turn-offs (07 R209, R218, R566) -/

@[simp] theorem Dev.noteOff_regs (d : Dev) (c t : Nat) : (d.noteOff c t).regs = d.regs := by
  unfold Dev.noteOff
  split <;> rfl

/-- A noted edge keeps the switch that it turns off, and else the one before. -/
theorem Dev.noteOff_chan (d : Dev) (c t : Nat) :
    (d.noteOff c t).chan c = { d.chan c with lastOff := ((d.side c).map fun s => (t, s)) <|> (d.chan c).lastOff } := by
  unfold Dev.noteOff
  split
  · next s turned => simp [turned]
  · next rests => simp [rests]

@[simp] theorem Dev.stageOff_regs (d : Dev) (c t : Nat) : (d.stageOff c t).regs = d.regs := by
  unfold Dev.stageOff
  dsimp only
  split
  · exact d.noteOff_regs c t
  · rfl

@[simp] theorem Dev.fld_stageOff (d : Dev) (c t : Nat) (f : Fld) : (d.stageOff c t).fld f = d.fld f := by
  unfold Dev.fld Dev.reg
  rw [d.stageOff_regs]

@[simp] theorem Dev.flag_stageOff (d : Dev) (c t : Nat) (f : Fld) : (d.stageOff c t).flag f = d.flag f := by
  unfold Dev.flag
  rw [d.fld_stageOff]

@[simp] theorem Dev.stageOff_on (d : Dev) (c t : Nat) : ((d.stageOff c t).chan c).on = false := by simp [Dev.stageOff]

theorem Dev.cutPulse_idle {d : Dev} {c : Nat} (t : Nat) (idle : (d.chan c).pulse = none) : d.cutPulse c t = d := by
  simp only [Dev.cutPulse, idle]

/-- A channel's hidden state right after a turn-on at t. -/
def Chan.turnedOn (x : Chan) (t : Nat) : Chan :=
  { x with on := true, prot := false, onSince := some t, offSince := none, olCnt := 0, lampCnt := 0, pwmFrom := t }

/-- A device whose channel c turns on at t, counted (07 R566). -/
def Dev.turnOn (d : Dev) (c t : Nat) : Dev :=
  ((d.noteOff c t).setChan c (((d.noteOff c t).chan c).turnedOn t)).count (R.CH_ON_CNT c)

/-- A stage that is off and that nothing holds off turns on. -/
theorem Dev.stageOn_starts {d : Dev} {c : Nat} (t : Nat) (off : (d.chan c).on = false) (free : (d.chan c).elimHold = false)
    (safe : d.flag (R.CH_STAT_SAFE c) = false) (supply : d.vfBad (c / 16) = false) : d.stageOn c t = d.turnOn c t := by
  simp only [Dev.stageOn, off, free, safe, supply, Bool.or_self, Bool.false_eq_true, if_false]
  rfl

theorem Dev.turnOn_only (d : Dev) (c t : Nat) : OnlyChan c [R.CH_ON_CNT c] d (d.turnOn c t) :=
  (OnlyChan.refl d).noteOff.setChan.count (.head _)

theorem Dev.turnOn_chan (d : Dev) (c t : Nat) : (d.turnOn c t).chan c = ((d.noteOff c t).chan c).turnedOn t :=
  Dev.chan_setChan_same ..

/-! ### What the gates follow besides the stages (07 R201, R209, R219, R230, 17 R482) -/

/-- Two devices with the same configuration, profiles, supplies, domains and stop path. -/
structure SameSetup (d e : Dev) : Prop where
  cfg : ∀ k, e.reg (R.CH_CFG k) = d.reg (R.CH_CFG k)
  dt : ∀ k, e.reg (R.CH_DT k) = d.reg (R.CH_DT k)
  profile : ∀ k, e.reg (R.PSQ_CH_STAT k) = d.reg (R.PSQ_CH_STAT k)
  supply : ∀ b, e.reg (R.CH_BANK_STAT b) = d.reg (R.CH_BANK_STAT b)
  stop : e.reg R.FLT_STATE = d.reg R.FLT_STATE
  psq : e.psq = d.psq
  pwr : e.pwr = d.pwr

/-- A channel's temperature, status and turn-on counter belong to no setup. -/
theorem SameSetup.of_regsBut {c : Nat} {d e : Dev} (h : RegsBut [R.CH_TJ c, R.CH_STAT c, R.CH_ON_CNT c] d e)
    (psq : e.psq = d.psq) (pwr : e.pwr = d.pwr) : SameSetup d e := by
  refine ⟨fun k => h _ ?_, fun k => h _ ?_, fun k => h _ ?_, fun b => h _ ?_, h _ ?_, psq, pwr⟩ <;>
    simp only [R.CH_TJ, R.CH_STAT, R.CH_ON_CNT, R.CH_CFG, R.CH_DT, R.PSQ_CH_STAT, R.CH_BANK_STAT, R.FLT_STATE, chBase, psqBase,
      List.mem_cons, List.not_mem_nil, or_false] <;>
    omega

namespace SameSetup
variable {d e : Dev} (h : SameSetup d e)
include h

theorem mode (k : Nat) : e.mode k = d.mode k := congrArg (R.CH_CFG_MODE k).ext (h.cfg k)
theorem owner (k : Nat) : e.owner k = d.owner k := congrArg (fun v => (R.CH_CFG_OWNER k).ext v % 3) (h.cfg k)
theorem leader (k : Nat) : e.leader k = d.leader k := by simp only [Dev.leader, h.mode]

theorem pwmEn (k : Nat) : e.pwmEn k = d.pwmEn k := by
  unfold Dev.pwmEn
  rw [Dev.flag_of_reg (f := R.CH_CFG_PWM_EN k) (h.cfg k), Dev.flag_of_reg (f := R.CH_CFG_ELIM k) (h.cfg k)]

theorem running (k : Nat) : e.running k = d.running k := Dev.flag_of_reg (h.profile k)

theorem ctx (k : Nat) : e.ctx k = d.ctx k := by
  unfold Dev.ctx
  rw [h.psq]

theorem domOn (k : Nat) : e.domOn k = d.domOn k := by
  unfold Dev.domOn
  rw [h.pwr]

theorem vfBad (b : Nat) : e.vfBad b = d.vfBad b := by
  unfold Dev.vfBad
  rw [Dev.flag_of_reg (f := R.CH_BANK_STAT_VF_UV b) (h.supply b), Dev.flag_of_reg (f := R.CH_BANK_STAT_VF_OV b) (h.supply b)]

theorem stopActive : e.flag R.FLT_STATE_STOP_ACTIVE = d.flag R.FLT_STATE_STOP_ACTIVE := Dev.flag_of_reg h.stop

theorem deadTime (k : Nat) : e.deadTime k = d.deadTime k :=
  congrArg (fun v => 40 * max 10 ((R.CH_DT_DT k).ext v)) (h.dt k)

theorem safeDrives (k : Nat) : e.safeDrives k = d.safeDrives k := by
  unfold Dev.safeDrives Dev.fld
  rw [Dev.flag_of_reg (f := R.CH_CFG_ELIM k) (h.cfg k), h.mode, h.leader,
    show (R.CH_CFG_SAFE (d.leader k)).off = R.CH_CFG (d.leader k) from rfl, h.cfg]

theorem pwmRuns {k : Nat} (pulse : (e.chan k).pulse = (d.chan k).pulse) : e.pwmRuns k = d.pwmRuns k := by
  unfold Dev.pwmRuns
  rw [h.pwmEn, pulse, h.owner]

end SameSetup

/-! ### The drive of a channel that commands decide (07 R201, R204, R207) -/

/-- Commands decide on a channel of its own: its die is on, and neither a stop, a protective turn-off, its supply nor the safe state
goes before them. -/
structure Dev.Commanded (d : Dev) (c : Nat) : Prop where
  single : d.leader c = c
  on : d.domOn (chDom c) = true
  stop : d.flag R.FLT_STATE_STOP_ACTIVE = false
  prot : (d.chan c).prot = false
  supply : d.vfBad (c / 16) = false
  safe : d.flag (R.CH_STAT_SAFE c) = false

theorem Dev.leader_single {d : Dev} {c : Nat} (single : d.mode (c / 2 * 2) ≠ 4) : d.leader c = c := if_neg single

theorem Dev.group_single {d : Dev} {c : Nat} (single : d.mode (c / 2 * 2) ≠ 4) : d.group c = [c] := if_neg single

/-- An output mode other than the half-bridge and the pair has one switch. -/
theorem oneSwitch_of_isOutput {m : Nat} (out : isOutput m = true) (bridge : m ≠ 3) (pair : m ≠ 4) : m = 1 ∨ m = 2 ∨ m = 5 := by
  have range : 1 ≤ m ∧ m ≤ 5 := of_decide_eq_true out
  omega

/-- Without PWM and without a profile the stage alone drives. -/
theorem Dev.driveOn_unshaped {d : Dev} {c : Nat} (idle : d.running c = false) (plain : d.pwmRuns c = false) :
    d.driveOn c = (d.chan c).on := by
  simp [Dev.driveOn, idle, plain]

/-- The one switch of a commanded channel conducts while its stage drives. -/
theorem Dev.Commanded.driven {d : Dev} {c : Nat} (h : d.Commanded c) (out : isOutput (d.mode c) = true) (bridge : d.mode c ≠ 3)
    (pair : d.mode c ≠ 4) (drives : d.driveOn c = true) : d.driven c = true := by
  obtain mode | mode | mode := oneSwitch_of_isOutput out bridge pair <;>
    simp [Dev.driven, Dev.gate, Dev.side, h.single, h.on, h.stop, h.prot, h.supply, h.safe, mode, drives]

/-- A commanded half-bridge has one of its two switches on: the high one while its stage drives. -/
theorem Dev.Commanded.side_bridge {d : Dev} {c : Nat} (h : d.Commanded c) (bridge : d.mode c = 3) (own : d.owner c ≠ 2) :
    d.side c = some (d.driveOn c) := by
  simp only [Dev.side, h.single, h.on, h.stop, h.prot, h.supply, h.safe, bridge, own]
  cases d.driveOn c <;> rfl

/-- The switch of a half-bridge conducts once the dead time after the turn-off of the other one has passed (07 R209). -/
theorem Dev.gate_bridge {d : Dev} {c : Nat} {s : Bool} (single : d.leader c = c) (bridge : d.mode c = 3) (side : d.side c = some s) :
    d.gate c = if d.dead c s then none else some s := by
  simp [Dev.gate, side, single, bridge]

/-- A channel whose die is on, that is in no safe state and whose stage does not drive: only a half-bridge conducts. -/
theorem Dev.driven_off {d : Dev} {c : Nat} (on : d.domOn (chDom c) = true) (safe : d.flag (R.CH_STAT_SAFE c) = false)
    (single : d.leader c = c) (rests : d.driveOn c = false) (bridge : d.mode c ≠ 3) : d.driven c = false := by
  have side : d.side c = none := by
    simp only [Dev.side, on, safe, single, rests, Bool.not_true, Bool.false_eq_true, if_false]
    split
    · rfl
    · split
      case h_3 half => exact absurd half bridge
      all_goals rfl
  simp only [Dev.driven, Dev.gate, side, Option.isSome_none]

end Sys2Proof.Machine

/-! PROOFS (07). ON and OFF of a channel of its own: the drive by its stage, a half-bridge after its dead time, PWM from its first
period start on. -/

namespace Sys2Proof.Machine

/-! ### Status bits (00 R13) -/

theorem Dev.flag_setFlag_bits (d : Dev) {off i j : Nat} (b : Bool) (ne : i ≠ j) (hi : i < 32) :
    (d.setFlag ⟨off, i, 1⟩ b).flag ⟨off, j, 1⟩ = d.flag ⟨off, j, 1⟩ :=
  d.flag_setFlag_apart _ _ b (Nat.succ_le_of_lt hi) (by dsimp only; omega)

theorem Dev.flag_setFld_apart (d : Dev) {f g : Fld} (x : Nat) (h : f.lo + f.w ≤ 32)
    (apart : f.lo + f.w ≤ g.lo ∨ g.lo + g.w ≤ f.lo) : (d.setFld f x).flag g = d.flag g := by
  unfold Dev.flag
  rw [d.fld_setFld_apart f g x h apart]

theorem ch_stat_ne_on_cnt (c : Nat) : R.CH_STAT c ≠ R.CH_ON_CNT c := by simp [R.CH_STAT, R.CH_ON_CNT]

/-! ### Another MT -/

/-- The device with its MT at t. -/
def Dev.atMt (d : Dev) (t : Nat) : Dev := { d with mt := { d.mt with now := t } }

theorem Dev.Commanded.atMt {d : Dev} {c : Nat} (h : d.Commanded c) (t : Nat) : (d.atMt t).Commanded c :=
  ⟨h.single, h.on, h.stop, h.prot, h.supply, h.safe⟩

/-- PWM drives nothing before the first period start after the turn-on. -/
theorem Dev.driveOn_unstarted {d : Dev} {c : Nat} (shaped : d.pwmRuns c = true) (before : (d.chan c).perAt < (d.chan c).pwmFrom) :
    d.driveOn c = false := by
  have waits : ¬ (d.chan c).pwmFrom ≤ (d.chan c).perAt := Nat.not_le.mpr before
  simp [Dev.driveOn, shaped, waits]

/-! ### Half-bridges (07 R209) -/

theorem Dev.deadTime_pos (d : Dev) (c : Nat) : 0 < d.deadTime c := by
  unfold Dev.deadTime
  omega

/-- Without PWM and without a profile only commands turn a switch off. -/
theorem Dev.turnedOff_command {d : Dev} {c : Nat} (idle : d.running c = false) (plain : d.pwmRuns c = false) :
    d.turnedOff c = (d.chan c).lastOff := by
  simp [Dev.turnedOff, idle, plain]

/-- A commanded half-bridge whose stage is on since its low switch turned off at s. -/
theorem Dev.Commanded.gate_bridge_high {d : Dev} {c s : Nat} (h : d.Commanded c) (bridge : d.mode c = 3) (own : d.owner c ≠ 2)
    (idle : d.running c = false) (plain : d.pwmRuns c = false) (on : (d.chan c).on = true)
    (low : (d.chan c).lastOff = some (s, false)) : d.gate c = if d.now < s + d.deadTime c then none else some true := by
  have side : d.side c = some true := by rw [h.side_bridge bridge own, d.driveOn_unshaped idle plain, on]
  simp [Dev.gate_bridge h.single bridge side, Dev.dead, d.turnedOff_command idle plain, low]

/-! ### ON (07 R204) -/

/-- The device after an ON at t that takes effect: CMD_ON, and a turn-on. -/
def Dev.commandedOn (d : Dev) (c t : Nat) : Dev := (d.setFlag (R.CH_STAT_CMD_ON c) true).turnOn c t

/-- An ON takes effect on channel c: outside a PAIR, on a die that is on, with no pulse, profile, retry wait, limiter hold-off, stop or
bad supply. -/
structure Dev.TurnsOn (d : Dev) (c : Nat) : Prop where
  single : d.mode (c / 2 * 2) ≠ 4
  pair : d.mode c ≠ 4
  on : d.domOn (chDom c) = true
  noPulse : (d.chan c).pulse = none
  idle : d.running c = false
  accepts : d.acceptsOn c = true
  off : (d.chan c).on = false
  free : (d.chan c).elimHold = false
  supply : d.vfBad (c / 16) = false
  noRetry : d.flag (R.CH_STAT_RETRY_WAIT c) = false
  stop : d.flag R.FLT_STATE_STOP_ACTIVE = false

/-- A channel of its own that accepts OFF: an output that no sequencer drives, and not in its safe state. -/
theorem Dev.acceptsOff_single {d : Dev} {c : Nat} (single : d.leader c = c) (accepts : d.acceptsOff c = true) :
    isOutput (d.mode c) = true ∧ d.owner c ≠ 2 ∧ d.flag (R.CH_STAT_SAFE c) = false := by
  simpa [Dev.acceptsOff, single, and_assoc] using accepts

theorem Dev.acceptsOff_of_acceptsOn {d : Dev} {c : Nat} (accepts : d.acceptsOn c = true) : d.acceptsOff c = true :=
  (Bool.and_eq_true_iff.mp accepts).1

theorem Dev.commandedOn_only (d : Dev) (c t : Nat) : OnlyChan c [R.CH_STAT c, R.CH_ON_CNT c] d (d.commandedOn c t) := by
  unfold Dev.commandedOn Dev.turnOn
  exact .count (.setChan (.noteOff (.setFlag (.refl d) (.head _)))) (.tail _ (.head _))

/-- What one channel's status and counter leave of the setup. -/
theorem OnlyChan.setup {c : Nat} {d e : Dev} (h : OnlyChan c [R.CH_STAT c, R.CH_ON_CNT c] d e) : SameSetup d e :=
  .of_regsBut (h.others.mono (List.subset_cons_self _ _)) h.psq h.pwr

theorem Dev.commandedOn_setup (d : Dev) (c t : Nat) : SameSetup d (d.commandedOn c t) := (d.commandedOn_only c t).setup

/-- A bit of CH_STAT after an ON is the bit that the command sets, or as it was. -/
theorem Dev.flag_commandedOn (d : Dev) (c t i : Nat) :
    (d.commandedOn c t).flag ⟨R.CH_STAT c, i, 1⟩ = (d.setFlag (R.CH_STAT_CMD_ON c) true).flag ⟨R.CH_STAT c, i, 1⟩ := by
  refine Dev.flag_of_reg (((d.setFlag (R.CH_STAT_CMD_ON c) true).turnOn_only c t).others _ ?_)
  simpa using ch_stat_ne_on_cnt c

theorem Dev.commandedOn_cmdOn (d : Dev) (c t : Nat) : (d.commandedOn c t).flag (R.CH_STAT_CMD_ON c) = true :=
  (d.flag_commandedOn c t 16).trans (d.flag_setFlag_bit true rfl (by simp [R.CH_STAT_CMD_ON]))

theorem Dev.commandedOn_counted (d : Dev) (c t : Nat) :
    ((d.commandedOn c t).reg (R.CH_ON_CNT c)).toNat = min ((d.reg (R.CH_ON_CNT c)).toNat + 1) (2 ^ 32 - 1) := by
  have before : OnlyChan c [R.CH_STAT c] d ((d.setFlag (R.CH_STAT_CMD_ON c) true).noteOff c t) :=
    .noteOff (.setFlag (.refl d) (.head _))
  have kept := before.others (R.CH_ON_CNT c) (by simpa using (ch_stat_ne_on_cnt c).symm)
  rw [Dev.commandedOn, Dev.turnOn, Dev.toNat_reg_count_same, Dev.reg_setChan, kept]

/-- An ON leaves MT. -/
theorem Dev.commandedOn_atMt (d : Dev) (c t : Nat) : (d.commandedOn c t).atMt d.now = d.commandedOn c t := by
  unfold Dev.now
  rw [← (d.commandedOn_only c t).mt]
  rfl

theorem Dev.commandedOn_chan (d : Dev) (c t : Nat) :
    (d.commandedOn c t).chan c = (((d.setFlag (R.CH_STAT_CMD_ON c) true).noteOff c t).chan c).turnedOn t := Dev.turnOn_chan ..

theorem Dev.commandedOn_on (d : Dev) (c t : Nat) : ((d.commandedOn c t).chan c).on = true := by rw [d.commandedOn_chan]; rfl

theorem Dev.commandedOn_pulse (d : Dev) (c t : Nat) : ((d.commandedOn c t).chan c).pulse = (d.chan c).pulse := by
  rw [d.commandedOn_chan, Dev.noteOff_chan]
  rfl

/-- PWM waits for its first period start after the turn-on. -/
theorem Dev.commandedOn_unstarted {d : Dev} {c t : Nat} (shaped : d.pwmRuns c = true) (before : (d.chan c).perAt < t) :
    (d.commandedOn c t).driveOn c = false := by
  refine Dev.driveOn_unstarted (((d.commandedOn_setup c t).pwmRuns (d.commandedOn_pulse c t)).trans shaped) ?_
  rw [d.commandedOn_chan, Dev.noteOff_chan]
  exact before

namespace Dev.TurnsOn
variable {d : Dev} {c : Nat} (h : d.TurnsOn c)
include h

theorem leader : d.leader c = c := Dev.leader_single h.single

theorem safe : d.flag (R.CH_STAT_SAFE c) = false :=
  (Dev.acceptsOff_single h.leader (Dev.acceptsOff_of_acceptsOn h.accepts)).2.2

theorem owner : d.owner c ≠ 2 := (Dev.acceptsOff_single h.leader (Dev.acceptsOff_of_acceptsOn h.accepts)).2.1

theorem out : isOutput (d.mode c) = true := (Dev.acceptsOff_single h.leader (Dev.acceptsOff_of_acceptsOn h.accepts)).1

theorem commandOn (t : Nat) : d.commandOn c t = d.commandedOn c t := by
  have noRetry : (d.setFlag (R.CH_STAT_CMD_ON c) true).flag (R.CH_STAT_RETRY_WAIT c) = false :=
    (d.flag_setFlag_bits true (by decide) (by decide)).trans h.noRetry
  have safe : (d.setFlag (R.CH_STAT_CMD_ON c) true).flag (R.CH_STAT_SAFE c) = false :=
    (d.flag_setFlag_bits true (by decide) (by decide)).trans h.safe
  have only : OnlyChan c [R.CH_STAT c, R.CH_ON_CNT c] d (d.setFlag (R.CH_STAT_CMD_ON c) true) :=
    (OnlyChan.refl d).setFlag (.head _)
  simp only [Dev.commandOn, h.leader, Dev.cutPulse_idle t h.noPulse, h.pair, if_false, Dev.group_single h.single, Dev.forAll,
    List.foldl_cons, List.foldl_nil, decide_true, noRetry, Bool.false_eq_true]
  exact Dev.stageOn_starts t h.off h.free safe ((only.setup.vfBad _).trans h.supply)

/-- After an ON commands decide. -/
theorem commanded (t : Nat) : (d.commandedOn c t).Commanded c where
  single := ((d.commandedOn_setup c t).leader c).trans h.leader
  on := ((d.commandedOn_setup c t).domOn _).trans h.on
  stop := (d.commandedOn_setup c t).stopActive.trans h.stop
  prot := by rw [Dev.commandedOn, Dev.turnOn_chan]; rfl
  supply := ((d.commandedOn_setup c t).vfBad _).trans h.supply
  safe := (d.flag_commandedOn c t 18).trans ((d.flag_setFlag_bits true (by decide) (by decide)).trans h.safe)

theorem out_after (t : Nat) : isOutput ((d.commandedOn c t).mode c) = true :=
  (congrArg isOutput ((d.commandedOn_setup c t).mode c)).trans h.out

theorem idle_after (t : Nat) : (d.commandedOn c t).running c = false := ((d.commandedOn_setup c t).running c).trans h.idle

theorem driven (plain : d.pwmRuns c = false) (bridge : d.mode c ≠ 3) (t : Nat) : (d.commandedOn c t).driven c = true := by
  have setup := d.commandedOn_setup c t
  refine (h.commanded t).driven (h.out_after t) (setup.mode c ▸ bridge) (setup.mode c ▸ h.pair) ?_
  rw [Dev.driveOn_unshaped (h.idle_after t) ((setup.pwmRuns (d.commandedOn_pulse c t)).trans plain), d.commandedOn_on]

/-- The ON of a half-bridge turns its low switch off. -/
theorem lowOff (plain : d.pwmRuns c = false) (bridge : d.mode c = 3) (prot : (d.chan c).prot = false) (t : Nat) :
    ((d.commandedOn c t).chan c).lastOff = some (t, false) := by
  have only : OnlyChan c [R.CH_STAT c, R.CH_ON_CNT c] d (d.setFlag (R.CH_STAT_CMD_ON c) true) :=
    (OnlyChan.refl d).setFlag (.head _)
  have setup := only.setup
  have safe : (d.setFlag (R.CH_STAT_CMD_ON c) true).flag (R.CH_STAT_SAFE c) = false :=
    (d.flag_setFlag_bits true (by decide) (by decide)).trans h.safe
  have commanded : (d.setFlag (R.CH_STAT_CMD_ON c) true).Commanded c :=
    ⟨(setup.leader c).trans h.leader, (setup.domOn _).trans h.on, setup.stopActive.trans h.stop, prot, (setup.vfBad _).trans h.supply,
      safe⟩
  have low : (d.setFlag (R.CH_STAT_CMD_ON c) true).side c = some false := by
    rw [commanded.side_bridge ((setup.mode c).trans bridge) ((setup.owner c).symm ▸ h.owner),
      Dev.driveOn_unshaped ((setup.running c).trans h.idle) ((setup.pwmRuns rfl).trans plain), Dev.chan_setFlag, h.off]
  rw [Dev.commandedOn, Dev.turnOn_chan, Dev.noteOff_chan, low]
  rfl

theorem side_bridge (plain : d.pwmRuns c = false) (bridge : d.mode c = 3) (t : Nat) : (d.commandedOn c t).side c = some true := by
  have setup := d.commandedOn_setup c t
  rw [(h.commanded t).side_bridge ((setup.mode c).trans bridge) ((setup.owner c).symm ▸ h.owner),
    Dev.driveOn_unshaped (h.idle_after t) ((setup.pwmRuns (d.commandedOn_pulse c t)).trans plain), d.commandedOn_on]

/-- A half-bridge that an ON at t turns over: its gate by the MT. -/
theorem gate_bridge (plain : d.pwmRuns c = false) (bridge : d.mode c = 3) (prot : (d.chan c).prot = false) (t u : Nat) :
    ((d.commandedOn c t).atMt u).gate c = if u < t + d.deadTime c then none else some true := by
  have setup := d.commandedOn_setup c t
  have gate := ((h.commanded t).atMt u).gate_bridge_high ((setup.mode c).trans bridge) ((setup.owner c).symm ▸ h.owner) (h.idle_after t)
    ((setup.pwmRuns (d.commandedOn_pulse c t)).trans plain) (d.commandedOn_on c t) (h.lowOff plain bridge prot t)
  rw [gate, ← setup.deadTime c]
  rfl

end Dev.TurnsOn

/-! ### PWM (07 R207, R208) -/

/-- A stage that is on drives from a period start after its turn-on until the period's off-edge. -/
theorem Dev.driveOn_inPeriod {d : Dev} {c : Nat} (idle : d.running c = false) (on : (d.chan c).on = true)
    (started : (d.chan c).pwmFrom ≤ (d.chan c).perAt) (within : ∀ t, (d.chan c).offEdge = some t → d.now < t) :
    d.driveOn c = true := by
  simp only [Dev.driveOn, idle, on, started]
  cases edge : (d.chan c).offEdge with
  | none => simp
  | some t => simp [within t edge]

/-- The device after the judgement of the period of channel c that has ended (07 R223, 15 R445). -/
def Dev.judged (d : Dev) (c : Nat) : Dev := (d.judgePeriod c).judgeLamp c

/-- The judgement of a period counts in the channel alone. -/
theorem Dev.judgePeriod_eq (d : Dev) (c : Nat) :
    ∃ ch n, d.judgePeriod c = { d with ch := ch } ∧ (d.judgePeriod c).chan c = { d.chan c with olCnt := n } := by
  unfold Dev.judgePeriod
  dsimp only
  split
  · exact ⟨_, _, rfl, Dev.chan_setChan_same ..⟩
  · exact ⟨_, _, rfl, rfl⟩

theorem Dev.judgeLamp_eq (d : Dev) (c : Nat) :
    ∃ ch n, d.judgeLamp c = { d with ch := ch } ∧ (d.judgeLamp c).chan c = { d.chan c with lampCnt := n } := by
  unfold Dev.judgeLamp
  dsimp only
  split
  · split
    · exact ⟨_, _, rfl, Dev.chan_setChan_same ..⟩
    · exact ⟨_, _, rfl, rfl⟩
  · exact ⟨_, _, rfl, rfl⟩

theorem Dev.judged_eq (d : Dev) (c : Nat) :
    ∃ ch n m, d.judged c = { d with ch := ch } ∧ (d.judged c).chan c = { d.chan c with olCnt := n, lampCnt := m } := by
  obtain ⟨_, n, period, periodChan⟩ := d.judgePeriod_eq c
  obtain ⟨ch, m, lamp, lampChan⟩ := (d.judgePeriod c).judgeLamp_eq c
  refine ⟨ch, n, m, ?_, ?_⟩
  · rw [Dev.judged, lamp, period]
  · rw [Dev.judged, lampChan, periodChan]

/-- Neither the duty nor the on-time of the next period depends on the judgement of the one that ended. -/
theorem Dev.onSteps_judged (d : Dev) (c s : Nat) :
    (d.judged c).onSteps c ((d.judged c).dutyAt c s).1 s = d.onSteps c (d.dutyAt c s).1 s := by
  obtain ⟨ch, n, m, frame, chan⟩ := d.judged_eq c
  have lampAt : ((d.judged c).chan c).lampAt = (d.chan c).lampAt := by rw [chan]
  have duty : ((d.judged c).dutyAt c s).1 = (d.dutyAt c s).1 := by
    unfold Dev.dutyAt
    rw [apply_ite Prod.fst, apply_ite Prod.fst, frame]
    rfl
  rw [duty]
  unfold Dev.onSteps
  rw [lampAt, frame]
  rfl

/-- A period start on a channel of its own leaves its turn-on, and ends its on-time by the duty. -/
theorem Dev.pwmPeriod_single {d : Dev} {c : Nat} (s : Nat) (single : d.mode (c / 2 * 2) ≠ 4) (pair : d.mode c ≠ 4) :
    (d.pwmPeriod c s).regs = d.regs ∧ ((d.pwmPeriod c s).chan c).on = (d.chan c).on ∧
      ((d.pwmPeriod c s).chan c).pwmFrom = (d.chan c).pwmFrom ∧ ((d.pwmPeriod c s).chan c).perAt = s ∧
      ((d.pwmPeriod c s).chan c).offEdge =
        if (d.onSteps c (d.dutyAt c s).1 s).1 = d.pwmSteps c then none else some (s + 40 * (d.onSteps c (d.dutyAt c s).1 s).1) := by
  obtain ⟨ch, n, m, frame, chan⟩ := d.judged_eq c
  have steps : (d.judged c).pwmSteps c = d.pwmSteps c := by rw [frame]; rfl
  have regs : (d.judged c).regs = d.regs := by rw [frame]
  have apart : (d.judged c).mode c ≠ 4 := by rw [frame]; exact pair
  have period : (d.forAll (d.group c) fun k d => d.judgePeriod k).judgeLamp c = d.judged c := by
    rw [Dev.group_single single]
    rfl
  simp only [Dev.pwmPeriod, period, apart, if_false, Dev.chan_setChan_same, Dev.setChan_regs, Dev.onSteps_judged, steps,
    regs, chan, and_self]

/-- A channel whose PWM shapes it drives from the period start at t on, when the period's on-time is not 0. -/
theorem Dev.TurnsOn.driveOn_pwm {d : Dev} {c t u : Nat} (h : d.TurnsOn c) (later : t ≤ u)
    (duty : 10 ≤ ((d.commandedOn c t).onSteps c ((d.commandedOn c t).dutyAt c u).1 u).1) :
    (((d.commandedOn c t).pwmPeriod c u).atMt u).driveOn c = true := by
  have setup := d.commandedOn_setup c t
  obtain ⟨regs, on, start, perAt, edge⟩ :=
    Dev.pwmPeriod_single u (d := d.commandedOn c t) (c := c) ((setup.mode _).symm ▸ h.single) ((setup.mode c).symm ▸ h.pair)
  have idle : ((d.commandedOn c t).pwmPeriod c u).running c = false := by
    rw [← h.idle_after t]
    exact Dev.flag_of_reg (by unfold Dev.reg; rw [regs])
  have from_t : ((d.commandedOn c t).chan c).pwmFrom = t := by rw [d.commandedOn_chan]; rfl
  refine Dev.driveOn_inPeriod (d := ((d.commandedOn c t).pwmPeriod c u).atMt u) idle (on.trans (d.commandedOn_on c t)) ?_ fun v at_v => ?_
  · exact (start.trans from_t).le.trans (later.trans perAt.ge)
  · have ends := edge.symm.trans at_v
    split at ends
    · cases ends
    · cases ends
      change u < _
      omega

/-! ### OFF (07 R204, R218) -/

/-- The device after an OFF at t of a channel of its own on which no pulse runs. -/
def Dev.commandedOff (d : Dev) (c t : Nat) : Dev :=
  (((d.endRetry c).stageOff c t).setFlag (R.CH_STAT_CMD_ON c) false).setFld (R.CH_STAT_RETRIES c) 0

theorem Dev.commandOff_single {d : Dev} {c : Nat} (t : Nat) (single : d.mode (c / 2 * 2) ≠ 4) (noPulse : (d.chan c).pulse = none) :
    d.commandOff c t = d.commandedOff c t := by
  simp only [Dev.commandOff, Dev.group_single single, Dev.forAll, List.foldl_cons, List.foldl_nil, Dev.cutPulse_idle t noPulse]
  rfl

theorem Dev.commandedOff_only (d : Dev) (c t : Nat) : OnlyChan c [R.CH_STAT c] d (d.commandedOff c t) := by
  unfold Dev.commandedOff
  exact .setFld (.setFlag (.stageOff (.endRetry (.refl d) (.head _))) (.head _)) (.head _)

theorem Dev.commandedOff_setup (d : Dev) (c t : Nat) : SameSetup d (d.commandedOff c t) :=
  have only := d.commandedOff_only c t
  .of_regsBut (c := c) (only.others.mono (by simp)) only.psq only.pwr

/-- After an OFF the stage does not drive. -/
theorem Dev.commandedOff_rests (d : Dev) (c t : Nat) : (d.commandedOff c t).driveOn c = false := by
  have off : ((d.commandedOff c t).chan c).on = false := (d.endRetry c).stageOff_on c t
  simp [Dev.driveOn, off]

theorem Dev.commandedOff_safe (d : Dev) (c t : Nat) : (d.commandedOff c t).flag (R.CH_STAT_SAFE c) = d.flag (R.CH_STAT_SAFE c) := by
  calc (d.commandedOff c t).flag (R.CH_STAT_SAFE c)
    _ = (((d.endRetry c).stageOff c t).setFlag (R.CH_STAT_CMD_ON c) false).flag (R.CH_STAT_SAFE c) :=
      Dev.flag_setFld_apart _ 0 (by simp [R.CH_STAT_RETRIES]) (by simp [R.CH_STAT_RETRIES, R.CH_STAT_SAFE])
    _ = ((d.endRetry c).stageOff c t).flag (R.CH_STAT_SAFE c) := Dev.flag_setFlag_bits _ false (by decide) (by decide)
    _ = (d.endRetry c).flag (R.CH_STAT_SAFE c) := Dev.flag_stageOff ..
    _ = d.flag (R.CH_STAT_SAFE c) := Dev.flag_setFlag_bits _ false (by decide) (by decide)

theorem Dev.commandedOff_cleared (d : Dev) (c t : Nat) :
    (d.commandedOff c t).flag (R.CH_STAT_CMD_ON c) = false ∧ (d.commandedOff c t).fld (R.CH_STAT_RETRIES c) = 0 := by
  constructor
  · have cleared := ((d.endRetry c).stageOff c t).flag_setFlag_bit (f := R.CH_STAT_CMD_ON c) false rfl (by simp [R.CH_STAT_CMD_ON])
    exact (Dev.flag_setFld_apart _ 0 (by simp [R.CH_STAT_RETRIES]) (by simp [R.CH_STAT_CMD_ON, R.CH_STAT_RETRIES])).trans cleared
  · exact Dev.fld_setFld_same _ _ 0 (by simp [R.CH_STAT_RETRIES])

/-- After an OFF only a half-bridge conducts: its off state drives. -/
theorem Dev.commandedOff_driven {d : Dev} {c : Nat} (t : Nat) (single : d.mode (c / 2 * 2) ≠ 4) (on : d.domOn (chDom c) = true)
    (safe : d.flag (R.CH_STAT_SAFE c) = false) (bridge : d.mode c ≠ 3) : (d.commandedOff c t).driven c = false :=
  have setup := d.commandedOff_setup c t
  Dev.driven_off ((setup.domOn _).trans on) ((d.commandedOff_safe c t).trans safe) ((setup.leader c).trans (Dev.leader_single single))
    (d.commandedOff_rests c t) ((setup.mode c).symm ▸ bridge)

end Sys2Proof.Machine

section
open Sys2Proof Sys2Proof.Machine

/-- Settles O28. ON that takes effect is CMD_ON and a turn-on: the stage drives at once without PWM, a half-bridge after the dead time
from its low switch's turn-off, and PWM from the first period start at or after it. OFF clears the stage, so only a half-bridge conducts. -/
theorem onAndOffDrive : Obligations.OnAndOffDrive := by
  intro d c _ single pair on noPulse idle
  refine ⟨fun accepts off free supply noRetry stop => ?on, fun accepts => ?off⟩
  case on =>
    have h : d.TurnsOn c := ⟨single, pair, on, noPulse, idle, accepts, off, free, supply, noRetry, stop⟩
    have only := d.commandedOn_only c d.now
    rw [h.commandOn]
    refine ⟨fun plain bridge => h.driven plain bridge _, fun plain bridge prot => ?_, fun shaped before => ⟨?_, fun t later duty =>
      h.driveOn_pwm later duty⟩, ?_, ?_, only.others, only.chans, only.mem⟩
    · have gate := h.gate_bridge plain bridge prot d.now
      refine ⟨?_, h.side_bridge plain bridge _, fun t waited => (gate t).trans (if_neg (Nat.not_lt.mpr waited))⟩
      have waits : d.now < d.now + d.deadTime c := Nat.lt_add_of_pos_right (d.deadTime_pos c)
      rw [← d.commandedOn_atMt c d.now, gate, if_pos waits]
    · exact Dev.commandedOn_unstarted shaped before
    · exact d.commandedOn_cmdOn c _
    · exact d.commandedOn_counted c _
  case off =>
    have only := d.commandedOff_only c d.now
    obtain ⟨cmdOn, retries⟩ := d.commandedOff_cleared c d.now
    have safe := (Dev.acceptsOff_single (Dev.leader_single single) accepts).2.2
    rw [d.commandOff_single d.now single noPulse]
    exact ⟨d.commandedOff_rests c _, Dev.commandedOff_driven _ single on safe, cmdOn, retries, only.others, only.chans, only.mem⟩

end

/-! PROOFS (07). The register commands of the channels: writes of CH_CMD and CH_BANK_CTRL by their bits, and a write of CH_CFG that
nothing refuses. -/

namespace Sys2Proof.Machine

/-! ### The window of the channels' registers (01 R23, 07 R200) -/

theorem domOf_chan (c : Fin 128) {o : Nat} (ho : o < 0x100) : domOf (chBase c + o) = chDom c := by
  have window : (chBase c + o) / 0x10000 = 6 := by unfold chBase; omega
  have die : chBase c + o < 0x68000 ↔ c.val < 64 := by unfold chBase; omega
  simp only [domOf, window, die, chDom]

theorem domOf_bank (b : Fin 8) : domOf (R.CH_BANK_CTRL b) = chDom (16 * b) := by
  have window : R.CH_BANK_CTRL b / 0x10000 = 6 := by unfold R.CH_BANK_CTRL; omega
  have die : R.CH_BANK_CTRL b < 0x68000 ↔ 16 * b.val < 64 := by unfold R.CH_BANK_CTRL; omega
  simp only [domOf, window, die, chDom]

section
variable {i : Instr} {d d' : Dev} {f : Dev → Dev} {c : Fin 128}

/-- A command that writes a register of a channel has its effect while the channel's die is on. -/
theorem becomes_of_chanAccess {o : Nat} (ho : o < 0x100) (hc : ∀ s, exec i s = onDev s fun d => d.access (chBase c + o) f)
    (on : d.domOn (chDom c) = true) (h : f d = d') : Becomes i d d' :=
  becomes_of_onDev _ hc ((d.access_on _ f (domOf_chan c ho ▸ on)).trans h)

theorem becomes_of_chCmd (hc : ∀ s, exec i s = onDev s fun d => d.access (R.CH_CMD c) f) (on : d.domOn (chDom c) = true)
    (h : f d = d') : Becomes i d d' := becomes_of_chanAccess (o := 0x70) (by decide) hc on h

theorem becomes_of_bankCtrl {b : Fin 8} (hc : ∀ s, exec i s = onDev s fun d => d.access (R.CH_BANK_CTRL b) f)
    (on : d.domOn (chDom (16 * b)) = true) (h : f d = d') : Becomes i d d' :=
  becomes_of_onDev _ hc ((d.access_on _ f (domOf_bank b ▸ on)).trans h)

end

/-! ### CH_CMD and CH_BANK_CTRL (07 R204, R218, R228, R233, R568) -/

/-- A write to CH_CMD by the five command bits of the written word. -/
theorem Dev.writeChCmd_low (d : Dev) (c : Nat) {v w : Word} (low : v &&& 31#32 = w) : d.writeChCmd c v = d.writeChCmd c w := by
  simp only [Dev.writeChCmd, getLsbD_of_masked low (k := 0) rfl, getLsbD_of_masked low (k := 1) rfl,
    getLsbD_of_masked low (k := 2) rfl, getLsbD_of_masked low (k := 3) rfl, getLsbD_of_masked low (k := 4) rfl]

theorem Dev.writeChCmd_on {d : Dev} {c : Nat} {v : Word} (low : v &&& 31#32 = 1#32) (accepts : d.acceptsOn c = true) :
    d.writeChCmd c v = d.commandOn c d.now := by
  rw [d.writeChCmd_low c low]
  exact if_pos accepts

theorem Dev.writeChCmd_off {d : Dev} {c : Nat} {v : Word} (low : v &&& 31#32 = 2#32) (accepts : d.acceptsOff c = true) :
    d.writeChCmd c v = d.commandOff c d.now := by
  rw [d.writeChCmd_low c low]
  exact if_pos accepts

/-- A write to CH_BANK_CTRL by its two command bits. -/
theorem Dev.writeBankCtrl_low (d : Dev) (b : Nat) {v w : Word} (low : v &&& 3#32 = w) : d.writeBankCtrl b v = d.writeBankCtrl b w := by
  simp only [Dev.writeBankCtrl, getLsbD_of_masked low (k := 0) rfl, getLsbD_of_masked low (k := 1) rfl]

/-- CLR_LATCH changes the leader's status, and its hidden state alone. -/
theorem Dev.clearLatch_only (d : Dev) (c : Nat) : OnlyChan (d.leader c) [R.CH_STAT (d.leader c)] d (d.clearLatch c) := by
  unfold Dev.clearLatch
  exact .setChan (.setFld (.setFlag (.refl d) (.head _)) (.head _))

theorem Dev.clearLatch_cleared (d : Dev) (c : Nat) :
    (d.clearLatch c).flag (R.CH_STAT_LATCHED (d.leader c)) = false ∧ (d.clearLatch c).fld (R.CH_STAT_RETRIES (d.leader c)) = 0 := by
  unfold Dev.clearLatch
  dsimp only
  rw [Dev.flag_setChan, Dev.fld_setChan]
  refine ⟨?_, Dev.fld_setFld_same _ _ 0 (by simp [R.CH_STAT_RETRIES])⟩
  rw [Dev.flag_setFld_apart _ _ (by simp [R.CH_STAT_RETRIES]) (by simp [R.CH_STAT_LATCHED, R.CH_STAT_RETRIES])]
  exact d.flag_setFlag_bit false rfl (by simp [R.CH_STAT_LATCHED])

/-! ### A change of MODE (07 R201, 08 R248) -/

/-- The registers besides CH_CFG that a change of a channel's MODE starts anew: its status and its input side. -/
def modeRegs (c : Nat) : List Nat :=
  [R.CH_STAT c, R.CH_IN_STAT c, R.CH_IN_CNT c, R.CH_IN_PER c, R.CH_IN_FIFO c, R.CH_IN_TS_LO c,
    R.CH_IN_TS_HI c]

theorem ch_stat_mem (c : Nat) : R.CH_STAT c ∈ modeRegs c := .head _

theorem in_stat_mem (c : Nat) : R.CH_IN_STAT c ∈ modeRegs c := .tail _ (.head _)

/-- No channel's CH_CFG is among them. -/
theorem ch_cfg_not_mem (c k : Nat) : R.CH_CFG c ∉ modeRegs k := by
  simp only [modeRegs, R.CH_CFG, R.CH_STAT, R.CH_IN_STAT, R.CH_IN_CNT, R.CH_IN_PER, R.CH_IN_FIFO, R.CH_IN_TS_LO, R.CH_IN_TS_HI, chBase,
    List.mem_cons, List.not_mem_nil, or_false]
  omega

theorem Dev.wireWhole_modeRegs (d : Dev) (c : Nat) : RegsBut (modeRegs c) d (d.wireWhole c) := by
  unfold Dev.wireWhole
  split
  · exact .of_regs (.setFlag (.refl d) (in_stat_mem c)) (Dev.settleLine_regs ..)
  · exact .refl d

theorem Dev.showFifo_modeRegs (d : Dev) (c : Nat) : RegsBut (modeRegs c) d (d.showFifo c) := by
  have fifo : R.CH_IN_FIFO c ∈ modeRegs c := by simp [modeRegs]
  have low : R.CH_IN_TS_LO c ∈ modeRegs c := by simp [modeRegs]
  have high : R.CH_IN_TS_HI c ∈ modeRegs c := by simp [modeRegs]
  unfold Dev.showFifo
  dsimp only
  split <;> exact .setReg (.setReg (.setFlag (.setFld (.refl d) fifo) fifo) low) high

theorem Dev.restartFilter_modeRegs (d : Dev) (c : Nat) : RegsBut (modeRegs c) d (d.restartFilter c) := by
  unfold Dev.restartFilter Dev.showLevel
  exact .setFlag (.of_regs (.refl d) rfl) (in_stat_mem c)

theorem Dev.restartInput_modeRegs (d : Dev) (c : Nat) : RegsBut (modeRegs c) d (d.restartInput c) := by
  have cnt : R.CH_IN_CNT c ∈ modeRegs c := by simp [modeRegs]
  have per : R.CH_IN_PER c ∈ modeRegs c := by simp [modeRegs]
  unfold Dev.restartInput
  dsimp only
  refine .trans ?_ (Dev.restartFilter_modeRegs _ c)
  refine .trans ?_ (Dev.showFifo_modeRegs _ c)
  refine .trans ?_ (Dev.wireWhole_modeRegs _ c)
  exact .setReg (.setReg (.of_regs (.refl d) rfl) cnt) per

theorem Dev.cutPulse_modeRegs (d : Dev) (c t : Nat) : RegsBut (modeRegs c) d (d.cutPulse c t) := by
  unfold Dev.cutPulse
  split
  · exact .of_regs (.setFlag (.of_regs (.refl d) rfl) (ch_stat_mem c)) rfl
  · exact .refl d

/-- A channel that leaves its MODE: everything on it ends, its output is off. -/
def Dev.modeLeft (d : Dev) (c : Nat) : Dev :=
  let d := (((d.cutPulse c d.now).endRetry c).stageOff c d.now).setFlag (R.CH_STAT_CMD_ON c) false
  d.setChan c { d.chan c with prot := false, offRead := none, offAt := none, follow := [], partners := [], lastOff := none }

theorem Dev.modeLeft_modeRegs (d : Dev) (c : Nat) : RegsBut (modeRegs c) d (d.modeLeft c) := by
  have ended : RegsBut (modeRegs c) d ((d.cutPulse c d.now).endRetry c) :=
    .setFlag (.of_regs (d.cutPulse_modeRegs c d.now) rfl) (ch_stat_mem c)
  have off : RegsBut (modeRegs c) d (((d.cutPulse c d.now).endRetry c).stageOff c d.now) := .of_regs ended (Dev.stageOff_regs ..)
  unfold Dev.modeLeft
  exact .of_regs (.setFlag off (ch_stat_mem c)) rfl

theorem Dev.changeMode_eq (d : Dev) (c m : Nat) :
    d.changeMode c m = if d.mode c = m then d else ((d.modeLeft c).setFld (R.CH_CFG_MODE c) m).restartInput c := rfl

theorem Dev.changeMode_mode (d : Dev) (c : Nat) {m : Nat} (hm : m < 16) : (d.changeMode c m).mode c = m := by
  rw [Dev.changeMode_eq]
  split
  · next stays => exact stays
  · have kept := ((d.modeLeft c).setFld (R.CH_CFG_MODE c) m).restartInput_modeRegs c
    rw [Dev.mode, kept.fld _ (ch_cfg_not_mem c c), Dev.fld_setFld_same _ _ _ (by simp [R.CH_CFG_MODE])]
    exact Nat.mod_eq_of_lt hm

/-- The options of CH_CFG stay at a change of MODE. -/
theorem Dev.changeMode_fld (d : Dev) (c m : Nat) {f : Fld} (cfg : f.off = R.CH_CFG c) (option : 4 ≤ f.lo) :
    (d.changeMode c m).fld f = d.fld f := by
  have apart : f.off ∉ modeRegs c := cfg ▸ ch_cfg_not_mem c c
  rw [Dev.changeMode_eq]
  split
  · rfl
  · have kept := ((d.modeLeft c).setFld (R.CH_CFG_MODE c) m).restartInput_modeRegs c
    rw [kept.fld f apart, Dev.fld_setFld_apart _ (R.CH_CFG_MODE c) f m (by simp [R.CH_CFG_MODE]) (.inl option),
      (d.modeLeft_modeRegs c).fld f apart]

/-- A channel's CH_CFG stays at a change of another channel's MODE. -/
theorem Dev.changeMode_fld_other (d : Dev) {c k : Nat} (m : Nat) {f : Fld} (cfg : f.off = R.CH_CFG c) (ne : c ≠ k) :
    (d.changeMode k m).fld f = d.fld f := by
  have apart : f.off ∉ modeRegs k := cfg ▸ ch_cfg_not_mem c k
  have other : f.off ≠ R.CH_CFG k := by
    rw [cfg]
    simp only [R.CH_CFG, chBase]
    omega
  rw [Dev.changeMode_eq]
  split
  · rfl
  · have kept := ((d.modeLeft k).setFld (R.CH_CFG_MODE k) m).restartInput_modeRegs k
    rw [kept.fld f apart, Dev.fld_setFld_off _ (R.CH_CFG_MODE k) _ _ other, (d.modeLeft_modeRegs k).fld f apart]

/-- A channel, and with it the other one of a pair that it makes or ends, takes a MODE (07 R202). -/
def Dev.takeMode (d : Dev) (c m : Nat) : Dev :=
  if c % 2 = 0 ∧ m = 4 then (d.changeMode c 4).changeMode (c + 1) 4
  else if c % 2 = 0 ∧ d.mode c = 4 then (d.changeMode c m).changeMode (c + 1) 0
  else d.changeMode c m

theorem Dev.takeMode_mode (d : Dev) (c : Nat) {m : Nat} (hm : m < 16) : (d.takeMode c m).mode c = m := by
  have apart : c ≠ c + 1 := Nat.ne_of_lt (Nat.lt_succ_self c)
  unfold Dev.takeMode
  split
  · next pair =>
    obtain ⟨_, rfl⟩ := pair
    exact (Dev.changeMode_fld_other _ 4 rfl apart).trans (d.changeMode_mode c hm)
  · split
    · exact (Dev.changeMode_fld_other _ 0 rfl apart).trans (d.changeMode_mode c hm)
    · exact d.changeMode_mode c hm

theorem Dev.takeMode_fld (d : Dev) (c m : Nat) {f : Fld} (cfg : f.off = R.CH_CFG c) (option : 4 ≤ f.lo) :
    (d.takeMode c m).fld f = d.fld f := by
  have apart : c ≠ c + 1 := Nat.ne_of_lt (Nat.lt_succ_self c)
  unfold Dev.takeMode
  split
  · exact (Dev.changeMode_fld_other _ 4 cfg apart).trans (d.changeMode_fld c 4 cfg option)
  · split
    · exact (Dev.changeMode_fld_other _ 0 cfg apart).trans (d.changeMode_fld c m cfg option)
    · exact d.changeMode_fld c m cfg option

/-! ### A write of CH_CFG (07 R201, R213, R227) -/

/-- The options of a written CH_CFG that no rule refuses. -/
def Dev.putOptions (d : Dev) (c : Nat) (v : Word) : Dev :=
  (((d.setFld (R.CH_CFG_SAFE c) (bitsOf v 6 2)).setFlag (R.CH_CFG_SAFETY c) (v.getLsbD 8)).setFlag (R.CH_CFG_PWM_EN c)
    (v.getLsbD 11)).setFld (R.CH_CFG_SLEW c) (bitsOf v 12 2)

/-- Besides these options only the channel's stage changes. -/
theorem Dev.setOptions_regs (d : Dev) (c : Nat) (v : Word) : ∃ e : Dev, (d.setOptions c v).regs = (e.putOptions c v).regs := by
  refine ⟨if d.flag (R.CH_STAT_SAFE c) && decide (bitsOf v 6 2 ≠ d.fld (R.CH_CFG_SAFE c)) then d.noteOff c d.now else d, ?_⟩
  exact (apply_ite Dev.regs _ _ _).trans (ite_self _)

/-- A written CH_CFG that nothing refuses, but for its MODE. -/
def Dev.optionsTaken (d : Dev) (c : Nat) (v : Word) : Dev :=
  ((d.setOptions c v).setFlag (R.CH_CFG_ELIM c) (d.elimAfter c v)).setFld (R.CH_CFG_OWNER c) (bitsOf v 4 2)

/-- A write of CH_CFG that no rule refuses takes the options, then the MODE. -/
theorem Dev.writeChCfg_taken {d : Dev} {c : Nat} {v : Word} (mode : d.modeRefused c (bitsOf v 0 4) (d.elimAfter c v) = false)
    (free : d.modeBusy c (bitsOf v 0 4) = false) (elim : d.elimRefused c v false = false)
    (owner : d.running c = false ∨ bitsOf v 4 2 = bitsOf (d.reg (R.CH_CFG c)) 4 2) (ranged : 8 ≤ c) :
    d.writeChCfg c v = (d.optionsTaken c v).takeMode c (bitsOf v 0 4) := by
  have badOwner : (d.running c && decide (bitsOf v 4 2 ≠ bitsOf (d.reg (R.CH_CFG c)) 4 2)) = false := by
    obtain idle | same := owner
    · simp [idle]
    · simp [same]
  have noRange : decide (c < 8) = false := decide_eq_false (Nat.not_lt.mpr ranged)
  simp only [Dev.writeChCfg, mode, free, elim, badOwner, noRange, ranged, Bool.or_self, Bool.false_and, Bool.false_eq_true, if_false,
    decide_true, Bool.or_true, if_true]
  rfl

theorem bitsOf_lt {n : Nat} (w : BitVec n) (lo len : Nat) : bitsOf w lo len < 2 ^ len := Nat.mod_lt _ (by positivity)

/-- A write of an option leaves the others. -/
theorem Dev.fld_setFld_bits (d : Dev) {off lo w lo' w' : Nat} (x : Nat) (h : lo + w ≤ 32) (apart : lo + w ≤ lo' ∨ lo' + w' ≤ lo) :
    (d.setFld ⟨off, lo, w⟩ x).fld ⟨off, lo', w'⟩ = d.fld ⟨off, lo', w'⟩ := d.fld_setFld_apart _ _ x h apart

theorem Dev.fld_setFld_whole (d : Dev) {off lo w : Nat} (x : Nat) (h : lo + w ≤ 32) :
    (d.setFld ⟨off, lo, w⟩ x).fld ⟨off, lo, w⟩ = x % 2 ^ w := d.fld_setFld_same _ x h

theorem Dev.putOptions_fields (d : Dev) (c : Nat) (v : Word) :
    (d.putOptions c v).fld (R.CH_CFG_SAFE c) = bitsOf v 6 2 ∧ (d.putOptions c v).fld (R.CH_CFG_SAFETY c) = (v.getLsbD 8).toNat ∧
      (d.putOptions c v).fld (R.CH_CFG_PWM_EN c) = (v.getLsbD 11).toNat ∧ (d.putOptions c v).fld (R.CH_CFG_SLEW c) = bitsOf v 12 2 := by
  have code (lo : Nat) : bitsOf v lo 2 % 2 ^ 2 = bitsOf v lo 2 := Nat.mod_eq_of_lt (bitsOf_lt v lo 2)
  have bit (b : Bool) : b.toNat % 2 ^ 1 = b.toNat := Nat.mod_eq_of_lt b.toNat_lt
  unfold Dev.putOptions Dev.setFlag
  simp only [R.CH_CFG_SAFE, R.CH_CFG_SAFETY, R.CH_CFG_PWM_EN, R.CH_CFG_SLEW]
  refine ⟨?_, ?_, ?_, ?_⟩
  · rw [Dev.fld_setFld_bits, Dev.fld_setFld_bits, Dev.fld_setFld_bits, Dev.fld_setFld_whole, code] <;> decide
  · rw [Dev.fld_setFld_bits, Dev.fld_setFld_bits, Dev.fld_setFld_whole, bit] <;> decide
  · rw [Dev.fld_setFld_bits, Dev.fld_setFld_whole, bit] <;> decide
  · rw [Dev.fld_setFld_whole, code]
    decide

/-- ELIM and OWNER are written after the other options, and leave them. -/
theorem Dev.optionsTaken_fld (d : Dev) (c : Nat) (v : Word) : ∃ e : Dev, ∀ lo w, 6 ≤ lo → (lo + w ≤ 9 ∨ 10 ≤ lo) →
    (d.optionsTaken c v).fld ⟨R.CH_CFG c, lo, w⟩ = (e.putOptions c v).fld ⟨R.CH_CFG c, lo, w⟩ := by
  obtain ⟨e, regs⟩ := d.setOptions_regs c v
  refine ⟨e, fun lo w owner elim => ?_⟩
  unfold Dev.optionsTaken Dev.setFlag
  simp only [R.CH_CFG_ELIM, R.CH_CFG_OWNER]
  rw [Dev.fld_setFld_bits _ _ (by decide) (by omega), Dev.fld_setFld_bits _ _ (by decide) (by omega), Dev.fld_of_regs regs]

theorem Dev.optionsTaken_owner (d : Dev) (c : Nat) (v : Word) : (d.optionsTaken c v).fld (R.CH_CFG_OWNER c) = bitsOf v 4 2 :=
  (Dev.fld_setFld_same _ _ _ (by simp [R.CH_CFG_OWNER])).trans (Nat.mod_eq_of_lt (bitsOf_lt v 4 2))

end Sys2Proof.Machine

section
open Sys2Proof Sys2Proof.Machine

/-- Settles O27: each write of CH_CMD and of CH_BANK_CTRL by its one command bit; CLR_LATCH as an update of one channel; a write of CH_CFG
takes its options, which the change of MODE after them leaves. -/
theorem channelRegisterCommandsComplete : Obligations.ChannelRegisterCommandsComplete := by
  refine ⟨fun d c v on cmd accepts => becomes_of_chCmd (fun _ => rfl) on (Dev.writeChCmd_on cmd accepts),
    fun d c v on cmd accepts => becomes_of_chCmd (fun _ => rfl) on (Dev.writeChCmd_off cmd accepts),
    fun d c v on cmd => becomes_of_chCmd (fun _ => rfl) on (d.writeChCmd_low c cmd),
    fun d c v link on cmd => becomes_of_chCmd (fun _ => rfl) on (Dev.writeChCmd_low _ c cmd),
    fun d c v on cmd => ?clrLatch,
    fun d b v link on cmd => becomes_of_bankCtrl (fun _ => rfl) on (Dev.writeBankCtrl_low _ b cmd),
    fun d v on cmd => becomes_of_bankCtrl (b := 7) (fun _ => rfl) on (d.writeBankCtrl_low 7 cmd),
    fun d c v on mode free elim owner ranged => ?chCfg⟩
  case clrLatch =>
    have only := d.clearLatch_only c
    obtain ⟨latched, retries⟩ := d.clearLatch_cleared c
    exact ⟨_, becomes_of_chCmd (fun _ => rfl) on (d.writeChCmd_low c cmd), latched, retries, only.others, only.chans, only.mem⟩
  case chCfg =>
    have write : Becomes (.chCfgWrite c v) d (d.writeChCfg c v) := becomes_of_chanAccess (o := 0) (by decide) (fun _ => rfl) on rfl
    rw [Dev.writeChCfg_taken mode free elim owner ranged] at write
    obtain ⟨e, taken⟩ := d.optionsTaken_fld c v
    obtain ⟨safe, safety, pwm, slew⟩ := e.putOptions_fields c v
    have kept (lo w : Nat) (option : 4 ≤ lo) :=
      (d.optionsTaken c v).takeMode_fld c (bitsOf v 0 4) (f := ⟨R.CH_CFG c, lo, w⟩) rfl option
    refine ⟨_, write, Dev.takeMode_mode _ c (bitsOf_lt v 0 4), (kept _ _ (by decide)).trans (d.optionsTaken_owner c v),
      (kept _ _ (by decide)).trans ((taken 6 2 (by decide) (by decide)).trans safe), ?_, ?_,
      (kept _ _ (by decide)).trans ((taken 12 2 (by decide) (by decide)).trans slew)⟩
    · exact Dev.flag_of_fld ((kept _ _ (by decide)).trans ((taken 8 1 (by decide) (by decide)).trans safety))
    · exact Dev.flag_of_fld ((kept _ _ (by decide)).trans ((taken 11 1 (by decide) (by decide)).trans pwm))

end

/-! PROOFS (07). The protections of the channels: the limits of a switch's current, and each event at the case of its premises. -/

namespace Sys2Proof.Machine

/-! ### Events of a channel (07 R214, R216, R219) -/

/-- An event of a channel that its die takes. -/
theorem becomes_of_onChan {i : Instr} {d d' : Dev} {c : Nat} (f : Dev → Dev) (hi : ∀ s, exec i s = onChan s c f)
    (on : d.domOn (chDom c) = true) (h : f d = d') : Becomes i d d' :=
  becomes_of_onDev _ hi ((if_pos on).trans h)

/-- A vector raised changes host memory, or the pending bits of the host link. -/
theorem Dev.memWrite_frame (l : List Byte) : ∀ (d : Dev) (a : Nat), d.memWrite a l = { d with mem := (d.memWrite a l).mem } := by
  induction l with
  | nil => exact fun _ _ => rfl
  | cons b t ih => exact fun d a => ih (d.memPut a b) (a + 1)

theorem Dev.raiseVector_frame (d : Dev) (v : Nat) :
    d.raiseVector v = { d with mem := (d.raiseVector v).mem, hl := (d.raiseVector v).hl } := by
  unfold Dev.raiseVector
  split
  · exact Dev.memWrite_frame _ d _
  · rfl

/-- An event of a channel sets its bit, and no other register. -/
theorem Dev.chEvent_frame (d : Dev) (c : Nat) (f : Fld) :
    d.chEvent c f = { d.setFlag f true with mem := (d.chEvent c f).mem, hl := (d.chEvent c f).hl } := by
  unfold Dev.chEvent
  dsimp only
  split
  · exact (d.setFlag f true).raiseVector_frame _
  · rfl

theorem Dev.chEvent_regs (d : Dev) (c : Nat) (f : Fld) : (d.chEvent c f).regs = (d.setFlag f true).regs :=
  (congrArg Dev.regs (d.chEvent_frame c f)).trans rfl

@[simp] theorem Dev.chEvent_mt (d : Dev) (c : Nat) (f : Fld) : (d.chEvent c f).mt = d.mt :=
  (congrArg Dev.mt (d.chEvent_frame c f)).trans rfl

@[simp] theorem Dev.chEvent_ch (d : Dev) (c : Nat) (f : Fld) : (d.chEvent c f).ch = d.ch :=
  (congrArg Dev.ch (d.chEvent_frame c f)).trans rfl

@[simp] theorem Dev.chEvent_psq (d : Dev) (c : Nat) (f : Fld) : (d.chEvent c f).psq = d.psq :=
  (congrArg Dev.psq (d.chEvent_frame c f)).trans rfl

@[simp] theorem Dev.chEvent_pwr (d : Dev) (c : Nat) (f : Fld) : (d.chEvent c f).pwr = d.pwr :=
  (congrArg Dev.pwr (d.chEvent_frame c f)).trans rfl

@[simp] theorem Dev.chan_chEvent (d : Dev) (c : Nat) (f : Fld) (k : Nat) : (d.chEvent c f).chan k = d.chan k := by
  rw [Dev.chan, Dev.chEvent_ch, Dev.chan]

/-! ### The limits of a switch's current (07 R199, R214) -/

theorem Dev.ocCause_hard {d : Dev} {c ma : Nat} (hard : hardLimit c ≤ ma) : d.ocCause c ma = some 1 := if_pos hard

theorem Dev.ocCause_below {d : Dev} {c ma : Nat} (below : ma < hardLimit c) :
    d.ocCause c ma = some 0 ↔ d.ocLimit c ≤ ma ∧ d.blanked (d.leader c) = false := by
  simp [Dev.ocCause, Nat.not_le.mpr below]

/-- Outside the inrush of a lamp OC_TH acts within 0.10 A and the peak current. -/
theorem Dev.ocLimit_settled {d : Dev} {c : Nat} (settled : d.inInrush (d.leader c) = false) :
    d.ocLimit c = 10 * max 10 (min (peakUnits c) (d.fld (R.CH_OC_OC_TH (d.leader c)))) := by
  simp only [Dev.ocLimit, settled, Bool.false_eq_true, if_false]

theorem becomes_overCurrent {d : Dev} {c : Fin 128} {ma : Word} {high : Bool} {k : Nat} (on : d.domOn (chDom c) = true)
    (conducts : (d.outOn c = true ∧ canConduct (d.mode c) high = true) ∨ d.gate c = some high)
    (trips : d.ocCause c ma.toNat = some k) : Becomes (.overCurrent c ma high) d (d.overCurrent c k high) := by
  have may : (d.outOn c && canConduct (d.mode c) high || d.gate c == some high) = true := by
    rwa [Bool.or_eq_true, Bool.and_eq_true, beq_iff_eq]
  refine becomes_of_onChan _ (fun s => (rfl : execOverCurrent c ma high s = _)) on ?_
  simp only [may, trips, if_true]

theorem becomes_timeOverCurrent {d : Dev} {c : Fin 128} {spans : List (BitVec 64 × BitVec 64)} (on : d.domOn (chDom c) = true)
    (out : isOutput (d.mode c) = true) (driven : d.driven c = true) (long : msTicks 10 ≤ d.timeAbove c spans) :
    Becomes (.timeOverCurrent c spans) d (d.ocTrip c 2) := by
  refine becomes_of_onChan _ (fun s => (rfl : execTimeOverCurrent c spans s = _)) on (if_pos ?_)
  simp only [out, driven, long, Bool.or_true, decide_true, Bool.and_self]

/-! ### Temperatures (07 R216) -/

/-- A channel's warning at a rise through 150 °C. -/
def Dev.warnedTj (d : Dev) (c : Nat) (tj : Int) : Dev :=
  ((d.setFld (R.CH_TJ_TJ c) (ofInt 16 tj)).setChan c { d.chan c with otArm := false }).chEvent c (R.CH_STAT_OT_WARN c)

theorem Dev.newTj_warns {d : Dev} {c : Nat} {tj : Int} (hot : 1500 ≤ tj) (armed : (d.chan c).otArm = true) :
    d.newTj c tj = d.warnedTj c tj := by
  have warm : ¬ tj < 1400 := by omega
  simp only [Dev.newTj, warm, if_false, Dev.chan_setFld, hot, armed, and_self, if_true]
  rfl

theorem Dev.newTj_mt (d : Dev) (c : Nat) (tj : Int) : (d.newTj c tj).mt = d.mt := by
  unfold Dev.newTj
  dsimp only
  split
  · rfl
  · split
    · exact Dev.chEvent_mt ..
    · rfl

theorem Dev.warnedTj_regs (d : Dev) (c : Nat) (tj : Int) :
    (d.warnedTj c tj).regs = ((d.setFld (R.CH_TJ_TJ c) (ofInt 16 tj)).setFlag (R.CH_STAT_OT_WARN c) true).regs := Dev.chEvent_regs ..

theorem Dev.warnedTj_regsBut (d : Dev) (c : Nat) (tj : Int) : RegsBut [R.CH_TJ c, R.CH_STAT c] d (d.warnedTj c tj) := by
  refine .of_regs ?_ (d.warnedTj_regs c tj)
  exact .setFlag (.setFld (.refl d) (.head _)) (.tail _ (.head _))

/-- The 16 bits of a temperature are the operand's. -/
theorem ofInt_toInt (v : BitVec 16) : ofInt 16 v.toInt = v.toNat := by
  have range := v.isLt
  unfold ofInt
  rw [BitVec.toInt_eq_toNat_cond]
  split <;> omega

theorem Dev.warnedTj_chan_same (d : Dev) (c : Nat) (tj : Int) : (d.warnedTj c tj).chan c = { d.chan c with otArm := false } := by
  simp [Dev.warnedTj]

theorem Dev.warnedTj_chan_other (d : Dev) {c k : Nat} (tj : Int) (other : k ≠ c) : (d.warnedTj c tj).chan k = d.chan k := by
  simp [Dev.warnedTj, Dev.chan_setChan_other _ _ other]

theorem Dev.warnedTj_fields (d : Dev) (c : Nat) (tj : BitVec 16) :
    (d.warnedTj c tj.toInt).fld (R.CH_TJ_TJ c) = tj.toNat ∧ (d.warnedTj c tj.toInt).flag (R.CH_STAT_OT_WARN c) = true := by
  have apart : (R.CH_TJ_TJ c).off ≠ (R.CH_STAT_OT_WARN c).off := by simp [R.CH_TJ_TJ, R.CH_TJ, R.CH_STAT_OT_WARN, R.CH_STAT]
  constructor
  · rw [Dev.fld_of_regs (d.warnedTj_regs c _), Dev.setFlag, Dev.fld_setFld_off _ _ _ _ apart,
      Dev.fld_setFld_same _ _ _ (by simp [R.CH_TJ_TJ]), ofInt_toInt]
    exact Nat.mod_eq_of_lt tj.isLt
  · rw [Dev.flag, Dev.fld_of_regs (d.warnedTj_regs c _)]
    exact Dev.flag_setFlag_bit _ true rfl (by simp [R.CH_STAT_OT_WARN])

/-! ### What a gate does not follow (07 R201, R216) -/

/-- Two devices alike in all that a gate follows: the channels differ in the arming of their temperature warnings at most. -/
structure SameDrive (d e : Dev) : Prop where
  setup : SameSetup d e
  chan : ∀ k, ∃ armed, e.chan k = { d.chan k with otArm := armed }
  safe : ∀ k, e.flag (R.CH_STAT_SAFE k) = d.flag (R.CH_STAT_SAFE k)
  now : e.now = d.now

namespace SameDrive
variable {d e : Dev} (h : SameDrive d e)
include h

theorem pwmRuns (k : Nat) : e.pwmRuns k = d.pwmRuns k := by
  obtain ⟨armed, chan⟩ := h.chan k
  exact h.setup.pwmRuns (by rw [chan])

theorem driveOn (k : Nat) : e.driveOn k = d.driveOn k := by
  obtain ⟨armed, chan⟩ := h.chan k
  simp only [Dev.driveOn, chan, h.setup.running, h.setup.ctx, h.pwmRuns, h.now]

theorem turnedOff (k : Nat) : e.turnedOff k = d.turnedOff k := by
  obtain ⟨armed, chan⟩ := h.chan k
  simp only [Dev.turnedOff, chan, h.setup.running, h.setup.ctx, h.setup.mode, h.pwmRuns, h.now]

theorem dead (k : Nat) (high : Bool) : e.dead k high = d.dead k high := by
  simp only [Dev.dead, h.turnedOff, h.setup.deadTime, h.now]

theorem side (k : Nat) : e.side k = d.side k := by
  obtain ⟨armed, chan⟩ := h.chan k
  obtain ⟨armed', leader⟩ := h.chan (d.leader k)
  have code : e.fld (R.CH_CFG_SAFE (d.leader k)) = d.fld (R.CH_CFG_SAFE (d.leader k)) :=
    congrArg (R.CH_CFG_SAFE (d.leader k)).ext (h.setup.cfg (d.leader k))
  simp only [Dev.side, h.setup.domOn, h.setup.stopActive, h.setup.leader, h.setup.vfBad, h.safe, h.setup.safeDrives, code, h.setup.mode,
    h.setup.owner, h.setup.ctx, h.driveOn, chan, leader]

theorem driven (k : Nat) : e.driven k = d.driven k := by
  simp only [Dev.driven, Dev.gate, h.side, h.setup.leader, h.setup.mode, h.dead]

end SameDrive

/-- A temperature warning leaves every gate. -/
theorem Dev.warnedTj_sameDrive (d : Dev) (c : Nat) (tj : Int) : SameDrive d (d.warnedTj c tj) where
  setup := .of_regsBut (c := c) ((d.warnedTj_regsBut c tj).mono (by simp)) (Dev.chEvent_psq ..) (Dev.chEvent_pwr ..)
  chan k := by
    obtain rfl | other := Decidable.eq_or_ne k c
    · exact ⟨false, d.warnedTj_chan_same k tj⟩
    · exact ⟨(d.chan k).otArm, d.warnedTj_chan_other tj other⟩
  safe k := by
    have tj_apart : (R.CH_STAT_SAFE k).off ≠ (R.CH_TJ_TJ c).off := by
      simp only [R.CH_STAT_SAFE, R.CH_STAT, R.CH_TJ_TJ, R.CH_TJ, chBase]
      omega
    rw [Dev.flag, Dev.fld_of_regs (d.warnedTj_regs c tj), Dev.setFlag, Dev.fld_setFld_apart _ _ _ _ (by simp [R.CH_STAT_OT_WARN])
      (by simp [R.CH_STAT_OT_WARN, R.CH_STAT_SAFE]), Dev.fld_setFld_off _ _ _ _ tj_apart]
    rfl
  now := congrArg MtState.now (Dev.chEvent_mt ..)

theorem becomes_otWarn {d d' : Dev} {c : Fin 128} {tj : BitVec 16} (on : d.domOn (chDom c) = true) (takes : d.newTj c tj.toInt = d') :
    Becomes (.otWarn c tj) d d' :=
  becomes_of_onChan _ (fun s => (rfl : execOtWarn c tj s = _)) on takes

/-- A status bit of a channel belongs to no setup. -/
theorem Dev.chEvent_setup (d : Dev) {c : Nat} {f : Fld} (stat : f.off = R.CH_STAT c) : SameSetup d (d.chEvent c f) := by
  have only : RegsBut [f.off] d (d.chEvent c f) := .of_regs (.setFlag (.refl d) (.head _)) (d.chEvent_regs c f)
  exact .of_regsBut (c := c) (only.mono (by simp [stat])) (d.chEvent_psq c f) (d.chEvent_pwr c f)

theorem becomes_overTemperature {d : Dev} {c : Fin 128} {tj : BitVec 16} (on : d.domOn (chDom c) = true) (hot : 1750 ≤ tj.toInt) :
    Becomes (.overTemperature ⟨c, tj⟩) d
      ((Dev.feedFault ((((d.newTj c tj.toInt).chEvent c (R.CH_STAT_OT c))).protectOff
        (((d.newTj c tj.toInt).chEvent c (R.CH_STAT_OT c)).leader c) true) c).raiseFault Src.chOt (bankMask (c / 16))) := by
  refine becomes_of_onChan _ (fun s => (rfl : execOverTemperature ⟨c, tj⟩ s = _)) on ?_
  simp only [hot, if_true, (Dev.chEvent_setup _ (f := R.CH_STAT_OT c) rfl).leader]

/-! ### Retry (07 R217, R218) -/

/-- What follows the end of a retry wait: a count, and a turn-on where the channel is commanded on and not in its safe state. -/
def Dev.retryOver (d : Dev) (c : Nat) : Dev :=
  if d.flag (R.CH_STAT_SAFE c) then d.addFld (R.CH_STAT_RETRIES c) 1
  else if (d.group c).any fun k => d.flag (R.CH_STAT_CMD_ON k) then (d.addFld (R.CH_STAT_RETRIES c) 1).stageOn c d.now
  else d

theorem becomes_retry {d : Dev} {c : Fin 128} {tj : BitVec 16} {t : Nat} (on : d.domOn (chDom c) = true)
    (waiting : (d.chan c).retry = some t) (ended : t ≤ d.now) (cool : (d.chan c).otWait = true → tj.toInt < 1550) :
    Becomes (.retry c tj) d (((d.newTj c tj.toInt).endRetry c).retryOver c) := by
  have now : (d.newTj c tj.toInt).now = d.now := congrArg MtState.now (d.newTj_mt c _)
  have cooled : (d.chan c).otWait = false ∨ tj.toInt < 1550 := by
    cases heat : (d.chan c).otWait with
    | false => exact .inl rfl
    | true => exact .inr (cool heat)
  refine becomes_of_onChan _ (fun s => (rfl : execRetry c tj s = _)) on ?_
  simp only [waiting, now, ended, cooled, and_self, if_true]
  rfl

theorem becomes_retriesReset {d : Dev} {c : Fin 128} {t : Nat} (on : d.domOn (chDom c) = true) (since : (d.chan c).onSince = some t)
    (long : t + secTicks ≤ d.now) : Becomes (.retriesReset c) d (d.setFld (R.CH_STAT_RETRIES c) 0) := by
  refine becomes_of_onChan _ (fun s => (rfl : execRetriesReset c s = _)) on ?_
  simp only [since, long, if_true]

/-! ### Banks (07 R219) -/

theorem becomes_bankHardLimit {d : Dev} {b : Fin 8} {ma : Word} (on : d.domOn (chDom (16 * b)) = true) (hard : bankHard b ≤ ma.toNat) :
    Becomes (.bankHardLimit ⟨b, ma⟩) d
      (((d.forAll (((bankChans b).filter d.driven).map d.leader).dedup fun c d =>
        Dev.feedFault ((d.setOc c 3).protectOff c false) c).bankEvent b (R.CH_BANK_EVT_HARD_LIMIT b)).raiseFault Src.chOc
          (bankMask b)) :=
  becomes_of_onChan _ (fun s => (rfl : execBankHardLimit ⟨b, ma⟩ s = _)) on (if_pos hard)

/-- A bank whose average rises above its continuous limit. -/
theorem becomes_bankOc {d : Dev} {b : Fin 8} {i : Word} {mw : BitVec 16} (on : d.domOn (chDom (16 * b)) = true)
    (before : (d.reg (R.CH_BANK_IAVG b)).toNat ≤ bankLimit b) (above : bankLimit b < i.toNat) :
    Becomes (.bankOc b ⟨i, mw⟩) d
      ((((d.setReg (R.CH_BANK_IAVG b) i).setFld (R.CH_BANK_PWR_P b) mw.toNat).bankEvent b (R.CH_BANK_EVT_BANK_OC b)).setLine
        Src.chBankOc (bankMask b)) := by
  have was : d.bankOver b = false := decide_eq_false (Nat.not_lt.mpr before)
  have average : ((d.setReg (R.CH_BANK_IAVG b) i).setFld (R.CH_BANK_PWR_P b) mw.toNat).reg (R.CH_BANK_IAVG b) = i := by
    rw [Dev.reg_setFld_other _ _ _ (by simp [R.CH_BANK_IAVG, R.CH_BANK_PWR_P, R.CH_BANK_PWR]), Dev.reg_setReg_same]
  have exceeds : ((d.setReg (R.CH_BANK_IAVG b) i).setFld (R.CH_BANK_PWR_P b) mw.toNat).bankOver b = true := by
    rw [Dev.bankOver, average]
    exact decide_eq_true above
  refine becomes_of_onChan _ (fun s => (rfl : execBankOc b ⟨i, mw⟩ s = _)) on ?_
  simp only [was, exceeds, if_true, Bool.false_eq_true, if_false]

section
variable {d : Dev} {b : Fin 8} {vf : BitVec 16} {since : BitVec 64} (on : d.domOn (chDom (16 * b)) = true)
include on

theorem becomes_vfUv (low : vf.toNat < 5500) (new : (d.setFld (R.CH_BANK_VF_VF b) vf.toNat).flag (R.CH_BANK_STAT_VF_UV b) = false) :
    Becomes (.vfUv b vf) d
      (((((d.setFld (R.CH_BANK_VF_VF b) vf.toNat).setFlag (R.CH_BANK_STAT_VF_UV b) true).vfOff b).bankEvent b
        (R.CH_BANK_EVT_UV b)).setLine Src.chVf (bankMask b)) :=
  becomes_of_onChan _ (fun s => (rfl : execVfUv b vf s = _)) on (if_pos ⟨low, new⟩)

theorem becomes_vfUvRecover (high : 6000 < vf.toNat) (long : since.toNat + msTicks 1 ≤ d.now)
    (was : (d.setFld (R.CH_BANK_VF_VF b) vf.toNat).flag (R.CH_BANK_STAT_VF_UV b) = true) :
    Becomes (.vfUvRecover b ⟨vf, since⟩) d
      (((d.setFld (R.CH_BANK_VF_VF b) vf.toNat).setFlag (R.CH_BANK_STAT_VF_UV b) false).vfGood b) :=
  becomes_of_onChan _ (fun s => (rfl : execVfUvRecover b ⟨vf, since⟩ s = _)) on (if_pos ⟨high, long, was⟩)

theorem becomes_vfOv (high : 38000 < vf.toNat) (new : (d.setFld (R.CH_BANK_VF_VF b) vf.toNat).flag (R.CH_BANK_STAT_VF_OV b) = false) :
    Becomes (.vfOv b vf) d
      (((((d.setFld (R.CH_BANK_VF_VF b) vf.toNat).setFlag (R.CH_BANK_STAT_VF_OV b) true).vfOff b).bankEvent b
        (R.CH_BANK_EVT_OV b)).setLine Src.chVf (bankMask b)) :=
  becomes_of_onChan _ (fun s => (rfl : execVfOv b vf s = _)) on (if_pos ⟨high, new⟩)

theorem becomes_vfOvRecover (low : vf.toNat < 36500) (long : since.toNat + msTicks 1 ≤ d.now)
    (was : (d.setFld (R.CH_BANK_VF_VF b) vf.toNat).flag (R.CH_BANK_STAT_VF_OV b) = true) :
    Becomes (.vfOvRecover b ⟨vf, since⟩) d
      (((d.setFld (R.CH_BANK_VF_VF b) vf.toNat).setFlag (R.CH_BANK_STAT_VF_OV b) false).vfGood b) :=
  becomes_of_onChan _ (fun s => (rfl : execVfOvRecover b ⟨vf, since⟩ s = _)) on (if_pos ⟨low, long, was⟩)

end

end Sys2Proof.Machine

section
open Sys2Proof Sys2Proof.Machine

/-- Settles O29: the two limits of a switch's current by what OC_TH acts as, and each event at the case of its premises. A warning at
150 °C changes the channel's status and the arming of the warning, which no gate follows. -/
theorem protectionsComplete : Obligations.ProtectionsComplete := by
  refine ⟨fun d c ma _ => ⟨fun hard => Dev.ocCause_hard hard, fun below settled => ?limit⟩,
    fun d c ma high k on conducts trips => becomes_overCurrent on conducts trips,
    fun d c spans on out driven long => becomes_timeOverCurrent on out driven long, fun d c tj on hot armed => ?warning,
    fun d c tj on hot => ⟨_, _, rfl, becomes_overTemperature on hot, rfl⟩, fun d c tj t on waiting ended cool => ?retry,
    fun d c t on since long => becomes_retriesReset on since long, fun d b ma on hard => becomes_bankHardLimit on hard,
    fun d b i mw on before above => becomes_bankOc on before above,
    fun d b vf since on => ⟨becomes_vfUv on, becomes_vfUvRecover on, becomes_vfOv on, becomes_vfOvRecover on⟩⟩
  case limit =>
    rw [Dev.ocCause_below below, Dev.ocLimit_settled settled]
    rfl
  case warning =>
    obtain ⟨shown, warned⟩ := d.warnedTj_fields c tj
    exact ⟨_, becomes_otWarn on (Dev.newTj_warns hot armed), shown, congrArg Chan.otArm (d.warnedTj_chan_same c _), warned,
      (d.warnedTj_sameDrive c _).driven, d.warnedTj_regsBut c _⟩
  case retry =>
    have retry := becomes_retry on waiting ended cool
    have now : ((d.newTj c tj.toInt).endRetry c).now = d.now := congrArg MtState.now (d.newTj_mt c _)
    refine ⟨_, rfl, fun free commanded => ?_, fun safe => ?_⟩
    · rwa [Dev.retryOver, if_neg (ne_true_of_eq_false free), if_pos commanded, now] at retry
    · rwa [Dev.retryOver, if_pos safe] at retry

end

/-! PROOFS (07). The diagnoses and the configuration of the channels: each event at the case of its premises. -/

namespace Sys2Proof.Machine

/-! ### Periods and pulses (07 R205, R207, 09 R269) -/

section
variable {d : Dev} {c : Fin 128} {t : BitVec 64} (on : d.domOn (chDom c) = true) (starts : t.toNat = d.pwmStart c d.now)
  (new : (d.chan c).perAt < t.toNat)
include on starts new

/-- The first start of a PWM period of an output that is on. -/
theorem becomes_pwmPeriodStart_pwm (idle : d.running c = false) (out : isOutput (d.mode c) = true) (leads : d.leader c = c)
    (shaped : d.pwmRuns c = true) (stage : (d.chan c).on = true) (since : (d.chan c).pwmFrom ≤ t.toNat) :
    Becomes (.pwmPeriodStart c t) d (d.pwmPeriod c t.toNat) := by
  have takes : (isOutput (d.mode c) && decide (d.leader c = c) && d.pwmRuns c && (d.chan c).on &&
      decide ((d.chan c).pwmFrom ≤ t.toNat)) = true := by
    simp only [out, leads, shaped, stage, since, decide_true, Bool.and_self]
  refine becomes_of_onChan _ (fun s => (rfl : execPwmPeriodStart c t s = _)) on ((if_pos ⟨starts, new⟩).trans ?_)
  simp only [idle, takes, if_true, Bool.false_eq_true, if_false]

/-- The first start of a regulation period of a profile. -/
theorem becomes_pwmPeriodStart_profile (runs : d.running c = true) (plain : d.pwmEn c = false) :
    Becomes (.pwmPeriodStart c t) d ((d.setChan c { d.chan c with perAt := t.toNat, offEdge := none }).regPeriod c t.toNat) := by
  refine becomes_of_onChan _ (fun s => (rfl : execPwmPeriodStart c t s = _)) on
    ((if_pos ⟨starts, new⟩).trans ((if_pos runs).trans ?_))
  have unshaped : (d.setChan c { d.chan c with perAt := t.toNat, offEdge := none }).pwmEn c = false := plain
  simp only [unshaped, Bool.false_eq_true, if_false]

end

/-- The trailing edge of a pulse at t. -/
def Dev.pulseEnded (d : Dev) (c t op : Nat) : Dev :=
  ((((d.setChan c { d.chan c with pulse := none }).setFlag (R.CH_STAT_PULSE c) false).endRetry c).stageOff c t).endOp op t

theorem becomes_chPulseEnd {d : Dev} {c : Fin 128} {t op : Nat} (runs : (d.chan c).pulse = some (t, op)) (due : t ≤ d.now) :
    Becomes (.chPulseEnd c) d
      ((d.pulseEnded c t op).forAll ((d.pulseEnded c t op).group c) fun k d => d.setFlag (R.CH_STAT_CMD_ON k) false) := by
  intro nv q
  change execChPulseEnd c ⟨d, nv, q⟩ = _
  simp only [execChPulseEnd, onDev, runs, due, if_true]
  rfl

/-! ### Diagnosis (07 R222 to R225) -/

theorem becomes_offDiagnosis {d : Dev} {c : Fin 128} {mv vf : BitVec 16} (on : d.domOn (chDom c) = true)
    (takes : (d.setFld (R.CH_BANK_VF_VF (c / 16)) vf.toNat).offDiagnosable c = true) :
    Becomes (.offDiagnosis c mv vf) d ((d.setFld (R.CH_BANK_VF_VF (c / 16)) vf.toNat).offReading c mv.toNat vf.toNat) :=
  becomes_of_onChan _ (fun s => (rfl : execOffDiagnosis c mv vf s = _)) on (if_pos takes)

theorem becomes_openOn {d : Dev} {c : Fin 128} {ua : Word} (on : d.domOn (chDom c) = true) (isOpen : d.openNow c ua.toNat = true) :
    Becomes (.openOn c ua) d
      (((d.chEvent c (R.CH_STAT_OPEN_ON c)).raiseFault Src.chOpen (bankMask (c / 16))).fieldLampFault c false) :=
  becomes_of_onChan _ (fun s => (rfl : execOpenOn c ua s = _)) on (if_pos isOpen)

theorem becomes_xconFollow {d : Dev} {j k : Fin 128} {t : BitVec 64} {mv : BitVec 16} (on : d.domOn (chDom k) = true) (ne : j ≠ k)
    (en : d.flag (R.CH_DIAG_XCON_EN k) = true) (out : isOutput (d.mode j) = true) (off : d.driven k = false)
    (past : t.toNat + 80000 ≤ d.now) : Becomes (.xconFollow j ⟨k, t, mv⟩) d (d.followEdge j k t.toNat mv.toNat) := by
  refine becomes_of_onChan _ (fun s => (rfl : execXconFollow j ⟨k, t, mv⟩ s = _)) on (if_pos ?_)
  simp [ne, en, out, off, past]

/-! ### Limiters and dies (07 R229, R232, R238) -/

theorem becomes_elimFault_disagrees {d : Dev} {c : Fin 128} (on : d.domOn (chDom c) = true) (elim : d.flag (R.CH_CFG_ELIM c) = true)
    (new : (d.chan c).elimBad = false) :
    Becomes (.elimFault c false) d ((d.setChan c { d.chan c with elimBad := true }).elimTrip c) := by
  refine becomes_of_onChan _ (fun s => (rfl : execElimFault c false s = _)) on ((if_pos elim).trans ?_)
  simp only [new, Bool.not_false, Bool.false_eq_true, if_false]

theorem becomes_elimFault_agrees {d : Dev} {c : Fin 128} (on : d.domOn (chDom c) = true) (elim : d.flag (R.CH_CFG_ELIM c) = true) :
    Becomes (.elimFault c true) d
      ((d.setChan c { d.chan c with elimBad := false }).settleLine Src.chElim
        (d.setChan c { d.chan c with elimBad := false }).elimBadAny) :=
  becomes_of_onChan _ (fun s => (rfl : execElimFault c true s = _)) on (if_pos elim)

theorem becomes_wdTrip {d : Dev} {k : Fin 2} {last : BitVec 64} (on : d.domOn (chDom (64 * k)) = true) (armed : (d.die k).armed = true)
    (silent : last.toNat + msTicks (max 1 (min 100 (d.fld (R.CH_DIE_WD_TIMEOUT k)))) ≤ d.now) :
    Becomes (.wdTrip ⟨k, last⟩) d (d.wdTrip k) := by
  refine becomes_of_onChan _ (fun s => (rfl : execWdTrip ⟨k, last⟩ s = _)) on (if_pos ?_)
  rw [armed, Bool.true_and]
  exact decide_eq_true silent

/-! ### Configuration (07 R235, R236) -/

/-- A descriptor whose own fields pass is taken with its records, read from the host. -/
theorem becomes_channelConfiguration {d : Dev} {a : AccDesc} {recs : List (BitVec 512)}
    (next : (d.nextDesc fun w => descType w == 0xA0) = some a) (master : d.canMaster = true)
    (whole : recs.length = cfgCount a.word) : Becomes (.channelConfiguration recs) d ((d.takeDesc a).takeConfig a recs) := by
  intro nv q
  change execChannelConfiguration recs ⟨d, nv, q⟩ = _
  simp only [execChannelConfiguration, onDev, next, master, whole, decide_true, Bool.and_self, Bool.not_true, Bool.and_false,
    Bool.false_eq_true, if_false]

theorem becomes_configApply {d : Dev} {p : CfgPend} (due : (d.ch.cfgs.find? fun p => decide (p.apply ≤ d.now)) = some p) :
    Becomes .configApply d (d.applyConfig p) := by
  intro nv q
  change execConfigApply ⟨d, nv, q⟩ = _
  simp only [execConfigApply, onDev, due]

end Sys2Proof.Machine

section
open Sys2Proof Sys2Proof.Machine

/-- Settles O30: each event at the case of its premises; a frame error, a failed configuration word and the return of REF100 need none
beyond the die's domain. -/
theorem channelEventsComplete : Obligations.ChannelEventsComplete :=
  ⟨fun _ _ _ on starts new idle out leads shaped stage since =>
      becomes_pwmPeriodStart_pwm on starts new idle out leads shaped stage since,
    fun _ _ _ on starts new runs plain => becomes_pwmPeriodStart_profile on starts new runs plain,
    fun _ _ _ _ runs due => ⟨_, rfl, becomes_chPulseEnd runs due⟩, fun _ _ _ _ on takes => becomes_offDiagnosis on takes,
    fun _ _ _ on isOpen => becomes_openOn on isOpen, fun _ _ _ _ _ on ne en out off past => becomes_xconFollow on ne en out off past,
    fun _ _ on elim => ⟨becomes_elimFault_disagrees on elim, becomes_elimFault_agrees on elim⟩,
    fun _ _ _ on armed silent => becomes_wdTrip on armed silent,
    fun _ k on => becomes_of_onChan _ (fun s => (rfl : execLinkFrameError k s = _)) on rfl,
    fun _ c on => becomes_of_onChan _ (fun s => (rfl : execConfigInteg c s = _)) on rfl,
    fun _ _ _ next _ master whole => becomes_channelConfiguration next master whole, fun _ _ due => becomes_configApply due,
    fun _ => becomes_of_onDev _ (fun s => (rfl : execRef100Return s = _)) rfl⟩

end

/-! PROOFS (08). The commands of the field channels as inputs: each at the case of its premises. -/

namespace Sys2Proof.Machine

section
variable {d : Dev} {c : Fin 128} (on : d.domOn (chDom c) = true)
include on

/-! ### Edges and their FIFO (08 R244 to R248) -/

/-- A run of the comparator's output against the accepted level that has held for the filter length. -/
theorem becomes_inputEdge {t : BitVec 64} {mv : Word} (level : hasLevel (d.mode c) = true)
    (new : d.compare c mv.toInt ≠ (d.chan c).raw) (held : d.runHeld c t.toNat = true) :
    Becomes (.inputEdge c t mv) d (d.inputEdge c t.toNat (d.compare c mv.toInt)) := by
  have accepts : (hasLevel (d.mode c) && (d.compare c mv.toInt != (d.chan c).raw) && d.runHeld c t.toNat) = true := by
    rw [level, bne_iff_ne.mpr new, held]
    rfl
  exact becomes_of_onChan _ (fun s => (rfl : execInputEdge c t mv s = _)) on (if_pos accepts)

theorem becomes_chInPop {v : Word} (pop : v.getLsbD 0 = true) :
    Becomes (.chInPop c v) d ((d.setChan c { d.chan c with fifo := (d.chan c).fifo.tail }).showFifo c) :=
  becomes_of_chanAccess (o := 0xE0) (by decide) (fun s => (rfl : execChInPop c v s = _)) on (if_pos pop)

/-! ### Analogue windows and the burden (08 R252, R253) -/

/-- The first end of an averaging window that has come since the last one taken. -/
theorem becomes_ainWindowEnd {m : Word} (input : isInput (d.mode c) = true)
    (new : (d.chan c).ainAt < d.now / d.ainTicks c * d.ainTicks c) : Becomes (.ainWindowEnd c m) d (d.ainWindow c m) := by
  refine becomes_of_onChan _ (fun s => (rfl : execAinWindowEnd c m s = _)) on (if_pos ?_)
  rw [input, Bool.true_and]
  exact decide_eq_true new

/-- A current above 25 mA that the burden bears. -/
theorem becomes_ainOvr_borne {ua : Word} (loop : d.mode c = 9) (large : 25000 < ua.toInt) (borne : ua.toInt ≤ 50000) :
    Becomes (.ainOvr c ua) d ((d.chEvent c (R.CH_IN_STAT_AIN_OVR c)).raiseFault Src.chAinOvr (bankMask (c / 16))) :=
  becomes_of_onChan _ (fun s => (rfl : execAinOvr c ua s = _)) on ((if_pos ⟨loop, large⟩).trans (if_neg (not_lt.mpr borne)))

/-- A current above 50 mA opens the burden for 100 ms. -/
theorem becomes_ainOvr_opens {ua : Word} {d1 : Dev}
    (event : d1 = (d.chEvent c (R.CH_IN_STAT_AIN_OVR c)).raiseFault Src.chAinOvr (bankMask (c / 16)))
    (loop : d.mode c = 9) (above : 50000 < ua.toInt) :
    Becomes (.ainOvr c ua) d
      ((d1.setChan c { d1.chan c with burden := some (d1.now + msTicks 100) }).setReg (R.CH_IN_VAL c) 0) := by
  subst event
  have large : 25000 < ua.toInt := lt_trans (by decide) above
  exact becomes_of_onChan _ (fun s => (rfl : execAinOvr c ua s = _)) on ((if_pos ⟨loop, large⟩).trans (if_pos above))

theorem becomes_burdenClose {t : Nat} (isOpen : (d.chan c).burden = some t) (due : t ≤ d.now) :
    Becomes (.burdenClose c) d (d.setChan c { d.chan c with burden := none }) := by
  refine becomes_of_onChan _ (fun s => (rfl : execBurdenClose c s = _)) on ?_
  simp only [isOpen, due, if_true]

/-! ### Wire break (08 R254) -/

/-- A mean below WB_LIM since t, for WB_T. -/
theorem becomes_wireBreak {t : Nat} (low : (d.chan c).wbLow = some t) (input : isInput (d.mode c) = true)
    (en : d.flag (R.CH_IN_CFG_WB_EN c) = true) (new : d.flag (R.CH_IN_STAT_WB_NOW c) = false) (long : t + d.wbTicks c ≤ d.now) :
    Becomes (.wireBreak c) d
      ((((d.setFlag (R.CH_IN_STAT_WB_NOW c) true).showLevel c).chEvent c (R.CH_IN_STAT_WIRE_BREAK c)).setLine Src.chWire
        (bankMask (c / 16))) := by
  refine becomes_of_onChan _ (fun s => (rfl : execWireBreak c s = _)) on ?_
  simp only [low, input, en, new, long, Bool.not_false, decide_true, Bool.and_self, if_true]

/-- A mean at or above WB_LIM since t, for WB_T, at a wire that was broken. -/
theorem becomes_wbClear {t : Nat} (high : (d.chan c).wbHigh = some t) (broken : d.flag (R.CH_IN_STAT_WB_NOW c) = true)
    (long : t + d.wbTicks c ≤ d.now) : Becomes (.wbClear c) d ((d.wireWhole c).showLevel c) := by
  refine becomes_of_onChan _ (fun s => (rfl : execWbClear c s = _)) on ?_
  simp only [high, broken, long, decide_true, Bool.and_self, if_true]

/-! ### Tag windows (08 R255, R256) -/

section
variable (input : isInput (d.mode c) = true) (en : d.flag (R.CH_IN_CFG_TAG_EN c) = true)
include input en

/-- In time mode: the multiple of TAG_PERIOD that has come. -/
theorem becomes_tagWindowEnd_time (time : d.flag (R.CH_IN_CFG_TAG_MODE c) = false) (new : (d.chan c).tag.fin < d.tagDue c) :
    Becomes (.tagWindowEnd c) d (d.closeTag c (d.tagDue c)) := by
  refine becomes_of_onChan _ (fun s => (rfl : execTagWindowEnd c s = _)) on ?_
  simp only [input, en, time, new, Bool.and_self, Bool.false_eq_true, if_true, if_false]

/-- In distance mode: the first track point past a multiple of TAG_PERIOD. -/
theorem becomes_tagWindowEnd_distance {t : Nat} (distance : d.flag (R.CH_IN_CFG_TAG_MODE c) = true)
    (passed : firstPass (d.tagWay c) (d.chan c).tag.fin d.pose.hist = some t) :
    Becomes (.tagWindowEnd c) d (d.closeTag c t) := by
  refine becomes_of_onChan _ (fun s => (rfl : execTagWindowEnd c s = _)) on ?_
  simp only [input, en, distance, passed, Bool.and_self, if_true]

end

/-- The record of the oldest closed window, the filter length and 2 µs after its end. -/
theorem becomes_tagRecord {w : TagWin} {l : List TagWin} (closed : (d.chan c).tags = w :: l)
    (due : w.fin + d.filtTicks c + 8000 ≤ d.now) :
    Becomes (.tagRecord c) d ((d.setChan c { d.chan c with tags := l }).writeTag c w) := by
  refine becomes_of_onChan _ (fun s => (rfl : execTagRecord c s = _)) on ?_
  simp only [closed, due, if_true]

end

end Sys2Proof.Machine

section
open Sys2Proof Sys2Proof.Machine

/-- Settles O31: each command at the case of its premises; above 50 mA the over-range opens the burden too. -/
theorem inputCommandsComplete : Obligations.InputCommandsComplete :=
  ⟨fun _ _ _ _ on level new held => becomes_inputEdge on level new held, fun _ _ _ on pop => becomes_chInPop on pop,
    fun _ _ _ on input new => becomes_ainWindowEnd on input new,
    fun _ _ _ on loop large => ⟨_, rfl, becomes_ainOvr_borne on loop large, becomes_ainOvr_opens on rfl loop⟩,
    fun _ _ _ on isOpen due => becomes_burdenClose on isOpen due,
    fun _ _ _ on low input en new long => becomes_wireBreak on low input en new long,
    fun _ _ _ on high broken long => becomes_wbClear on high broken long,
    fun _ _ on input en time new => becomes_tagWindowEnd_time on input en time new,
    fun _ _ _ on input en distance passed => becomes_tagWindowEnd_distance on input en distance passed,
    fun _ _ _ _ on closed due => becomes_tagRecord on closed due⟩

end

/-! PROOFS (09). The microcode operations of the valve drive: what a word that stands at its OP does with its context. -/

namespace Sys2Proof.Machine

/-! ### The word at which a profile stands (09 R267, R284) -/

/-- A profile at a word of an OP, without a detection, executes the word. -/
theorem Dev.psqExec_atWord {d : Dev} {c op : Nat} (f : Ctx → Word → Dev) (stands : d.atWord c op) :
    d.psqExec c op false f = f (d.ctx c) (d.ctxWord c) := by
  obtain ⟨on, runs, free, word, reached⟩ := stands
  have executes : (d.domOn 6 && d.running c && (d.ctx c).stall.isNone && decide (psqOp (d.ctxWord c) = op) &&
      decide ((d.ctx c).cur ≤ d.now)) = true := by
    simp only [on, runs, free, word, reached, Option.isNone_none, decide_true, Bool.and_self]
  exact if_pos executes

/-- A command that executes the word of an OP becomes the word's effect. -/
theorem becomes_of_atWord {i : Instr} {d d' : Dev} {c op : Nat} (f : Dev → Ctx → Word → Dev)
    (hi : ∀ s, exec i s = onDev s fun d => d.psqExec c op false (f d)) (stands : d.atWord c op)
    (h : f d (d.ctx c) (d.ctxWord c) = d') : Becomes i d d' :=
  becomes_of_onDev _ hi ((Dev.psqExec_atWord _ stands).trans h)

/-! ### Timed operations (09 R266, R267) -/

theorem Dev.phaseOver_of_le {d : Dev} {x : Ctx} {us : Nat} (ended : x.cur + usTicks us ≤ d.now) : d.phaseOver x us = true :=
  decide_eq_true ended

theorem Dev.endTimed_over {d : Dev} {x : Ctx} {us : Nat} (c : Nat) (ended : x.cur + usTicks us ≤ d.now) :
    d.endTimed c x us = d.goNext c (x.cur + usTicks us) := if_pos (Dev.phaseOver_of_le ended)

section
variable {d : Dev} {c : Fin 128} {ma : Word}

/-- A BOOST whose current has reached the target. -/
theorem becomes_psqBoost_reached (stands : d.atWord c 1) (reached : 10 * (d.ctxTarget c : Int) ≤ ma.toInt) :
    Becomes (.psqBoost c ma false) d (d.goNext c d.grid10) :=
  becomes_of_atWord _ (fun s => (rfl : execPsqBoost c ma false s = _)) stands (if_pos reached)

/-- A BOOST that has lasted its time with its current below the target. -/
theorem becomes_psqBoost_timeout (stands : d.atWord c 1) (below : ma.toInt < 10 * (d.ctxTarget c : Int))
    (ended : (d.ctx c).cur + usTicks (if psqT (d.ctxWord c) = 0 then 65535 else psqT (d.ctxWord c)) ≤ d.now) :
    Becomes (.psqBoost c ma false) d
      ((d.ctxEvent c (R.PSQ_CH_STAT_BOOST_TO c)).goNext c
        ((d.ctx c).cur + usTicks (if psqT (d.ctxWord c) = 0 then 65535 else psqT (d.ctxWord c)))) :=
  becomes_of_atWord _ (fun s => (rfl : execPsqBoost c ma false s = _)) stands
    ((if_neg (not_le.mpr below)).trans (if_pos (Dev.phaseOver_of_le ended)))

/-- A HOLD with a time, which has passed. -/
theorem becomes_psqHold_over (stands : d.atWord c 3) (timed : psqT (d.ctxWord c) ≠ 0)
    (ended : (d.ctx c).cur + usTicks (psqT (d.ctxWord c)) ≤ d.now) :
    Becomes (.psqHold c false) d (d.goNext c ((d.ctx c).cur + usTicks (psqT (d.ctxWord c)))) :=
  becomes_of_atWord _ (fun s => (rfl : execPsqHold c false s = _)) stands ((if_neg timed).trans (Dev.endTimed_over c ended))

/-- A HOLD without a time goes on. -/
theorem becomes_psqHold_stays (stands : d.atWord c 3) (untimed : psqT (d.ctxWord c) = 0) : Becomes (.psqHold c false) d d :=
  becomes_of_atWord _ (fun s => (rfl : execPsqHold c false s = _)) stands (if_pos untimed)

/-- A RAMP that has lasted its time ends at its own target. -/
theorem becomes_psqRamp_over (stands : d.atWord c 4) (ended : (d.ctx c).cur + usTicks (psqT (d.ctxWord c)) ≤ d.now) :
    Becomes (.psqRamp c false) d
      ((d.setCtx c { d.ctx c with tgt := psqI (d.ctxWord c) }).goNext c ((d.ctx c).cur + usTicks (psqT (d.ctxWord c)))) :=
  becomes_of_atWord _ (fun s => (rfl : execPsqRamp c false s = _)) stands (if_pos (Dev.phaseOver_of_le ended))

/-- A QUENCH whose current has fallen below its threshold. -/
theorem becomes_psqQuench_fallen (stands : d.atWord c 6) (fallen : ma.toInt.natAbs < 10 * psqI (d.ctxWord c)) :
    Becomes (.psqQuench c ma false) d (d.goNext c d.grid10) :=
  becomes_of_atWord _ (fun s => (rfl : execPsqQuench c ma false s = _)) stands (if_pos fallen)

/-- A QUENCH that has lasted its time with its current at or above its threshold. -/
theorem becomes_psqQuench_timeout (stands : d.atWord c 6) (above : 10 * psqI (d.ctxWord c) ≤ ma.toInt.natAbs)
    (ended : (d.ctx c).cur + usTicks (bitsOf (d.ctxWord c) 0 15) ≤ d.now) :
    Becomes (.psqQuench c ma false) d
      ((d.ctxEvent c (R.PSQ_CH_STAT_QUENCH_TO c)).goNext c ((d.ctx c).cur + usTicks (bitsOf (d.ctxWord c) 0 15))) :=
  becomes_of_atWord _ (fun s => (rfl : execPsqQuench c ma false s = _)) stands
    ((if_neg (not_lt.mpr above)).trans (if_pos (Dev.phaseOver_of_le ended)))

/-- A WKINK with a kink that is known before its time has passed, and by now (09 R274, R275). -/
theorem becomes_psqWkink_found {l : List KinkSample} {tmin conf : Nat} (stands : d.atWord c 0xA)
    (found : kink (d.ctx c) l = some (tmin, conf))
    (inTime : conf + 4800 ≤ (d.ctx c).cur + usTicks (if psqT (d.ctxWord c) = 0 then 65535 else psqT (d.ctxWord c)))
    (known : conf + 4800 ≤ d.now) : Becomes (.psqWkink c l false) d ((d.recordClose c tmin).goNext c d.grid10) := by
  refine becomes_of_atWord _ (fun s => (rfl : execPsqWkink c l false s = _)) stands ?_
  simp only [found, Option.filter_some, inTime, known, decide_true, if_true]

end

end Sys2Proof.Machine

section
open Sys2Proof Sys2Proof.Machine

/-- Settles O32: each word at its own effect. A timed operation needs its end or its time-out; an untimed one has no premise beyond
its word. -/
theorem microcodeCompletes : Obligations.MicrocodeCompletes :=
  ⟨fun _ c stands => becomes_of_atWord _ (fun s => (rfl : execPsqEnd c false s = _)) stands rfl,
    fun _ _ _ stands reached => becomes_psqBoost_reached stands reached,
    fun _ _ _ stands below ended => becomes_psqBoost_timeout stands below ended,
    fun _ c stands ended =>
      becomes_of_atWord _ (fun s => (rfl : execPsqPeak c false s = _)) stands (Dev.endTimed_over c ended),
    fun _ _ stands timed ended => becomes_psqHold_over stands timed ended,
    fun _ _ stands untimed => becomes_psqHold_stays stands untimed,
    fun _ _ stands ended => becomes_psqRamp_over stands ended,
    fun _ c stands => becomes_of_atWord _ (fun s => (rfl : execPsqDither c false s = _)) stands rfl,
    fun _ _ _ stands fallen => becomes_psqQuench_fallen stands fallen,
    fun _ _ _ stands above ended => becomes_psqQuench_timeout stands above ended,
    fun _ c stands => becomes_of_atWord _ (fun s => (rfl : execPsqDecay c false s = _)) stands rfl,
    fun _ c stands => becomes_of_atWord _ (fun s => (rfl : execPsqPeriod c false s = _)) stands rfl,
    fun _ c stands ended =>
      becomes_of_atWord _ (fun s => (rfl : execPsqWait c false s = _)) stands (Dev.endTimed_over c ended),
    fun _ _ _ _ _ stands found inTime known => becomes_psqWkink_found stands found inTime known,
    fun _ c stands => becomes_of_atWord _ (fun s => (rfl : execPsqKset c false s = _)) stands rfl,
    fun _ c stands => becomes_of_atWord _ (fun s => (rfl : execPsqLdc c false s = _)) stands rfl,
    fun _ c stands => becomes_of_atWord _ (fun s => (rfl : execPsqDjnz c false s = _)) stands rfl,
    fun _ c stands => becomes_of_atWord _ (fun s => (rfl : execPsqJmp c false s = _)) stands rfl,
    fun _ c stands => becomes_of_atWord _ (fun s => (rfl : execPsqMark c false s = _)) stands rfl⟩

end

/-! PROOFS (09). The other commands of the valve drive: each at the case of its premises. -/

namespace Sys2Proof.Machine

/-! ### The window of the valve drive's registers (01 R23) -/

/-- A command that writes a register of the valve drive has its effect while PD6 is on. -/
theorem becomes_of_psqAccess {i : Instr} {d d' : Dev} (off : Nat) (f : Dev → Dev)
    (hi : ∀ s, exec i s = onDev s fun d => d.access off f) (window : off / 0x10000 = 7) (on : d.domOn 6 = true) (h : f d = d') :
    Becomes i d d' := by
  have dom : domOf off = 6 := by simp only [domOf, window]
  exact becomes_of_onDev _ hi ((d.access_on off f (dom ▸ on)).trans h)

theorem psqBankCmd_window (b : Fin 8) : R.PSQ_BANK_CMD b / 0x10000 = 7 := by unfold R.PSQ_BANK_CMD; omega

theorem psqGrpCfg_window (b : Fin 8) (g : Fin 4) : R.PSQ_GRP_CFG b g / 0x10000 = 7 := by unfold R.PSQ_GRP_CFG; omega

/-! ### The coil model (09 R276, R277) -/

/-- The device with the coil model of a channel up to date, its estimate not yet moved. -/
def Dev.coilTaken (d : Dev) (c : Nat) : Dev := d.setCtx c { d.ctx c with coilAt := d.now / msTicks 1 * msTicks 1 }

section
variable {d : Dev} {c : Fin 128} {i2 : BitVec 64} {x : CoilMean} (on : d.domOn 6 = true)
  (new : (d.ctx c).coilAt < d.now / msTicks 1 * msTicks 1) (unmeasured : d.coilRm c x.mv.toNat x.ma.toNat = none)
include on new unmeasured

/-- A coil whose R20 is 0 is not modelled. -/
theorem becomes_coilModelUpdate_unmodelled (absent : d.fld (R.PSQ_CH_COIL_R_R20 c) = 0) :
    Becomes (.coilModelUpdate c i2 x) d (d.coilTaken c) := by
  have unmodelled : (d.coilTaken c).fld (R.PSQ_CH_COIL_R_R20 c) = 0 := absent
  refine becomes_of_onDev _ (fun s => (rfl : execCoilModelUpdate c i2 x s = _)) ?_
  simp only [on, new, unmeasured, decide_true, Bool.and_self, if_true]
  exact if_pos unmodelled

/-- A coil that is modelled takes one step of its estimate. -/
theorem becomes_coilModelUpdate_modelled (present : d.fld (R.PSQ_CH_COIL_R_R20 c) ≠ 0) :
    Becomes (.coilModelUpdate c i2 x) d
      ((d.coilTaken c).setTw c (coilStep ((d.coilTaken c).twOf c) (d.coilAmb c) (d.fld (R.PSQ_CH_COIL_R_R20 c)) i2.toNat
        (d.fld (R.PSQ_CH_COIL_TH_RTH c)) (max 1 (d.fld (R.PSQ_CH_COIL_TH_TAU c))) none)) := by
  have modelled : (d.coilTaken c).fld (R.PSQ_CH_COIL_R_R20 c) ≠ 0 := present
  refine becomes_of_onDev _ (fun s => (rfl : execCoilModelUpdate c i2 x s = _)) ?_
  simp only [on, new, unmeasured, decide_true, Bool.and_self, if_true]
  exact if_neg modelled

end

/-! ### Held-back starts (09 R280) -/

section
variable {d : Dev} {c : Fin 128} {h : HeldStart} (held : d.heldOf c = some h)
include held

theorem becomes_heldStartRelease {t : Nat} (free : h.free = some t) (due : t ≤ d.now) (first : d.heldFirst h = true) :
    Becomes (.heldStartRelease c) d (d.beginHeld h t) := by
  refine becomes_of_onDev _ (fun s => (rfl : execHeldStartRelease c s = _)) ?_
  simp only [held, free, due, first, and_self, if_true]

theorem becomes_heldStartDrop (waits : h.free = none) (late : h.ent.final + usTicks h.ent.maxLate ≤ d.now + 8000) :
    Becomes (.heldStartDrop c) d (((d.unhold c).countDrop (c / 16)).dropStart h.ent (h.ent.maxLate * 100)) := by
  refine becomes_of_onDev _ (fun s => (rfl : execHeldStartDrop c s = _)) ?_
  simp only [held, waits, late, and_self, if_true]

end

/-! ### Loading (09 R282, 19 R539) -/

/-- GO while no load runs. -/
theorem becomes_go {d : Dev} {v : Word} (on : d.domOn 6 = true) (go : v.getLsbD 0 = true) (idle : d.flag R.PSQ_LD_STAT_BUSY = false) :
    Becomes (.go v) d (d.setFlag R.PSQ_LD_STAT_BUSY true) := by
  refine becomes_of_psqAccess _ _ (fun s => (rfl : execGo v s = _)) rfl on (if_pos ?_)
  rw [go, idle]
  rfl

/-- An image from the host that the policy takes is loaded as it was given. -/
theorem Dev.psqLoadEnd_host {d : Dev} {nv : Nv} {ws : List Word} (host : d.flag R.PSQ_LD_CFG_SRC = false)
    (taken : d.codeOk nv 6 (ws.flatMap fun w => leBytes 4 w.toNat) = true) : d.psqLoadEnd nv (some ws) = d.endPsqLoad (some ws) := by
  have image : d.psqImage nv (some ws) = some ws := if_neg (ne_true_of_eq_false host)
  simp only [Dev.psqLoadEnd, image, Option.any_some, taken, Bool.not_true, Bool.and_false, Bool.false_eq_true, if_false]

theorem exec_psqLoadEnd_host {d : Dev} {nv : Nv} (q : List Instr) {ws : List Word} (busy : d.flag R.PSQ_LD_STAT_BUSY = true)
    (whole : ws.length = 512) (host : d.flag R.PSQ_LD_CFG_SRC = false) (master : d.canMaster = true)
    (taken : d.codeOk nv 6 (ws.flatMap fun w => leBytes 4 w.toNat) = true) :
    exec (.psqLoadEnd (some ws)) ⟨d, nv, q⟩ = .next ⟨d.endPsqLoad (some ws), nv, q⟩ := by
  change execPsqLoadEnd (some ws) ⟨d, nv, q⟩ = _
  simp only [execPsqLoadEnd, onDev, busy, whole, master, decide_true, Bool.or_true, Bool.and_self, if_true,
    Dev.psqLoadEnd_host host taken]

/-! ### Swapping (09 R283) -/

/-- The swap point that a SWAP now sets: the first 10 ns at or after SWAP_MT and 100 µs from now. -/
def Dev.nextSwap (d : Dev) (b : Nat) : Nat :=
  (max (d.reg64 (R.PSQ_BANK_SWAP_MT_LO b) (R.PSQ_BANK_SWAP_MT_HI b)) (d.now + usTicks 100) + 39) / 40 * 40

theorem Dev.nextSwap_grid (d : Dev) (b : Nat) : d.nextSwap b % 40 = 0 := Nat.mul_mod_left _ _

theorem Dev.le_nextSwap (d : Dev) (b : Nat) :
    max (d.reg64 (R.PSQ_BANK_SWAP_MT_LO b) (R.PSQ_BANK_SWAP_MT_HI b)) (d.now + usTicks 100) ≤ d.nextSwap b := by
  unfold Dev.nextSwap
  omega

section
variable {d : Dev} {b : Fin 8} {v : Word} (on : d.domOn 6 = true)
include on

/-- SWAP without DROP_STG, at a staged image. -/
theorem becomes_psqSwap (staged : d.flag (R.PSQ_BANK_STAT_STG_VALID b) = true) (cmd : v &&& 3#32 = 1#32) :
    Becomes (.psqSwap b v) d (d.setPsqBank b { d.psqBank b with swapAt := some (d.nextSwap b) }) := by
  have swap : v.getLsbD 0 = true := getLsbD_of_masked cmd rfl
  have keep : v.getLsbD 1 = false := getLsbD_of_masked cmd rfl
  refine becomes_of_psqAccess _ _ (fun s => (rfl : execPsqSwap b v s = _)) (psqBankCmd_window b) on ?_
  simp only [Dev.writeBankCmd, swap, keep, staged, Bool.and_self, Bool.false_eq_true, if_true, if_false]
  rfl

/-- DROP_STG without SWAP. -/
theorem becomes_psqDropStg (cmd : v &&& 3#32 = 2#32) : Becomes (.psqDropStg b v) d (d.dropStaged09 b) := by
  have stay : v.getLsbD 0 = false := getLsbD_of_masked cmd rfl
  have drop : v.getLsbD 1 = true := getLsbD_of_masked cmd rfl
  refine becomes_of_psqAccess _ _ (fun s => (rfl : execPsqDropStg b v s = _)) (psqBankCmd_window b) on ?_
  simp only [Dev.writeBankCmd, stay, drop, Bool.false_and, Bool.false_eq_true, if_true, if_false]

end

theorem becomes_psqSwapPoint {d : Dev} {b : Fin 8} {t : Nat} (pending : (d.psqBank b).swapAt = some t) (due : t ≤ d.now) :
    Becomes (.psqSwapPoint b) d (d.swapImage b) := by
  refine becomes_of_onDev _ (fun s => (rfl : execPsqSwapPoint b s = _)) ?_
  simp only [pending, due, if_true]

/-! ### A refetched word (09 R284) -/

/-- A stalled word of an image from the host, read again without an error. -/
theorem becomes_microcodeRefetch_host {d : Dev} {c : Fin 128} {t : Nat} {w : Word} (stalled : (d.ctx c).stall = some (t, false))
    (master : d.canMaster = true) (host : sparseGet (fun _ => none) (d.psqBank (c / 16)).src (d.ctx c).half = none) :
    Becomes (.microcodeRefetch c ⟨.ok, w⟩) d
      ((((d.setPsqBank (c / 16) { d.psqBank (c / 16) with
          store := sparsePut (fun _ => 0) (d.psqBank (c / 16)).store (512 * (d.ctx c).half + (d.ctx c).pc) w }).count
        (R.PSQ_BANK_REFETCH_CNT (c / 16))).setCtx c { d.ctx c with stall := none, cur := (d.ctx c).cur + (d.now - t) }).beginPhase
          c) := by
  intro nv q
  have now (x : PsqBank) : (d.setPsqBank (c / 16) x).now = d.now := rfl
  change execMicrocodeRefetch c ⟨.ok, w⟩ ⟨d, nv, q⟩ = _
  simp only [execMicrocodeRefetch, onDev, stalled, master, host, now, Bool.or_true, and_self, if_true]

/-! ### Group registers (09 R278) -/

theorem becomes_grpCfgWrite {d : Dev} {b : Fin 8} {g : Fin 4} {lim : Bool} {v : Word} (on : d.domOn 6 = true)
    (accepted : d.grpRefused b g lim v = false) :
    Becomes (.grpCfgWrite b g lim v) d (d.writeByCode (if lim then R.PSQ_GRP_LIM b g else R.PSQ_GRP_CFG b g) v) :=
  becomes_of_psqAccess _ _ (fun s => (rfl : execGrpCfgWrite b g lim v s = _)) (psqGrpCfg_window b g) on
    (if_neg (ne_true_of_eq_false accepted))

end Sys2Proof.Machine

section
open Sys2Proof Sys2Proof.Machine

/-- Settles O33: each command at the case of its premises; the swap point lies on the 10 ns grid, at or after both of its bounds. -/
theorem valveDriveCommandsComplete : Obligations.ValveDriveCommandsComplete :=
  ⟨fun d c _ _ _ on new unmeasured =>
      ⟨d.coilTaken c, rfl, becomes_coilModelUpdate_unmodelled on new unmeasured, becomes_coilModelUpdate_modelled on new unmeasured⟩,
    fun _ _ _ _ held free due first => becomes_heldStartRelease held free due first,
    fun _ _ _ held waits late => becomes_heldStartDrop held waits late, fun _ _ on go idle => becomes_go on go idle,
    fun _ _ q _ busy whole host master taken => exec_psqLoadEnd_host q busy whole host master taken,
    fun d b _ on staged cmd => ⟨d.nextSwap b, becomes_psqSwap on staged cmd, d.nextSwap_grid b, le_of_max_le_right (d.le_nextSwap b),
      le_of_max_le_left (d.le_nextSwap b)⟩,
    fun _ _ _ pending due => becomes_psqSwapPoint pending due, fun _ _ _ on cmd => becomes_psqDropStg on cmd,
    fun _ _ _ _ stalled master host => becomes_microcodeRefetch_host stalled master host,
    fun _ _ _ _ _ on accepted => becomes_grpCfgWrite on accepted⟩

end

/-! PROOFS (10). The commands of the loop array: a sample, the writes of LOOP_Ss_CMD and LOOP_CTRL, and the end of HOLD. -/

namespace Sys2Proof.Machine

/-! ### A sample (10 R291, R292) -/

/-- A sample instant that the slot has not taken yet. -/
theorem becomes_loopSample {d : Dev} {n : Fin 160} {fbs : List (Word × Bool)} {det : LoopDet} {t : Nat} (on : d.domOn 6 = true)
    (loaded : d.mt.loaded = true) (last : d.lastSample n = some t) (new : ∀ k, (d.slot n).lastS = some k → k < t) :
    Becomes (.loopSample n fbs det) d (d.loopSample n t fbs det) := by
  refine becomes_of_onDev _ (fun s => (rfl : execLoopSample n fbs det s = _)) ?_
  simp only [on, loaded, last, Bool.and_self, if_true]
  cases taken : (d.slot n).lastS with
  | none => rfl
  | some k => exact if_pos (decide_eq_true (new k taken))

/-! ### The window of the loop array's registers (01 R23) -/

/-- A command that writes a register of the loop array has its effect while PD6 is on. -/
theorem becomes_of_loopAccess {i : Instr} {d d' : Dev} (off : Nat) (f : Dev → Dev)
    (hi : ∀ s, exec i s = onDev s fun d => d.access off f) (window : off / 0x10000 = 8) (on : d.domOn 6 = true) (h : f d = d') :
    Becomes i d d' := by
  have dom : domOf off = 6 := by simp only [domOf, window]
  exact becomes_of_onDev _ hi ((d.access_on off f (dom ▸ on)).trans h)

theorem loopCmd_window (n : Fin 160) : R.LOOP_S_CMD n / 0x10000 = 8 := by unfold R.LOOP_S_CMD; omega

/-! ### Writes of one command bit (10 R297, R302, R308) -/

section
variable {d : Dev} {n : Fin 160} {v : Word} (on : d.domOn 6 = true)
include on

/-- CLOSE without OPEN and XFER. -/
theorem becomes_loopClose (cmd : v &&& 7#32 = 1#32) : Becomes (.loopClose n v) d (d.requestClose n) := by
  have close : v.getLsbD 0 = true := getLsbD_of_masked cmd rfl
  have noOpen : v.getLsbD 1 = false := getLsbD_of_masked cmd rfl
  have noXfer : v.getLsbD 2 = false := getLsbD_of_masked cmd rfl
  refine becomes_of_loopAccess _ _ (fun s => (rfl : execLoopClose n v s = _)) (loopCmd_window n) on ?_
  simp only [Dev.writeLoopCmd, close, noOpen, noXfer, Bool.false_and, Bool.false_eq_true, if_true, if_false]

/-- OPEN without CLOSE and XFER. -/
theorem becomes_loopOpen (cmd : v &&& 7#32 = 2#32) :
    Becomes (.loopOpen n v) d (d.setSlot n { d.slot n with cmds := (d.slot n).cmds ++ [.opening] }) := by
  have noClose : v.getLsbD 0 = false := getLsbD_of_masked cmd rfl
  have opens : v.getLsbD 1 = true := getLsbD_of_masked cmd rfl
  have noXfer : v.getLsbD 2 = false := getLsbD_of_masked cmd rfl
  refine becomes_of_loopAccess _ _ (fun s => (rfl : execLoopOpen n v s = _)) (loopCmd_window n) on ?_
  simp only [Dev.writeLoopCmd, noClose, opens, noXfer, Bool.false_and, Bool.false_eq_true, if_true, if_false]

/-- XFER without CLOSE and OPEN, of an outer slot. -/
theorem becomes_loopXfer (cmd : v &&& 7#32 = 4#32) (outer : 128 ≤ n.val) :
    Becomes (.loopXfer n v) d
      (d.setSlot n { d.slot n with cmds := (d.slot n).cmds ++ [.xfer (bitsOf v 4 2) (d.now + 8000)] }) := by
  have noClose : v.getLsbD 0 = false := getLsbD_of_masked cmd rfl
  have noOpen : v.getLsbD 1 = false := getLsbD_of_masked cmd rfl
  have xfer : v.getLsbD 2 = true := getLsbD_of_masked cmd rfl
  refine becomes_of_loopAccess _ _ (fun s => (rfl : execLoopXfer n v s = _)) (loopCmd_window n) on ?_
  simp only [Dev.writeLoopCmd, noClose, noOpen, xfer, outer, decide_true, Bool.and_self, Bool.false_eq_true, if_true, if_false]

theorem becomes_openAll (all : v.getLsbD 0 = true) :
    Becomes (.openAll v) d
      (d.forAll (List.range 160) fun s d => d.setSlot s { d.slot s with cmds := (d.slot s).cmds ++ [.opening] }) :=
  becomes_of_loopAccess _ _ (fun s => (rfl : execOpenAll v s = _)) rfl on (if_pos all)

end

/-! ### The end of HOLD (10 R305) -/

theorem becomes_loopHoldExpiry {d : Dev} {n : Fin 160} (hold : (d.slot n).st = 3) (ended : d.holdUntil n ≤ d.now) :
    Becomes (.loopHoldExpiry n) d (d.holdEnd n) :=
  becomes_of_onDev _ (fun s => (rfl : execLoopHoldExpiry n s = _)) (if_pos ⟨hold, ended⟩)

@[simp] theorem Dev.slot_setSlot_same (d : Dev) (s : Nat) (x : LoopSlot) : (d.setSlot s x).slot s = x := sparseGet_put_same ..

/-- A slot with no output to write is left alone. -/
theorem Dev.flushSlot_idle {d : Dev} {s : Nat} (idle : (d.slot s).next = none) (t : Nat) : d.flushSlot s t = d := by
  simp only [Dev.flushSlot, idle]

theorem Dev.holdEnd_st (d : Dev) (s : Nat) : ((d.holdEnd s).slot s).st = 4 := congrArg LoopSlot.st (slot_setSlot_same ..)

theorem Dev.holdEnd_why (d : Dev) (s : Nat) : ((d.holdEnd s).slot s).why = 1 := congrArg LoopSlot.why (slot_setSlot_same ..)

/-- Without a ramp, SAFE_U is the slot's next output, due at the end of HOLD. -/
theorem Dev.holdEnd_next {d : Dev} {s : Nat} (idle : (d.slot s).next = none) (noRamp : d.reg (R.LOOP_S_SRAMP s) = 0) :
    ((d.holdEnd s).slot s).next = some ((d.reg (R.LOOP_S_SAFE s)).toInt, d.holdUntil s) := by
  simp only [Dev.holdEnd, flushSlot_idle idle, slot_setSlot_same, noRamp, if_true, Dev.regInt]

end Sys2Proof.Machine

section
open Sys2Proof Sys2Proof.Machine

/-- Settles O34: each command at the case of its premises. The end of HOLD first writes the output due by then, which changes nothing
where none waits, and then puts the slot into SAFE. -/
theorem loopCommandsComplete : Obligations.LoopCommandsComplete :=
  ⟨fun _ _ _ _ _ on loaded last new => becomes_loopSample on loaded last new, fun _ _ _ on cmd => becomes_loopClose on cmd,
    fun _ _ _ on cmd => becomes_loopOpen on cmd, fun _ _ on all => becomes_openAll on all,
    fun _ _ _ on cmd outer => becomes_loopXfer on cmd outer,
    fun d n hold ended =>
      ⟨becomes_loopHoldExpiry hold ended, d.holdEnd_st n, d.holdEnd_why n, fun idle noRamp => Dev.holdEnd_next idle noRamp⟩⟩

end
/-! PROOFS (18). What a register read shows: of the secrets it shows only whether there is a root. -/

namespace Sys2Proof.Machine

section
variable (d : Dev) (keys tokens : Sparse (List Byte)) (root : BitVec 256) (off : Nat)

theorem Dev.viewTime_otherSecrets : (d.otherSecrets keys tokens root).viewTime off = d.viewTime off := rfl

theorem Dev.viewPose_otherSecrets : (d.otherSecrets keys tokens root).viewPose off = d.viewPose off := rfl

theorem Dev.viewField_otherSecrets : (d.otherSecrets keys tokens root).viewField off = d.viewField off := rfl

theorem Dev.viewEng_otherSecrets : (d.otherSecrets keys tokens root).viewEng off = d.viewEng off := rfl

theorem Dev.viewNet_otherSecrets : (d.otherSecrets keys tokens root).viewNet off = d.viewNet off := rfl

theorem Dev.viewPwr_otherSecrets : (d.otherSecrets keys tokens root).viewPwr off = d.viewPwr off := rfl

/-- Of the root KEY_STAT shows whether it is there. -/
theorem Dev.viewKey_otherSecrets (nv : Nv) : (d.otherSecrets keys tokens root).viewKey nv off = d.viewKey nv off := by
  have there : (d.otherSecrets keys tokens root).root.root.isSome = d.root.root.isSome := Option.isSome_map
  unfold Dev.viewKey
  rw [there]
  rfl

theorem Dev.busView_otherSecrets (nv : Nv) : (d.otherSecrets keys tokens root).busView nv off = d.busView nv off := by
  unfold Dev.busView
  simp only [Dev.viewTime_otherSecrets, Dev.viewPose_otherSecrets, Dev.viewField_otherSecrets, Dev.viewEng_otherSecrets,
    Dev.viewNet_otherSecrets, Dev.viewPwr_otherSecrets, Dev.viewKey_otherSecrets]

end

end Sys2Proof.Machine

section
open Sys2Proof Sys2Proof.Machine

/-- Settles O10: a read shows its block's view or the register's word, and no view follows the secrets. -/
theorem readsShowNoKeys : Obligations.ReadsShowNoKeys := by
  intro d nv off keys tokens root
  have dom : (d.otherSecrets keys tokens root).domOn (domOf off) = d.domOn (domOf off) := rfl
  have word : (d.otherSecrets keys tokens root).reg off = d.reg off := rfl
  unfold busRead
  rw [dom, word, Dev.busView_otherSecrets]
  split <;> rfl

end

/-! PROOFS (18, 19). The form of the non-volatile stores. Each function that writes them has one lemma: it keeps their form, and it
leaves the security count, which step 5 of the start alone moves. The commands follow by the form of their meaning. -/

namespace Sys2Proof.Machine

/-! ### Changes that keep the form -/

/-- A change of the stores that keeps their form and the security count. -/
structure Nv.Keeps (a b : Nv) : Prop where
  form : a.Inv → b.Inv
  count : b.svn = a.svn

@[refl] theorem Nv.Keeps.refl (a : Nv) : a.Keeps a := ⟨id, rfl⟩

theorem Nv.Keeps.trans {a b c : Nv} (h : a.Keeps b) (k : b.Keeps c) : a.Keeps c := ⟨k.form ∘ h.form, k.count.trans h.count⟩

/-- Whatever happens to the fuses that carry no table, and to the records of the key table, no area changes. -/
theorem Nv.keeps_of_fuses (nv : Nv) (s r k : Bool) (p : Option (BitVec 256)) (v : BitVec 128) (t : List KeyRec) (n : Nat) :
    nv.Keeps { nv with sealFuse := s, retireFuse := r, dbgKill := k, pkh := p, revoked := v, keyTab := t, keySeq := n } :=
  ⟨fun h => ⟨h.active, h.staging, h.calib, h.written, h.journal, h.half⟩, rfl⟩

theorem Nv.keeps_written (nv : Nv) (s : Nat) (a : BitVec 32) :
    nv.Keeps { nv with written := sparsePut (fun _ => none) nv.written s (some a) } :=
  ⟨fun h => { h with written := sparseWf_put _ _ _ _ h.written }, rfl⟩

theorem Nv.keeps_journal (nv : Nv) {j : Nat} (hj : j ≤ 4) : nv.Keeps { nv with journal := j } :=
  ⟨fun h => { h with journal := hj }, rfl⟩

/-- An append may first move the table to the other of its two halves. -/
theorem Nv.append_keeps (nv : Nv) (r : KeyRec) : nv.Keeps (nv.append r) := by
  unfold Nv.append
  split
  · exact ⟨fun h => { h with half := Nat.sub_le 1 nv.keyHalf }, rfl⟩
  · exact nv.keeps_of_fuses ..

/-! ### Flash areas -/

theorem flashWrite_wf (l : List Byte) :
    ∀ (a : Sparse Byte) (off : Nat), sparseWf flashDefault a = true → sparseWf flashDefault (flashWrite a off l) = true := by
  induction l with
  | nil => intro a off h; exact h
  | cons b t ih => intro a off h; exact ih _ _ (sparseWf_put _ _ _ _ h)

theorem eraseBelow_wf {a : Sparse Byte} (n : Nat) (h : sparseWf flashDefault a = true) :
    sparseWf flashDefault (eraseBelow a n) = true := by
  obtain ⟨rising, listed⟩ := (sparseWf_iff _ _).mp h
  exact (sparseWf_iff _ _).mpr ⟨rising.filter _, fun p hp => listed p (List.mem_of_mem_filter hp)⟩

theorem copySet_wf {nv : Nv} (h : sparseWf flashDefault nv.active = true) : sparseWf flashDefault (copySet nv) = true := by
  unfold copySet
  exact List.foldlRecOn _ _ (motive := fun a => sparseWf flashDefault a = true) (flashWrite_wf _ _ _ (eraseBelow_wf _ h))
    fun a ha p _ => flashWrite_wf _ _ _ ha

theorem Nv.keeps_staging (nv : Nv) (off : Nat) (l : List Byte) :
    nv.Keeps { nv with staging := flashWrite nv.staging off l } :=
  ⟨fun h => { h with staging := flashWrite_wf _ _ _ h.staging }, rfl⟩

/-- The active area is replaced by one in form, the journal by one of its codes. -/
theorem Nv.keeps_active (nv : Nv) {a : Sparse Byte} {j : Nat} (hj : j ≤ 4)
    (ha : sparseWf flashDefault nv.active = true → sparseWf flashDefault a = true) :
    nv.Keeps { nv with journal := j, active := a } :=
  ⟨fun h => { h with active := ha h.active, journal := hj }, rfl⟩

/-! ### Key operations (18) -/

theorem Dev.appendRec_keeps (d : Dev) (nv : Nv) (r : KeyRec) : nv.Keeps (d.appendRec nv r).2 := by
  unfold Dev.appendRec
  split
  · exact nv.append_keeps r
  · rfl

theorem Dev.writeSlot_keeps (d : Dev) (nv : Nv) (s kind usage origin : Nat) (parent : Option Nat) (key : List Byte)
    (src : Option KeyRec) : nv.Keeps (d.writeSlot nv s kind usage origin parent key src).2 := by
  unfold Dev.writeSlot
  dsimp only
  split
  · exact nv.keeps_written ..
  · rfl

theorem writeClear_keeps (data : List Byte) (a : AccDesc) (d : Dev) (nv : Nv) : nv.Keeps (writeClear data a d nv).2 := by
  unfold writeClear
  split
  · rfl
  · split
    · rfl
    · exact d.writeSlot_keeps nv (keySlot a.word) _ _ 0 none (data.drop 8) none

theorem fillSlot_keeps (type : Nat) (data : List Byte) (kind usage : Nat) (key : List Byte) (a : AccDesc) (d : Dev) (nv : Nv) :
    nv.Keeps (fillSlot type data kind usage key a d nv).2 := by
  unfold fillSlot
  dsimp only
  split
  · rfl
  · exact (d.writeSlot_keeps nv ..).trans (Dev.appendRec_keeps ..)

theorem deriveKey_keeps (data : List Byte) (a : AccDesc) (d : Dev) (nv : Nv) : nv.Keeps (deriveKey data a d nv).2 := by
  unfold deriveKey
  split
  · rfl
  · split
    · rfl
    · exact fillSlot_keeps ..

theorem unwrapKey_keeps (data : List Byte) (a : AccDesc) (d : Dev) (nv : Nv) : nv.Keeps (unwrapKey data a d nv).2 := by
  unfold unwrapKey
  split
  · rfl
  · split
    · rfl
    · split
      · rfl
      · exact fillSlot_keeps ..

theorem revokeKey_keeps (a : AccDesc) (d : Dev) (nv : Nv) : nv.Keeps (revokeKey a d nv).2 := by
  have fuse : nv.Keeps (if nv.life = 1 then { nv with revoked := nv.revoked ||| BitVec.ofNat 128 (2 ^ keySlot a.word) } else nv) := by
    split
    · exact nv.keeps_of_fuses ..
    · rfl
  unfold revokeKey
  dsimp only
  generalize (if nv.life = 1 then _ else nv) = n at fuse ⊢
  split
  · exact fuse.trans (Dev.appendRec_keeps ..)
  · exact fuse

theorem enrolToken_keeps (data : List Byte) (a : AccDesc) (d : Dev) (nv : Nv) : nv.Keeps (enrolToken data a d nv).2 := by
  unfold enrolToken
  split
  · rfl
  · exact Dev.appendRec_keeps ..

/-! ### Staging (19) -/

theorem Dev.openSession_keeps (d : Dev) (nv : Nv) (a : AccDesc) : nv.Keeps (d.openSession nv a).2 := by
  unfold Dev.openSession
  dsimp only
  split
  · exact nv.keeps_journal (by decide)
  · rfl

theorem Dev.stgOpen_keeps (d : Dev) (nv : Nv) (a : AccDesc) (cred : List Byte) : nv.Keeps (d.stgOpen nv a cred).2 := by
  unfold Dev.stgOpen
  split
  · rfl
  · split
    · exact Dev.openSession_keeps _ nv a
    · rfl

theorem Dev.withHolder_keeps (d : Dev) (nv : Nv) (a : AccDesc) (f : Dev → Dev × Nv) (h : ∀ e, nv.Keeps (f e).2) :
    nv.Keeps (d.withHolder nv a f).2 := by
  unfold Dev.withHolder
  split
  · rfl
  · split
    · exact h _
    · rfl

theorem Dev.program_keeps (d : Dev) (nv : Nv) (a : AccDesc) (off : Nat) (data : List Byte) (fail : Bool) :
    nv.Keeps (d.program nv a off data fail).2 := by
  unfold Dev.program
  split <;> exact nv.keeps_staging ..

theorem Dev.stgWrite_keeps (d : Dev) (nv : Nv) (a : AccDesc) (data : List Byte) (fail : Bool) :
    nv.Keeps (d.stgWrite nv a data fail).2 := by
  unfold Dev.stgWrite
  dsimp only
  split
  · exact Dev.program_keeps ..
  · rfl

theorem Dev.stgCommit_keeps (d : Dev) (nv : Nv) (a : AccDesc) (flashErr : Bool) : nv.Keeps (d.stgCommit nv a flashErr).2 := by
  unfold Dev.stgCommit
  split
  · rfl
  · exact nv.keeps_journal (by decide)

/-! ### Lifecycle fuses (19 R540) -/

theorem Dev.sealPart_keeps (d : Dev) (nv : Nv) : nv.Keeps (d.sealPart nv).2 := by
  unfold Dev.sealPart
  exact List.foldlRecOn _ _ (motive := nv.Keeps) (nv.keeps_of_fuses ..) fun n h s _ => h.trans (n.keeps_written s _)

theorem Dev.blowFuse_keeps (d : Dev) (nv : Nv) (cmd : Nat) (fail : Bool) : nv.Keeps (d.blowFuse nv cmd fail).2 := by
  unfold Dev.blowFuse
  split
  · rfl
  · dsimp only
    split
    · exact nv.keeps_of_fuses ..
    · exact d.sealPart_keeps nv
    · exact nv.keeps_of_fuses ..
    · exact nv.keeps_of_fuses ..

theorem Dev.writeLife_keeps (d : Dev) (nv : Nv) (v : Word) (fail : Bool) : nv.Keeps (d.writeLife nv v fail).2 := by
  unfold Dev.writeLife
  dsimp only
  split
  · rfl
  · split
    · rfl
    · split
      · exact Dev.blowFuse_keeps ..
      · rfl

theorem Dev.runJob_keeps (d : Dev) (nv : Nv) (j : LeaveJob) (fail : Bool) : nv.Keeps (d.runJob nv j fail).2 := by
  cases j with
  | verify a l => rfl
  | append r => exact nv.append_keeps r
  | reserve => rfl
  | stage a off l => exact d.program_keeps nv a off l fail
  | life cmd => exact d.blowFuse_keeps nv cmd fail

theorem Dev.retryJob_keeps (d : Dev) (nv : Nv) (fail : Bool) : nv.Keeps (d.retryJob nv fail).2 := by
  unfold Dev.retryJob
  split
  · dsimp only
    split
    · exact Dev.runJob_keeps ..
    · split <;> rfl
  · rfl

/-- Of the registers UPD_LIFE_CMD alone reaches the stores. -/
theorem busWrite_keeps (d : Dev) (nv : Nv) (off : Nat) (v : Word) : nv.Keeps (busWrite d nv off v).2 := by
  unfold busWrite
  split
  · split
    · exact Dev.writeLife_keeps ..
    · rfl
  · rfl

/-! ### The start (19 R527, R535 to R537) -/

theorem Dev.bootActivate_keeps (d : Dev) (nv : Nv) (x : BootIn) : nv.Keeps (d.bootActivate nv x).2 := by
  unfold Dev.bootActivate
  dsimp only
  split
  · split
    · exact nv.keeps_journal (by decide)
    · split
      · exact nv.keeps_active (by decide) (eraseBelow_wf _)
      · split <;> exact nv.keeps_active (by decide) copySet_wf
  · rfl

theorem Dev.bootSettings_keeps (d : Dev) (nv : Nv) (x : BootIn) : nv.Keeps (d.bootSettings nv x).2 := by
  unfold Dev.bootSettings
  exact List.foldlRecOn _ _ (motive := fun r : Dev × Nv => nv.Keeps r.2) (Nv.Keeps.refl nv)
    fun (r : Dev × Nv) h (e : Nat × Word) _ => h.trans (busWrite_keeps r.1 r.2 e.1 e.2)

/-- A turn of the start other than that of step 5, which raises the security count. -/
theorem Dev.bootTurn_keeps (d : Dev) (nv : Nv) (x : BootIn) (h : d.upd.phase ≠ 5) : nv.Keeps (d.bootTurn nv x).2 := by
  unfold Dev.bootTurn
  split
  case h_4 => exact d.bootActivate_keeps nv x
  case h_6 five => exact absurd five h
  case h_7 => exact d.bootSettings_keeps nv x
  all_goals rfl

theorem Dev.bootTurn_count (d : Dev) (nv : Nv) (x : BootIn) (h : d.upd.phase = 5) :
    (d.bootTurn nv x).2 = { nv with svn := max nv.svn (manifestSvn nv.active) } := by
  simp only [Dev.bootTurn, h]

theorem Dev.bootTurn_form (d : Dev) {nv : Nv} (x : BootIn) (h : nv.Inv) : (d.bootTurn nv x).2.Inv := by
  by_cases five : d.upd.phase = 5
  · rw [d.bootTurn_count nv x five]
    exact ⟨h.active, h.staging, h.calib, h.written, h.journal, h.half⟩
  · exact (d.bootTurn_keeps nv x five).form h

/-! ### Engine instructions (12) -/

/-- An instruction that leaves the stores as they are. -/
def LeavesStores (f : OpFn) : Prop := ∀ (d : Dev) (nv : Nv) (n : Nat) (x : Eng) (w : Word), (f d nv n x w).stores nv = nv

/-- An instruction that keeps the form of the stores. -/
def KeepsForm (f : OpFn) : Prop := ∀ (d : Dev) (nv : Nv) (n : Nat) (x : Eng) (w : Word), nv.Keeps ((f d nv n x w).stores nv)

@[simp] theorem LeavesStores.keepsForm {f : OpFn} (h : LeavesStores f) : KeepsForm f := fun d nv n x w => by rw [h]

@[simp] theorem leavesStores_opR (f : Eng → Word → Word → Alu) : LeavesStores (opR f) := by
  intro d nv n x w; unfold opR; split <;> rfl

@[simp] theorem leavesStores_opDiv (f : Word → Word → Alu) : LeavesStores (opDiv f) := by
  intro d nv n x w
  unfold opDiv
  split
  · rfl
  · exact leavesStores_opR _ d nv n x w

@[simp] theorem leavesStores_opI (rsv : Word) (f : Word → Word → Alu) : LeavesStores (opI rsv f) := by
  intro d nv n x w; unfold opI; split <;> rfl

@[simp] theorem leavesStores_opLoad (size : Nat) (ext : Nat → Word) (addr : Eng → Word → Word) (post : Option (Eng → Word → Word))
    (det : Bool) : LeavesStores (opLoad size ext addr post det) := by
  intro d nv n x w
  unfold opLoad
  dsimp only
  split
  · rfl
  · rfl
  · split <;> rfl

@[simp] theorem leavesStores_opLwp (det : Bool) : LeavesStores (opLwp det) := by
  intro d nv n x w
  unfold opLwp
  split
  · rfl
  · exact leavesStores_opLoad _ _ _ _ _ d nv n x w

@[simp] theorem leavesStores_opNop : LeavesStores opNop := by intro d nv n x w; unfold opNop; split <;> rfl

@[simp] theorem leavesStores_opCmpi : LeavesStores opCmpi := by intro d nv n x w; unfold opCmpi; split <;> rfl

@[simp] theorem leavesStores_opMac : LeavesStores opMac := by intro d nv n x w; unfold opMac; split <;> rfl

@[simp] theorem leavesStores_opTrap : LeavesStores opTrap := by intro d nv n x w; unfold opTrap; split <;> rfl

@[simp] theorem leavesStores_opLui : LeavesStores opLui := fun _ _ _ _ _ => rfl

@[simp] theorem leavesStores_opB : LeavesStores opB := by
  intro d nv n x w
  unfold opB
  split
  · rfl
  · split
    · exact OpRes.stores_jumpTo ..
    · rfl

@[simp] theorem leavesStores_opJr : LeavesStores opJr := by
  intro d nv n x w
  unfold opJr
  split
  · rfl
  · exact OpRes.stores_jumpTo ..

@[simp] theorem leavesStores_opCall : LeavesStores opCall := by
  intro d nv n x w
  unfold opCall
  split
  · rfl
  · exact OpRes.stores_callTo ..

@[simp] theorem leavesStores_opCallr : LeavesStores opCallr := by
  intro d nv n x w
  unfold opCallr
  split
  · rfl
  · exact OpRes.stores_callTo ..

@[simp] theorem leavesStores_opMacm (det : Option Bool) : LeavesStores (opMacm det) := by
  intro d nv n x w; unfold opMacm; dsimp only; repeat' split
  all_goals rfl

@[simp] theorem leavesStores_opRet : LeavesStores opRet := by
  intro d nv n x w; unfold opRet; repeat' split
  all_goals rfl

@[simp] theorem leavesStores_opReti : LeavesStores opReti := by
  intro d nv n x w; unfold opReti; dsimp only; repeat' split
  all_goals rfl

@[simp] theorem leavesStores_opPrefix (intr : Bool) : LeavesStores (opPrefix intr) := by
  intro d nv n x w; unfold opPrefix; dsimp only; repeat' split
  all_goals rfl

@[simp] theorem leavesStores_opMfs : LeavesStores opMfs := by
  intro d nv n x w; unfold opMfs; repeat' split
  all_goals rfl

@[simp] theorem leavesStores_opMts : LeavesStores opMts := by
  intro d nv n x w; unfold opMts; dsimp only; repeat' split
  all_goals rfl

@[simp] theorem leavesStores_opWaitmt : LeavesStores opWaitmt := by
  intro d nv n x w; unfold opWaitmt; dsimp only; repeat' split
  all_goals rfl

@[simp] theorem leavesStores_opEmit : LeavesStores opEmit := by
  intro d nv n x w; unfold opEmit; dsimp only; repeat' split
  all_goals rfl

@[simp] theorem leavesStores_opSend (tab : Option (Bool × BitVec 12)) : LeavesStores (opSend tab) := by
  intro d nv n x w; unfold opSend; dsimp only; repeat' split
  all_goals rfl

@[simp] theorem leavesStores_opRecv : LeavesStores opRecv := by
  intro d nv n x w; unfold opRecv; dsimp only; repeat' split
  all_goals rfl

@[simp] theorem leavesStores_opLeave : LeavesStores opLeave := by
  intro d nv n x w; unfold opLeave; dsimp only; repeat' split
  all_goals rfl

/-- A store in a window is a register write. -/
@[simp] theorem keepsForm_opStore (size : Nat) (addr : Eng → Word → Word) (post : Option (Eng → Word → Word)) :
    KeepsForm (opStore size addr post) := by
  intro d nv n x w
  unfold opStore
  dsimp only
  split
  · rfl
  · exact busWrite_keeps ..
  · rfl

theorem keepsForm_opTable (op : Nat) : KeepsForm (opTable op) := by
  unfold opTable
  split <;> simp

theorem Dev.stepEng_keeps (d : Dev) (nv : Nv) (e : Nat) : nv.Keeps (d.stepEng nv e).2 := by
  unfold Dev.stepEng
  dsimp only
  split
  · split <;> rfl
  · split <;> (rw [settleOp_stores]; exact keepsForm_opTable ..)

/-! ### What a command does to the form of the stores -/

/-- The state that a command on s ends in has its stores in form if s has. -/
def FormStays (s : State) (o : Host.Outcome State Fault Refusal) : Prop := ∀ t, o = .next t → s.nv.Inv → t.nv.Inv

theorem formStays_next (s : State) (d : Dev) {nv : Nv} (q : List Instr) (h : s.nv.Inv → nv.Inv) :
    FormStays s (.next ⟨d, nv, q⟩) := by
  rintro _ ⟨⟩
  exact h

/-- A command that leaves the stores alone. -/
theorem formStays_dev (s : State) (d : Dev) : FormStays s (.next { s with dev := d }) := formStays_next s d _ id

theorem formStays_stay (s : State) : FormStays s (.next s) := formStays_dev s s.dev

theorem onDev_formStays (s : State) (f : Dev → Dev) : FormStays s (onDev s f) := formStays_dev s _

theorem runKey_formStays (op : Nat) (data : List Byte) (det : Option Bool) {f : AccDesc → Dev → Nv → Dev × Nv} (s : State)
    (h : ∀ a d (nv : Nv), nv.Keeps (f a d nv).2) : FormStays s (runKey op data det f s) := by
  unfold runKey
  dsimp only
  generalize (if Dev.vaultBusy _ = true then _ else _) = e
  split
  · split
    · split
      · exact formStays_dev s _
      · split
        · generalize (ite (keySlot _ < 128 ∧ op ≠ 0x01) _ _) = e'
          split
          · exact formStays_next s _ _ (h ..).form
          · exact formStays_dev s _
        · exact formStays_dev s _
    · exact formStays_dev s _
  · exact formStays_dev s _

theorem runStaging_formStays (op : Nat) (data : List Byte) (len : BitVec 256 → Nat) {f : AccDesc → Dev → Nv → Dev × Nv}
    (s : State) (h : ∀ a d (nv : Nv), nv.Keeps (f a d nv).2) : FormStays s (runStaging op data len f s) := by
  unfold runStaging
  dsimp only
  split
  · split
    · split
      · exact formStays_dev s _
      · exact formStays_stay s
    · split
      · exact formStays_next s _ _ (h ..).form
      · exact formStays_stay s
  · exact formStays_stay s

theorem lifeWrite_formStays (v : BitVec 32) (fail : Bool) (s : State) : FormStays s (lifeWrite v fail s) := by
  unfold lifeWrite
  split
  · exact formStays_next s _ _ (Dev.writeLife_keeps ..).form
  · exact formStays_dev s _

theorem runOp_formStays (op : Nat) {f : OpFn} (n : Nat) (s : State) (h : KeepsForm f) : FormStays s (runOp op f n s) := by
  unfold runOp
  dsimp only
  split
  · refine formStays_next s _ _ ?_
    rw [settleOp_stores]
    exact (h ..).form
  · exact formStays_stay s

theorem execEngTrap_formStays (e : Fin 16) (s : State) : FormStays s (execEngTrap e s) := by
  unfold execEngTrap
  dsimp only
  split
  · split
    · exact formStays_dev s _
    · exact formStays_stay s
  · exact runOp_formStays _ _ s leavesStores_opTrap.keepsForm

theorem execGroupCancel_formStays (n : Fin 16) (s : State) : FormStays s (execGroupCancel n s) := by
  unfold execGroupCancel
  dsimp only
  split
  · exact runOp_formStays _ _ s leavesStores_opEmit.keepsForm
  · exact formStays_stay s

theorem execReservationWriteEnd_formStays (s : State) : FormStays s (execReservationWriteEnd s) := by
  unfold execReservationWriteEnd
  dsimp only
  split
  · split
    · exact formStays_stay s
    · exact formStays_next s _ _ (s.nv.append_keeps _).form
  · exact formStays_stay s

theorem execRegisterWrite_formStays (t : RegTarget) (v : BitVec 32) (s : State) : FormStays s (execRegisterWrite t v s) := by
  unfold execRegisterWrite
  split
  · exact formStays_next s _ _ (busWrite_keeps ..).form
  · exact onDev_formStays s _
  · exact onDev_formStays s _
  · exact onDev_formStays s _

theorem execBoot_formStays (x : BootIn) (s : State) : FormStays s (execBoot x s) := by
  unfold execBoot
  split
  · exact formStays_next s _ _ (Dev.bootTurn_form _ x)
  · exact formStays_stay s

theorem execDbgStep_formStays (e : Fin 16) (s : State) : FormStays s (execDbgStep e s) := by
  unfold execDbgStep
  dsimp only
  split
  · exact formStays_next s _ _ (Dev.stepEng_keeps ..).form
  · exact formStays_stay s

theorem execDbgBar0Access_formStays (off : BitVec 20) (wr : Option (BitVec 32)) (s : State) :
    FormStays s (execDbgBar0Access off wr s) := by
  unfold execDbgBar0Access
  dsimp only
  split
  · cases wr with
    | some v => exact formStays_next s _ _ (busWrite_keeps ..).form
    | none => exact formStays_dev s _
  · exact formStays_stay s

/-- Every command keeps the form of the stores, by the form of its meaning in the dispatch. -/
theorem exec_formStays (c : Instr) (s : State) : FormStays s (exec c s) := by
  unfold exec
  cases c
  case writeClear data => exact runKey_formStays _ _ _ s (writeClear_keeps data)
  case derive data det => exact runKey_formStays _ _ _ s (deriveKey_keeps data)
  case unwrap data det => exact runKey_formStays _ _ _ s (unwrapKey_keeps data)
  case revoke => exact runKey_formStays _ _ _ s revokeKey_keeps
  case enrol data det => exact runKey_formStays _ _ _ s (enrolToken_keeps data)
  case tokRevoke | codeSet data => exact runKey_formStays _ _ _ s fun _ _ _ => Dev.appendRec_keeps ..
  case ctrEnc data det | ctrDec data det | cmacGen data det | cmacVer data det | hmacGen data det | hmacVer data det | sha256 data |
      ecdsaVer data det | random | rootGen =>
    exact runKey_formStays _ _ _ s fun _ _ nv => .refl nv
  case stagingOpen cred => exact runStaging_formStays _ _ _ s fun a d nv => d.stgOpen_keeps nv a cred
  case stagingWrite data fail =>
    exact runStaging_formStays _ _ _ s fun a d nv => d.withHolder_keeps nv a _ fun e => e.stgWrite_keeps nv a data fail
  case stagingCommit flashErr =>
    exact runStaging_formStays _ _ _ s fun a d nv => d.withHolder_keeps nv a _ fun e => e.stgCommit_keeps nv a flashErr
  case stagingAbandon => exact runStaging_formStays _ _ _ s fun a d nv => d.withHolder_keeps nv a _ fun _ => .refl nv
  case fusePkh v fail | sealLife v fail | retireLife v fail | dbgKill v fail => exact lifeWrite_formStays v fail s
  case leaveRetry fail => exact formStays_next s _ _ (Dev.retryJob_keeps ..).form
  case reservationWriteEnd => exact execReservationWriteEnd_formStays s
  case registerWrite t v => exact execRegisterWrite_formStays t v s
  case boot x => exact execBoot_formStays x s
  case dbgStep e => exact execDbgStep_formStays e s
  case dbgBar0Access off wr => exact execDbgBar0Access_formStays off wr s
  case groupCancel n => exact execGroupCancel_formStays n s
  case engTrap e => exact execEngTrap_formStays e s
  case engNop e | engAdd e | engSub e | engAddc e | engAnd e | engOr e | engXor e | engShl e | engShr e | engSar e | engMul e |
      engMulh e | engMulhu e | engDiv e | engDivu e | engRemu e | engMac e | engMacm e det | engAddi e | engCmpi e |
      engAndi e | engOri e | engXori e | engShli e | engShri e | engSari e | engLui e | engLw e det | engLh e det |
      engLhu e det | engLb e det | engLbu e det | engLwp e det | engSw e | engSh e | engSb e | engSwp e | engB e | engCall e |
      engJr e | engCallr e | engRet e | engReti e | engRep e | engRepi e | engMfs e | engMts e | engWaitmt e | engEmit e |
      engSend e tab | engRecv e | engLeave e =>
    exact runOp_formStays _ _ s (by simp)
  -- What is left is a function of the device alone, some of them through `onChan`.
  all_goals exact onDev_formStays s _

end Sys2Proof.Machine

section
open Sys2Proof Sys2Proof.Machine

/-- Settles O6: the command at the front of the queue keeps the form of the stores; an empty queue leaves the state. -/
theorem storesKeepForm : Obligations.StoresKeepForm := by
  intro s t form run
  unfold step at run
  split at run
  · cases run
    exact form
  · next c rest _ => exact exec_formStays c { s with pending := rest } t run form

/-- Settles O7: at reset the areas and the tables are empty, the journal and the half are 0. -/
theorem storesFormAtReset : Obligations.StoresFormAtReset := ⟨rfl, rfl, rfl, rfl, by decide, by decide⟩

/-- Settles O2: the equation of `step` at an empty queue. -/
theorem emptyQueueIdles : Obligations.EmptyQueueIdles := by
  intro s empty
  simp only [step, empty]

end

/-! PROOFS (12). The flags of the arithmetic and logic operations, and the condition of B. -/

namespace Sys2Proof.Machine

/-! ### Flags written and kept (12 R358) -/

theorem getLsbD_withFlags (fl : Word) (mask v : Nat) {i : Nat} (hi : i < 32) :
    (withFlags fl mask v).getLsbD i = if mask.testBit i then v.testBit i else fl.getLsbD i := by
  have bit (n : Nat) : (BitVec.ofNat 32 n).getLsbD i = n.testBit i := by rw [BitVec.getLsbD_ofNat]; simp [hi]
  simp only [withFlags, BitVec.getLsbD_or, BitVec.getLsbD_and, BitVec.getLsbD_not, bit, hi, decide_true, Bool.true_and]
  cases mask.testBit i <;> simp

/-- The number that holds four flags at their places. -/
def flagNum (z n c v : Bool) : Nat := z.toNat + 2 * n.toNat + 4 * c.toNat + 8 * v.toNat

theorem testBit_flagNum (z n c v : Bool) :
    (flagNum z n c v).testBit 0 = z ∧ (flagNum z n c v).testBit 1 = n ∧ (flagNum z n c v).testBit 2 = c ∧
      (flagNum z n c v).testBit 3 = v := by
  cases z <;> cases n <;> cases c <;> cases v <;> decide

/-- An operation sets Z and N from its result, and its C and V, as far as its mask names them, are c and v. -/
structure Alu.Flags (r : Alu) (c v : Bool) : Prop where
  num : r.fl = flagNum (decide (r.val = 0)) r.val.msb c v
  zn : r.mask % 4 = 3
  low : r.mask < 16

/-- FLAGS after an operation, bit by bit. -/
theorem Eng.takes_flag (x : Eng) (w : Word) (r : Alu) {i : Nat} (hi : i < 32) :
    (x.takes w r).flags.getLsbD i = if r.mask.testBit i then r.fl.testBit i else x.flags.getLsbD i :=
  getLsbD_withFlags _ _ _ hi

/-- A flag that the operation's mask does not name keeps its value. -/
theorem Eng.takes_flag_kept (x : Eng) (w : Word) {r : Alu} {i : Nat} (unnamed : r.mask.testBit i = false) :
    (x.takes w r).flags.getLsbD i = x.flags.getLsbD i := by
  by_cases hi : i < 32
  · rw [x.takes_flag w r hi, unnamed, if_neg Bool.false_ne_true]
  · simp [BitVec.getLsbD_of_ge _ i (Nat.le_of_not_lt hi)]

section
variable {r : Alu} {c v : Bool} (h : r.Flags c v) (x : Eng) (w : Word)
include h

theorem Alu.Flags.zero : (x.takes w r).flags.getLsbD 0 = decide (r.val = 0) := by
  have named : r.mask.testBit 0 = true := by have := h.zn; rw [Nat.testBit_zero, decide_eq_true_eq]; omega
  rw [x.takes_flag w r (by decide), if_pos named, h.num, (testBit_flagNum ..).1]

theorem Alu.Flags.negative : (x.takes w r).flags.getLsbD 1 = r.val.getLsbD 31 := by
  have named : r.mask.testBit 1 = true := by
    have := h.zn; rw [Nat.testBit_succ, Nat.testBit_zero, decide_eq_true_eq]; omega
  rw [x.takes_flag w r (by decide), if_pos named, h.num, (testBit_flagNum ..).2.1, BitVec.msb_eq_getLsbD_last]

theorem Alu.Flags.above {i : Nat} (hi : 4 ≤ i) : (x.takes w r).flags.getLsbD i = x.flags.getLsbD i :=
  x.takes_flag_kept w (Nat.testBit_lt_two_pow (h.low.trans_le (Nat.pow_le_pow_right (n := 2) (by decide) hi)))

theorem Alu.Flags.carry (named : r.mask.testBit 2 = true) : (x.takes w r).flags.getLsbD 2 = c := by
  rw [x.takes_flag w r (by decide), if_pos named, h.num, (testBit_flagNum ..).2.2.1]

theorem Alu.Flags.overflow (named : r.mask.testBit 3 = true) : (x.takes w r).flags.getLsbD 3 = v := by
  rw [x.takes_flag w r (by decide), if_pos named, h.num, (testBit_flagNum ..).2.2.2]

end

/-! ### The flags of each operation -/

/-- Whether a number is one that a signed word holds. -/
def fitsWord (n : Int) : Bool := decide (-2 ^ 31 ≤ n ∧ n < 2 ^ 31)

/-- A number differs from its word's signed value when no signed word holds it. -/
theorem ne_toInt_ofInt (n : Int) : decide (n ≠ (BitVec.ofInt 32 n).toInt) = !fitsWord n := by
  rw [BitVec.toInt_ofInt, fitsWord, ← decide_not]
  refine decide_eq_decide.mpr ?_
  rw [Int.bmod_def]
  split <;> omega

theorem aluAdd_flags (a b : Word) (c : Bool) :
    (aluAdd a b c).Flags (decide (2 ^ 32 ≤ a.toNat + b.toNat + c.toNat)) (!fitsWord (a.toInt + b.toInt + c.toNat)) := by
  have sum : a + b + BitVec.ofNat 32 c.toNat = BitVec.ofInt 32 (a.toInt + b.toInt + c.toNat) := by
    rw [BitVec.ofInt_add, BitVec.ofInt_add, BitVec.ofInt_toInt, BitVec.ofInt_toInt, BitVec.ofInt_natCast]
  refine ⟨?_, (by decide : 15 % 4 = 3), (by decide : 15 < 16)⟩
  rw [← ne_toInt_ofInt, ← sum]
  rfl

theorem aluSub_flags (a b : Word) :
    (aluSub a b).Flags (decide (b.toNat ≤ a.toNat)) (!fitsWord (a.toInt - b.toInt)) := by
  have difference : a - b = BitVec.ofInt 32 (a.toInt - b.toInt) := by
    apply BitVec.eq_of_toInt_eq
    rw [BitVec.toInt_sub, BitVec.toInt_ofInt]
  refine ⟨?_, (by decide : 15 % 4 = 3), (by decide : 15 < 16)⟩
  rw [← ne_toInt_ofInt, ← difference]
  rfl

theorem aluBits_flags (r : Word) : (aluBits r).Flags false false := ⟨rfl, rfl, (by decide : 3 < 16)⟩

theorem aluShift_flags (r : Word) (k : Nat) (out : Bool) : (aluShift r k out).Flags out false := by
  refine ⟨rfl, ?_, ?_⟩ <;> (unfold aluShift; dsimp only; split <;> decide)

theorem aluMul_flags (a b : Word) : (aluMul a b).Flags false (!fitsWord (a.toInt * b.toInt)) := by
  have product : a * b = BitVec.ofInt 32 (a.toInt * b.toInt) := by
    rw [BitVec.ofInt_mul, BitVec.ofInt_toInt, BitVec.ofInt_toInt]
  refine ⟨?_, (by decide : 11 % 4 = 3), (by decide : 11 < 16)⟩
  rw [← ne_toInt_ofInt, ← product]
  rfl

theorem aluDivu_flags (a b : Word) : (aluDivu a b).Flags false false := ⟨rfl, (by decide : 15 % 4 = 3), (by decide : 15 < 16)⟩

theorem aluRemu_flags (a b : Word) : (aluRemu a b).Flags false false := ⟨rfl, (by decide : 15 % 4 = 3), (by decide : 15 < 16)⟩

theorem aluDiv_flags (a b : Word) : (aluDiv a b).Flags false (!fitsWord (a.toInt.tdiv b.toInt)) := by
  refine ⟨?_, (by decide : 15 % 4 = 3), (by decide : 15 < 16)⟩
  rw [← ne_toInt_ofInt]
  rfl

/-- A quotient of signed words leaves the range only as that of the lowest number by −1. -/
theorem fitsWord_tdiv (a b : Word) (nonzero : b ≠ 0) :
    (!fitsWord (a.toInt.tdiv b.toInt)) = decide (a = 0x80000000#32 ∧ b = 0xFFFFFFFF#32) := by
  have divisor : b.toInt ≠ 0 := fun h => nonzero (BitVec.eq_of_toInt_eq h)
  have low : a = 0x80000000#32 ↔ a.toInt = -2 ^ 31 := ⟨fun h => h ▸ rfl, fun h => BitVec.eq_of_toInt_eq h⟩
  have minusOne : b = 0xFFFFFFFF#32 ↔ b.toInt = -1 := ⟨fun h => h ▸ rfl, fun h => BitVec.eq_of_toInt_eq h⟩
  have least := a.le_toInt
  have most := a.toInt_lt
  rw [fitsWord, ← decide_not, decide_eq_decide, low, minusOne]
  generalize a.toInt = m at *
  generalize b.toInt = k at *
  by_cases one : k = -1
  · subst one
    rw [Int.tdiv_neg, Int.tdiv_one]
    omega
  · have size : (m.tdiv k).natAbs = m.natAbs / k.natAbs := Int.natAbs_tdiv m k
    by_cases unit : k = 1
    · subst unit
      rw [Int.tdiv_one]
      omega
    · have halves : m.natAbs / k.natAbs ≤ m.natAbs / 2 := Nat.div_le_div_left (by omega) (by decide)
      omega

end Sys2Proof.Machine

section
open Sys2Proof Sys2Proof.Machine

/-- Settles O35: each operation by the flags that its mask names. -/
theorem aluFlags : Obligations.AluFlags := by
  intro x w a b c k hk f fits
  have zn {r : Alu} {cy v : Bool} (h : r.Flags cy v) :
      (f r).getLsbD 0 = decide (r.val = 0) ∧ (f r).getLsbD 1 = r.val.getLsbD 31 ∧
        ∀ i, 4 ≤ i → (f r).getLsbD i = x.flags.getLsbD i :=
    ⟨h.zero x w, h.negative x w, fun _ hi => h.above x w hi⟩
  have unchanged (r : Word) : (f (aluBits r)).getLsbD 2 = x.flags.getLsbD 2 ∧ (f (aluBits r)).getLsbD 3 = x.flags.getLsbD 3 :=
    ⟨x.takes_flag_kept w (by decide : Nat.testBit 3 2 = false), x.takes_flag_kept w (by decide : Nat.testBit 3 3 = false)⟩
  have shifted (r : Word) (out : Bool) : (f (aluShift r k out)).getLsbD 3 = x.flags.getLsbD 3 ∧
      (k = 0 → (f (aluShift r k out)).getLsbD 2 = x.flags.getLsbD 2) := by
    refine ⟨x.takes_flag_kept w ?_, fun none => x.takes_flag_kept w ?_⟩ <;> simp only [aluShift]
    · split <;> decide
    · rw [if_pos none]; decide
  have out (some : k ≠ 0) (r : Word) (o : Bool) : (f (aluShift r k o)).getLsbD 2 = o :=
    (aluShift_flags r k o).carry x w (by simp only [aluShift, if_neg some]; decide)
  have carry {r : Alu} {cy v : Bool} (h : r.Flags cy v) (all : r.mask = 15) : (f r).getLsbD 2 = cy := h.carry x w (all ▸ by decide)
  have overflow {r : Alu} {cy v : Bool} (h : r.Flags cy v) (all : r.mask = 15) : (f r).getLsbD 3 = v := h.overflow x w (all ▸ by decide)
  simp only [List.forall_mem_cons, List.not_mem_nil, false_implies, implies_true, and_true]
  refine ⟨⟨zn (aluAdd_flags a b c), zn (aluSub_flags a b), zn (aluBits_flags a), zn (aluShift_flags ..), zn (aluShift_flags ..),
      zn (aluShift_flags ..), zn (aluMul_flags a b), zn (aluBits_flags _), zn (aluBits_flags _), zn (aluDiv_flags a b),
      zn (aluDivu_flags a b), zn (aluRemu_flags a b)⟩, carry (aluAdd_flags a b c) rfl, overflow (aluAdd_flags a b c) rfl,
    carry (aluSub_flags a b) rfl, overflow (aluSub_flags a b) rfl, ⟨unchanged _, unchanged _, unchanged _⟩,
    ⟨shifted .., shifted .., shifted ..⟩, fun some => ⟨out some .., out some .., out some ..⟩,
    x.takes_flag_kept w (by decide : Nat.testBit 11 2 = false),
    (aluMul_flags a b).overflow x w (by decide : Nat.testBit 11 3 = true), fun nonzero => ⟨carry (aluDiv_flags a b) rfl, ?_⟩,
    ⟨carry (aluDivu_flags a b) rfl, overflow (aluDivu_flags a b) rfl⟩,
    carry (aluRemu_flags a b) rfl, overflow (aluRemu_flags a b) rfl⟩
  rw [← fitsWord_tdiv a b nonzero]
  exact overflow (aluDiv_flags a b) rfl

end

/-! PROOFS (11, 12). The instructions of the engines: what an instruction at its OP comes to, by the case that its word and its operands
pick, and what the engine, or the device, is at its end. -/

namespace Sys2Proof.Machine

/-! ### What an instruction leaves of a waiting STOP -/

@[simp] theorem Eng.stopReq_takes (x : Eng) (w : Word) (r : Alu) : (x.takes w r).stopReq = x.stopReq := x.stopReq_setG _ _

@[simp] theorem Eng.stopReq_accumulate (x : Eng) (rd : Nat) (a b : Word) : (x.accumulate rd a b).stopReq = x.stopReq := by
  simp [Eng.accumulate]

@[simp] theorem Eng.stopReq_putBytes (l : List Byte) : ∀ (x : Eng) (a : Nat), (x.putBytes a l).stopReq = x.stopReq := by
  induction l with
  | nil => intro x a; rfl
  | cons b t ih => intro x a; exact ih _ _

/-! ### What an instruction comes to -/

/-- A command that issues the instruction of its OP becomes what the instruction settles to. -/
theorem becomes_of_op {c : Instr} {d d' : Dev} {n op : Nat} {f : OpFn} (hc : ∀ s, exec c s = runOp op f n s) (at_ : d.atOp n op)
    (h : ∀ nv, settleOp n nv (f d nv n (d.engine n) ((d.engine n).iword (d.engine n).pc)) = (d', nv)) : Becomes c d d' := by
  intro nv q
  rw [hc, runOp_issues f at_, h]

/-- An instruction that comes to a trap. -/
theorem becomes_of_trap {c : Instr} {d : Dev} {n op cause : Nat} {ev : Word} {f : OpFn} (hc : ∀ s, exec c s = runOp op f n s)
    (at_ : d.atOp n op) (h : ∀ nv, f d nv n (d.engine n) ((d.engine n).iword (d.engine n).pc) = .trap cause ev d) :
    Becomes c d (d.engTrap n cause ev) := becomes_of_op hc at_ fun nv => by rw [h]; rfl

section
variable {c : Instr} {d : Dev} {n op : Nat} {y : Eng} {f : OpFn} (hc : ∀ s, exec c s = runOp op f n s) (at_ : d.atOp n op)
  (stop : y.stopReq = false)
include hc at_ stop

/-- An instruction that changes the engine and goes on. -/
theorem engStep_of_done (h : ∀ nv, f d nv n (d.engine n) ((d.engine n).iword (d.engine n).pc) = .done (d.setEngine n y) nv) :
    EngStep c d n (y.next none) :=
  engStep_of_retire (a := none) hc at_ stop fun nv => by rw [h]; rfl

/-- An instruction that changes the engine and leaves a load pending. -/
theorem engStep_of_load {l : PendLoad}
    (h : ∀ nv, f d nv n (d.engine n) ((d.engine n).iword (d.engine n).pc) = .load (d.setEngine n y) nv l) :
    EngStep c d n (y.next (some l)) :=
  engStep_of_retire (a := none) hc at_ stop fun nv => by rw [h]; rfl

/-- An instruction that changes the engine and transfers. -/
theorem engStep_of_jump {t : Nat}
    (h : ∀ nv, f d nv n (d.engine n) ((d.engine n).iword (d.engine n).pc) = .jump (d.setEngine n y) t) :
    EngStep c d n (y.goes t) :=
  engStep_of_retire (l := none) (a := some t) hc at_ stop fun nv => by rw [h]; rfl

end

/-- The end of an instruction that leaves the engine as it is. -/
theorem Dev.retireOp_stays {d : Dev} {n : Nat} (l : Option PendLoad) (a : Option Nat) (runs : d.engSt n = 1)
    (stop : (d.engine n).stopReq = false) : d.retireOp n l a = d.setEngine n ((d.engine n).ended l a) := by
  have ended := Eng.stopReq_ended (d.engine n) l a
  cases a <;> simp only [Eng.ended, Option.elim, Eng.next] at ended ⊢ <;>
    simp only [Dev.retireOp, runs, if_true, Dev.engine_setEngine_same, ended, stop, Bool.false_and, Bool.false_eq_true, if_false]

theorem Dev.setEngine_step (d : Dev) (n : Nat) (y : Eng) :
    (d.setEngine n y).engine n = y ∧ (∀ k, k ≠ n → (d.setEngine n y).engine k = d.engine k) ∧
      d.setEngine n y = { d with eng := { d.eng with eng := (d.setEngine n y).eng.eng } } :=
  ⟨d.engine_setEngine_same n y, fun _ hk => d.engine_setEngine_other y hk, rfl⟩

section
variable {c : Instr} {d : Dev} {n op : Nat} {f : OpFn} (hc : ∀ s, exec c s = runOp op f n s) (at_ : d.atOp n op)
  (stop : (d.engine n).stopReq = false)
include hc at_ stop

/-- An instruction that changes nothing and goes on. -/
theorem engStep_of_nothing (h : ∀ nv, f d nv n (d.engine n) ((d.engine n).iword (d.engine n).pc) = .done d nv) :
    EngStep c d n ((d.engine n).next none) :=
  ⟨_, becomes_of_op hc at_ fun nv => by rw [h]; exact congrArg (·, nv) (Dev.retireOp_stays none none (Dev.atOp_running at_) stop),
    d.setEngine_step n _⟩

/-- An instruction that changes nothing and transfers. -/
theorem engStep_of_transfer {t : Nat} (h : ∀ nv, f d nv n (d.engine n) ((d.engine n).iword (d.engine n).pc) = .jump d t) :
    EngStep c d n ((d.engine n).goes t) :=
  ⟨_, becomes_of_op hc at_ fun nv => by rw [h]; exact congrArg (·, nv) (Dev.retireOp_stays none (some t) (Dev.atOp_running at_) stop),
    d.setEngine_step n _⟩

end

/-! ### Arithmetic (12 R362, R363) -/

theorem bitsOf_low {n : Nat} (w : BitVec n) (k : Nat) : bitsOf w 0 k = w.toNat % 2 ^ k := by simp [bitsOf]

section
variable {c : Instr} {d : Dev} {n op : Nat} (stop : (d.engine n).stopReq = false)
  {w : Word} (hw : w = (d.engine n).iword (d.engine n).pc)
include stop hw

theorem engStep_opR (f : Eng → Word → Word → Alu) (hc : ∀ s, exec c s = runOp op (opR f) n s) (plain : bitsOf w 0 14 = 0)
    (at_ : d.atOp n op) :
    EngStep c d n (((d.engine n).takes w (f (d.engine n) ((d.engine n).gr (raOf w)) ((d.engine n).gr (rbOf w)))).next none) := by
  subst hw
  refine engStep_of_done hc at_ (by simp [stop]) fun nv => ?_
  simp only [opR, plain, ne_eq, not_true_eq_false, if_false]
  rfl

theorem engStep_opDiv (f : Word → Word → Alu) (hc : ∀ s, exec c s = runOp op (opDiv f) n s) (plain : bitsOf w 0 14 = 0)
    (at_ : d.atOp n op) (divisor : (d.engine n).gr (rbOf w) ≠ 0) :
    EngStep c d n (((d.engine n).takes w (f ((d.engine n).gr (raOf w)) ((d.engine n).gr (rbOf w)))).next none) := by
  subst hw
  refine engStep_of_done hc at_ (by simp [stop]) fun nv => ?_
  simp only [opDiv, divisor, and_false, if_false, opR, plain, ne_eq, not_true_eq_false]
  rfl

theorem engStep_opI (rsv : Word) (f : Word → Word → Alu) (hc : ∀ s, exec c s = runOp op (opI rsv f) n s) (plain : w &&& rsv = 0)
    (at_ : d.atOp n op) : EngStep c d n (((d.engine n).takes w (f ((d.engine n).gr (raOf w)) w)).next none) := by
  subst hw
  refine engStep_of_done hc at_ (by simp [stop]) fun nv => ?_
  simp only [opI, plain, ne_eq, not_true_eq_false, if_false]
  rfl

end

theorem isPair_of_even {rd : Nat} (even : rd % 2 = 0) (nonzero : rd ≠ 0) : isPair rd = true := decide_eq_true ⟨even, by omega⟩

theorem dmemTrap_word {a : Word} (aligned : a.toNat % 4 = 0) (inside : a.toNat < 0x20000) : dmemTrap a = none := by
  simp only [dmemTrap, aligned, ne_eq, not_true_eq_false, if_false, Nat.not_le.mpr inside]

section
variable {d : Dev} {n : Fin 16} (stop : (d.engine n).stopReq = false) {w : Word} (hw : w = (d.engine n).iword (d.engine n).pc)
  (plain : bitsOf w 0 14 = 0) (even : rdOf w % 2 = 0) (nonzero : rdOf w ≠ 0)
include stop hw plain even nonzero

theorem engStep_mac (at_ : d.atOp n 0x10) :
    EngStep (.engMac n) d n
      (((d.engine n).accumulate (rdOf w) ((d.engine n).gr (raOf w)) ((d.engine n).gr (rbOf w))).next none) := by
  subst hw
  refine engStep_of_done (fun _ => rfl) at_ (by simp [stop]) fun nv => ?_
  simp only [opMac, plain, isPair_of_even even nonzero, ne_eq, not_true_eq_false, Bool.true_eq_false, or_self, if_false]

/-- MACM with its operands outside the pair and in DMEM. -/
theorem engStep_macm (at_ : d.atOp n 0x11) (apartA : raOf w / 2 ≠ rdOf w / 2) (apartB : rbOf w / 2 ≠ rdOf w / 2)
    (apart : raOf w ≠ rbOf w) (alignedA : ((d.engine n).gr (raOf w)).toNat % 4 = 0)
    (alignedB : ((d.engine n).gr (rbOf w)).toNat % 4 = 0) (insideA : ((d.engine n).gr (raOf w)).toNat < 0x20000)
    (insideB : ((d.engine n).gr (rbOf w)).toNat < 0x20000) (sound : d.injected 8 (some n.val) = false) :
    EngStep (.engMacm n none) d n
      ((((((d.engine n).accumulate (rdOf w) (BitVec.ofNat 32 ((d.engine n).num ((d.engine n).gr (raOf w)).toNat 4))
          (BitVec.ofNat 32 ((d.engine n).num ((d.engine n).gr (rbOf w)).toNat 4))).setG (raOf w)
        ((d.engine n).gr (raOf w) + 4)).setG (rbOf w) ((d.engine n).gr (rbOf w) + 4))).next none) := by
  have outA : ¬ (raOf w = rdOf w ∨ raOf w = rdOf w + 1) := by omega
  have outB : ¬ (rbOf w = rdOf w ∨ rbOf w = rdOf w + 1) := by omega
  subst hw
  refine engStep_of_done (fun _ => rfl) at_ (by simp [stop]) fun nv => ?_
  simp only [opMacm, plain, isPair_of_even even nonzero, outA, outB, apart, dmemTrap_word alignedA insideA,
    dmemTrap_word alignedB insideB, sound, ne_eq, not_true_eq_false, Bool.true_eq_false, decide_false, Bool.false_eq_true, or_self,
    if_false]

end

theorem engStep_nop {d : Dev} {n : Fin 16} (stop : (d.engine n).stopReq = false) (at_ : d.atOp n 0x01)
    (plain : bitsOf ((d.engine n).iword (d.engine n).pc) 0 26 = 0) : EngStep (.engNop n) d n ((d.engine n).next none) :=
  engStep_of_nothing (fun _ => rfl) at_ stop fun nv => by
    simp only [opNop, plain, ne_eq, not_true_eq_false, if_false]

theorem engStep_cmpi {d : Dev} {n : Fin 16} (stop : (d.engine n).stopReq = false) {w : Word}
    (hw : w = (d.engine n).iword (d.engine n).pc) (at_ : d.atOp n 0x19) (none_ : rdOf w = 0) :
    EngStep (.engCmpi n) d n (((d.engine n).takes w (aluSub ((d.engine n).gr (raOf w)) (immS w))).next none) := by
  subst hw
  refine engStep_of_done (fun _ => rfl) at_ (by simp [stop]) fun nv => ?_
  simp only [opCmpi, none_, ne_eq, not_true_eq_false, if_false, Eng.takes, Eng.put, Eng.setG, if_true]

/-- The reserved bits of a shift by an immediate are those above its amount (12 R357). -/
theorem shiftRsv_clear {w : Word} (plain : bitsOf w 5 13 = 0) : w &&& shiftRsv = 0 := by
  apply BitVec.eq_of_getLsbD_eq
  have outside : ∀ i < 32, ¬ (5 ≤ i ∧ i < 18) → shiftRsv.getLsbD i = false := by decide
  intro i hi
  have field : (bitsOf w 5 13).testBit (i - 5) = false := by rw [plain, Nat.zero_testBit]
  by_cases inside : 5 ≤ i ∧ i < 18
  · rw [bitsOf, Nat.testBit_mod_two_pow, Nat.testBit_div_two_pow, Nat.sub_add_cancel inside.1] at field
    have clear : w.getLsbD i = false := by
      rw [BitVec.getLsbD]
      simpa only [show i - 5 < 13 by omega, decide_true, Bool.true_and] using field
    simp [clear]
  · simp [outside i hi inside]

end Sys2Proof.Machine

section
open Sys2Proof Sys2Proof.Machine

/-- Settles O37: the forms of two registers, of a division and of the two accumulations, each at its own operation. -/
theorem engineArithmeticCompletes : Obligations.EngineArithmeticCompletes := by
  intro d n x w a b stop plain
  have amount : bitsOf b 0 5 = b.toNat % 32 := bitsOf_low b 5
  have two {c : Instr} {op : Nat} (f : Eng → Word → Word → Alu) (hc : ∀ s, exec c s = runOp op (opR f) n s) (at_ : d.atOp n op) :
      EngStep c d n ((x.takes w (f x a b)).next none) := engStep_opR stop rfl f hc plain at_
  rw [← amount]
  exact ⟨two (fun _ a b => aluAdd a b false) fun _ => rfl, two (fun _ a b => aluSub a b) fun _ => rfl,
    two (fun x a b => aluAdd a b x.cy) fun _ => rfl,
    two (fun _ a b => aluBits (a &&& b)) fun _ => rfl, two (fun _ a b => aluBits (a ||| b)) fun _ => rfl,
    two (fun _ a b => aluBits (a ^^^ b)) fun _ => rfl, two (fun _ a b => aluShl a (bitsOf b 0 5)) fun _ => rfl,
    two (fun _ a b => aluShr a (bitsOf b 0 5)) fun _ => rfl,
    two (fun _ a b => aluSar a (bitsOf b 0 5)) fun _ => rfl, two (fun _ a b => aluMul a b) fun _ => rfl,
    two (fun _ a b => aluMulh a b) fun _ => rfl, two (fun _ a b => aluMulhu a b) fun _ => rfl,
    engStep_opDiv stop rfl _ (fun _ => rfl) plain, engStep_opDiv stop rfl _ (fun _ => rfl) plain,
    engStep_opDiv stop rfl _ (fun _ => rfl) plain, fun at_ even nonzero => engStep_mac stop rfl plain even nonzero at_,
    fun at_ even nonzero apartA apartB apart alignedA alignedB insideA insideB sound =>
      engStep_macm stop rfl plain even nonzero at_ apartA apartB apart alignedA alignedB insideA insideB sound⟩

/-- Settles O38: the form of an immediate at each operation; CMPI is SUB that keeps no result, NOP and LUI set no flag. -/
theorem engineImmediatesComplete : Obligations.EngineImmediatesComplete := by
  intro d n x w a stop
  have imm {c : Instr} {op : Nat} (f : Word → Word → Alu) (hc : ∀ s, exec c s = runOp op (opI 0 f) n s) (at_ : d.atOp n op) :
      EngStep c d n ((x.takes w (f a w)).next none) := engStep_opI stop rfl 0 f hc (BitVec.and_zero) at_
  have shift {c : Instr} {op : Nat} (f : Word → Word → Alu) (hc : ∀ s, exec c s = runOp op (opI shiftRsv f) n s)
      (plain : bitsOf w 5 13 = 0) (at_ : d.atOp n op) : EngStep c d n ((x.takes w (f a w)).next none) :=
    engStep_opI stop rfl shiftRsv f hc (shiftRsv_clear plain) at_
  exact ⟨engStep_nop stop, imm (fun a w => aluAdd a (immS w) false) fun _ => rfl, engStep_cmpi stop rfl,
    imm (fun a w => aluBits (a &&& immU w)) fun _ => rfl, imm (fun a w => aluBits (a ||| immU w)) fun _ => rfl,
    imm (fun a w => aluBits (a ^^^ immU w)) fun _ => rfl, shift (fun a w => aluShl a (bitsOf w 0 5)) fun _ => rfl,
    shift (fun a w => aluShr a (bitsOf w 0 5)) fun _ => rfl, shift (fun a w => aluSar a (bitsOf w 0 5)) fun _ => rfl,
    fun at_ => engStep_of_done (fun _ => rfl) at_ (by simp [x, stop]) fun _ => rfl⟩

end

/-! PROOFS (11, 12). Loads, stores, transfers and prefixes of the engines. -/

namespace Sys2Proof.Machine

/-! ### Addresses in DMEM (11 R314) -/

theorem accessTrap_dmem {a size : Nat} (store : Bool) (aligned : a % size = 0) (inside : a < 0x20000) :
    accessTrap a size store = none := by
  simp only [accessTrap, aligned, inside, ne_eq, not_true_eq_false, if_false, if_true]

theorem winOff_dmem {a : Nat} (inside : a < 0x20000) : winOff a = none := if_neg (by omega)

section
variable {c : Instr} {d : Dev} {n : Fin 16} {op size : Nat} {addr : Eng → Word → Word} (stop : (d.engine n).stopReq = false)
  {w a : Word} (hw : w = (d.engine n).iword (d.engine n).pc) (ha : addr (d.engine n) w = a)
  (aligned : a.toNat % size = 0) (inside : a.toNat < 0x20000)
include stop hw ha aligned inside

theorem engStep_opLoad (ext : Nat → Word) (sound : d.injected 8 (some n.val) = false)
    (hc : ∀ s, exec c s = runOp op (opLoad size ext addr none false) n s) (at_ : d.atOp n op) :
    EngStep c d n ((d.engine n).next
      (some { rd := rdOf w, val := ext ((d.engine n).num a.toNat size), pc := (d.engine n).pc, undo := none })) := by
  subst hw ha
  refine engStep_of_load hc at_ stop fun nv => ?_
  simp only [opLoad, accessTrap_dmem false aligned inside, winOff_dmem inside, sound, Bool.or_self, Bool.false_eq_true, if_false,
    Option.isSome_none]

theorem engStep_opStore (hc : ∀ s, exec c s = runOp op (opStore size addr none) n s) (at_ : d.atOp n op) :
    EngStep c d n (((d.engine n).putBytes a.toNat (leBytes size ((d.engine n).gr (rdOf w)).toNat)).next none) := by
  subst hw ha
  refine engStep_of_done hc at_ (by simp [stop]) fun nv => ?_
  simp only [opStore, accessTrap_dmem true aligned inside, winOff_dmem inside]

end

section
variable {d : Dev} {n : Fin 16} (stop : (d.engine n).stopReq = false) {w : Word} (hw : w = (d.engine n).iword (d.engine n).pc)
  (aligned : ((d.engine n).gr (raOf w)).toNat % 4 = 0) (inside : ((d.engine n).gr (raOf w)).toNat < 0x20000)
include stop hw aligned inside

/-- LWP adds its immediate to RA, which a trap in the delay slot undoes. -/
theorem engStep_lwp (sound : d.injected 8 (some n.val) = false) (at_ : d.atOp n 0x20) (ne : rdOf w ≠ raOf w) :
    EngStep (.engLwp n false) d n
      (((d.engine n).setG (raOf w) ((d.engine n).gr (raOf w) + immS w)).next
        (some { rd := rdOf w, val := BitVec.ofNat 32 ((d.engine n).num ((d.engine n).gr (raOf w)).toNat 4), pc := (d.engine n).pc,
                undo := some (raOf w, (d.engine n).gr (raOf w)) })) := by
  subst hw
  refine engStep_of_load (fun _ => rfl) at_ (by simp [stop]) fun nv => ?_
  simp only [opLwp, ne, if_false, opLoad, addrReg, accessTrap_dmem false aligned inside, winOff_dmem inside, sound, Bool.or_self,
    Bool.false_eq_true, Option.isSome_some, if_true, addrImm]

/-- SWP stores at RA, then adds its immediate to RA. -/
theorem engStep_swp (at_ : d.atOp n 0x24) :
    EngStep (.engSwp n) d n
      ((((d.engine n).setG (raOf w) ((d.engine n).gr (raOf w) + immS w)).putBytes ((d.engine n).gr (raOf w)).toNat
        (leBytes 4 ((d.engine n).gr (rdOf w)).toNat)).next none) := by
  subst hw
  refine engStep_of_done (fun _ => rfl) at_ (by simp [stop]) fun nv => ?_
  simp only [opStore, addrReg, accessTrap_dmem true aligned inside, winOff_dmem inside, addrImm]

end

/-! ### Transfers (12 R366) -/

/-- An engine back from its handler, with FLAGS from EFLAGS. -/
def Eng.returned (x : Eng) : Eng := { x with flags := x.eflags &&& flagBits }

/-- An engine in a repeat. -/
def Eng.inRepeat (x : Eng) (r : Repeat) : Eng := { x with rep := some r }

theorem jumpTo_free {t : Word} (d : Dev) (free : targetTrap t = none) : jumpTo d t = .jump d t.toNat := by
  simp only [jumpTo, free]

theorem callTo_free {d : Dev} {n : Nat} (x : Eng) {t : Word} (room : d.pushTraps n = false) (free : targetTrap t = none) :
    callTo d n x t = .jump (d.pushRstk n (BitVec.ofNat 32 (x.pc + 4))) t.toNat := by
  simp only [callTo, room, free, Bool.false_eq_true, if_false]

section
variable {d : Dev} {n : Fin 16} {w : Word} (hw : w = (d.engine n).iword (d.engine n).pc)
include hw

theorem becomes_call {t : Word} (ht : t = BitVec.ofNat 32 (d.engine n).pc + offB w) (at_ : d.atOp n 0x26) (rd : rdOf w = 0)
    (room : d.pushTraps n = false) (free : targetTrap t = none) :
    Becomes (.engCall n) d ((d.pushRstk n (BitVec.ofNat 32 ((d.engine n).pc + 4))).retireOp n none (some t.toNat)) := by
  subst hw ht
  refine becomes_of_op (fun _ => rfl) at_ fun nv => ?_
  simp only [opCall, rd, ne_eq, not_true_eq_false, if_false, callTo_free _ room free, settleOp]

theorem becomes_callr (at_ : d.atOp n 0x28) (rd : rdOf w = 0) (plain : bitsOf w 0 18 = 0) (room : d.pushTraps n = false)
    (free : targetTrap ((d.engine n).gr (raOf w)) = none) :
    Becomes (.engCallr n) d
      ((d.pushRstk n (BitVec.ofNat 32 ((d.engine n).pc + 4))).retireOp n none (some ((d.engine n).gr (raOf w)).toNat)) := by
  subst hw
  refine becomes_of_op (fun _ => rfl) at_ fun nv => ?_
  simp only [opCallr, rd, plain, ne_eq, not_true_eq_false, or_self, if_false, callTo_free _ room free, settleOp]

section
variable (stop : (d.engine n).stopReq = false)
include stop

theorem engStep_b_not (at_ : d.atOp n 0x25) (cond : rdOf w ≠ 15) (fails : condHolds (d.engine n).flags (rdOf w) = false) :
    EngStep (.engB n) d n ((d.engine n).next none) := by
  subst hw
  refine engStep_of_nothing (fun _ => rfl) at_ stop fun nv => ?_
  simp only [opB, cond, fails, Bool.false_eq_true, if_false]

theorem engStep_b_taken {t : Word} (ht : t = BitVec.ofNat 32 (d.engine n).pc + offB w) (at_ : d.atOp n 0x25) (cond : rdOf w ≠ 15)
    (holds : condHolds (d.engine n).flags (rdOf w) = true) (free : targetTrap t = none) :
    EngStep (.engB n) d n ((d.engine n).goes t.toNat) := by
  subst hw ht
  refine engStep_of_transfer (fun _ => rfl) at_ stop fun nv => ?_
  simp only [opB, cond, holds, if_true, if_false, jumpTo_free d free]

theorem engStep_jr (at_ : d.atOp n 0x27) (rd : rdOf w = 0) (plain : bitsOf w 0 18 = 0)
    (free : targetTrap ((d.engine n).gr (raOf w)) = none) :
    EngStep (.engJr n) d n ((d.engine n).goes ((d.engine n).gr (raOf w)).toNat) := by
  subst hw
  refine engStep_of_transfer (fun _ => rfl) at_ stop fun nv => ?_
  simp only [opJr, rd, plain, ne_eq, not_true_eq_false, or_self, if_false, jumpTo_free d free]

section
variable (plain : bitsOf w 0 26 = 0)
include plain

theorem engStep_ret (at_ : d.atOp n 0x29) (held : d.popTraps n = false) (free : targetTrap (d.engine n).rstkTop = none) :
    EngStep (.engRet n) d n ((d.engine n).rstkPop.goes (d.engine n).rstkTop.toNat) := by
  subst hw
  refine engStep_of_jump (fun _ => rfl) at_ (by exact stop) fun nv => ?_
  simp only [opRet, plain, held, free, ne_eq, not_true_eq_false, Bool.false_eq_true, if_false]

/-- RETI outside a repeat. -/
theorem engStep_reti (at_ : d.atOp n 0x2A) (free : targetTrap (d.engine n).epc = none)
    (outside : (d.engine n).eflags.getLsbD 10 = false) :
    EngStep (.engReti n) d n ((d.engine n).returned.goes (d.engine n).epc.toNat) := by
  subst hw
  refine engStep_of_jump (fun _ => rfl) at_ (by exact stop) fun nv => ?_
  simp only [opReti, plain, free, outside, ne_eq, not_true_eq_false, Bool.false_and, Bool.false_eq_true, if_false]
  rfl

/-- RETI into a repeat goes on with ERC, after the REP at EPC (11 R325, R328). -/
theorem engStep_reti_repeat (at_ : d.atOp n 0x2A) (free : targetTrap (d.engine n).epc = none)
    (inside : (d.engine n).eflags.getLsbD 10 = true)
    (pfx : opOf ((d.engine n).iword (d.engine n).epc.toNat) = 0x2B ∨ opOf ((d.engine n).iword (d.engine n).epc.toNat) = 0x2C)
    (repeats : noRepeat (opOf ((d.engine n).iword ((d.engine n).epc.toNat + 4))) = false) (left : (d.engine n).erc ≠ 0) :
    EngStep (.engReti n) d n
      (((d.engine n).returned.inRepeat
          { left := (d.engine n).erc.toNat, intr := decide (opOf ((d.engine n).iword (d.engine n).epc.toNat) = 0x2C),
            pfx := (d.engine n).epc.toNat, fresh := false }).goes ((d.engine n).epc.toNat + 4)) := by
  subst hw
  refine engStep_of_jump (fun _ => rfl) at_ (by exact stop) fun nv => ?_
  simp only [opReti, plain, free, inside, pfx, repeats, left, ne_eq, not_true_eq_false, decide_true, Bool.not_false, Bool.and_self,
    if_true, if_false]
  rfl

/-! ### Prefixes (11 R322, R323) -/

section
variable {c : Instr} {op : Nat} {intr : Bool} (hc : ∀ s, exec c s = runOp op (opPrefix intr) n s) (next : (d.engine n).pc + 4 < 0x20000)
  (repeats : noRepeat (opOf ((d.engine n).iword ((d.engine n).pc + 4))) = false)
  (listed : opListed (opOf ((d.engine n).iword ((d.engine n).pc + 4))) = true)
include hc next repeats listed

theorem engStep_opPrefix_skip (count : (d.engine n).rc = 0) (at_ : d.atOp n op) :
    EngStep c d n ((d.engine n).goes ((d.engine n).pc + 8)) := by
  subst hw
  refine engStep_of_transfer hc at_ stop fun nv => ?_
  simp only [opPrefix, plain, Nat.not_le.mpr next, repeats, listed, count, ne_eq, not_true_eq_false, Bool.not_true,
    Bool.false_eq_true, if_true, if_false]

theorem engStep_opPrefix_starts (count : (d.engine n).rc ≠ 0) (at_ : d.atOp n op) :
    EngStep c d n
      (((d.engine n).inRepeat { left := (d.engine n).rc.toNat, intr := intr, pfx := (d.engine n).pc, fresh := true }).goes
        ((d.engine n).pc + 4)) := by
  subst hw
  refine engStep_of_jump hc at_ (by exact stop) fun nv => ?_
  simp only [opPrefix, plain, Nat.not_le.mpr next, repeats, listed, count, ne_eq, not_true_eq_false, Bool.not_true,
    Bool.false_eq_true, if_false]
  rfl

end

end

end

end

end Sys2Proof.Machine

section
open Sys2Proof Sys2Proof.Machine

/-- Settles O39: the forms of a load and of a store at an address in DMEM; LWP and SWP also move RA. -/
theorem engineMemoryCompletes : Obligations.EngineMemoryCompletes := by
  intro d n x w a p v up ld stop sound
  have load {c : Instr} {op size : Nat} (ext : Nat → Word) (hc : ∀ s, exec c s = runOp op (opLoad size ext addrImm none false) n s)
      (at_ : d.atOp n op) (aligned : a % size = 0) (inside : a < 0x20000) :
      EngStep c d n (x.next (ld (ext (x.num a size)))) :=
        engStep_opLoad (a := x.gr (raOf w) + immS w) stop rfl rfl aligned inside ext sound hc at_
  have store {c : Instr} {op size : Nat} (hc : ∀ s, exec c s = runOp op (opStore size addrImm none) n s) (at_ : d.atOp n op)
      (aligned : a % size = 0) (inside : a < 0x20000) : EngStep c d n ((x.putBytes a (leBytes size v)).next none) :=
    engStep_opStore (a := x.gr (raOf w) + immS w) stop rfl rfl aligned inside hc at_
  exact ⟨load (op := 0x1B) (BitVec.ofNat 32) fun _ => rfl, load (op := 0x1C) (extS 16) fun _ => rfl,
    load (op := 0x1D) (BitVec.ofNat 32) fun _ => rfl, fun at_ => load (op := 0x1E) (extS 8) (fun _ => rfl) at_ (Nat.mod_one a),
    fun at_ => load (op := 0x1F) (BitVec.ofNat 32) (fun _ => rfl) at_ (Nat.mod_one a),
    fun at_ ne aligned inside => engStep_lwp stop rfl aligned inside sound at_ ne,
    store (op := 0x21) fun _ => rfl, store (op := 0x22) fun _ => rfl,
    fun at_ => store (op := 0x23) (fun _ => rfl) at_ (Nat.mod_one a),
    fun at_ aligned inside => engStep_swp stop rfl aligned inside at_⟩

/-- Settles O40: each transfer at the case of its premises, its target free of traps. -/
theorem engineTransfersComplete : Obligations.EngineTransfersComplete := by
  intro d n x w t r stop
  refine ⟨engStep_b_not rfl stop, engStep_b_taken rfl stop rfl, becomes_call rfl rfl, engStep_jr rfl stop, becomes_callr rfl,
    fun at_ plain held free => engStep_ret rfl stop plain at_ held free,
    fun at_ plain free outside => engStep_reti rfl stop plain at_ free outside,
    fun at_ plain free inside pfx repeats left => engStep_reti_repeat rfl stop plain at_ free inside pfx repeats left,
    fun next plain repeats listed => ⟨fun count => ⟨?_, ?_⟩, fun count => ⟨?_, ?_⟩⟩⟩
  · exact engStep_opPrefix_skip (intr := false) (op := 0x2B) rfl stop plain (fun _ => rfl) next repeats listed count
  · exact engStep_opPrefix_skip (intr := true) (op := 0x2C) rfl stop plain (fun _ => rfl) next repeats listed count
  · exact engStep_opPrefix_starts (intr := false) (op := 0x2B) rfl stop plain (fun _ => rfl) next repeats listed count
  · exact engStep_opPrefix_starts (intr := true) (op := 0x2C) rfl stop plain (fun _ => rfl) next repeats listed count

/-- Settles O36: the table entry by entry; a B of COND 15 comes to the trap of an illegal word. -/
theorem branchConditions : Obligations.BranchConditions :=
  ⟨fun _ => rfl, fun _ _ at_ _ cond => becomes_of_trap (fun _ => rfl) at_ fun _ => if_pos cond⟩

end

/-! PROOFS (11, 12). Events of a block, traps of the engines and their system instructions. -/

namespace Sys2Proof.Machine

/-! ### Events (02 R68, R69) -/

/-- An event sets its bit; beyond registers its vector reaches host memory or the host link alone. -/
theorem Dev.event_frame (d : Dev) (evt bit ien vec : Nat) :
    d.event evt bit ien vec =
      { d.setFlag ⟨evt, bit, 1⟩ true with mem := (d.event evt bit ien vec).mem, hl := (d.event evt bit ien vec).hl } := by
  unfold Dev.event
  dsimp only
  split
  · exact (d.setFlag ⟨evt, bit, 1⟩ true).raiseVector_frame _
  · rfl

@[simp] theorem Dev.event_eng (d : Dev) (evt bit ien vec : Nat) : (d.event evt bit ien vec).eng = d.eng :=
  (congrArg Dev.eng (d.event_frame evt bit ien vec)).trans rfl

theorem Dev.reg_event_other (d : Dev) (bit ien vec : Nat) {evt o : Nat} (h : o ≠ evt) : (d.event evt bit ien vec).reg o = d.reg o := by
  unfold Dev.reg
  rw [d.event_regs]
  exact d.reg_setReg_other _ h

theorem Dev.fld_event_other (d : Dev) (bit ien vec : Nat) {evt : Nat} {g : Fld} (h : g.off ≠ evt) :
    (d.event evt bit ien vec).fld g = d.fld g := congrArg g.ext (d.reg_event_other bit ien vec h)

theorem Dev.flag_event_same (d : Dev) {bit : Nat} (evt ien vec : Nat) (lo : bit < 32) :
    (d.event evt bit ien vec).flag ⟨evt, bit, 1⟩ = true := by
  rw [Dev.flag, Dev.fld_of_regs (d.event_regs evt bit ien vec)]
  exact d.flag_setFlag_bit true rfl lo

/-! ### Traps (11 R327) -/

/-- An engine that takes a trap with no repeat in progress and no load pending, and is not in a handler. -/
theorem Dev.engTrap_plain {d : Dev} {n : Nat} (cause : Nat) (ev : Word) (outside : (d.engine n).flags.getLsbD 9 = false)
    (norep : (d.engine n).rep = none) (noload : (d.engine n).ld = none) :
    d.engTrap n cause ev =
      (((d.setEngine n ((d.engine n).enter (d.engine n).pc cause ev (d.engine n).tvec)).setFld (R.ENG_TRAP_CAUSE n) cause).count
        (R.ENG_TRAP_CNT n)).engEvent n (R.ENG_EVT_TRAP n) := by
  simp only [Dev.engTrap, outside, norep, noload, Bool.false_eq_true, if_false]

/-- Which OP an engine stands at, there being no other stop at its pc. -/
theorem fetchTrap_atOp {d : Dev} {n op : Nat} (at_ : d.atOp n op) (listed : opListed op = true) : fetchTrap (d.engine n) = none := by
  obtain ⟨issues, word⟩ := at_
  simp only [Dev.engIssues, Bool.and_eq_true, decide_eq_true_eq] at issues
  obtain ⟨⟨⟨_, inside⟩, aligned⟩, _⟩ := issues
  simp only [fetchTrap, Nat.not_le.mpr inside, aligned, word, listed, ne_eq, not_true_eq_false, Bool.not_true, Bool.false_eq_true,
    if_false]

/-- TRAP with a code of 16 bits. -/
theorem becomes_engTrap {d : Dev} {n : Fin 16} (at_ : d.atOp n 0x35) (plain : bitsOf ((d.engine n).iword (d.engine n).pc) 16 10 = 0) :
    Becomes (.engTrap n) d (d.engTrap n 0x20 (BitVec.ofNat 32 (bitsOf ((d.engine n).iword (d.engine n).pc) 0 16))) := by
  intro nv q
  change execEngTrap n ⟨d, nv, q⟩ = _
  simp only [execEngTrap, fetchTrap_atOp at_ rfl]
  rw [runOp_issues opTrap at_]
  simp only [opTrap, plain, ne_eq, not_true_eq_false, if_false, settleOp]

/-! ### System instructions (12 R369, R370) -/

section
variable {d : Dev} {n : Fin 16} {w : Word} (hw : w = (d.engine n).iword (d.engine n).pc)
include hw

theorem becomes_mfs (at_ : d.atOp n 0x2D) (ra : raOf w = 0) (plain : bitsOf w 5 13 = 0)
    (held : bitsOf w 0 5 = 0x0C → d.popTraps n = false) :
    Becomes (.engMfs n) d
      (((d.readSpecial n (bitsOf w 0 5)).2.setEngine n
        (((d.readSpecial n (bitsOf w 0 5)).2.engine n).setG (rdOf w) (d.readSpecial n (bitsOf w 0 5)).1)).retireOp n none none) := by
  have reads : ¬ (bitsOf w 0 5 = 0x0C ∧ d.popTraps n = true) := fun ⟨stack, traps⟩ => by simp [held stack] at traps
  subst hw
  refine becomes_of_op (fun _ => rfl) at_ fun nv => ?_
  simp only [opMfs, ra, plain, reads, ne_eq, not_true_eq_false, or_self, if_false, settleOp]

theorem becomes_mts (at_ : d.atOp n 0x2E) (rd : rdOf w = 0) (plain : bitsOf w 5 13 = 0) (rw_ : specialRw (bitsOf w 0 5) = true)
    (room : bitsOf w 0 5 = 0x0C → d.pushTraps n = false) :
    Becomes (.engMts n) d ((d.writeSpecial n (bitsOf w 0 5) ((d.engine n).gr (raOf w))).retireOp n none none) := by
  have writes : ¬ (bitsOf w 0 5 = 0x0C ∧ d.pushTraps n = true) := fun ⟨stack, traps⟩ => by simp [room stack] at traps
  subst hw
  refine becomes_of_op (fun _ => rfl) at_ fun nv => ?_
  simp only [opMts, rd, plain, rw_, writes, ne_eq, not_true_eq_false, Bool.true_eq_false, or_self, if_false, settleOp]

theorem becomes_waitmt_reached (at_ : d.atOp n 0x30) (rd : rdOf w = 0) (plain : bitsOf w 0 14 = 0)
    (reached : ((d.engine n).gr (raOf w)).toNat + ((d.engine n).gr (rbOf w)).toNat * 2 ^ 32 ≤ d.now) :
    Becomes (.engWaitmt n) d
      ((d.setEngine n { d.engine n with flags := withFlags (d.engine n).flags 4 4 }).retireOp n none none) := by
  subst hw
  refine becomes_of_op (fun _ => rfl) at_ fun nv => ?_
  simp only [opWaitmt, rd, plain, reached, ne_eq, not_true_eq_false, or_self, if_true, if_false, settleOp]

theorem becomes_waitmt_waits (at_ : d.atOp n 0x30) (rd : rdOf w = 0) (plain : bitsOf w 0 14 = 0)
    (ahead : d.now < ((d.engine n).gr (raOf w)).toNat + ((d.engine n).gr (rbOf w)).toNat * 2 ^ 32) :
    Becomes (.engWaitmt n) d
      (d.beginWait n (((d.engine n).gr (raOf w)).toNat + ((d.engine n).gr (rbOf w)).toNat * 2 ^ 32)) := by
  subst hw
  refine becomes_of_op (fun _ => rfl) at_ fun nv => ?_
  simp only [opWaitmt, rd, plain, Nat.not_le.mpr ahead, ne_eq, not_true_eq_false, or_self, if_false, settleOp]

/-- The device after an EMIT that the engine has room for. -/
def Dev.emitted (d : Dev) (n : Nat) (w a : Word) : Dev :=
  ((((d.setEngine n { d.engine n with outst := (d.engine n).outst + 1 }).count (R.ENG_EMIT_CNT n)).answer n w 0).takeBlock n
    a.toNat).retireOp n none none

theorem becomes_emit {c : Instr} (hc : ∀ s, exec c s = runOp 0x31 opEmit n s) (at_ : d.atOp n 0x31) (plain : bitsOf w 0 18 = 0)
    (inside : spanTrap ((d.engine n).gr (raOf w)) 8 24 = none) (room : (d.engine n).outst < 64) :
    Becomes c d (d.emitted n w ((d.engine n).gr (raOf w))) := by
  subst hw
  refine becomes_of_op hc at_ fun nv => ?_
  simp only [opEmit, plain, inside, Nat.not_le.mpr room, ne_eq, not_true_eq_false, if_false, settleOp]
  rfl

/-- GROUP_CANCEL is the EMIT of a block whose ACTION asks for it. -/
theorem becomes_groupCancel (at_ : d.atOp n 0x31) (plain : bitsOf w 0 18 = 0)
    (inside : spanTrap ((d.engine n).gr (raOf w)) 8 24 = none) (room : (d.engine n).outst < 64)
    (cancel : (actOfEmit (BitVec.ofNat 192 ((d.engine n).num ((d.engine n).gr (raOf w)).toNat 24))).action = 0) :
    Becomes (.groupCancel n) d (d.emitted n w ((d.engine n).gr (raOf w))) := by
  intro nv q
  have asks : exec (.groupCancel n) ⟨d, nv, q⟩ = exec (.engEmit n) ⟨d, nv, q⟩ := by
    subst hw
    exact if_pos cancel
  rw [asks]
  exact becomes_emit hw (fun _ => rfl) at_ plain inside room nv q

theorem becomes_send {tab : Option (Bool × BitVec 12)} {d' : Dev} {h : Nat} {a b : Word} (ha : a = (d.engine n).gr (raOf w))
    (hb : b = (d.engine n).gr (rbOf w)) (at_ : d.atOp n 0x32) (plain : bitsOf w 0 14 = 0)
    (form : bitsOf b 20 12 = 0) (inside : spanTrap a 4 (bitsOf b 0 16) = none) (long : 14 ≤ bitsOf b 0 16)
    (short : bitsOf b 0 16 ≤ 1518) (on : d.domOn 7 = true)
    (sent : d.swSend ((d.engine n).bytes a.toNat (bitsOf b 0 16)) (bitsOf b 16 3) (b.getLsbD 19) tab = (d', some h)) :
    Becomes (.engSend n tab) d ((d'.answer n w (BitVec.ofNat 32 h)).retireOp n none none) := by
  have length : ¬ (bitsOf b 0 16 < 14 ∨ 1518 < bitsOf b 0 16) := by omega
  subst hw ha hb
  refine becomes_of_op (fun _ => rfl) at_ fun nv => ?_
  simp only [opSend, plain, form, inside, length, on, sent, ne_eq, not_true_eq_false, if_true, if_false, settleOp]

theorem becomes_recv {f : SwFrame} {a b : Word} (ha : a = (d.engine n).gr (raOf w)) (hb : b = (d.engine n).gr (rbOf w))
    (at_ : d.atOp n 0x33) (plain : bitsOf w 0 14 = 0) (inside : spanTrap a 4 b.toNat = none) (on : d.domOn 7 = true)
    (oldest : d.swOldest (d.role n) = some f) (room : f.data.length ≤ b.toNat) :
    Becomes (.engRecv n) d
      ((((d.swTake (d.role n) f).setEngine n
        { ((d.swTake (d.role n) f).engine n).putBytes a.toNat f.data with rxmt := BitVec.ofNat 64 f.mt }).answer n w
          (BitVec.ofNat 32 f.data.length)).retireOp n none none) := by
  subst hw ha hb
  refine becomes_of_op (fun _ => rfl) at_ fun nv => ?_
  simp only [opRecv, plain, inside, on, oldest, Nat.not_lt.mpr room, ne_eq, not_true_eq_false, if_true, if_false, settleOp]

theorem becomes_leave {d' : Dev} {a b : Word} (ha : a = (d.engine n).gr (raOf w)) (hb : b = (d.engine n).gr (rbOf w))
    (at_ : d.atOp n 0x34) (plain : bitsOf w 0 14 = 0) (some_ : b ≠ 0) (form : bitsOf a 10 6 = 0) (kind : bitsOf a 8 2 < 2)
    (granted : d.decideLeave (d.engLeave n a (min 1000000 b.toNat)) = (none, d')) :
    Becomes (.engLeave n) d
      ((d'.answer n w (BitVec.ofNat 32 ((d.pwr.nextBook + 1) % 2 ^ 31))).retireOp n none none) := by
  have lasts : min 1000000 b.toNat ≠ 0 := by
    have : b.toNat ≠ 0 := fun zero => some_ (BitVec.eq_of_toNat_eq zero)
    omega
  subst hw ha hb
  refine becomes_of_op (fun _ => rfl) at_ fun nv => ?_
  simp only [opLeave, plain, lasts, form, Nat.not_le.mpr kind, granted, ne_eq, not_true_eq_false, or_self, if_false, settleOp]

end

/-! ### Which trap an instruction takes (12 R371) -/

theorem accessTrap_align {a size : Nat} (store : Bool) (misaligned : a % size ≠ 0) : accessTrap a size store = some 0x03 :=
  if_pos misaligned

/-- An access of a half-word or of a byte reaches DMEM only. -/
theorem accessTrap_bus {a size : Nat} (store : Bool) (aligned : a % size = 0) (outside : 0x20000 ≤ a) (part : size ≠ 4) :
    accessTrap a size store = some 0x04 := by
  simp only [accessTrap, aligned, Nat.not_lt.mpr outside, part, ne_eq, not_true_eq_false, false_and, if_false]
  split <;> rfl

theorem opLoad_trap {size cause : Nat} {ext : Nat → Word} {addr : Eng → Word → Word} {post : Option (Eng → Word → Word)}
    {det : Bool}
    {d : Dev} {n : Nat} {x : Eng} {w : Word} (nv : Nv) (traps : accessTrap (addr x w).toNat size false = some cause) :
    opLoad size ext addr post det d nv n x w = .trap cause (addr x w) d := by simp only [opLoad, traps]

theorem opStore_trap {size cause : Nat} {addr : Eng → Word → Word} {post : Option (Eng → Word → Word)} {d : Dev} {n : Nat} {x : Eng}
    {w : Word} (nv : Nv) (traps : accessTrap (addr x w).toNat size true = some cause) :
    opStore size addr post d nv n x w = .trap cause (addr x w) d := by simp only [opStore, traps]

theorem targetTrap_align {t : Word} (misaligned : t.toNat % 4 ≠ 0) : targetTrap t = some 0x03 := if_pos misaligned

theorem targetTrap_outside {t : Word} (aligned : t.toNat % 4 = 0) (outside : 0x20000 ≤ t.toNat) : targetTrap t = some 0x05 := by
  simp only [targetTrap, aligned, outside, ne_eq, not_true_eq_false, if_true, if_false]

theorem opJr_trap {cause : Nat} {d : Dev} {n : Nat} {x : Eng} {w : Word} (nv : Nv) (rd : rdOf w = 0) (plain : bitsOf w 0 18 = 0)
    (traps : targetTrap (x.gr (raOf w)) = some cause) : opJr d nv n x w = .trap cause (x.gr (raOf w)) d := by
  simp only [opJr, rd, plain, ne_eq, not_true_eq_false, or_self, if_false, jumpTo, traps]

theorem opPrefix_trap {intr : Bool} {d : Dev} {n : Nat} {x : Eng} {w : Word} (nv : Nv) (plain : bitsOf w 0 26 = 0)
    (next : x.pc + 4 < 0x20000) (barred : noRepeat (opOf (x.iword (x.pc + 4))) = true) :
    opPrefix intr d nv n x w = .trap 0x02 (x.iword (x.pc + 4)) d := by
  simp only [opPrefix, plain, Nat.not_le.mpr next, barred, ne_eq, not_true_eq_false, if_false, if_true]

end Sys2Proof.Machine

section
open Sys2Proof Sys2Proof.Machine

/-- Settles O42: the engine enters the handler at its pc; of the registers the cause, the count and the event alone change. -/
theorem trapEntry : Obligations.TrapEntry := by
  intro d n cause ev x d' y outside norep noload small
  have trap : d' = _ := Dev.engTrap_plain cause ev outside norep noload
  have table : d'.eng = (d.setEngine n (x.enter x.pc cause ev x.tvec)).eng := by
    rw [trap]
    exact Dev.event_eng ..
  have engine (k : Nat) : d'.engine k = (d.setEngine n (x.enter x.pc cause ev x.tvec)).engine k := by
    unfold Dev.engine
    rw [table]
  have entered : y = x.enter x.pc cause ev x.tvec := (engine n).trans (d.engine_setEngine_same ..)
  have fits : cause % 2 ^ 32 = cause := Nat.mod_eq_of_lt (by omega)
  have quiet : R.ENG_TRAP n ≠ R.ENG_EVT n ∧ R.ENG_TRAP n ≠ R.ENG_TRAP_CNT n ∧ R.ENG_STAT n ≠ R.ENG_EVT n ∧
      R.ENG_STAT n ≠ R.ENG_TRAP_CNT n ∧ R.ENG_STAT n ≠ R.ENG_TRAP n := by
    simp [R.ENG_TRAP, R.ENG_EVT, R.ENG_TRAP_CNT, R.ENG_STAT]
  obtain ⟨trapEvt, trapCnt, statEvt, statCnt, statTrap⟩ := quiet
  refine ⟨entered ▸ rfl, ?_, entered ▸ rfl, ?_, ?_, ?_, entered ▸ rfl, entered ▸ rfl, entered ▸ rfl,
    entered ▸ rfl, entered ▸ rfl,
    entered ▸ rfl, fun k hk => (engine k).trans (d.engine_setEngine_other _ hk), ?_, ?_, ?_⟩
  · rw [entered]
    exact (BitVec.toNat_ofNat ..).trans fits
  · rw [entered]
    simp [Eng.enter, norep]
  · rw [entered]
    simp [Eng.enter, norep, withFlags]
  · rw [entered]
    rfl
  · rw [trap, Dev.engEvent, Dev.fld_event_other _ _ _ _ trapEvt, Dev.count, Dev.addFld, Dev.fld_setFld_off _ _ _ _ trapCnt,
      Dev.fld_setFld_same _ _ _ (by decide : 0 + 8 ≤ 32)]
    exact Nat.mod_eq_of_lt small
  · rw [trap]
    exact Dev.flag_event_same _ _ _ _ (by decide : 1 < 32)
  · rw [Dev.engSt, trap, Dev.engEvent, Dev.fld_event_other _ _ _ _ statEvt, Dev.count, Dev.addFld, Dev.fld_setFld_off _ _ _ _ statCnt,
      Dev.fld_setFld_off _ _ _ _ statTrap]
    rfl

/-- Settles O41: each instruction at the case of its premises; a group cancel is an EMIT. -/
theorem engineSystemCompletes : Obligations.EngineSystemCompletes := by
  intro d n x w k a b
  exact ⟨becomes_mfs rfl, becomes_mts rfl, becomes_waitmt_reached rfl, becomes_waitmt_waits rfl,
    fun at_ plain inside room => ⟨becomes_emit rfl (fun _ => rfl) at_ plain inside room, becomes_groupCancel rfl at_ plain inside room⟩,
    fun _ _ _ at_ plain form inside long short on sent => becomes_send rfl rfl rfl at_ plain form inside long short on sent,
    fun _ at_ plain inside on oldest room => becomes_recv rfl rfl rfl at_ plain inside on oldest room,
    fun _ at_ plain some_ form kind granted => becomes_leave rfl rfl rfl at_ plain some_ form kind granted, becomes_engTrap⟩

/-- Settles O43: each trap where its operation comes to it, before the operation changes anything. -/
theorem instructionTraps : Obligations.InstructionTraps := by
  intro d n x w a r
  have zero {c : Instr} {op : Nat} {f : Word → Word → Alu} (plain : bitsOf w 0 14 = 0) (divisor : x.gr (rbOf w) = 0)
      (hc : ∀ s, exec c s = runOp op (opDiv f) n s) (at_ : d.atOp n op) : Becomes c d (d.engTrap n 0x08 0) :=
    becomes_of_trap hc at_ fun _ => if_pos ⟨plain, divisor⟩
  refine ⟨fun plain divisor => ⟨zero plain divisor fun _ => rfl, zero plain divisor fun _ => rfl, zero plain divisor fun _ => rfl⟩,
    fun reserved => ⟨fun at_ => becomes_of_trap (fun _ => rfl) at_ fun _ => if_pos reserved,
      fun at_ => becomes_of_trap (fun _ => rfl) at_ fun _ => if_pos (.inl reserved),
      fun at_ => becomes_of_trap (fun _ => rfl) at_ fun _ => if_pos reserved⟩,
    fun at_ misaligned => becomes_of_trap (fun _ => rfl) at_ fun nv => opLoad_trap nv (accessTrap_align _ misaligned),
    fun at_ misaligned => becomes_of_trap (fun _ => rfl) at_ fun nv => opStore_trap nv (accessTrap_align _ misaligned),
    fun at_ aligned outside =>
      becomes_of_trap (fun _ => rfl) at_ fun nv => opLoad_trap nv (accessTrap_bus _ aligned outside (by decide)),
    fun at_ outside =>
      becomes_of_trap (fun _ => rfl) at_ fun nv => opStore_trap nv (accessTrap_bus _ (Nat.mod_one _) outside (by decide)),
    fun at_ rd plain misaligned => becomes_of_trap (fun _ => rfl) at_ fun nv => opJr_trap nv rd plain (targetTrap_align misaligned),
    fun at_ rd plain aligned outside =>
      becomes_of_trap (fun _ => rfl) at_ fun nv => opJr_trap nv rd plain (targetTrap_outside aligned outside),
    fun plain next barred => ⟨fun at_ => becomes_of_trap (fun _ => rfl) at_ fun nv => opPrefix_trap nv plain next barred,
      fun at_ => becomes_of_trap (fun _ => rfl) at_ fun nv => opPrefix_trap nv plain next barred⟩⟩

end

section
/-! PROOFS (19). The debug port, open and shut, and the state that reset leaves. -/

namespace Sys2Proof.Machine

/-! ### The TAP's instruction register -/

theorem Dev.tapLoad_open {nv : Nv} (h : nv.tapShut = false) (d : Dev) (ir : Nat) (f : TapState → TapState) :
    d.tapLoad nv ir f = { d with tap := f { d.tap with ir := ir, dbg := decide (ir = 5) } } := by
  simp [Dev.tapLoad, h]

/-- BYPASS and IDCODE enter an open and a shut port alike. -/
theorem Dev.tapLoad_basic {ir : Nat} (h : ir = 1 ∨ ir = 2) (d : Dev) (nv : Nv) (f : TapState → TapState) :
    d.tapLoad nv ir f = { d with tap := f { d.tap with ir := ir, dbg := decide (ir = 5) } } := by
  rcases h with rfl | rfl <;> simp [Dev.tapLoad]

/-- Into a shut port every other instruction enters as BYPASS. -/
theorem Dev.tapLoad_shut {nv : Nv} (h : nv.tapShut = true) {ir : Nat} (other : ir ≠ 1 ∧ ir ≠ 2) (d : Dev)
    (f : TapState → TapState) : d.tapLoad nv ir f = d.tapLoad nv 1 fun t => { t with dr := 0 } := by
  simp [Dev.tapLoad, h, other]

theorem Dev.dbgOpen_shut {nv : Nv} (h : nv.tapShut = true) (d : Dev) (e : Nat) : d.dbgOpen nv e = false := by
  simp [Dev.dbgOpen, h]

/-- The port is open to an engine of a cluster that is on once DBG_ACCESS has entered. -/
theorem Dev.dbgOpen_selected {d : Dev} {nv : Nv} (sel : d.tap.dbg = true) (h : nv.tapShut = false) {e : Nat}
    (on : d.domOn (engDom e) = true) : d.dbgOpen nv e = true := by
  simp [Dev.dbgOpen, sel, h, on]

theorem Dev.dbgDo_writeG {d : Dev} {nv : Nv} {e : Fin 16} (h : d.dbgOpen nv e = true) (r : Fin 32) (v : Word) :
    d.dbgDo nv (.writeG e r v) = d.setEngine e ((d.engine e).setG (r.val % 16) v) := by
  simp [Dev.dbgDo, h]

theorem Dev.dbgDo_readG {d : Dev} {nv : Nv} {e : Fin 16} (h : d.dbgOpen nv e = true) (r : Fin 32) :
    d.dbgDo nv (.readG e r) = d.dbgShow ((d.engine e).gr (r.val % 16)) := by
  simp [Dev.dbgDo, h]

/-- An access to an engine does nothing while the port is shut. -/
theorem Dev.dbgDo_shut {nv : Nv} (h : nv.tapShut = true) (d : Dev) (x : DbgAcc) : d.dbgDo nv x = d := by
  cases x <;> simp [Dev.dbgDo, Dev.dbgOpen_shut h]

/-- The device whose TAP holds DBG_ACCESS. -/
def Dev.dbgSelected (d : Dev) : Dev := { d with tap := { d.tap with ir := 5, dbg := true } }

/-- DBG_ACCESS on an open port: the instruction enters, then the access is made. -/
theorem execDbgAccess_open {nv : Nv} (h : nv.tapShut = false) (d : Dev) (q : List Instr) (x : DbgAcc) :
    exec (.dbgAccess x) ⟨d, nv, q⟩ = .next ⟨d.dbgSelected.dbgDo nv x, nv, q⟩ := by
  change execDbgAccess x ⟨d, nv, q⟩ = _
  rw [execDbgAccess, onDev, Dev.tapLoad_open h]
  rfl

theorem Dev.dbgOpen_dbgSelected {d : Dev} {nv : Nv} (h : nv.tapShut = false) {e : Nat} (on : d.domOn (engDom e) = true) :
    d.dbgSelected.dbgOpen nv e = true := Dev.dbgOpen_selected rfl h on

/-- A register offset that is aligned is the one that the port accesses. -/
theorem aligned_offset {n : Nat} (h : n % 4 = 0) : n / 4 * 4 = n := by omega

end Sys2Proof.Machine

section
open Sys2Proof Sys2Proof.Machine

/-- Settles O59: each instruction enters by tapLoad, and each access of an open port is the model's own function. -/
theorem debugCommandsComplete : Obligations.DebugCommandsComplete := by
  unfold Obligations.DebugCommandsComplete
  refine ⟨fun d => ⟨?_, ?_⟩, fun d nv q pins pre opened => ⟨?_, ?_⟩, fun d nv q e opened => ⟨?_, ?_, fun halted valid => ?_⟩,
    fun d nv q e r v opened on => ⟨?_, ?_, ?_⟩, fun d nv q off v sel opened aligned => ⟨?_, ?_⟩⟩
  · intro nv q
    change execBypass ⟨d, nv, q⟩ = _
    rw [execBypass, onDev, Dev.tapLoad_basic (.inl rfl)]
    rfl
  · intro nv q
    change execIdcode ⟨d, nv, q⟩ = _
    rw [execIdcode, onDev, Dev.tapLoad_basic (.inr rfl)]
    rfl
  · change execSamplePreload pins pre ⟨d, nv, q⟩ = _
    rw [execSamplePreload, onDev, Dev.tapLoad_open opened]
    rfl
  · change execExtest ⟨d, nv, q⟩ = _
    rw [execExtest, onDev, Dev.tapLoad_open opened]
    rfl
  · change execDbgHalt e ⟨d, nv, q⟩ = _
    simp [execDbgHalt, onDev, opened]
  · change execDbgResume e ⟨d, nv, q⟩ = _
    simp [execDbgResume, onDev, opened]
  · change execDbgStep e ⟨d, nv, q⟩ = _
    simp [execDbgStep, opened, halted, valid]
  · exact execDbgAccess_open opened d q _
  · rw [execDbgAccess_open opened d q, Dev.dbgDo_writeG (Dev.dbgOpen_dbgSelected opened on)]
    rfl
  · rw [execDbgAccess_open opened d q, Dev.dbgDo_readG (Dev.dbgOpen_dbgSelected opened on)]
    rfl
  · change execDbgBar0Access off (some v) ⟨d, nv, q⟩ = _
    simp [execDbgBar0Access, sel, opened, aligned_offset aligned]
  · change execDbgBar0Access off none ⟨d, nv, q⟩ = _
    simp [execDbgBar0Access, sel, opened, aligned_offset aligned, Dev.dbgShow]

/-- Settles O60: a shut port takes every other instruction as BYPASS, and it is open to no engine. -/
theorem shutPortBypasses : Obligations.ShutPortBypasses := by
  intro d nv q shut
  refine ⟨fun pins pre => ?_, ?_, fun x => ?_, fun e => ⟨?_, ?_, ?_⟩, fun off wr => ?_⟩
  · change execSamplePreload pins pre ⟨d, nv, q⟩ = execBypass ⟨d, nv, q⟩
    rw [execSamplePreload, onDev, Dev.tapLoad_shut shut (by decide)]
    rfl
  · change execExtest ⟨d, nv, q⟩ = execBypass ⟨d, nv, q⟩
    rw [execExtest, onDev, Dev.tapLoad_shut shut (by decide)]
    rfl
  · change execDbgAccess x ⟨d, nv, q⟩ = execBypass ⟨d, nv, q⟩
    rw [execDbgAccess, onDev, Dev.dbgDo_shut shut, Dev.tapLoad_shut shut (by decide)]
    rfl
  · change execDbgHalt e ⟨d, nv, q⟩ = _
    simp [execDbgHalt, onDev, Dev.dbgOpen_shut shut]
  · change execDbgResume e ⟨d, nv, q⟩ = _
    simp [execDbgResume, onDev, Dev.dbgOpen_shut shut]
  · change execDbgStep e ⟨d, nv, q⟩ = _
    simp [execDbgStep, Dev.dbgOpen_shut shut]
  · change execDbgBar0Access off wr ⟨d, nv, q⟩ = _
    simp [execDbgBar0Access, shut]

/-- Settles O8: the register table is empty at reset, so each register reads its reset value. -/
theorem resetState : Obligations.ResetState := by
  refine ⟨fun k => ?_, rfl, by decide +kernel, rfl, rfl, rfl, rfl, fun _ => rfl, by decide +kernel⟩
  have low : ∀ k < 14, State.reset.dev.domOn k = decide (k = 0 ∨ k = 1) := by decide
  by_cases h : k < 14
  · exact low k h
  · have : ¬ (k = 0 ∨ k = 1) := by omega
    simp only [this, decide_false]
    exact BitVec.getLsbD_of_ge _ k (by omega)

end
end

section
/-! PROOFS (16). The power arbiter: what a grant books and what a refusal records. -/

namespace Sys2Proof.Machine

/-! ### Counters among the registers that may change -/

theorem RegsBut.count {l : List Nat} {d e : Dev} {o : Nat} (h : RegsBut l d e) (ho : o ∈ l) : RegsBut l d (e.count o) := h.setReg ho

theorem RegsBut.setReg64 {l : List Nat} {d e : Dev} {lo hi x : Nat} (h : RegsBut l d e) (hlo : lo ∈ l) (hhi : hi ∈ l) :
    RegsBut l d (e.setReg64 lo hi x) := (h.setReg hlo).setReg hhi

/-- A register that is not among those that may change. -/
theorem RegsBut.flag {l : List Nat} {d e : Dev} (h : RegsBut l d e) (f : Fld) (hf : f.off ∉ l) : e.flag f = d.flag f :=
  Dev.flag_of_reg (h f.off hf)

/-! ### The refusal of a request (16 R458, R459) -/

/-- A request that no budget refuses fits the module's budget, its bank's, and finds a slot free. -/
theorem Dev.leaveRefusal_none {d : Dev} {r : LeaveReq} (h : d.leaveRefusal r = none) :
    d.standMod + ((d.overlapping r).map fun k => k.mw + k.diss).sum + r.mw + r.diss ≤
      actLimit (d.reg R.PWR_LIM_MOD).toNat (regReset R.PWR_LIM_MOD).toNat r.safety ∧
    (∀ b, r.bank = some b →
      d.standBank b + (((d.overlapping r).filter fun k => k.bank == some b).map (·.amount)).sum + r.amount ≤
        actLimit (d.reg (R.PWR_BANK_LIM b)).toNat (regReset (R.PWR_BANK_LIM b)).toNat r.safety) ∧
    d.pwr.books.length < 1024 := by
  unfold Dev.leaveRefusal at h
  dsimp only at h
  split at h
  · contradiction
  next module =>
    split at h
    · next b bank =>
      split_ifs at h with channel fits full
      exact ⟨not_lt.mp module, fun k hk => Option.some.inj (bank.symm.trans hk) ▸ not_lt.mp fits, not_le.mp full⟩
    · next bank =>
      split_ifs at h with full
      exact ⟨not_lt.mp module, fun k hk => absurd (bank.symm.trans hk) nofun, not_le.mp full⟩

/-- A refusal's code is one of the module's, the channels', the eight banks' and the table's. -/
theorem Dev.leaveRefusal_code {d : Dev} {r : LeaveReq} {c : Nat} (h : d.leaveRefusal r = some c) (low : ∀ b, r.bank = some b → b < 8) :
    c < 2 ^ 8 := by
  unfold Dev.leaveRefusal at h
  dsimp only at h
  split at h
  · simp only [Option.some.injEq] at h; omega
  · split at h
    · next b bank =>
      have := low b bank
      split_ifs at h <;> simp only [Option.some.injEq] at h <;> omega
    · split_ifs at h
      simp only [Option.some.injEq] at h
      omega

/-! ### The decision (16 R459, R461) -/

/-- A grant books and counts; it counts a second time where it used a reserve. -/
theorem Dev.decideLeave_grant {d d' : Dev} {r : LeaveReq} (h : d.decideLeave r = (none, d')) :
    d.leaveRefusal r = none ∧
      (d' = (d.bookLeave r).count R.PWR_GRANT_CNT ∨ d' = ((d.bookLeave r).count R.PWR_GRANT_CNT).count R.PWR_RSV_USE_CNT) := by
  unfold Dev.decideLeave at h
  split at h
  · next fits =>
    dsimp only at h
    split_ifs at h <;> simp_all
  · cases h

/-- The record of a refusal, before the event. -/
def Dev.denied (d : Dev) (code req : Nat) : Dev :=
  (((((d.count R.PWR_DENY_CNT).setReg R.PWR_DENY_LAST 0).setFld R.PWR_DENY_LAST_CODE code).setFld R.PWR_DENY_LAST_REQ req).setFlag
    R.PWR_DENY_LAST_VALID true)

theorem Dev.decideLeave_refusal {d d' : Dev} {r : LeaveReq} {code : Nat} (h : d.decideLeave r = (some code, d')) :
    d.leaveRefusal r = some code ∧ d' = (d.denied code r.req).pwrEvent R.PWR_EVT_DENY := by
  unfold Dev.decideLeave at h
  split at h
  · dsimp only at h
    split_ifs at h <;> cases h
  · next c refused =>
    cases h
    exact ⟨refused, rfl⟩

theorem Dev.fld_denied_code (d : Dev) {code : Nat} (req : Nat) (h : code < 2 ^ 8) :
    (d.denied code req).fld R.PWR_DENY_LAST_CODE = code := by
  unfold Dev.denied Dev.setFlag
  rw [Dev.fld_setFld_apart _ R.PWR_DENY_LAST_VALID _ _ (by decide) (by decide),
    Dev.fld_setFld_apart _ R.PWR_DENY_LAST_REQ _ _ (by decide) (by decide), Dev.fld_setFld_same _ _ _ (by decide)]
  exact Nat.mod_eq_of_lt h

theorem Dev.fld_denied_req (d : Dev) (code : Nat) {req : Nat} (h : req < 2 ^ 4) :
    (d.denied code req).fld R.PWR_DENY_LAST_REQ = req := by
  unfold Dev.denied Dev.setFlag
  rw [Dev.fld_setFld_apart _ R.PWR_DENY_LAST_VALID _ _ (by decide) (by decide), Dev.fld_setFld_same _ _ _ (by decide)]
  exact Nat.mod_eq_of_lt h

theorem Dev.flag_denied_valid (d : Dev) (code req : Nat) : (d.denied code req).flag R.PWR_DENY_LAST_VALID = true :=
  Dev.flag_setFlag_bit _ true rfl (by decide)

theorem Dev.denied_other (d : Dev) (code req : Nat) : RegsBut [R.PWR_DENY_LAST] (d.count R.PWR_DENY_CNT) (d.denied code req) :=
  ((((RegsBut.refl (d.count R.PWR_DENY_CNT)).setReg (by decide)).setFld (by decide)).setFld (by decide)).setFlag (by decide)

theorem Dev.pwrEvent_frame (d : Dev) (f : Fld) :
    d.pwrEvent f = { d.setFlag ⟨R.PWR_EVT, f.lo, 1⟩ true with mem := (d.pwrEvent f).mem, hl := (d.pwrEvent f).hl } :=
  d.event_frame ..

@[simp] theorem Dev.pwrEvent_pwr (d : Dev) (f : Fld) : (d.pwrEvent f).pwr = d.pwr :=
  (congrArg Dev.pwr (d.pwrEvent_frame f)).trans rfl

end Sys2Proof.Machine

section
open Sys2Proof Sys2Proof.Machine

/-- Settles O50: a request that no budget refuses fits each of them, and its grant appends one booking. -/
theorem grantsFitTheBudget : Obligations.GrantsFitTheBudget := by
  intro d d' r decided
  obtain ⟨fits, rfl | rfl⟩ := Dev.decideLeave_grant decided
  · obtain ⟨module, bank, slot⟩ := Dev.leaveRefusal_none fits
    exact ⟨rfl, module, bank, slot, RegsBut.count (RegsBut.of_regs (.refl _) rfl) (.head _), rfl⟩
  · obtain ⟨module, bank, slot⟩ := Dev.leaveRefusal_none fits
    exact ⟨rfl, module, bank, slot, (RegsBut.count (RegsBut.of_regs (.refl _) rfl) (.head _)).count (.tail _ (.head _)), rfl⟩

/-- Settles O51: the record of a refusal is written before the event, which leaves it. -/
theorem refusalsAreRecorded : Obligations.RefusalsAreRecorded := by
  intro d d' r code decided req bank
  obtain ⟨refused, rfl⟩ := Dev.decideLeave_refusal decided
  refine ⟨by rw [Dev.pwrEvent_pwr]; rfl, ?_, ?_, ?_, Dev.flag_event_same _ _ _ _ (by decide), ?_⟩
  · exact (Dev.fld_event_other _ _ _ _ (by decide)).trans (d.fld_denied_code r.req (Dev.leaveRefusal_code refused bank))
  · exact (Dev.fld_event_other _ _ _ _ (by decide)).trans (d.fld_denied_req code (by omega))
  · exact (Dev.flag_of_reg (Dev.reg_event_other _ _ _ _ (by decide))).trans (d.flag_denied_valid code r.req)
  · rw [← d.toNat_reg_count_same R.PWR_DENY_CNT]
    exact congrArg BitVec.toNat ((Dev.reg_event_other _ _ _ _ (by decide)).trans (d.denied_other code r.req _ (by decide)))

end
end

section
/-! PROOFS (17). The fault collector: how a source latches, and how long the ERR_N land may differ from the driven level. -/

namespace Sys2Proof.Machine

/-! ### The status bits of the sources (17 R474) -/

/-- The status registers of the sources stand below every other register of the block. -/
theorem fltStatus_off {i : Nat} (h : i < 96) : (fltBit (R.FLT_STATUS 0) i).off < 0xE0010 := by
  dsimp only [fltBit, R.FLT_STATUS]
  omega

theorem flag_setFlag_fltBit_same (d : Dev) (off i : Nat) (b : Bool) : (d.setFlag (fltBit off i) b).flag (fltBit off i) = b :=
  d.flag_setFlag_bit b rfl (Nat.mod_lt i (by decide))

/-- Two sources have two bits. -/
theorem flag_setFlag_fltBit_other (d : Dev) (off : Nat) {i j : Nat} (b : Bool) (ne : j ≠ i) :
    (d.setFlag (fltBit off i) b).flag (fltBit off j) = d.flag (fltBit off j) := by
  by_cases word : j / 32 = i / 32
  · have low : i % 32 < 32 := Nat.mod_lt i (by decide)
    exact d.flag_setFlag_apart _ _ b (by dsimp only [fltBit]; omega) (by dsimp only [fltBit]; omega)
  · exact d.flag_setFlag_off _ _ b (by dsimp only [fltBit]; omega)

/-! ### Latching a source (17 R475) -/

/-- A source latched with the handling window closed, before any vector. -/
def Dev.firstLatched (d : Dev) (i : Nat) : Dev :=
  (((((d.setFlag (fltBit (R.FLT_STATUS 0) i) true).setFlag R.FLT_STATE_WINDOW true).setFld R.FLT_FIRST_SRC i).setFlag
    R.FLT_FIRST_VALID true).setReg64 R.FLT_FIRST_MT_LO R.FLT_FIRST_MT_HI d.now).count R.FLT_LATCH_CNT

/-- An event of a source counted as missed, before any vector. -/
def Dev.missed (d : Dev) : Dev := (d.setFlag R.FLT_STATE_MISSED true).count R.FLT_MISSED_CNT

/-- The device in which a source is counted as missed: FLT_FIRST has moved to a lower index of the same sample. -/
def Dev.firstSettled (d : Dev) (i : Nat) : Dev := if d.firstYields i then d.firstMove i else d

theorem Dev.latchFault_closed {d : Dev} {i : Nat} (clear : d.flag (fltBit (R.FLT_STATUS 0) i) = false)
    (closed : d.flag R.FLT_STATE_WINDOW = false) :
    d.latchFault i =
      if d.flag R.FLT_CTRL_IEN then (d.firstLatched i).raiseVector (d.fld R.FLT_VEC_VECTOR) else d.firstLatched i := by
  simp only [Dev.latchFault, clear, closed, Bool.false_eq_true, if_false]
  rfl

theorem Dev.latchFault_open {d : Dev} {i : Nat} (clear : d.flag (fltBit (R.FLT_STATUS 0) i) = false)
    (opened : d.flag R.FLT_STATE_WINDOW = true) :
    d.latchFault i =
      if !d.flag R.FLT_STATE_MISSED && d.flag R.FLT_CTRL_IEN then (d.firstSettled i).missed.raiseVector (d.fld R.FLT_VEC_VECTOR)
      else (d.firstSettled i).missed := by
  simp only [Dev.latchFault, clear, opened, Bool.false_eq_true, if_false, if_true]
  rfl

theorem Dev.latchFault_closed_regs {d : Dev} {i : Nat} (clear : d.flag (fltBit (R.FLT_STATUS 0) i) = false)
    (closed : d.flag R.FLT_STATE_WINDOW = false) : (d.latchFault i).regs = (d.firstLatched i).regs := by
  rw [Dev.latchFault_closed clear closed]
  split
  · exact Dev.raiseVector_regs ..
  · rfl

theorem Dev.latchFault_open_regs {d : Dev} {i : Nat} (clear : d.flag (fltBit (R.FLT_STATUS 0) i) = false)
    (opened : d.flag R.FLT_STATE_WINDOW = true) : (d.latchFault i).regs = (d.firstSettled i).missed.regs := by
  rw [Dev.latchFault_open clear opened]
  split
  · exact Dev.raiseVector_regs ..
  · rfl

theorem Dev.flag_of_regs {d e : Dev} (same : e.regs = d.regs) (f : Fld) : e.flag f = d.flag f := by
  unfold Dev.flag
  rw [Dev.fld_of_regs same]

theorem Dev.reg_of_regs {d e : Dev} (same : e.regs = d.regs) (o : Nat) : e.reg o = d.reg o := by
  unfold Dev.reg
  rw [same]

/-! ### A first latch, by register -/

/-- A latch leaves every status bit but the source's. -/
theorem Dev.firstLatched_others (d : Dev) (i : Nat) :
    RegsBut [R.FLT_STATE, R.FLT_FIRST, R.FLT_FIRST_MT_LO, R.FLT_FIRST_MT_HI, R.FLT_LATCH_CNT]
      (d.setFlag (fltBit (R.FLT_STATUS 0) i) true) (d.firstLatched i) :=
  (((((RegsBut.refl _).setFlag (by decide)).setFld (by decide)).setFlag (by decide)).setReg64 (by decide) (by decide)).count (by decide)

theorem Dev.flag_firstLatched_status (d : Dev) (i : Nat) {j : Nat} (h : j < 96) :
    (d.firstLatched i).flag (fltBit (R.FLT_STATUS 0) j) =
      (d.setFlag (fltBit (R.FLT_STATUS 0) i) true).flag (fltBit (R.FLT_STATUS 0) j) := by
  have low := fltStatus_off h
  refine (d.firstLatched_others i).flag _ ?_
  simp only [R.FLT_STATE, R.FLT_FIRST, R.FLT_FIRST_MT_LO, R.FLT_FIRST_MT_HI, R.FLT_LATCH_CNT, List.mem_cons, List.not_mem_nil, or_false]
  omega

theorem Dev.flag_firstLatched_window (d : Dev) (i : Nat) : (d.firstLatched i).flag R.FLT_STATE_WINDOW = true := by
  have later : RegsBut [R.FLT_FIRST, R.FLT_FIRST_MT_LO, R.FLT_FIRST_MT_HI, R.FLT_LATCH_CNT]
      ((d.setFlag (fltBit (R.FLT_STATUS 0) i) true).setFlag R.FLT_STATE_WINDOW true) (d.firstLatched i) :=
    ((((RegsBut.refl _).setFld (by decide)).setFlag (by decide)).setReg64 (by decide) (by decide)).count (by decide)
  exact (later.flag _ (by decide)).trans (Dev.flag_setFlag_bit _ true rfl (by decide))

/-- FLT_FIRST takes the source. -/
theorem Dev.firstLatched_first (d : Dev) {i : Nat} (h : i < 96) :
    (d.firstLatched i).fld R.FLT_FIRST_SRC = i ∧ (d.firstLatched i).flag R.FLT_FIRST_VALID = true := by
  have later : RegsBut [R.FLT_FIRST_MT_LO, R.FLT_FIRST_MT_HI, R.FLT_LATCH_CNT]
      ((((d.setFlag (fltBit (R.FLT_STATUS 0) i) true).setFlag R.FLT_STATE_WINDOW true).setFld R.FLT_FIRST_SRC i).setFlag
        R.FLT_FIRST_VALID true) (d.firstLatched i) :=
    ((RegsBut.refl _).setReg64 (by decide) (by decide)).count (by decide)
  refine ⟨(later.fld _ (by decide)).trans ?_, (later.flag _ (by decide)).trans (Dev.flag_setFlag_bit _ true rfl (by decide))⟩
  rw [Dev.setFlag, Dev.fld_setFld_apart _ R.FLT_FIRST_VALID _ _ (by decide) (by decide), Dev.fld_setFld_same _ _ _ (by decide)]
  exact Nat.mod_eq_of_lt (Nat.lt_of_lt_of_le h (by decide))

theorem Dev.firstLatched_mt (d : Dev) (i : Nat) (h : d.now < 2 ^ 64) :
    (d.firstLatched i).reg64 R.FLT_FIRST_MT_LO R.FLT_FIRST_MT_HI = d.now := by
  unfold Dev.firstLatched Dev.reg64
  rw [Dev.reg_count_other _ (by decide), Dev.reg_count_other _ (by decide)]
  exact Dev.reg64_setReg64_same _ (by decide) h

theorem Dev.firstLatched_count (d : Dev) {i : Nat} (h : i < 96) :
    ((d.firstLatched i).reg R.FLT_LATCH_CNT).toNat = min ((d.reg R.FLT_LATCH_CNT).toNat + 1) (2 ^ 32 - 1) := by
  have low := fltStatus_off h
  have before : RegsBut [(fltBit (R.FLT_STATUS 0) i).off, R.FLT_STATE, R.FLT_FIRST, R.FLT_FIRST_MT_LO, R.FLT_FIRST_MT_HI] d
      (((((d.setFlag (fltBit (R.FLT_STATUS 0) i) true).setFlag R.FLT_STATE_WINDOW true).setFld R.FLT_FIRST_SRC i).setFlag
        R.FLT_FIRST_VALID true).setReg64 R.FLT_FIRST_MT_LO R.FLT_FIRST_MT_HI d.now) :=
    (((((RegsBut.refl d).setFlag (.head _)).setFlag (List.mem_cons_of_mem _ (by decide))).setFld (List.mem_cons_of_mem _ (by decide))).setFlag
      (List.mem_cons_of_mem _ (by decide))).setReg64 (List.mem_cons_of_mem _ (by decide)) (List.mem_cons_of_mem _ (by decide))
  rw [Dev.firstLatched, Dev.toNat_reg_count_same, before]
  simp only [R.FLT_STATE, R.FLT_FIRST, R.FLT_FIRST_MT_LO, R.FLT_FIRST_MT_HI, R.FLT_LATCH_CNT, List.mem_cons, List.not_mem_nil, or_false]
  omega

/-! ### A missed event, by register -/

theorem Dev.missed_others (d : Dev) : RegsBut [R.FLT_STATE, R.FLT_MISSED_CNT] d d.missed :=
  ((RegsBut.refl d).setFlag (by decide)).count (by decide)

theorem Dev.flag_missed_missed (d : Dev) : d.missed.flag R.FLT_STATE_MISSED = true :=
  (Dev.flag_of_reg (Dev.reg_count_other _ (by decide))).trans (d.flag_setFlag_bit true rfl (by decide))

theorem Dev.flag_missed_window (d : Dev) : d.missed.flag R.FLT_STATE_WINDOW = d.flag R.FLT_STATE_WINDOW :=
  (Dev.flag_of_reg (Dev.reg_count_other _ (by decide))).trans (d.flag_setFlag_bits true (by decide) (by decide))

theorem Dev.missed_count (d : Dev) :
    (d.missed.reg R.FLT_MISSED_CNT).toNat = min ((d.reg R.FLT_MISSED_CNT).toNat + 1) (2 ^ 32 - 1) := by
  rw [Dev.missed, Dev.toNat_reg_count_same, Dev.setFlag, Dev.reg_setFld_other _ _ _ (by decide)]

/-! ### FLT_FIRST gives way within one sample -/

/-- FLT_FIRST gives way to a lower index than its own, whose status bit is set. -/
theorem Dev.firstYields_lower {d : Dev} {i : Nat} (h : d.firstYields i = true) :
    i < d.fld R.FLT_FIRST_SRC ∧ d.fld R.FLT_FIRST_SRC < 96 := by
  simp only [Dev.firstYields, Bool.and_eq_true, decide_eq_true_eq] at h
  obtain ⟨⟨⟨_, lower⟩, low⟩, _⟩ := h
  exact ⟨lower, low⟩

theorem Dev.firstMove_others (d : Dev) (i : Nat) :
    RegsBut [(fltBit (R.FLT_STATUS 0) (d.fld R.FLT_FIRST_SRC)).off, (fltBit (R.FLT_STATUS 0) i).off, R.FLT_FIRST] d (d.firstMove i) :=
  (((RegsBut.refl d).setFlag (by simp)).setFlag (by simp)).setFld (by simp [R.FLT_FIRST_SRC])

/-- A move reaches the status bits and FLT_FIRST alone. -/
theorem Dev.firstSettled_others (d : Dev) {i o : Nat} (h : 0xE0010 ≤ o) (ne : o ≠ R.FLT_FIRST) (low : i < 96) :
    (d.firstSettled i).reg o = d.reg o := by
  unfold Dev.firstSettled
  split
  · next yields =>
    obtain ⟨_, high⟩ := Dev.firstYields_lower yields
    have := fltStatus_off low
    have := fltStatus_off high
    refine d.firstMove_others i o ?_
    simp only [List.mem_cons, List.not_mem_nil, or_false]
    omega
  · rfl

theorem Dev.fld_firstMove_src (d : Dev) {i : Nat} (h : i < 96) : (d.firstMove i).fld R.FLT_FIRST_SRC = i :=
  (Dev.fld_setFld_same _ _ _ (by decide)).trans (Nat.mod_eq_of_lt (Nat.lt_of_lt_of_le h (by decide)))

theorem Dev.flag_firstMove_status (d : Dev) (i : Nat) {j : Nat} (h : j < 96) :
    (d.firstMove i).flag (fltBit (R.FLT_STATUS 0) j) =
      ((d.setFlag (fltBit (R.FLT_STATUS 0) (d.fld R.FLT_FIRST_SRC)) false).setFlag (fltBit (R.FLT_STATUS 0) i) true).flag
        (fltBit (R.FLT_STATUS 0) j) := by
  have low := fltStatus_off h
  refine Dev.flag_of_reg (Dev.reg_setFld_other _ _ _ ?_)
  dsimp only [R.FLT_FIRST_SRC, R.FLT_FIRST]
  omega

theorem Dev.flag_missed_status (d : Dev) {j : Nat} (h : j < 96) :
    d.missed.flag (fltBit (R.FLT_STATUS 0) j) = d.flag (fltBit (R.FLT_STATUS 0) j) := by
  have low := fltStatus_off h
  refine d.missed_others.flag _ ?_
  simp only [R.FLT_STATE, R.FLT_MISSED_CNT, List.mem_cons, List.not_mem_nil, or_false]
  omega

@[simp] theorem Dev.firstSettled_frame (d : Dev) (i : Nat) : (d.firstSettled i).hl = d.hl ∧ (d.firstSettled i).mem = d.mem := by
  unfold Dev.firstSettled
  split <;> exact ⟨rfl, rfl⟩

/-- No vector: with IEN 0, and where MISSED is set already. -/
theorem Dev.latchFault_silent {d : Dev} {i : Nat} (clear : d.flag (fltBit (R.FLT_STATUS 0) i) = false)
    (silent : d.flag R.FLT_CTRL_IEN = false ∨ (d.flag R.FLT_STATE_WINDOW = true ∧ d.flag R.FLT_STATE_MISSED = true)) :
    (d.latchFault i).hl = d.hl ∧ (d.latchFault i).mem = d.mem := by
  cases window : d.flag R.FLT_STATE_WINDOW with
  | false =>
    have ien : d.flag R.FLT_CTRL_IEN = false := silent.elim id fun h => absurd (window.symm.trans h.1) nofun
    rw [Dev.latchFault_closed clear window, ien]
    exact ⟨rfl, rfl⟩
  | true =>
    have quiet : (!d.flag R.FLT_STATE_MISSED && d.flag R.FLT_CTRL_IEN) = false := by
      rcases silent with h | ⟨_, h⟩ <;> simp [h]
    rw [Dev.latchFault_open clear window, quiet]
    exact d.firstSettled_frame i

/-! ### The ERR_N land (17 R479) -/

/-- Until 10 µs have passed a land that differs from the driven level does nothing. -/
theorem errnMismatch_early {d : Dev} {since : BitVec 64} (on : d.domOn 2 = true)
    (early : d.now < max since.toNat d.flt.errnAt + usTicks 10) :
    Becomes (.errnMismatch ⟨d.flag R.FLT_STATE_ERRN_LOW, since⟩) d d := by
  intro nv q
  change execErrnMismatch _ ⟨d, nv, q⟩ = _
  have differs : d.flag R.FLT_STATE_ERRN_LOW ≠ !d.flag R.FLT_STATE_ERRN_LOW := by cases d.flag R.FLT_STATE_ERRN_LOW <;> decide
  simp only [execErrnMismatch, onDev, on, if_true, if_neg differs, if_neg (Nat.not_le.mpr early)]

/-- The device at reset with PD2 on, 1 µs into Machine Time. -/
def Dev.oneMicrosecond : Dev :=
  { State.reset.dev with mt := { State.reset.dev.mt with now := 4000 }, pwr := { State.reset.dev.pwr with on := 7, good := 7 } }

end Sys2Proof.Machine

section
open Sys2Proof Sys2Proof.Machine

/-- Settles O52: a latch and a miss are each read register by register; FLT_FIRST moves within one sample only. -/
theorem latchRule : Obligations.LatchRule := by
  intro d i low clear
  refine ⟨fun closed => ?_, fun opened => ?_, fun opened stays => ?_, fun opened yields => ?_, Dev.latchFault_silent clear⟩
  · have regs := Dev.latchFault_closed_regs clear closed
    obtain ⟨src, valid⟩ := d.firstLatched_first low
    refine ⟨?_, (Dev.flag_of_regs regs _).trans (d.flag_firstLatched_window i), (Dev.fld_of_regs regs _).trans src,
      (Dev.flag_of_regs regs _).trans valid, fun now => ?_, ?_, fun j hj ne => ?_⟩
    · rw [Dev.flag_of_regs regs, d.flag_firstLatched_status i low, flag_setFlag_fltBit_same]
    · rw [Dev.reg64, Dev.reg_of_regs regs, Dev.reg_of_regs regs]
      exact d.firstLatched_mt i now
    · rw [Dev.reg_of_regs regs, d.firstLatched_count low]
    · rw [Dev.flag_of_regs regs, d.flag_firstLatched_status i hj, flag_setFlag_fltBit_other d _ _ ne]
  · have regs := Dev.latchFault_open_regs clear opened
    have settled {o : Nat} := d.firstSettled_others (o := o) (i := i)
    refine ⟨(Dev.flag_of_regs regs _).trans (Dev.flag_missed_missed _), ?_, ?_⟩
    · rw [Dev.flag_of_regs regs, Dev.flag_missed_window, Dev.flag_of_reg (settled (by decide) (by decide) low), opened]
    · rw [Dev.reg_of_regs regs, Dev.missed_count, settled (by decide) (by decide) low]
  · have regs := Dev.latchFault_open_regs clear opened
    have same : d.firstSettled i = d := by simp [Dev.firstSettled, stays]
    rw [same] at regs
    exact d.missed_others.of_regs regs
  · have regs := Dev.latchFault_open_regs clear opened
    have moved : d.firstSettled i = d.firstMove i := by simp [Dev.firstSettled, yields]
    obtain ⟨lower, high⟩ := Dev.firstYields_lower yields
    refine ⟨?_, ?_, ?_, ?_⟩
    · rw [Dev.fld_of_regs regs, (Dev.missed_others _).fld _ (by decide), moved, d.fld_firstMove_src low]
    · rw [Dev.flag_of_regs regs, Dev.flag_missed_status _ low, moved, d.flag_firstMove_status i low, flag_setFlag_fltBit_same]
    · rw [Dev.flag_of_regs regs, Dev.flag_missed_status _ high, moved, d.flag_firstMove_status i high,
        flag_setFlag_fltBit_other _ _ _ (Nat.ne_of_gt lower), flag_setFlag_fltBit_same]
    · rw [Dev.reg64, Dev.reg64, Dev.reg_of_regs regs, Dev.reg_of_regs regs, Dev.missed_others _ _ (by decide),
        Dev.missed_others _ _ (by decide), d.firstSettled_others (by decide) (by decide) low,
        d.firstSettled_others (by decide) (by decide) low]

/-- Refutes O53: its clause on ERR_N takes a mismatch of 1 µs, and the collector wants 10 µs (17 R479). -/
theorem not_faultCommandsComplete : ¬ Obligations.FaultCommandsComplete := by
  intro ⟨_, _, _, _, _, mismatch, _⟩
  have claimed := (mismatch Dev.oneMicrosecond 0 (by decide)).2 (by decide +kernel) State.reset.nv []
  have actual := errnMismatch_early (d := Dev.oneMicrosecond) (since := 0) (by decide) (by decide +kernel) State.reset.nv []
  have same : Dev.oneMicrosecond = Dev.oneMicrosecond.setLine Src.errn 0 := by
    simpa using actual.symm.trans claimed
  have down : Dev.oneMicrosecond.flt.lines.getLsbD Src.errn = false := by decide
  have up : (Dev.oneMicrosecond.setLine Src.errn 0).flt.lines.getLsbD Src.errn = true := by decide +kernel
  rw [← same, down] at up
  contradiction

end
end

section
/-! PROOFS (18). The vault's own events, and what a tamper leaves: no later reaction brings the root or the lock back. -/

namespace Sys2Proof.Machine

/-! ### What no reaction changes: the root and the lock -/

/-- The root and the lock of PD0 (18 R498, R500). -/
def Dev.rootState (d : Dev) : RootState × Bool := (d.root, d.tampLock)

@[simp] theorem Dev.setReg_rootState (d : Dev) (o : Nat) (v : Word) : (d.setReg o v).rootState = d.rootState := rfl
@[simp] theorem Dev.setFld_rootState (d : Dev) (f : Fld) (x : Nat) : (d.setFld f x).rootState = d.rootState := rfl
@[simp] theorem Dev.setFlag_rootState (d : Dev) (f : Fld) (b : Bool) : (d.setFlag f b).rootState = d.rootState := rfl
@[simp] theorem Dev.setCq_rootState (d : Dev) (n : Nat) (x : CqHid) : (d.setCq n x).rootState = d.rootState := rfl
@[simp] theorem Dev.withAcc_rootState (d : Dev) (x : AccState) : ({ d with acc := x } : Dev).rootState = d.rootState := rfl

theorem Dev.rootState_ite {c : Prop} [Decidable c] {d e g : Dev} (he : e.rootState = d.rootState) (hg : g.rootState = d.rootState) :
    (if c then e else g).rootState = d.rootState := by
  split
  · exact he
  · exact hg

theorem Dev.forAll_rootState {l : List Nat} {f : Nat → Dev → Dev} (h : ∀ k d, (f k d).rootState = d.rootState) (d : Dev) :
    (d.forAll l f).rootState = d.rootState := by
  induction l generalizing d with
  | nil => rfl
  | cons k t ih => exact (ih (f k d)).trans (h k d)

@[simp] theorem Dev.event_rootState (d : Dev) (evt bit ien vec : Nat) : (d.event evt bit ien vec).rootState = d.rootState :=
  (congrArg Dev.rootState (d.event_frame evt bit ien vec)).trans rfl

theorem Dev.raiseVector_rootState (d : Dev) (v : Nat) : (d.raiseVector v).rootState = d.rootState :=
  (congrArg Dev.rootState (d.raiseVector_frame v)).trans rfl

theorem Dev.ctxEvent_rootState (d : Dev) (c : Nat) (f : Fld) : (d.ctxEvent c f).rootState = d.rootState := by
  unfold Dev.ctxEvent
  dsimp only
  split
  · exact (d.setFlag f true).raiseVector_rootState _
  · rfl

theorem Dev.memWrite_rootState (d : Dev) (a : Nat) (l : List Byte) : (d.memWrite a l).rootState = d.rootState :=
  (congrArg Dev.rootState (Dev.memWrite_frame l d a)).trans rfl

/-! ### The safe state of the channels (07 R231) -/

theorem Dev.cutPulse_rootState (d : Dev) (c t : Nat) : (d.cutPulse c t).rootState = d.rootState := by
  unfold Dev.cutPulse
  split <;> rfl

theorem Dev.noteOff_rootState (d : Dev) (c t : Nat) : (d.noteOff c t).rootState = d.rootState := by
  unfold Dev.noteOff
  split <;> rfl

theorem Dev.stageOff_rootState (d : Dev) (c t : Nat) : (d.stageOff c t).rootState = d.rootState := by
  unfold Dev.stageOff
  dsimp only
  split
  · exact d.noteOff_rootState c t
  · rfl

theorem Dev.returnBooking_rootState (d : Dev) (c : Nat) : (d.returnBooking c).rootState = d.rootState := by
  unfold Dev.returnBooking
  split <;> rfl

theorem Dev.freeOldHalf_rootState (d : Dev) (b : Nat) : (d.freeOldHalf b).rootState = d.rootState := by
  unfold Dev.freeOldHalf
  split <;> rfl

theorem Dev.feederOffIfIdle_rootState (d : Dev) (c t : Nat) : (d.feederOffIfIdle c t).rootState = d.rootState := by
  unfold Dev.feederOffIfIdle
  split
  · split
    · rfl
    · exact d.stageOff_rootState _ t
  · rfl

theorem Dev.finishAt_rootState (d : Dev) (c t : Nat) : (d.finishAt c t).rootState = d.rootState := by
  unfold Dev.finishAt
  split
  · refine (Dev.feederOffIfIdle_rootState _ c t).trans ((Dev.freeOldHalf_rootState _ _).trans ?_)
    exact (Dev.stageOff_rootState _ c t).trans (d.returnBooking_rootState c)
  · rfl

theorem Dev.killProfile_rootState (d : Dev) (c : Nat) : (d.killProfile c).rootState = d.rootState := by
  unfold Dev.killProfile
  split
  · exact (Dev.ctxEvent_rootState ..).trans (d.finishAt_rootState c d.now)
  · rfl

theorem Dev.feederLost_rootState (d : Dev) (c : Nat) : (d.feederLost c).1.rootState = d.rootState := by
  unfold Dev.feederLost
  split
  · exact Dev.forAll_rootState (fun m e => e.killProfile_rootState m) d
  · rfl

theorem Dev.safeOneAt_rootState (t : Nat) (d : Dev) (c : Nat) : (Dev.safeOneAt t d c).1.rootState = d.rootState := by
  unfold Dev.safeOneAt
  refine (Dev.feederLost_rootState _ c).trans ((Dev.stageOff_rootState _ c t).trans ((Dev.noteOff_rootState _ c t).trans ?_))
  have ended : ((d.cutPulse c t).killProfile c).rootState = d.rootState :=
    (Dev.killProfile_rootState _ c).trans (d.cutPulse_rootState c t)
  split
  · exact ended
  · exact ended

theorem Dev.forChans_rootState {f : Dev → Nat → Dev × Bool} (h : ∀ d c, (f d c).1.rootState = d.rootState) (d : Dev) (l : List Nat) :
    (d.forChans l f).1.rootState = d.rootState := by
  unfold Dev.forChans
  suffices ∀ p : Dev × Bool, (l.foldl (fun p c => ((f p.1 c).1, p.2 || (f p.1 c).2)) p).1.rootState = p.1.rootState from this (d, false)
  induction l with
  | nil => exact fun _ => rfl
  | cons c t ih => exact fun p => (ih _).trans (h p.1 c)

theorem Dev.safeBanks_rootState (d : Dev) (mask : Nat) : (d.safeBanks mask).1.rootState = d.rootState := by
  unfold Dev.safeBanks
  generalize (List.range 8).filter (fun b => mask.testBit b) = l
  suffices ∀ p : Dev × Nat, (l.foldl (fun p b =>
      ((p.1.safeBank b).1, if (p.1.safeBank b).2 then p.2 ||| bankMask b else p.2)) p).1.rootState = p.1.rootState from this (d, 0)
  induction l with
  | nil => exact fun _ => rfl
  | cons b t ih => exact fun p => (ih _).trans (Dev.forChans_rootState (fun e c => e.safeOneAt_rootState e.now c) p.1 _)

/-! ### The reactions to a line (17 R474 to R478) -/

theorem Dev.latchFault_rootState (d : Dev) (i : Nat) : (d.latchFault i).rootState = d.rootState := by
  cases clear : d.flag (fltBit (R.FLT_STATUS 0) i) with
  | true => simp [Dev.latchFault, clear]
  | false =>
    cases window : d.flag R.FLT_STATE_WINDOW with
    | false =>
      rw [Dev.latchFault_closed clear window]
      split
      · exact Dev.raiseVector_rootState ..
      · rfl
    | true =>
      have settled : (d.firstSettled i).rootState = d.rootState := by
        unfold Dev.firstSettled
        split <;> rfl
      rw [Dev.latchFault_open clear window]
      split
      · exact (Dev.raiseVector_rootState ..).trans settled
      · exact settled

theorem Dev.driveErrn_rootState (d : Dev) (low : Bool) : (d.driveErrn low).rootState = d.rootState := by
  unfold Dev.rootState
  rw [d.driveErrn_root, d.driveErrn_tampLock]

theorem Dev.errnLow_rootState (d : Dev) : d.errnLow.rootState = d.rootState := d.driveErrn_rootState true

theorem Dev.riseCore_rootState (d : Dev) (i banks : Nat) : (d.riseCore i banks).1.rootState = d.rootState := by
  unfold Dev.riseCore
  dsimp only
  have latched : (if d.reaction i % 4 = 0 then d else d.latchFault i).rootState = d.rootState := by
    split
    · rfl
    · exact d.latchFault_rootState i
  split
  · refine (Dev.errnLow_rootState _).trans ((Dev.safeBanks_rootState _ _).trans ?_)
    split <;> split <;> exact latched
  · refine (Dev.safeBanks_rootState _ _).trans ?_
    split <;> split <;> exact latched

theorem Dev.riseLoop_rootState (n : Nat) : ∀ (d : Dev) (i banks : Nat), (Dev.riseLoop n d i banks).rootState = d.rootState := by
  induction n with
  | zero => exact fun d i banks => d.riseCore_rootState i banks
  | succ n ih =>
    intro d i banks
    unfold Dev.riseLoop
    dsimp only
    split
    · exact d.riseCore_rootState i banks
    · exact (ih _ _ _).trans (d.riseCore_rootState i banks)

theorem Dev.raiseMore_rootState (d : Dev) (i banks : Nat) : (d.raiseMore i banks).rootState = d.rootState := by
  unfold Dev.raiseMore
  dsimp only
  split
  · split
    · rfl
    · exact Dev.safeBanks_rootState _ _
  · split
    · rfl
    · exact Dev.safeBanks_rootState _ _

theorem Dev.setLine_rootState (d : Dev) (i banks : Nat) : (d.setLine i banks).rootState = d.rootState := by
  unfold Dev.setLine
  dsimp only
  split
  · exact Dev.raiseMore_rootState ..
  · exact Dev.riseLoop_rootState ..

theorem Dev.raiseFault_rootState (d : Dev) (i banks : Nat) : (d.raiseFault i banks).rootState = d.rootState := by
  unfold Dev.raiseFault
  split
  · exact Dev.raiseMore_rootState ..
  · exact Dev.riseLoop_rootState ..

/-! ### Completions (02 R64 to R84) -/

theorem Dev.discardCpl_rootState (d : Dev) : d.discardCpl.rootState = d.rootState := Dev.raiseFault_rootState ..

theorem Dev.signalCq_rootState (d : Dev) (n : Nat) : (d.signalCq n).rootState = d.rootState := Dev.raiseVector_rootState ..

theorem Dev.writeCpl_rootState (d : Dev) (x : HeldCpl) : (d.writeCpl x).rootState = d.rootState := by
  unfold Dev.writeCpl
  have wrapped (c : Bool) (e : Dev) (f g : Fld) (i k : Nat) :
      (if c then (e.setFld f i).setFld g k else e.setFld f i).rootState = e.rootState := Dev.rootState_ite rfl rfl
  refine Dev.rootState_ite ((Dev.signalCq_rootState ..).trans ?_) ?_ <;>
    rw [Dev.setCq_rootState, wrapped, Dev.memWrite_rootState]

theorem Dev.complete_rootState (d : Dev) (ref : CplRef) (status detail source cflags : Nat) :
    (d.complete ref status detail source cflags).rootState = d.rootState := by
  unfold Dev.complete
  dsimp only
  split
  · exact Dev.discardCpl_rootState _
  · split
    · exact Dev.writeCpl_rootState _ _
    · split
      · rfl
      · exact Dev.discardCpl_rootState _

/-! ### The rest of the module at a tamper (18 R500, R501) -/

theorem Dev.abortKey_rootState (d : Dev) (a : AccDesc) : (d.abortKey a).rootState = d.rootState := by
  unfold Dev.abortKey
  refine (Dev.complete_rootState ..).trans ?_
  exact Dev.rootState_ite (d.memWrite_rootState _ _) rfl

theorem Dev.abortKeys_rootState (d : Dev) (nv : Nv) (inOp : Bool) : (d.abortKeys nv inOp).rootState = d.rootState := by
  unfold Dev.abortKeys
  split
  · exact Dev.abortKey_rootState ..
  · split
    · split
      · exact Dev.abortKey_rootState ..
      · rfl
    · rfl

theorem Dev.showTokens_rootState (d : Dev) : d.showTokens.rootState = d.rootState := rfl

theorem Dev.zeroSlots_rootState (d : Dev) : d.zeroSlots.rootState = d.rootState := by
  unfold Dev.zeroSlots
  have slots (e : Dev) (s : Nat) (b : Bool) : (if e.flag (R.KEY_SLOT_VALID s) then
      (e.setFlag (R.KEY_SLOT_VALID s) false).setFlag (R.KEY_SLOT_REVOKED s) b else e).rootState = e.rootState :=
    Dev.rootState_ite rfl rfl
  rw [Dev.showTokens_rootState, Dev.forAll_rootState (fun _ _ => Dev.setFlag_rootState ..), Dev.forAll_rootState (fun s e => slots e s _)]
  rfl

theorem Dev.accEvent_rootState (d : Dev) (f : Fld) : (d.accEvent f).rootState = d.rootState := Dev.event_rootState ..

theorem Dev.stopStream_rootState (d : Dev) (why : Nat) : (d.stopStream why).rootState = d.rootState := by
  unfold Dev.stopStream
  refine Dev.rootState_ite ((Dev.raiseFault_rootState ..).trans ?_) ?_ <;>
    simp only [Dev.accEvent_rootState, Dev.setFld_rootState, Dev.setFlag_rootState, Dev.withAcc_rootState]

theorem Dev.endSession_rootState (d : Dev) : d.endSession.rootState = d.rootState := rfl

theorem Dev.keyEvent_rootState (d : Dev) (f : Fld) : (d.keyEvent f).rootState = d.rootState := Dev.event_rootState ..

/-- What the module does at a tamper leaves PD0's root and lock as the monitor set them. -/
theorem Dev.runTamper_rootState (d : Dev) (nv : Nv) (inOp : Bool) : (d.runTamper nv inOp).rootState = d.rootState := by
  unfold Dev.runTamper
  split
  · have zeroed : (d.abortKeys nv inOp).zeroSlots.rootState = d.rootState :=
      (Dev.zeroSlots_rootState _).trans (d.abortKeys_rootState nv inOp)
    have ended : (if (d.abortKeys nv inOp).zeroSlots.acc.sess.isSome then (d.abortKeys nv inOp).zeroSlots.endSession
        else (d.abortKeys nv inOp).zeroSlots).rootState = d.rootState :=
      Dev.rootState_ite ((Dev.endSession_rootState _).trans zeroed) zeroed
    refine (Dev.setLine_rootState ..).trans ((Dev.keyEvent_rootState ..).trans ?_)
    exact Dev.rootState_ite ((Dev.stopStream_rootState _ 4).trans ended) ((Dev.withAcc_rootState ..).trans ended)
  · exact d.zeroSlots_rootState

/-- PD0 zeroes the root and locks the vault. -/
theorem Dev.lockTamper_locks (d : Dev) (src rtc : Nat) :
    (d.lockTamper src rtc).root.root = none ∧ (d.lockTamper src rtc).tampLock = true := by
  unfold Dev.lockTamper
  dsimp only
  split <;> exact ⟨rfl, rfl⟩

/-! ### The monitor's sources (18 R499) -/

/-- A source that acts locks the vault, and the rest of the module acts where the source is fresh. -/
theorem Dev.tamper_acts {d e : Dev} {m : Option Bool} {lids : BitVec 2} {vbat tj : BitVec 16} {rtc n : Nat}
    (seen : d.tampSources m lids vbat tj rtc = (n, e)) (acts : n ≠ 0) (nv : Nv) (b : Bool) :
    d.tamper nv m lids vbat tj rtc b =
      if ((e.setFld R.KEY_TAMP_STAT_NOW n).lockTamper n rtc).domOn 2 &&
          (!(e.setFld R.KEY_TAMP_STAT_NOW n).tampLock || decide (Nat.lor (d.fld R.KEY_TAMP_STAT_NOW) n ≠ d.fld R.KEY_TAMP_STAT_NOW)) then
        ((e.setFld R.KEY_TAMP_STAT_NOW n).lockTamper n rtc).runTamper nv b
      else (e.setFld R.KEY_TAMP_STAT_NOW n).lockTamper n rtc := by
  simp only [Dev.tamper, seen, acts, if_false]

theorem Dev.tamper_locks {d e : Dev} {m : Option Bool} {lids : BitVec 2} {vbat tj : BitVec 16} {rtc n : Nat}
    (seen : d.tampSources m lids vbat tj rtc = (n, e)) (acts : n ≠ 0) (nv : Nv) (b : Bool) :
    (d.tamper nv m lids vbat tj rtc b).root.root = none ∧ (d.tamper nv m lids vbat tj rtc b).tampLock = true := by
  have locked := (e.setFld R.KEY_TAMP_STAT_NOW n).lockTamper_locks n rtc
  have kept : (d.tamper nv m lids vbat tj rtc b).rootState = ((e.setFld R.KEY_TAMP_STAT_NOW n).lockTamper n rtc).rootState := by
    rw [Dev.tamper_acts seen acts]
    exact Dev.rootState_ite (Dev.runTamper_rootState _ nv b) rfl
  obtain ⟨root, lock⟩ := Prod.mk.inj kept
  rw [root, lock]
  exact locked

/-- Five conditions as the bits of a number. -/
theorem fiveBits_and (a b c v t : Bool) (en : Nat) (i : Nat) :
    (BitVec.ofNat 5 (a.toNat + 2 * b.toNat + 4 * c.toNat + 8 * v.toNat + 16 * t.toNat) &&& BitVec.ofNat 5 en).getLsbD i =
      ([a, b, c, v, t].getD i false && en.testBit i) := by
  rw [BitVec.getLsbD_and, BitVec.getLsbD_ofNat, BitVec.getLsbD_ofNat]
  by_cases h : i < 5
  · have bits : (a.toNat + 2 * b.toNat + 4 * c.toNat + 8 * v.toNat + 16 * t.toNat).testBit i = [a, b, c, v, t].getD i false := by
      interval_cases i <;> cases a <;> cases b <;> cases c <;> cases v <;> cases t <;> rfl
    simp [h, bits]
  · simp [h]

/-- A source that is enabled and in its condition is among those that the monitor sees. -/
theorem Dev.tampSources_sees {d : Dev} {m : Option Bool} {lids : BitVec 2} {vbat tj : BitVec 16} {rtc : Nat} (i : Nat)
    (enabled : (d.fld R.KEY_TAMP_CFG_EN).testBit i = true)
    (condition : [(d.meshSample m rtc).1, ((d.meshSample m rtc).2.lidSample 0 (lids.getLsbD 0) rtc).1,
      (((d.meshSample m rtc).2.lidSample 0 (lids.getLsbD 0) rtc).2.lidSample 1 (lids.getLsbD 1) rtc).1,
      !d.pwr.vaon && decide (vbat.toNat < 2200), decide (tj.toInt < -500 ∨ 1250 < tj.toInt)].getD i false = true) :
    (d.tampSources m lids vbat tj rtc).1 ≠ 0 := by
  intro none
  have bit := fiveBits_and (d.meshSample m rtc).1 ((d.meshSample m rtc).2.lidSample 0 (lids.getLsbD 0) rtc).1
    (((d.meshSample m rtc).2.lidSample 0 (lids.getLsbD 0) rtc).2.lidSample 1 (lids.getLsbD 1) rtc).1
    (!d.pwr.vaon && decide (vbat.toNat < 2200)) (decide (tj.toInt < -500 ∨ 1250 < tj.toInt)) (d.fld R.KEY_TAMP_CFG_EN) i
  rw [condition, enabled, BitVec.getLsbD, show BitVec.toNat _ = 0 from none] at bit
  simp at bit

theorem execTamper_supplied {d : Dev} (supply : (d.pwr.vaon || d.pwr.vbat) = true) (nv : Nv) (q : List Instr) (x : TampSense)
    (rtc : BitVec 48) (b : Bool) :
    exec (.tamper x rtc b) ⟨d, nv, q⟩ = .next ⟨d.tamper nv x.mesh x.lids x.vbat x.tj rtc.toNat b, nv, q⟩ := by
  change execTamper x rtc b ⟨d, nv, q⟩ = _
  simp only [execTamper, onDev, supply, if_true]

/-- A remask pass that is due: counted, or skipped while the random source has failed. -/
theorem becomes_remaskPass {d d' : Dev} (on : d.domOn 2 = true) (loaded : d.mt.loaded = true)
    (passed : d.mt.prev / msTicks 100 ≠ d.now / msTicks 100) (due : d.key.maskAt ≠ d.now / msTicks 100)
    (h : (let e := { d with key := { d.key with maskAt := d.now / msTicks 100 } }
      if e.flag R.KEY_STAT_TRNG_OK then e.count R.KEY_REMASK_CNT else e.keyEvent R.KEY_EVT_REMASK_SKIP) = d') :
    Becomes .remaskPass d d' :=
  becomes_of_onDev _ (fun s => (rfl : execRemaskPass s = _)) ((if_pos (by simp [on, loaded, passed, due])).trans h)

end Sys2Proof.Machine

section
open Sys2Proof Sys2Proof.Machine

/-- Settles O55: each event by its own condition; a tamper by what the monitor sees. -/
theorem vaultEventsComplete : Obligations.VaultEventsComplete := by
  refine ⟨fun d on loaded passed due => ⟨fun ok => ?_, fun failed => ?_⟩, fun d on ok => ?_, fun d on failed due => ?_,
    fun d e nv q m lids vbat tj rtc b n supply seen => ⟨fun quiet => ?_, fun acts off => ?_, fun acts on fresh => ?_⟩⟩
  · exact becomes_remaskPass on loaded passed due (if_pos ok)
  · exact becomes_remaskPass on loaded passed due (if_neg (Bool.eq_false_iff.mp failed))
  · exact becomes_of_onDev _ (fun s => (rfl : execTrngFail s = _)) (if_pos (by rw [on, ok]; rfl))
  · have waited : (d.key.trngAt.all fun t => decide (t ≤ d.now)) = true := by
      simpa [Option.all_eq_true] using due
    exact becomes_of_onDev _ (fun s => (rfl : execTrngStartupTest true s = _)) (if_pos (by rw [on, failed, waited]; rfl))
  · rw [execTamper_supplied supply]
    simp only [Dev.tamper, seen, quiet, if_true]
  · rw [execTamper_supplied supply, Dev.tamper_acts seen acts, if_neg (by rw [off]; exact Bool.false_ne_true)]
  · rw [execTamper_supplied supply, Dev.tamper_acts seen acts, if_pos (by rw [on, fresh]; rfl)]

/-- Settles O56: an enabled source in its condition is one that the monitor sees, and what follows the lock leaves it. -/
theorem tamperLocksTheVault : Obligations.TamperLocksTheVault := by
  intro d d' nv q m lids vbat tj rtc b supply en p l source ran
  rw [execTamper_supplied supply] at ran
  obtain rfl : d.tamper nv m lids vbat tj rtc.toNat b = d' := by simpa using ran
  refine Dev.tamper_locks rfl ?_ nv b
  rcases source with ⟨on, cond⟩ | ⟨on, cond⟩ | ⟨on, cond⟩ | ⟨on, vaon, low⟩ | ⟨on, cond⟩
  · exact Dev.tampSources_sees 0 on cond
  · exact Dev.tampSources_sees 1 on cond
  · exact Dev.tampSources_sees 2 on cond
  · exact Dev.tampSources_sees 3 on (by simp [vaon, low])
  · exact Dev.tampSources_sees 4 on (decide_eq_true cond)

end
end

section
/-! PROOFS (18). The vault's operations: each has the effect of its own function on the device of its turn. -/

namespace Sys2Proof.Machine

theorem writeClear_ok {data : List Byte} {kind usage : Nat} (header : keyHeader data = some (kind, usage))
    (len : keyLen kind + 8 = data.length) (a : AccDesc) (d : Dev) (nv : Nv) :
    writeClear data a d nv =
      let r := d.writeSlot nv (keySlot a.word) kind usage 0 none (data.drop 8) none
      (r.1.keyDone a St.ok 0, r.2) := by
  simp only [writeClear, header, len, ne_eq, not_true_eq_false, if_false]

theorem deriveKey_ok {data : List Byte} {kind usage : Nat} (header : keyHeader data = some (kind, usage)) (symmetric : kind ≠ 4)
    (a : AccDesc) (d : Dev) (nv : Nv) :
    deriveKey data a d nv = fillSlot 1 data kind usage
      (kdfOf (d.parentKey (keySlot a.word)) ((data.drop 8).take 16) (data.drop 24) (keyLen kind)) a d nv := by
  simp only [deriveKey, header, symmetric, if_false]

theorem unwrapKey_ok {data p : List Byte} {kind usage : Nat} {a : AccDesc} {d : Dev}
    (plain : unwrapOf (d.slotKey (keySlot a.word)) data = some p) (header : keyHeader p = some (kind, usage))
    (len : keyLen kind + 8 = p.length) (nv : Nv) :
    unwrapKey data a d nv = fillSlot 2 data kind usage (p.drop 8) a d nv := by
  simp only [unwrapKey, plain, header, len, ne_eq, not_true_eq_false, if_false]

theorem enrolToken_ok {data k : List Byte} {a : AccDesc} {d : Dev}
    (plain : (unwrapOf (d.slotKey (keySlot a.word)) (data.drop 8)).bind tokenKey = some k) (nv : Nv) :
    enrolToken data a d nv =
      (((d.setToken (keyAux a.word) (data.take 8) k).accEvent R.ACC_EVT_ENROLLED).keyDone a St.ok 0).appendRec nv
        (keyRecOf 3 a (keyAux a.word) data) := by
  simp only [enrolToken, plain]

/-- CODE_SET: the verifier is taken and recorded. -/
def codeSetKey (data : List Byte) (a : AccDesc) (d : Dev) (nv : Nv) : Dev × Nv :=
  (({ d with key := { d.key with verifier := some data } }).keyDone a St.ok 0).appendRec nv (keyRecOf 4 a 0 data)

/-- A command of the vault at its turn becomes the value of its function. -/
theorem exec_vaultTurn {c : Instr} {d e e' : Dev} {nv nv' : Nv} {q : List Instr} {op : Nat} {data : List Byte} {det : Option Bool}
    {a : AccDesc} {f : AccDesc → Dev → Nv → Dev × Nv} (hc : ∀ s, exec c s = runKey op data det f s)
    (turn : VaultTurn d nv op data det a e)
    (h : f a e nv = (e', nv')) : exec c ⟨d, nv, q⟩ = .next ⟨e', nv', q⟩ := by
  rw [hc, runKey_turn f q turn, h]

end Sys2Proof.Machine

section
open Sys2Proof Sys2Proof.Machine

/-- Settles O54: at its turn an operation runs its function; the four that read a key from their input read one. -/
theorem vaultOperationsComplete : Obligations.VaultOperationsComplete := by
  intro d e nv q data det a
  refine ⟨fun kind usage turn header len => ?_, fun kind usage turn header symmetric => ?_, fun p kind usage turn plain header len => ?_,
    fun turn => ?_, fun turn => ?_, fun turn => ?_, fun turn => ?_, fun turn => ?_, fun turn => ?_, fun turn => ?_, fun turn => ?_,
    fun turn => ?_, fun turn => ?_, fun turn => ⟨?_, rfl, rfl⟩, fun k turn plain => ?_, fun turn => ?_, fun turn => ?_⟩
  · exact exec_vaultTurn (fun _ => rfl) turn (writeClear_ok header len a e nv)
  · exact exec_vaultTurn (fun _ => rfl) turn (deriveKey_ok header symmetric a e nv)
  · exact exec_vaultTurn (fun _ => rfl) turn (unwrapKey_ok plain header len nv)
  · exact exec_vaultTurn (fun _ => rfl) turn (by rfl)
  · exact exec_vaultTurn (fun _ => rfl) turn (by rfl)
  · exact exec_vaultTurn (fun _ => rfl) turn (by rfl)
  · exact exec_vaultTurn (fun _ => rfl) turn (by rfl)
  · exact exec_vaultTurn (fun _ => rfl) turn (by rfl)
  · exact exec_vaultTurn (fun _ => rfl) turn (by rfl)
  · exact exec_vaultTurn (fun _ => rfl) turn (by rfl)
  · exact exec_vaultTurn (fun _ => rfl) turn (by rfl)
  · exact exec_vaultTurn (fun _ => rfl) turn (by rfl)
  · exact exec_vaultTurn (fun _ => rfl) turn (by rfl)
  · exact exec_vaultTurn (fun _ => rfl) turn (by rfl)
  · exact exec_vaultTurn (fun _ => rfl) turn (enrolToken_ok plain nv)
  · exact exec_vaultTurn (fun _ => rfl) turn (by rfl)
  · exact exec_vaultTurn (f := codeSetKey data) (fun _ => rfl) turn rfl

end
end

section
/-! PROOFS (18). The access unit and the release stream: each command at its own condition. -/

namespace Sys2Proof.Machine

/-! ### A register access in a domain that is on (01 R23, R24) -/

theorem becomes_of_access {c : Instr} {d d' : Dev} {off : Nat} {f : Dev → Dev} (k : Nat)
    (hc : ∀ s, exec c s = onDev s fun d => d.access off f) (on : d.domOn k = true) (dom : domOf off = k) (h : f d = d') :
    Becomes c d d' := becomes_of_onDev _ hc ((d.access_on off f (dom ▸ on)).trans h)

/-- A command that writes a register and may read the stores. -/
theorem exec_access {c : Instr} {d d' : Dev} {nv : Nv} {q : List Instr} {off : Nat} {f : Nv → Dev → Dev} (k : Nat)
    (hc : ∀ s, exec c s = onDev s fun d => d.access off (f s.nv)) (on : d.domOn k = true) (dom : domOf off = k) (h : f nv d = d') :
    exec c ⟨d, nv, q⟩ = .next ⟨d', nv, q⟩ := by
  rw [hc, ← h]
  exact congrArg (fun e => Host.Outcome.next (State.mk e nv q)) (d.access_on off (f nv) (dom ▸ on))

/-! ### The written word of ACC_CMD (18 R509, R514, R518) -/

theorem low3_bits {v : Word} {k : Word} (h : v &&& 7#32 = k) :
    v.getLsbD 0 = k.getLsbD 0 ∧ v.getLsbD 1 = k.getLsbD 1 ∧ v.getLsbD 2 = k.getLsbD 2 := by
  subst h
  refine ⟨?_, ?_, ?_⟩ <;> rw [BitVec.getLsbD_and, show BitVec.getLsbD 7#32 _ = true by decide, Bool.and_true]

theorem writeAccCmd_start {v : Word} (h : v &&& 7#32 = 1#32) (d : Dev) (nv : Nv) (reads : Option (List Byte)) :
    d.writeAccCmd nv v reads = d.startSession nv reads := by
  obtain ⟨b0, b1, b2⟩ := low3_bits h
  rw [Dev.writeAccCmd, b0, b1, b2]
  rfl

theorem writeAccCmd_code {v : Word} (h : v &&& 7#32 = 4#32) (d : Dev) (nv : Nv) (reads : Option (List Byte)) :
    d.writeAccCmd nv v reads = d.checkCode nv := by
  obtain ⟨b0, b1, b2⟩ := low3_bits h
  rw [Dev.writeAccCmd, b0, b1, b2]
  rfl

theorem writeAccCmd_stop {v : Word} (h : v &&& 7#32 = 2#32) {d : Dev} (runs : d.acc.next.isSome = true) (nv : Nv)
    (reads : Option (List Byte)) : d.writeAccCmd nv v reads = d.stopStream 1 := by
  obtain ⟨b0, b1, b2⟩ := low3_bits h
  rw [Dev.writeAccCmd, b0, b1, b2]
  change (if d.acc.next.isSome || d.acc.wait then d.stopStream 1 else d) = d.stopStream 1
  rw [runs]
  rfl

/-- A stream that is stopped by command: its record, and no fault. -/
theorem stopStream_command (d : Dev) :
    (d.stopStream 1).acc.next = none ∧ (d.stopStream 1).acc.wait = false ∧ (d.stopStream 1).flag R.ACC_STAT_STREAM = false ∧
      (d.stopStream 1).fld R.ACC_STAT_STOP_WHY = 1 := by
  have stopped : d.stopStream 1 = ((({ d with acc := { d.acc with next := none, wait := false } } : Dev).setFlag R.ACC_STAT_STREAM
      false).setFld R.ACC_STAT_STOP_WHY 1).accEvent R.ACC_EVT_STREAM_STOP := rfl
  have acc (e : Dev) : (e.accEvent R.ACC_EVT_STREAM_STOP).acc = e.acc := (congrArg Dev.acc (e.event_frame ..)).trans rfl
  rw [stopped]
  refine ⟨?_, ?_, ?_, ?_⟩
  · rw [acc]
    rfl
  · rw [acc]
    rfl
  · refine (Dev.flag_of_reg (Dev.reg_event_other _ _ _ _ (by decide))).trans ?_
    rw [Dev.flag_setFld_apart _ _ (by decide) (by decide), Dev.flag_setFlag_bit _ _ rfl (by decide)]
  · exact (Dev.fld_event_other _ _ _ _ (by decide)).trans (Dev.fld_setFld_same _ _ _ (by decide))

/-! ### Frames of a session (18 R509, 19 R529) -/

/-- A frame that the radio's RECV section passes is taken. -/
theorem radioTake_passes {d f : Dev} {nv : Nv} {r : List Byte} (passes : d.radioRun nv 3 (some r) = (true, f)) (g : Dev → Dev) :
    d.radioTake nv r g = g f := by
  simp only [Dev.radioTake, passes, if_true]

theorem option_any_le {o : Option Nat} {t n : Nat} (h : o = some t) (le : t ≤ n) : (o.any fun t => decide (t ≤ n)) = true := by
  simp [h, le]

/-- The record of a reservation is in flash, and no stream waits for it. -/
theorem exec_reservationWriteEnd {d : Dev} {r : Nat} (made : d.acc.resNew = some r) (free : ∀ j ∈ d.pwr.jobs, j.1 ≠ .reserve)
    (quiet : d.acc.wait = false) (nv : Nv) (q : List Instr) :
    exec .reservationWriteEnd ⟨d, nv, q⟩ =
      .next ⟨{ d with acc := { d.acc with res := r, resNew := none, wait := false } },
        nv.append { type := 7, target := 0, source := 0, seq := 0, input := leBytes 4 r }, q⟩ := by
  change execReservationWriteEnd ⟨d, nv, q⟩ = _
  have granted : (d.pwr.jobs.any fun j => j.1 == .reserve) = false := by
    simpa using free
  simp only [execReservationWriteEnd, made, granted, quiet, Bool.false_eq_true, if_false]

end Sys2Proof.Machine

section
open Sys2Proof Sys2Proof.Machine

/-- Settles O57: each command at its own condition, the written word of ACC_CMD by its bits. -/
theorem accessCommandsComplete : Obligations.AccessCommandsComplete := by
  refine ⟨fun d nv q v l on start => ?_, fun d nv q l on irq => ?_, fun d e f nv q x y i l r sess own open_ passes => ⟨?_, ?_⟩,
    fun d e f nv q x y tp r sess own open_ poll unsent half passes => ?_, fun d nv q x y tp tf sess open_ poll final sent half => ?_,
    fun d t auth due => ?_, fun d t lock due => ?_, fun d nv q v on code => ?_, fun d nv q v t on stop runs => ?_,
    fun d v on off up => ?_, fun d nv q t e m next due => ?_, fun d t next limit due => ?_,
    fun d nv q r made free quiet => exec_reservationWriteEnd made free quiet nv q⟩
  · exact exec_access (f := fun nv d => d.writeAccCmd nv v (some l)) 2 (fun _ => rfl) on (by decide) (writeAccCmd_start start d nv _)
  · change execTokIrq l ⟨d, nv, q⟩ = _
    simp only [execTokIrq, onDev, on, irq, Bool.and_self, if_true]
  · intro polled unsent
    change execResp i ⟨l, r⟩ ⟨d, nv, q⟩ = _
    simp only [execResp, onDev, sess, own, open_, polled, unsent, Bool.not_false, Bool.and_self, if_true, radioTake_passes passes]
  · intro sent
    change execReport i ⟨l, r⟩ ⟨d, nv, q⟩ = _
    simp only [execReport, onDev, sess, own, open_, sent, if_true, radioTake_passes passes]
  · change execFinalFrame r ⟨d, nv, q⟩ = _
    simp only [execFinalFrame, onDev, sess, own, open_, poll, unsent, Nat.not_lt.mpr half, decide_false, Bool.or_self,
      Bool.false_eq_true, if_false, passes, if_true]
  · change execSessionDecision ⟨d, nv, q⟩ = _
    simp only [execSessionDecision, onDev, sess, open_, poll, final, sent, half, decide_true, Bool.and_self, if_true]
  · exact becomes_of_onDev _ (fun s => (rfl : execAuthWindowExpiry s = _)) (if_pos (option_any_le auth due))
  · exact becomes_of_onDev _ (fun s => (rfl : execLockoutExpiry s = _)) (if_pos (option_any_le lock due))
  · exact exec_access (f := fun nv d => d.writeAccCmd nv v none) 2 (fun _ => rfl) on (by decide) (writeAccCmd_code code d nv _)
  · exact ⟨d.stopStream 1, exec_access (f := fun nv d => d.writeAccCmd nv v none) 2 (fun _ => rfl) on (by decide)
      (writeAccCmd_stop stop (runs ▸ rfl) nv _), stopStream_command d⟩
  · exact becomes_of_access (f := fun d => d.writeRelCfg v) 2 (fun _ => rfl) on (by decide) rfl
  · change execReleaseMessage e m ⟨d, nv, q⟩ = _
    simp only [execReleaseMessage, onDev, next, due, if_true]
  · exact becomes_of_onDev _ (fun s => (rfl : execRelToExpiry s = _)) (if_pos (by simp [next, limit, due]))

end
end

section
/-! PROOFS (19). Staging sessions: an injection into the credential's key fails a STAGING_OPEN whose credential was right. -/

namespace Sys2Proof.Machine

theorem leBytes_length (n : Nat) : ∀ x, (leBytes n x).length = n := by
  induction n with
  | zero => exact fun _ => rfl
  | succ n ih => exact fun x => congrArg (· + 1) (ih (x / 256))

theorem hashOf_length (l : List Byte) : (hashOf l).length = 32 := by
  simp [hashOf, digestBytes, beBytes, leBytes_length]

/-- The credential of a key and a nonce has 32 bytes (19 R532). -/
theorem hmacOf_length (k m : List Byte) : (hmacOf k m).length = 32 := hashOf_length _

/-- An OPEN whose credential fails once its slot has been used is refused. -/
theorem stgOpen_refused {d : Dev} {nv : Nv} {a : AccDesc} {cred : List Byte} (free : d.stg = none)
    (bad : (d.credSlot nv a).slotFits nv (byteOf a.word 5) [3] [3] = false) (slot : byteOf a.word 5 ≠ 0xFF) :
    d.stgOpen nv a cred = (((d.credSlot nv a).stgDone a St.notPermitted 0x05).newNonce, nv) := by
  simp only [Dev.stgOpen, free, Option.isSome_none, Dev.credOk, slot, bad, Bool.false_and, Bool.false_eq_true, if_false]

/-! ### An OPEN under an armed injection (17 R486) -/

/-- STAGING_OPEN with the credential of key slot 0. -/
def openSlot0 : AccDesc where
  ref := { id := 0, sq := 0, cq := 0, epoch := 0, notify := false, cookie := 0 }
  word := 0x100000070#256
  addr := 0

/-- A module whose slot 0 holds an HMAC key that may check, to which that descriptor is handed, with an injection armed into slot 0. -/
def Dev.injectedOpen : Dev :=
  let d : Dev := { State.reset.dev with hl := { State.reset.dev.hl with bme := true, handed := [openSlot0] } }
  let d := (((d.setFlag R.HL_LINK_UP true).setFlag (R.KEY_SLOT_VALID 0) true).setFld (R.KEY_SLOT_KIND 0) 3).setFld (R.KEY_SLOT_USAGE 0) 8
  (d.setFlag R.FLT_INJ_CFG_ARM true).setFld R.FLT_INJ_CFG_ARRAY 14

/-- The credential that the host gives. -/
def Dev.rightCredential (d : Dev) : List Byte := hmacOf (d.slotKey 0) d.nonceBytes

theorem injectedOpen_turn : StagingTurn Dev.injectedOpen 1 openSlot0 := ⟨by decide +kernel, by decide +kernel, by decide +kernel⟩

/-- The credential is right. -/
theorem injectedOpen_credOk :
    (Dev.injectedOpen.takeDesc openSlot0).credOk State.reset.nv (byteOf openSlot0.word 5)
      (Dev.injectedOpen.takeDesc openSlot0).rightCredential = true := by
  have slot : byteOf openSlot0.word 5 = 0 := by decide +kernel
  have fits : (Dev.injectedOpen.takeDesc openSlot0).slotFits State.reset.nv 0 [3] [3] = true := by decide +kernel
  simp only [Dev.credOk, slot, fits, Dev.rightCredential, Bool.true_and]
  exact beq_self_eq_true _

/-- The use of the slot meets the injection, and the key has no source to be redone from: the OPEN starts no session. -/
theorem injectedOpen_refused {cred : List Byte} (len : cred.length = 32) :
    ∃ d', exec (.stagingOpen cred) ⟨Dev.injectedOpen, State.reset.nv, []⟩ = .next ⟨d', State.reset.nv, []⟩ ∧ d'.stg = none := by
  have refused := stgOpen_refused (d := Dev.injectedOpen.takeDesc openSlot0) (nv := State.reset.nv) (a := openSlot0) (cred := cred)
    rfl (by decide +kernel) (by decide +kernel)
  have ran := runStaging_turn (fun w => if byteOf w 5 = 0xFF then 0 else 32) (fun a d nv => d.stgOpen nv a cred) State.reset.nv []
    injectedOpen_turn (.inr ⟨len.trans (by decide +kernel), by decide +kernel⟩)
  rw [refused] at ran
  exact ⟨_, ran, by decide +kernel⟩

end Sys2Proof.Machine

section
open Sys2Proof Sys2Proof.Machine

/-- Refutes O58: its clause on STAGING_OPEN takes a right credential for enough, and an injection into the credential's slot makes the
model refuse the OPEN. -/
theorem not_updateCommandsComplete : ¬ Obligations.UpdateCommandsComplete := by
  intro ⟨_, opens, _⟩
  have len : (Dev.injectedOpen.takeDesc openSlot0).rightCredential.length = 32 := hmacOf_length ..
  have claimed := opens Dev.injectedOpen State.reset.nv [] openSlot0 _ injectedOpen_turn (len.trans (by decide +kernel))
    (by decide +kernel) rfl injectedOpen_credOk
  obtain ⟨d', actual, none⟩ := injectedOpen_refused len
  dsimp only at claimed
  rw [actual] at claimed
  simp only [Host.Outcome.next.injEq, State.mk.injEq] at claimed
  obtain ⟨same, _⟩ := claimed
  have started : ((Dev.injectedOpen.takeDesc openSlot0).openSession State.reset.nv openSlot0).1.newNonce.stg.isSome = true := by
    decide +kernel
  rw [← same, none] at started
  contradiction

end
end

section
/-! PROOFS (11). What acts on an engine from outside: start, stop, mailbox, loads, the swap, the clusters' switches, the end of a wait, an
interrupt, a refetched line. -/

namespace Sys2Proof.Machine

/-! ### The window of the engines' registers (01 R23) -/

theorem engCtrl_dom : ∀ n : Fin 16, domOf (R.ENG_CTRL n) = engDom n := by decide
theorem engMbin_dom : ∀ n : Fin 16, domOf (R.ENG_MBIN n) = engDom n := by decide
theorem clCtrl_dom : ∀ k : Fin 2, domOf (R.ENG_CL_CTRL k) = 2 := by decide

theorem engStat_ne_ctrl (n : Nat) : R.ENG_STAT n ≠ R.ENG_CTRL n := by
  unfold R.ENG_STAT R.ENG_CTRL
  omega

theorem engEntry_ne_ctrl (n : Nat) : R.ENG_ENTRY n ≠ R.ENG_CTRL n := by
  unfold R.ENG_ENTRY R.ENG_CTRL
  omega

theorem low2_bits {v k : Word} (h : v &&& 3#32 = k) : v.getLsbD 0 = k.getLsbD 0 ∧ v.getLsbD 1 = k.getLsbD 1 := by
  subst h
  refine ⟨?_, ?_⟩ <;> rw [BitVec.getLsbD_and, show BitVec.getLsbD 3#32 _ = true by decide, Bool.and_true]

/-! ### A write of ENG_n_CTRL (11 R342, R343, R354) -/

/-- The options of a written word of ENG_n_CTRL. -/
def Dev.engOptions (d : Dev) (n : Nat) (v : Word) : Dev :=
  let e := (d.setFlag (R.ENG_CTRL_RSTK_TRAP n) (v.getLsbD 8)).setFlag (R.ENG_CTRL_WAKE_START n) (v.getLsbD 9)
  if v.getLsbD 10 then
    (if (d.engine n).fromFlash then (e.setAutoload n (some (d.engine n).imgAddr)).setFlag (R.ENG_CTRL_AUTOLOAD n) true else e)
  else (e.setAutoload n none).setFlag (R.ENG_CTRL_AUTOLOAD n) false

theorem Dev.engOptions_eng (d : Dev) (n : Nat) (v : Word) : (d.engOptions n v).eng.eng = d.eng.eng := by
  unfold Dev.engOptions
  dsimp only
  split
  · split <;> rfl
  · rfl

theorem Dev.engine_engOptions (d : Dev) (n : Nat) (v : Word) (k : Nat) : (d.engOptions n v).engine k = d.engine k := by
  unfold Dev.engine
  rw [d.engOptions_eng]

theorem Dev.engOptions_mem (d : Dev) (n : Nat) (v : Word) : (d.engOptions n v).mem = d.mem := by
  unfold Dev.engOptions
  dsimp only
  split
  · split <;> rfl
  · rfl

theorem Dev.engOptions_others (d : Dev) (n : Nat) (v : Word) : RegsBut [R.ENG_CTRL n] d (d.engOptions n v) := by
  have set : RegsBut [R.ENG_CTRL n] d
      ((d.setFlag (R.ENG_CTRL_RSTK_TRAP n) (v.getLsbD 8)).setFlag (R.ENG_CTRL_WAKE_START n) (v.getLsbD 9)) :=
    ((RegsBut.refl d).setFlag (by exact .head _)).setFlag (by exact .head _)
  unfold Dev.engOptions
  dsimp only
  split
  · split
    · exact (set.of_regs rfl).setFlag (by exact .head _)
    · exact set
  · exact (set.of_regs rfl).setFlag (by exact .head _)

/-- ENG_n_STAT, ENG_n_ENTRY and ENG_n_TRAP are no options. -/
theorem Dev.fld_engOptions (d : Dev) (n : Nat) (v : Word) {f : Fld} (h : f.off ≠ R.ENG_CTRL n) :
    (d.engOptions n v).fld f = d.fld f := (d.engOptions_others n v).fld f (by simpa using h)

theorem Dev.writeEngCtrl_start {d : Dev} {n : Nat} {v : Word} (start : v &&& 3#32 = 1#32) (stopped : d.engSt n = 0) :
    d.writeEngCtrl n v = (d.engOptions n v).startCmd n := by
  obtain ⟨b0, b1⟩ := low2_bits start
  simp only [Dev.writeEngCtrl, b0, stopped]
  rfl

theorem Dev.writeEngCtrl_stop {d : Dev} {n : Nat} {v : Word} (stop : v &&& 3#32 = 2#32) :
    d.writeEngCtrl n v = (d.engOptions n v).stopCmd n := by
  obtain ⟨b0, b1⟩ := low2_bits stop
  simp only [Dev.writeEngCtrl, b0, b1]
  rfl

/-! ### START and STOP (11 R342, R343) -/

/-- An engine as START leaves it. -/
def Eng.started (x : Eng) (addr : Nat) (evb : Word) (notBefore : Nat) : Eng :=
  { x with g := [], pc := addr, rc := 0, flags := 0, stk := [], sp := 0, rsd := 0, ien := 0, tcmp := 0xFFFFFFFFFFFFFFFF,
           tvec := x.htvec, ivec := x.hivec, evb := evb, rep := none, ld := none, wait := none, notBefore := notBefore, stopReq := false }

theorem Dev.startEng_eq (d : Dev) (n addr : Nat) (evb : Word) (t : Nat) :
    d.startEng n addr evb t = (d.setEngine n ((d.engine n).started addr evb t)).setEngSt n 1 := rfl

theorem Dev.startCmd_valid {d : Dev} {n : Nat} (stopped : d.engSt n = 0) (valid : d.flag (R.ENG_STAT_IMG_VALID n) = true) :
    d.startCmd n = d.startEng n (d.engEntry n false) (d.engine n).evb d.now := if_pos ⟨stopped, valid⟩

theorem Dev.stopCmd_waiting {d : Dev} {n : Nat} (waiting : d.engSt n = 2) : d.stopCmd n = d.stopEng n 0 1 0x0C :=
  if_pos (.inl waiting)

theorem Dev.engSt_setEngSt (d : Dev) (n : Nat) {k : Nat} (h : k < 8) : (d.setEngSt n k).engSt n = k :=
  (d.fld_setFld_same _ _ (by dsimp only [R.ENG_STAT_STATE]; omega)).trans (Nat.mod_eq_of_lt h)

/-- A stopped engine: its state and why. -/
theorem Dev.stopEng_shows (d : Dev) (n code : Nat) {why : Nat} (h : why < 8) :
    (d.stopEng n 0 why code).engSt n = 0 ∧ (d.stopEng n 0 why code).fld (R.ENG_STAT_STOP_WHY n) = why := by
  have trap : R.ENG_STAT n ≠ R.ENG_TRAP n := by
    unfold R.ENG_STAT R.ENG_TRAP
    omega
  refine ⟨(Dev.fld_setFld_off _ _ _ _ trap).trans ?_, (Dev.fld_setFld_off _ _ _ _ trap).trans ?_⟩
  · refine (Dev.fld_setFld_apart _ _ (R.ENG_STAT_STATE n) _ ?_ ?_).trans (Dev.engSt_setEngSt _ n (by omega))
    · dsimp only [R.ENG_STAT_STOP_WHY]; omega
    · dsimp only [R.ENG_STAT_STOP_WHY, R.ENG_STAT_STATE]; omega
  · exact (Dev.fld_setFld_same _ _ _ (by dsimp only [R.ENG_STAT_STOP_WHY]; omega)).trans (Nat.mod_eq_of_lt h)

/-- An engine as STOP leaves it. -/
def Eng.stopped (x : Eng) : Eng := { x.endLoad with rep := none, wait := none, stopReq := false }

theorem Dev.stopEng_eq (d : Dev) (n st why code : Nat) :
    d.stopEng n st why code = (((d.setEngine n (d.engine n).stopped).setEngSt n st).setFld (R.ENG_STAT_STOP_WHY n) why).setFld
      (R.ENG_TRAP_CAUSE n) code := rfl

theorem Dev.setEngine_regs {l : List Nat} {d e : Dev} (h : RegsBut l d e) (n : Nat) (x : Eng) : RegsBut l d (e.setEngine n x) :=
  h.of_regs rfl

theorem Dev.stopEng_others (d : Dev) (n why code : Nat) :
    RegsBut [R.ENG_STAT n, R.ENG_TRAP n] d (d.stopEng n 0 why code) := by
  rw [Dev.stopEng_eq]
  exact (((Dev.setEngine_regs (.refl d) n _).setFld (by exact .head _)).setFld (by exact .head _)).setFld
    (by exact .tail _ (.head _))

/-! ### Images, cluster power, lines -/

/-- A valid descriptor for an engine that is stopped begins its load. -/
theorem Dev.imageDesc_begins {d : Dev} {a : AccDesc} (valid : imgDescBad a.word d.now = none)
    (on : d.domOn (engDom (byteOf a.word 12)) = true) (mode : bitsOf a.word 12 2 ≠ 2) (stopped : d.engSt (byteOf a.word 12) = 0) :
    d.imageDesc a = d.beginLoad (byteOf a.word 12)
      { ref := some a.ref, mode := bitsOf a.word 12 2, flash := a.word.getLsbD 14, cancelOld := a.word.getLsbD 15,
        addr := descField a.word 4 8, old := byteOf a.word 13, gen := descField a.word 14 2, swapMt := descField a.word 16 8 } := by
  simp [Dev.imageDesc, valid, on, mode, stopped]

theorem Dev.writeClCtrl_on {d d' : Dev} {k : Nat} {v : Word} (word : v &&& 3#32 = 2#32) (off : d.pwr.on.getLsbD (4 + k) = false)
    (run : d.pwr.park = .run)
    (leave : d.decideLeave { bank := none, amount := 0, mw := 1300, start := d.now, us := 1000, safety := false, req := 4, owner := k } =
      (none, d')) :
    d.writeClCtrl k v = (if d'.pwr.on.getLsbD 3 then d' else d'.switchOn 3).switchOn (4 + k) := by
  obtain ⟨b0, b1⟩ := low2_bits word
  have idle : (d.pwr.on.getLsbD (4 + k) || d.pwr.park != .run) = false := by simp [off, run]
  rw [Dev.writeClCtrl, b0, b1, idle]
  simp only [leave]
  rfl

theorem Dev.writeClCtrl_off {d : Dev} {k : Nat} {v : Word} (word : v &&& 3#32 = 1#32) (on : d.pwr.on.getLsbD (4 + k) = true)
    (stopped : ∀ n ∈ clusterEngines k, d.engSt n = 0) (idle : d.domBusy (4 + k) = false) :
    d.writeClCtrl k v = d.switchOff (4 + k) := by
  obtain ⟨b0, b1⟩ := low2_bits word
  have free : (d.pwr.on.getLsbD (4 + k) && (clusterEngines k).all fun n => d.engSt n == 0) = true := by
    simpa [on] using stopped
  rw [Dev.writeClCtrl, b0, b1, free, idle]
  rfl

theorem Dev.injectDone_unarmed {d : Dev} {array : Nat} {sel : Option Nat} (h : d.injected array sel = false) :
    d.injectDone array sel = d := if_neg (by rw [h]; exact Bool.false_ne_true)

/-! ### Whether the link may master (02 R84) -/

/-- A vector leaves the link as it is. -/
theorem Dev.canMaster_raiseVector (d : Dev) (v : Nat) : (d.raiseVector v).canMaster = d.canMaster := by
  unfold Dev.raiseVector
  split
  · exact (congrArg Dev.canMaster (Dev.memWrite_frame _ d _)).trans rfl
  · rfl

/-- A register other than HL_LINK leaves the link as it is. -/
theorem Dev.canMaster_setFld (d : Dev) {f : Fld} (x : Nat) (h : R.HL_LINK ≠ f.off) : (d.setFld f x).canMaster = d.canMaster := by
  unfold Dev.canMaster
  rw [Dev.flag_of_reg (e := d.setFld f x) (f := R.HL_LINK_UP) (d.reg_setFld_other f x h)]
  rfl

theorem Dev.canMaster_event (d : Dev) {evt : Nat} (bit ien vec : Nat) (h : R.HL_LINK ≠ evt) :
    (d.event evt bit ien vec).canMaster = d.canMaster := by
  unfold Dev.event
  dsimp only
  split
  · exact (Dev.canMaster_raiseVector ..).trans (d.canMaster_setFld _ h)
  · exact d.canMaster_setFld _ h

/-- A refetch counted and shown. -/
theorem Dev.canMaster_refetched (d : Dev) (n : Nat) :
    ((d.count (R.ENG_REFETCH_CNT n)).engEvent n (R.ENG_EVT_REFETCH n)).canMaster = d.canMaster :=
  (Dev.canMaster_event _ _ _ _ (by unfold R.HL_LINK R.ENG_EVT; omega)).trans
    (d.canMaster_setFld _ (by dsimp only [R.HL_LINK, R.ENG_REFETCH_CNT]; omega))

end Sys2Proof.Machine

section
open Sys2Proof Sys2Proof.Machine

/-- Settles O44: START and STOP by the register rules of the options and of the stop; the others at their own conditions. -/
theorem engineControlCompletes : Obligations.EngineControlCompletes := by
  refine ⟨fun d n v on start stopped valid => ?_, fun d n v on stop waiting => ?_, fun d n v on => ?_,
    fun d a next valid on mode stopped => ?_, fun d nv q n ld l load loading first header whole read => ?_,
    fun d n ld load shadow due old => ?_, fun d d' k v on word off run leave => ?_, fun d k v on word run stopped idle => ?_,
    fun d n t wait waiting due real => ?_, fun d n k on lives open_ irq => ?_, fun d n l on runs pc sound sound2 host master => ?_⟩
  · have state : (d.engOptions n v).engSt n = 0 := (d.fld_engOptions n v (engStat_ne_ctrl n)).trans stopped
    have image : (d.engOptions n v).flag (R.ENG_STAT_IMG_VALID n) = true :=
      ((d.engOptions_others n v).flag _ (by simp [R.ENG_STAT_IMG_VALID, R.ENG_STAT, R.ENG_CTRL])).trans valid
    have entry : (d.engOptions n v).engEntry n false = 4 * d.fld (R.ENG_ENTRY_ADDR n) :=
      congrArg (4 * ·) (d.fld_engOptions n v (engEntry_ne_ctrl n))
    refine ⟨_, becomes_of_access (engDom n) (fun s => (rfl : execEngStart n v s = _)) on (engCtrl_dom n)
      ((Dev.writeEngCtrl_start start stopped).trans ((Dev.startCmd_valid state image).trans (Dev.startEng_eq ..))), ?_⟩
    have same : ((((d.engOptions n v).setEngine n (((d.engOptions n v).engine n).started ((d.engOptions n v).engEntry n false)
        ((d.engOptions n v).engine n).evb (d.engOptions n v).now)).setEngSt n 1).engine n) =
        (d.engine n).started (4 * d.fld (R.ENG_ENTRY_ADDR n)) (d.engine n).evb (d.engOptions n v).now := by
      rw [← entry, ← d.engine_engOptions n v n]
      exact Dev.engine_setEngine_same ..
    refine ⟨Dev.engSt_setEngSt _ n (by decide), by rw [same]; rfl, fun r => ?_, by rw [same]; rfl, by rw [same]; rfl, by rw [same]; rfl,
      by rw [same]; rfl, by rw [same]; rfl, by rw [same]; rfl, fun k hk => ?_, ?_, d.engOptions_mem n v⟩
    · rw [same]
      unfold Eng.gr
      split <;> rfl
    · exact (Dev.engine_setEngine_other _ _ hk).trans (d.engine_engOptions n v k)
    · exact (Dev.setEngine_regs ((d.engOptions_others n v).mono (by simp)) n _).setFld (by exact .tail _ (.head _))
  · have state : (d.engOptions n v).engSt n = 2 := (d.fld_engOptions n v (engStat_ne_ctrl n)).trans waiting
    obtain ⟨st, why⟩ := (d.engOptions n v).stopEng_shows n 0x0C (why := 1) (by decide)
    refine ⟨_, becomes_of_access (engDom n) (fun s => (rfl : execEngStop n v s = _)) on (engCtrl_dom n)
      ((Dev.writeEngCtrl_stop stop).trans (Dev.stopCmd_waiting state)), st, why, ?_, fun k hk => ?_, ?_, d.engOptions_mem n v⟩
    · exact congrArg Eng.wait ((congrArg (fun e : Dev => e.engine n) (Dev.stopEng_eq ..)).trans (Dev.engine_setEngine_same ..))
    · exact (Dev.engine_setEngine_other _ _ hk).trans (d.engine_engOptions n v k)
    · exact ((d.engOptions_others n v).mono (by simp)).trans (((d.engOptions n v).stopEng_others n 1 0x0C).mono (by simp))
  · refine ⟨_, becomes_of_access (engDom n) (fun s => (rfl : execMbinWrite n v s = _)) on (engMbin_dom n) rfl,
      Dev.reg_setReg_same .., ?_, Dev.setEngine_regs ((RegsBut.refl d).setReg (.head _)) n _, rfl⟩
    exact congrArg Eng.mbox (Dev.engine_setEngine_same ..)
  · refine becomes_of_onDev _ (fun s => (rfl : execEngineImageLoad s = _)) ?_
    rw [Dev.withDesc_next _ next]
    exact Dev.imageDesc_begins valid on mode stopped
  · change execImageLoadEnd n (some l) ⟨d, nv, q⟩ = _
    have reads : (ld.flash || (some l).isNone || d.canMaster) = true := by simpa using read
    simp only [execImageLoadEnd, onDev, load, loading, first, reads, header, ← whole, and_self, if_true]
  · refine becomes_of_onDev _ (fun s => (rfl : execEngineSwap n s = _)) ?_
    have boundary : d.engSt ld.old ≤ 2 ∧ (d.engSt ld.old = 1 → d.mayStop ld.old = true) := by
      rcases old with h | h | ⟨h, stops⟩ <;> simp_all
    simp only [load]
    exact if_pos ⟨shadow, due, boundary⟩
  · exact becomes_of_access 2 (fun s => (rfl : execClusterOn k v s = _)) on (clCtrl_dom k) (Dev.writeClCtrl_on word off run leave)
  · exact becomes_of_access 2 (fun s => (rfl : execClusterOff k v s = _)) on (clCtrl_dom k) (Dev.writeClCtrl_off word run stopped idle)
  · refine becomes_of_onDev _ (fun s => (rfl : execWaitmtExpiry n s = _)) ?_
    simp only [wait]
    exact if_pos ⟨waiting, due, real⟩
  · refine becomes_of_onDev _ (fun s => (rfl : execInterrupt n s = _)) ?_
    simp only [on, decide_eq_true lives, open_, irq, Bool.and_self, if_true]
  · refine ⟨_, rfl, ?_⟩
    intro nv q
    change execLineRefetch n .ok l ⟨d, nv, q⟩ = _
    simp only [execLineRefetch, onDev, on, runs, pc, sound2, host, master, Dev.injectDone_unarmed sound, Dev.canMaster_refetched,
      and_self, decide_true, Bool.and_self, Bool.or_true, if_true, Bool.false_eq_true, if_false]

end
end

section
/-! PROOFS (13). The frame switch: what brings frames in and out, and its other commands, each at its own condition. -/

namespace Sys2Proof.Machine

/-! ### The window of the switch's registers (01 R23) -/

theorem becomes_of_switchAccess {c : Instr} {d d' : Dev} {off : Nat} {f : Dev → Dev}
    (hc : ∀ s, exec c s = onDev s fun d => d.access off f) (window : off / 0x10000 = 0xA) (on : d.domOn 7 = true) (h : f d = d') :
    Becomes c d d' :=
  becomes_of_access 7 hc on (by simp only [domOf, window]) h

theorem swGclCtrl_window (p : Fin 8) : R.SW_P_GCL_CTRL p / 0x10000 = 0xA := by
  unfold R.SW_P_GCL_CTRL
  omega

theorem swTsPop_window (p : Fin 8) : R.SW_P_TS_POP p / 0x10000 = 0xA := by
  unfold R.SW_P_TS_POP
  omega

/-! ### A port of the switch -/

@[simp] theorem Dev.swPort_setSwPort_same (d : Dev) (p : Nat) (x : SwPort) : (d.setSwPort p x).swPort p = x := sparseGet_put_same ..

theorem RegsBut.setSwPort {l : List Nat} {d e : Dev} (h : RegsBut l d e) (p : Nat) (x : SwPort) : RegsBut l d (e.setSwPort p x) :=
  h.of_regs rfl

/-- A port that starts a whole, unmarked frame, before its stamp. -/
def Dev.portStarts (d : Dev) (p q : Nat) (e : SwElem) (f : SwFrame) : Dev :=
  let d' := d.setSwQueue p q (d.swQueue p q).tail
  d'.setSwPort p { d'.swPort p with
    tx := some { fid := f.id, start := d.now, fin := some (d.now + d.wireTicks p (8 + d.wireLen p f)), mark := e.mark,
                 cut := false, bad := false } }

theorem Dev.startEgress_starts {d : Dev} {p q : Nat} {e : SwElem} {f : SwFrame} (free : d.portFree p = true)
    (serve : d.serveQueue p = some (q, e, f)) (sound : d.injected 10 (some p) = false) (unmarked : e.mark = false) :
    d.startEgress p false = (d.portStarts p q e f).stampEgress p f := by
  simp only [Dev.startEgress, free, serve, sound, unmarked, Bool.or_self, Bool.false_eq_true, if_false, if_true]
  rw [Dev.portStarts, unmarked]

/-! ### Descriptors (13 R395, R398) -/

theorem Dev.postBuffer_posts {d : Dev} {a : AccDesc} (valid : rxBad a.word = none)
    (room : (d.sw.bufs.filter fun b => b.queue == bitsOf a.word 112 3).length < 1024) :
    d.postBuffer a = { d with sw := { d.sw with bufs := d.sw.bufs ++
      [{ ref := a.ref, addr := descField a.word 4 8, len := descField a.word 12 2, queue := bitsOf a.word 112 3 }] } } := by
  simp only [Dev.postBuffer, valid, if_neg (Nat.not_le.mpr room)]

/-! ### Gate lists (13 R393) -/

/-- The first start of the shadow list. -/
def Dev.swapStart (d : Dev) (p : Nat) : Nat :=
  let base := d.reg64 (R.SW_P_GCL_BASE_LO p) (R.SW_P_GCL_BASE_HI p)
  let cyc := 40 * max 1 (d.fld (R.SW_P_GCL_CYCLE_CYCLE p))
  base + (d.now + 8000 - base + (cyc - 1)) / cyc * cyc

/-- A written word of SW_Pp_GCL_CTRL, its swap aside. -/
def Dev.gclFields (d : Dev) (p : Nat) (v : Word) : Dev :=
  (d.setFlag (R.SW_P_GCL_CTRL_GCL_EN p) (v.getLsbD 0)).setFld (R.SW_P_GCL_CTRL_LEN p) ((R.SW_P_GCL_CTRL_LEN p).ext v)

/-- A swap is pending. -/
def Dev.gclPends (d : Dev) (p : Nat) : Dev :=
  (d.setSwPort p { d.swPort p with swap := some (d.swapStart p) }).setFlag (R.SW_P_STAT_SWAP_PEND p) true

theorem Dev.writeGclCtrl_swaps {d : Dev} {p : Nat} {v : Word} (free : (d.swPort p).swap = none) (swap : v.getLsbD 1 = true) :
    d.writeGclCtrl p v = (d.gclFields p v).gclPends p := by
  have none : ((d.setFlag (R.SW_P_GCL_CTRL_GCL_EN p) (v.getLsbD 0)).swPort p).swap.isSome = false := congrArg Option.isSome free
  simp only [Dev.writeGclCtrl, none, swap, Bool.false_eq_true, if_false, if_true]
  rfl

theorem Dev.gclFields_shows (d : Dev) (p : Nat) (v : Word) :
    (d.gclFields p v).flag (R.SW_P_GCL_CTRL_GCL_EN p) = v.getLsbD 0 ∧
      (d.gclFields p v).fld (R.SW_P_GCL_CTRL_LEN p) = (R.SW_P_GCL_CTRL_LEN p).ext v := by
  refine ⟨(Dev.flag_setFld_apart _ _ (Nat.le_of_ble_eq_true rfl) (.inr (Nat.le_of_ble_eq_true rfl))).trans
    (Dev.flag_setFlag_bit _ _ rfl (Nat.le_of_ble_eq_true rfl)), ?_⟩
  exact (Dev.fld_setFld_same _ _ _ (Nat.le_of_ble_eq_true rfl)).trans (Nat.mod_eq_of_lt (Fld.ext_lt _ _))

/-- SW_Pp_STAT and SW_Pp_GCL_CTRL are two registers. -/
theorem swGclCtrl_ne_stat (p : Nat) : R.SW_P_GCL_CTRL p ≠ R.SW_P_STAT p := by
  unfold R.SW_P_GCL_CTRL R.SW_P_STAT
  omega

theorem swStat_ne_evt (p : Nat) : R.SW_P_STAT p ≠ R.SW_P_EVT p := by
  unfold R.SW_P_STAT R.SW_P_EVT
  omega

/-- The port whose shadow list has become active, its gates aside. -/
def Dev.gclTaken (d : Dev) (p : Nat) : SwPort :=
  { d.swPort p with swap := none, len := d.fld (R.SW_P_GCL_CTRL_LEN p), cycle := d.fld (R.SW_P_GCL_CYCLE_CYCLE p),
                    base := d.reg64 (R.SW_P_GCL_BASE_LO p) (R.SW_P_GCL_BASE_HI p) }

/-- The shadow list has become active. -/
def Dev.gclSwapped (d : Dev) (p : Nat) : Dev :=
  let d := d.setSwPort p (d.gclTaken p)
  let d := d.setFld (R.SW_P_STAT_LIST p) (1 - d.fld (R.SW_P_STAT_LIST p))
  ((d.setFlag (R.SW_P_STAT_GCL_ACTIVE p) true).setFlag (R.SW_P_STAT_SWAP_PEND p) false).setFlag (R.SW_P_EVT_GCL_SWAPPED p) true

theorem Dev.gclSwapped_shows (d : Dev) (p : Nat) :
    (d.gclSwapped p).flag (R.SW_P_STAT_GCL_ACTIVE p) = true ∧ (d.gclSwapped p).flag (R.SW_P_STAT_SWAP_PEND p) = false ∧
      (d.gclSwapped p).flag (R.SW_P_EVT_GCL_SWAPPED p) = true := by
  refine ⟨?_, ?_, Dev.flag_setFlag_bit _ _ rfl (Nat.le_of_ble_eq_true rfl)⟩
  · refine (Dev.flag_setFlag_off _ _ _ _ (swStat_ne_evt p)).trans ?_
    exact (Dev.flag_setFlag_bits _ _ (by decide) (by decide)).trans (Dev.flag_setFlag_bit _ _ rfl (Nat.le_of_ble_eq_true rfl))
  · exact (Dev.flag_setFlag_off _ _ _ _ (swStat_ne_evt p)).trans (Dev.flag_setFlag_bit _ _ rfl (Nat.le_of_ble_eq_true rfl))

theorem Dev.gclSwapped_others (d : Dev) (p : Nat) : RegsBut [R.SW_P_STAT p, R.SW_P_EVT p] d (d.gclSwapped p) :=
  (((((RegsBut.refl d).setSwPort p _).setFld (by exact .head _)).setFlag (by exact .head _)).setFlag (by exact .head _)).setFlag
    (by exact .tail _ (.head _))

theorem becomes_gclSwapStart {d : Dev} {p : Fin 8} {t : Nat} (swap : (d.swPort p).swap = some t) (due : t ≤ d.now) :
    Becomes (.gclSwapStart p) d
      ((d.gclSwapped p).setSwPort p { d.gclTaken p with gates := (d.gclSwapped p).gateMask p (d.gclSwapped p).now }) := by
  refine becomes_of_onDev _ (fun s => (rfl : execGclSwapStart p s = _)) ?_
  have port : (d.gclSwapped p).swPort p = d.gclTaken p := Dev.swPort_setSwPort_same d p _
  rw [← port]
  simp only [swap, due, if_true]
  rfl

/-! ### MDIO (13 R375) -/

/-- An MDIO frame begins. -/
def Dev.mdioBegins (d : Dev) (v : Word) : Dev :=
  (d.setReg R.SW_MDIO_CMD ((v &&& 0x1FFF#32) ||| (d.reg R.SW_MDIO_CMD &&& 0x40000000#32))).setFlag R.SW_MDIO_CMD_BUSY true

theorem Dev.writeMdio_begins {d : Dev} {v : Word} (idle : d.flag R.SW_MDIO_CMD_BUSY = false) (go : v.getLsbD 31 = true) :
    d.writeMdio v = d.mdioBegins v := by
  simp only [Dev.writeMdio, idle, go, Bool.not_false, Bool.and_self, if_true]
  rfl

/-- An MDIO read frame ends with its word. -/
def Dev.mdioRead (d : Dev) (x : Nat) : Dev := (d.setFlag R.SW_MDIO_CMD_BUSY false).setFld R.SW_MDIO_DATA_DATA x

theorem becomes_mdioDone {d : Dev} (data : BitVec 16) (busy : d.flag R.SW_MDIO_CMD_BUSY = true) (read : 2 ≤ d.fld R.SW_MDIO_CMD_OP) :
    Becomes (.mdioDone data) d (d.mdioRead data.toNat) := by
  have op : 2 ≤ (d.setFlag R.SW_MDIO_CMD_BUSY false).fld R.SW_MDIO_CMD_OP := by
    rwa [Dev.setFlag, Dev.fld_setFld_apart _ _ _ _ (by decide) (by decide)]
  exact becomes_of_onDev _ (fun s => (rfl : execMdioDone data s = _)) ((if_pos busy).trans (if_pos op))

end Sys2Proof.Machine

section
open Sys2Proof Sys2Proof.Machine

/-- Settles O45: each command by the case of its premises; the descriptors by what is taken of them. -/
theorem switchTrafficCompletes : Obligations.SwitchTrafficCompletes := by
  refine ⟨fun d p t l tab up en free len => ?_, fun d p l ok up en => ?_, fun d p q e f on eth free serve sound unmarked => ?_,
    fun d p det on => ⟨fun eth => ?_, fun host => ?_, fun engine => ?_⟩, fun d a data tab next valid master len => ?_,
    fun d a next valid room => ?_, fun d a recs next valid master len => ?_, fun d a next => ?_, fun d b met => ?_⟩
  · refine becomes_of_onDev _ (fun s => (rfl : execFrameIngress p (.head t l tab) s = _)) ?_
    simp only [up, en, free, len, Bool.and_self, Option.isNone_none, decide_true, if_true]
  · refine becomes_of_onDev _ (fun s => (rfl : execFrameIngress p (.tail l ok) s = _)) ?_
    simp only [up, en, Bool.and_self, if_true]
  · refine ⟨d.portStarts p q e f, ?_, rfl, rfl, _, congrArg SwPort.tx (Dev.swPort_setSwPort_same ..), rfl, rfl⟩
    refine becomes_of_onDev _ (fun s => (rfl : execFrameEgress p false false s = _)) ?_
    simp only [on, eth, if_true, Bool.false_eq_true, if_false]
    exact Dev.startEgress_starts free serve sound unmarked
  · refine becomes_of_onDev _ (fun s => (rfl : execFrameEgress p true det s = _)) ?_
    simp only [on, eth, if_true]
  · refine becomes_of_onDev _ (fun s => (rfl : execFrameEgress p false det s = _)) ?_
    simp [on, host]
  · refine becomes_of_onDev _ (fun s => (rfl : execFrameEgress p false det s = _)) ?_
    simp [on, engine]
  · refine becomes_of_onDev _ (fun s => (rfl : execFrameTransmit data tab s = _)) ?_
    simp only [next, valid, master, len, decide_true, Bool.and_self, if_true]
  · refine becomes_of_onDev _ (fun s => (rfl : execFrameReceiveBuffer s = _)) ?_
    rw [Dev.withDesc_next _ next]
    exact Dev.postBuffer_posts valid room
  · refine becomes_of_onDev _ (fun s => (rfl : execTableUpdate recs s = _)) ?_
    simp only [next, valid, master, len, decide_true, Bool.and_self, if_true]
  · exact becomes_of_onDev _ (fun s => (rfl : execDrainBarrier s = _)) (Dev.withDesc_next _ next)
  · refine becomes_of_onDev _ (fun s => (rfl : execBarrierMet s = _)) ?_
    simp only [met]

/-- Settles O46: each command by the case of its premises; the gate lists and MDIO by the registers that they write. -/
theorem switchCommandsComplete : Obligations.SwitchCommandsComplete := by
  refine ⟨fun d p on => ?_, fun d p v on free swap => ?_, fun d p t swap due => ?_, fun d p q e l queue old free => ?_,
    fun d h x held free old => ?_, fun d v on go free => ?_, fun d on en due => ?_, fun d p on up => ?_, fun d p sp on clock down speed => ?_,
    fun d v on idle go => ?_, fun d data busy read => ?_, fun d p v on pop => ?_⟩
  · exact becomes_of_onDev _ (fun s => (rfl : execGateEvent p s = _)) (if_pos on)
  · obtain ⟨en, len⟩ := d.gclFields_shows p v
    refine ⟨(d.gclFields p v).gclPends p, (d.gclFields p v).swapStart p,
      becomes_of_switchAccess (fun s => (rfl : execGclSwap p v s = _)) (swGclCtrl_window p) on (Dev.writeGclCtrl_swaps free swap),
      congrArg SwPort.swap (Dev.swPort_setSwPort_same ..), Dev.flag_setFlag_bit _ _ rfl (Nat.le_of_ble_eq_true rfl),
      (Dev.flag_setFlag_off _ _ _ _ (swGclCtrl_ne_stat p)).trans en, (Dev.fld_setFld_off _ _ _ _ (swGclCtrl_ne_stat p)).trans len, ?_, rfl⟩
    exact (((((RegsBut.refl d).setFlag (by exact .head _)).setFld (by exact .head _)).setSwPort p _).setFlag (by exact .tail _ (.head _)))
  · obtain ⟨active, pend, event⟩ := d.gclSwapped_shows p
    have port := Dev.swPort_setSwPort_same (d.gclSwapped p) p
      { d.gclTaken p with gates := (d.gclSwapped p).gateMask p (d.gclSwapped p).now }
    exact ⟨_, becomes_gclSwapStart swap due, congrArg SwPort.swap port, congrArg SwPort.len port, congrArg SwPort.base port, active, pend,
      event, (d.gclSwapped_others p).setSwPort p _, rfl⟩
  · refine becomes_of_onDev _ (fun s => (rfl : execAgeOut p q s = _)) ?_
    simp only [queue, old, free, decide_true, Bool.not_false, Bool.and_self, if_true]
  · refine becomes_of_onDev _ (fun s => (rfl : execHoldExpiry h s = _)) ?_
    simp only [held, free, old, decide_true, Bool.not_false, Bool.and_self, if_true]
  · refine becomes_of_switchAccess (fun s => (rfl : execHoldFree v s = _)) (by decide) on (if_pos ?_)
    rw [go, free]
    rfl
  · refine becomes_of_onDev _ (fun s => (rfl : execGleanerPass [] [] s = _)) ?_
    exact if_pos (by simp only [on, en, due, decide_true, Bool.and_self])
  · exact becomes_of_onDev _ (fun s => (rfl : execEthLinkDown p s = _)) (if_pos (by rw [on, up]; rfl))
  · refine becomes_of_onDev _ (fun s => (rfl : execEthLinkUp p sp s = _)) (if_pos ?_)
    rw [on, clock, down, speed, Bool.or_true]
    rfl
  · refine ⟨d.mdioBegins v, becomes_of_switchAccess (fun s => (rfl : execMdioGo v s = _)) (by decide) on (Dev.writeMdio_begins idle go),
      Dev.flag_setFlag_bit _ _ rfl (by decide), ?_, rfl⟩
    exact ((RegsBut.refl d).setReg (by decide)).setFlag (by decide)
  · refine ⟨d.mdioRead data.toNat, becomes_mdioDone data busy read, ?_, ?_, ?_, rfl⟩
    · exact (Dev.flag_of_reg (Dev.reg_setFld_other _ _ _ (by decide))).trans (Dev.flag_setFlag_bit _ _ rfl (by decide))
    · exact (Dev.fld_setFld_same _ _ _ (by decide)).trans (Nat.mod_eq_of_lt data.isLt)
    · exact ((RegsBut.refl d).setFlag (by decide)).setFld (by decide)
  · exact becomes_of_switchAccess (fun s => (rfl : execTsPop p v s = _)) (swTsPop_window p) on (if_pos pop)

end
end

section
/-! PROOFS (14). The CAN controllers: what a sent frame's error counting leaves alone, and the commands at their conditions. -/

namespace Sys2Proof.Machine

/-! ### Reading one bit of a register -/

theorem Fld.bit_ins_off_or_clear {f : Fld} {i : Nat} (v : Word) (x : Nat) (bits : f.lo + f.w ≤ 32)
    (clear : f.lo + f.w ≤ i ∨ i < f.lo ∨ x = 0) (was : v.getLsbD i = false) : (f.ins v x).getLsbD i = false := by
  rw [f.getLsbD_ins v x i bits]
  split
  · obtain above | below | zero := clear
    · omega
    · omega
    · rw [zero, Nat.zero_testBit]
  · exact was

theorem Fld.ext_none (f : Fld) : f.ext 0#32 = 0 := by
  unfold Fld.ext
  rw [BitVec.toNat_zero, Nat.zero_div, Nat.zero_mod]

/-! ### A controller without an attempt that no loop-back mode takes over (14 R412) -/

/-- Controller n of device e makes no attempt and is in neither of the modes 2 and 3, at the machine time of device d. -/
structure CanQuiet (n : Fin 16) (d e : Dev) : Prop where
  mt : e.mt = d.mt
  att : (e.canc n).att = none
  mode : (e.reg (R.CAN_STAT n)).getLsbD 1 = false

namespace CanQuiet

variable {n : Fin 16} {d e : Dev}

theorem of_same {g : Dev} (h : CanQuiet n d e) (mt : g.mt = e.mt) (can : g.can = e.can) (regs : g.regs = e.regs) : CanQuiet n d g where
  mt := mt.trans h.mt
  att := (congrArg (fun l => (sparseGet (fun _ => CanHid.init) l n.val).att) can).trans h.att
  mode := (congrArg (fun l => (sparseGet regReset l (R.CAN_STAT n)).getLsbD 1) regs).trans h.mode

theorem ite {c : Prop} [Decidable c] {g k : Dev} (yes : c → CanQuiet n d g) (no : ¬c → CanQuiet n d k) :
    CanQuiet n d (if c then g else k) := by
  split
  · exact yes ‹_›
  · exact no ‹_›

theorem foldl {α : Type} {f : Dev → α → Dev} (step : ∀ g a, CanQuiet n d g → CanQuiet n d (f g a)) (l : List α) :
    ∀ {g}, CanQuiet n d g → CanQuiet n d (l.foldl f g) := by
  induction l with
  | nil => exact id
  | cons a t ih => exact fun h => ih (step _ a h)

theorem forAll {f : Nat → Dev → Dev} (step : ∀ k g, CanQuiet n d g → CanQuiet n d (f k g)) (h : CanQuiet n d e) (l : List Nat) :
    CanQuiet n d (e.forAll l f) := foldl (fun g k => step k g) l h

theorem setCanc (h : CanQuiet n d e) (x : CanHid) (idle : x.att = none) : CanQuiet n d (e.setCanc n x) where
  mt := h.mt
  att := (congrArg CanHid.att (sparseGet_put_same ..)).trans idle
  mode := h.mode

/-! #### Registers -/

theorem setReg (h : CanQuiet n d e) {o : Nat} (v : Word) (apart : R.CAN_STAT n ≠ o) : CanQuiet n d (e.setReg o v) where
  mt := h.mt
  att := h.att
  mode := (congrArg (BitVec.getLsbD · 1) (e.reg_setReg_other v apart)).trans h.mode

theorem setFld (h : CanQuiet n d e) {f : Fld} (x : Nat) (apart : R.CAN_STAT n ≠ f.off) : CanQuiet n d (e.setFld f x) :=
  h.setReg _ apart

theorem setFldIf (h : CanQuiet n d e) {c : Prop} [Decidable c] {f : Fld} (x : Nat) (apart : R.CAN_STAT n ≠ f.off) :
    CanQuiet n d (if c then e.setFld f x else e) := ite (fun _ => h.setFld x apart) fun _ => h

theorem setFlag (h : CanQuiet n d e) {f : Fld} (b : Bool) (apart : R.CAN_STAT n ≠ f.off) : CanQuiet n d (e.setFlag f b) :=
  h.setReg _ apart

theorem setReg64 (h : CanQuiet n d e) {lo hi : Nat} (x : Nat) (low : R.CAN_STAT n ≠ lo) (high : R.CAN_STAT n ≠ hi) :
    CanQuiet n d (e.setReg64 lo hi x) := (h.setReg _ low).setReg _ high

theorem count (h : CanQuiet n d e) {o : Nat} (apart : R.CAN_STAT n ≠ o) : CanQuiet n d (e.count o) := h.setReg _ apart

/-- A field of any register, whatever its offset: another bit than 1, or cleared. -/
theorem setBits (h : CanQuiet n d e) {f : Fld} (x : Nat) (bits : f.lo + f.w ≤ 32) (clear : f.lo + f.w ≤ 1 ∨ 1 < f.lo ∨ x = 0) :
    CanQuiet n d (e.setFld f x) where
  mt := h.mt
  att := h.att
  mode := by
    by_cases here : R.CAN_STAT n = f.off
    · rw [Dev.setFld, here, Dev.reg_setReg_same]
      exact Fld.bit_ins_off_or_clear _ _ bits clear (here ▸ h.mode)
    · exact (h.setFld x here).mode

theorem clearFlag (h : CanQuiet n d e) {f : Fld} (bits : f.lo + f.w ≤ 32) : CanQuiet n d (e.setFlag f false) :=
  h.setBits 0 bits (.inr (.inr rfl))

theorem event (h : CanQuiet n d e) {evt : Nat} (bit ien vec : Nat) (apart : R.CAN_STAT n ≠ evt) :
    CanQuiet n d (e.event evt bit ien vec) := by
  rw [e.event_frame]
  exact (h.setFlag (f := ⟨evt, bit, 1⟩) true apart).of_same rfl rfl rfl

theorem raiseVector (h : CanQuiet n d e) (v : Nat) : CanQuiet n d (e.raiseVector v) := by
  rw [e.raiseVector_frame]
  exact h.of_same rfl rfl rfl

theorem memWrite (h : CanQuiet n d e) (a : Nat) (l : List Byte) : CanQuiet n d (e.memWrite a l) := by
  rw [Dev.memWrite_frame]
  exact h.of_same rfl rfl rfl

theorem canEvent (h : CanQuiet n d e) (k : Nat) (f : Fld) : CanQuiet n d (e.canEvent k f) :=
  h.event _ _ _ (by unfold R.CAN_STAT R.CAN_EVT; omega)

/-! #### The safe state of the channels (07 R231) -/

theorem cutPulse (h : CanQuiet n d e) (c t : Nat) : CanQuiet n d (e.cutPulse c t) := by
  unfold Dev.cutPulse
  split
  · refine CanQuiet.of_same (e := (e.setChan c _).setFlag (R.CH_STAT_PULSE c) false) (clearFlag ?_ (Nat.le_of_ble_eq_true rfl)) rfl rfl rfl
    exact h.of_same rfl rfl rfl
  · exact h

theorem noteOff (h : CanQuiet n d e) (c t : Nat) : CanQuiet n d (e.noteOff c t) := by
  unfold Dev.noteOff
  split
  · exact h.of_same rfl rfl rfl
  · exact h

theorem stageOff (h : CanQuiet n d e) (c t : Nat) : CanQuiet n d (e.stageOff c t) :=
  of_same (ite (fun _ => h.noteOff c t) fun _ => h) rfl rfl rfl

theorem freeOldHalf (h : CanQuiet n d e) (b : Nat) : CanQuiet n d (e.freeOldHalf b) :=
  ite (fun _ => h) fun _ => h.clearFlag (Nat.le_of_ble_eq_true rfl)

theorem feederOffIfIdle (h : CanQuiet n d e) (c t : Nat) : CanQuiet n d (e.feederOffIfIdle c t) := by
  unfold Dev.feederOffIfIdle
  split
  · exact ite (fun _ => h) fun _ => (h.stageOff _ t).clearFlag (Nat.le_of_ble_eq_true rfl)
  · exact h

theorem returnBooking (h : CanQuiet n d e) (c : Nat) : CanQuiet n d (e.returnBooking c) := by
  unfold Dev.returnBooking
  split
  · exact h.of_same rfl rfl rfl
  · exact h

theorem finishAt (h : CanQuiet n d e) (c t : Nat) : CanQuiet n d (e.finishAt c t) := by
  unfold Dev.finishAt
  refine ite (fun _ => ?_) fun _ => h
  refine of_same (e := (Dev.freeOldHalf _ (c / 16)).feederOffIfIdle c t) ?_ rfl rfl rfl
  refine (freeOldHalf ?_ _).feederOffIfIdle c t
  refine (stageOff ?_ c t).clearFlag (Nat.le_of_ble_eq_true rfl)
  refine setBits ?_ 0 (Nat.le_of_ble_eq_true rfl) (.inr (.inr rfl))
  refine ((clearFlag (f := R.PSQ_CH_STAT_RUN c) ?_ (Nat.le_of_ble_eq_true rfl)).clearFlag (f := R.PSQ_CH_STAT_PEAK_CLASS c)
    (Nat.le_of_ble_eq_true rfl)).clearFlag (Nat.le_of_ble_eq_true rfl)
  exact (h.returnBooking c).of_same rfl rfl rfl

theorem ctxKilled (h : CanQuiet n d e) (c : Nat) : CanQuiet n d (e.ctxEvent c (R.PSQ_CH_STAT_KILLED c)) := by
  unfold Dev.ctxEvent
  have killed := h.setBits (f := R.PSQ_CH_STAT_KILLED c) 1 (Nat.le_of_ble_eq_true rfl) (.inr (.inl (Nat.le_of_ble_eq_true rfl)))
  exact ite (fun _ => killed.raiseVector _) fun _ => killed

theorem killProfile (h : CanQuiet n d e) (c : Nat) : CanQuiet n d (e.killProfile c) :=
  ite (fun _ => (h.finishAt c _).ctxKilled c) fun _ => h

theorem feederLost (h : CanQuiet n d e) (c : Nat) : CanQuiet n d (e.feederLost c).1 := by
  unfold Dev.feederLost
  split
  · exact h.forAll (fun m _ g => g.killProfile m) _
  · exact h

theorem endRetry (h : CanQuiet n d e) (c : Nat) : CanQuiet n d (e.endRetry c) := by
  refine clearFlag (f := R.CH_STAT_RETRY_WAIT c) ?_ (Nat.le_of_ble_eq_true rfl)
  exact h.of_same rfl rfl rfl

theorem safeOneAt (h : CanQuiet n d e) (t c : Nat) : CanQuiet n d (Dev.safeOneAt t e c).1 := by
  unfold Dev.safeOneAt
  refine feederLost (setBits ?_ 1 (Nat.le_of_ble_eq_true rfl) (.inr (.inl (Nat.le_of_ble_eq_true rfl)))) c
  refine clearFlag ((noteOff ?_ c t).stageOff c t) (Nat.le_of_ble_eq_true rfl)
  have ended := (h.cutPulse c t).killProfile c
  exact ite (fun _ => ended) fun _ => ended.endRetry c

theorem safeBank (h : CanQuiet n d e) (b : Nat) : CanQuiet n d (e.safeBank b).1 := by
  unfold Dev.safeBank Dev.forChans
  suffices ∀ (l : List Nat) (p : Dev × Bool), CanQuiet n d p.1 →
      CanQuiet n d (l.foldl (fun p c => ((Dev.safeOne p.1 c).1, p.2 || (Dev.safeOne p.1 c).2)) p).1 from this _ (e, false) h
  intro l
  induction l with
  | nil => exact fun _ g => g
  | cons c t ih => exact fun p g => ih _ (g.safeOneAt _ c)

theorem safeBanks (h : CanQuiet n d e) (mask : Nat) : CanQuiet n d (e.safeBanks mask).1 := by
  unfold Dev.safeBanks
  suffices ∀ (l : List Nat) (p : Dev × Nat), CanQuiet n d p.1 →
      CanQuiet n d (l.foldl (fun p b => ((p.1.safeBank b).1, if (p.1.safeBank b).2 then p.2 ||| bankMask b else p.2)) p).1
    from this _ (e, 0) h
  intro l
  induction l with
  | nil => exact fun _ g => g
  | cons b t ih => exact fun p g => ih _ (g.safeBank b)

/-! #### The reactions to a fault (17 R474 to R478) -/

/-- The fault block stands above the controllers. -/
theorem canStat_below (n : Fin 16) {o : Nat} (h : 0xE0000 ≤ o) : R.CAN_STAT n ≠ o := by
  unfold R.CAN_STAT
  omega

theorem fltBit_above {base : Nat} (h : 0xE0000 ≤ base) (i : Nat) : 0xE0000 ≤ (fltBit base i).off := Nat.le_add_right_of_le h

theorem bankRec_above (i : Nat) : 0xE0000 ≤ (bankRec i).off := Nat.le_add_right_of_le (by decide)

theorem firstSettled (h : CanQuiet n d e) (i : Nat) : CanQuiet n d (e.firstSettled i) :=
  ite (fun _ => ((h.setFlag _ (canStat_below n (fltBit_above (by decide) _))).setFlag _ (canStat_below n (fltBit_above (by decide) i))).setFld
    _ (canStat_below n (by decide))) fun _ => h

theorem missed (h : CanQuiet n d e) : CanQuiet n d e.missed :=
  (h.setFlag _ (canStat_below n (by decide))).count (canStat_below n (by decide))

theorem firstLatched (h : CanQuiet n d e) (i : Nat) : CanQuiet n d (e.firstLatched i) := by
  have set := (h.setFlag true (canStat_below n (fltBit_above (base := R.FLT_STATUS 0) (by decide) i))).setFlag (f := R.FLT_STATE_WINDOW) true
    (canStat_below n (by decide))
  have first := (set.setFld (f := R.FLT_FIRST_SRC) i (canStat_below n (by decide))).setFlag (f := R.FLT_FIRST_VALID) true
    (canStat_below n (by decide))
  exact (first.setReg64 _ (canStat_below n (by decide)) (canStat_below n (by decide))).count (canStat_below n (by decide))

theorem latchFault (h : CanQuiet n d e) (i : Nat) : CanQuiet n d (e.latchFault i) := by
  cases clear : e.flag (fltBit (R.FLT_STATUS 0) i) with
  | true => simpa [Dev.latchFault, clear] using h
  | false =>
    cases window : e.flag R.FLT_STATE_WINDOW with
    | false =>
      rw [Dev.latchFault_closed clear window]
      exact ite (fun _ => (h.firstLatched i).raiseVector _) fun _ => h.firstLatched i
    | true =>
      rw [Dev.latchFault_open clear window]
      exact ite (fun _ => (h.firstSettled i).missed.raiseVector _) fun _ => (h.firstSettled i).missed

theorem driveErrn (h : CanQuiet n d e) (low : Bool) : CanQuiet n d (e.driveErrn low) := by
  refine ite (fun _ => h) fun _ => setFlag ?_ _ (canStat_below n (by decide))
  exact h.of_same rfl rfl rfl

theorem errnLow (h : CanQuiet n d e) : CanQuiet n d e.errnLow :=
  have driven := ((h.driveErrn true).setFlag (f := R.FLT_STATE_ERRN_MIN) true (canStat_below n (by decide))).setFlag
    (f := R.FLT_ERRN_CFG_SW_LEVEL) false (canStat_below n (by decide))
  driven.of_same rfl rfl rfl

theorem bankRec (h : CanQuiet n d e) {c : Prop} [Decidable c] (i x : Nat) :
    CanQuiet n d (if c then e.setFld (Machine.bankRec i) x else e) := h.setFldIf x (canStat_below n (bankRec_above i))

theorem riseCore (h : CanQuiet n d e) (i banks : Nat) : CanQuiet n d (e.riseCore i banks).1 := by
  unfold Dev.riseCore
  dsimp only
  have latched := CanQuiet.bankRec (c := e.reaction i % 4 ≠ 0 ∧ 26 ≤ i ∧ i ≤ 43)
    (ite (c := e.reaction i % 4 = 0) (fun _ => h) fun _ => h.latchFault i) i
  refine ite (fun _ => errnLow (safeBanks (ite (fun _ => ?_) fun _ => latched _) _)) fun _ =>
    safeBanks (ite (fun _ => ?_) fun _ => latched _) _ <;>
  exact ((latched _).setFlag _ (canStat_below n (fltBit_above (by decide) i))).of_same rfl rfl rfl

theorem riseLoop (k : Nat) : ∀ {e : Dev} (i banks : Nat), CanQuiet n d e → CanQuiet n d (Dev.riseLoop k e i banks) := by
  induction k with
  | zero => exact fun i banks h => h.riseCore i banks
  | succ k ih =>
    intro e i banks h
    exact ite (fun _ => h.riseCore i banks) fun _ => ih _ _ ((h.riseCore i banks).of_same rfl rfl rfl)

theorem raiseMore (h : CanQuiet n d e) (i banks : Nat) : CanQuiet n d (e.raiseMore i banks) := by
  unfold Dev.raiseMore
  dsimp only
  refine ite (fun _ => h.bankRec i _) fun _ => safeBanks ?_ _
  exact (h.bankRec (c := e.reaction i % 4 ≠ 0 ∧ 26 ≤ i ∧ i ≤ 43) i _).of_same rfl rfl rfl

theorem raiseFault (h : CanQuiet n d e) (i banks : Nat) : CanQuiet n d (e.raiseFault i banks) :=
  have pulsed : CanQuiet n d (e.pulseLine i) := h.of_same rfl rfl rfl
  ite (fun _ => pulsed.raiseMore i banks) fun _ => riseLoop 8 i banks pulsed

/-! #### Completions and the outcomes of entries (02 R64 to R84, 04 R129) -/

theorem discardCpl (h : CanQuiet n d e) : CanQuiet n d e.discardCpl :=
  (h.count (by unfold R.CAN_STAT R.HL_CPL_DISCARD_CNT; omega)).raiseFault _ _

theorem canStat_ne_cqTail (n : Fin 16) (q : Nat) : R.CAN_STAT n ≠ R.HL_CQ_TAIL q := by
  unfold R.CAN_STAT R.HL_CQ_TAIL
  omega

theorem setCq (h : CanQuiet n d e) (q : Nat) (x : CqHid) : CanQuiet n d (e.setCq q x) := h.of_same rfl rfl rfl

theorem writeCpl (h : CanQuiet n d e) (x : HeldCpl) : CanQuiet n d (e.writeCpl x) := by
  unfold Dev.writeCpl
  dsimp only
  refine ite (fun _ => raiseVector (setCq (setCq ?_ ..) ..) _) fun _ => setCq ?_ .. <;>
  exact (setFld (h.memWrite ..) _ (canStat_ne_cqTail n _)).setFldIf _ (canStat_ne_cqTail n _)

theorem updatePend (h : CanQuiet n d e) (q : Nat) : CanQuiet n d (e.updatePend q) := by
  refine (h.setFld (f := R.HL_CQ_PEND_COUNT q) _ ?_).setFlag _ ?_
  · dsimp only [R.CAN_STAT, R.HL_CQ_PEND_COUNT, R.HL_CQ_PEND]
    omega
  · dsimp only [R.CAN_STAT, R.HL_CQ_STAT_FULL, R.HL_CQ_STAT]
    omega

theorem heldOverflow (h : CanQuiet n d e) (q : Nat) : CanQuiet n d (e.setFlag (R.HL_CQ_STAT_HELD_OVF q) true) :=
  h.setFlag true (by dsimp only [R.CAN_STAT, R.HL_CQ_STAT_HELD_OVF, R.HL_CQ_STAT]; omega)

theorem complete (h : CanQuiet n d e) (ref : CplRef) (status detail source cflags : Nat) :
    CanQuiet n d (e.complete ref status detail source cflags) := by
  have owed (l : List (Nat × Nat)) : CanQuiet n d { e with hl := { e.hl with outst := l } } := h.of_same rfl rfl rfl
  unfold Dev.complete
  dsimp only
  split
  · exact (owed _).discardCpl
  · split
    · exact (owed _).writeCpl _
    · split
      · refine updatePend ?_ _
        exact h.of_same rfl rfl rfl
      · exact ((owed _).heldOverflow _).discardCpl

theorem retireCheck (h : CanQuiet n d e) (k : Nat) : CanQuiet n d (e.retireCheck k) :=
  ite (fun _ => (h.setBits (f := R.ENG_STAT_STATE k) 0 (Nat.le_of_ble_eq_true rfl) (.inr (.inr rfl))).event _ _ _
    (by unfold R.CAN_STAT R.ENG_EVT; omega)) fun _ => h

theorem setEngine (h : CanQuiet n d e) (k : Nat) (x : Eng) : CanQuiet n d (e.setEngine k x) := h.of_same rfl rfl rfl

theorem popNotice (h : CanQuiet n d e) (k : Nat) : CanQuiet n d (e.popNotice k) := ite (fun _ => h) fun _ => h.setEngine ..

theorem pushNotice (h : CanQuiet n d e) (k : Nat) (x : Notice) : CanQuiet n d (e.pushNotice k x) :=
  ite (fun _ => ((h.setEngine ..).popNotice k).retireCheck k) fun _ => h.setEngine ..

theorem bndOutcome (h : CanQuiet n d e) (p status : Nat) : CanQuiet n d (e.bndOutcome p status) := by
  have point : R.CAN_STAT n ≠ R.BND_LP_STAT p := by
    unfold R.CAN_STAT R.BND_LP_STAT
    omega
  have last := h.setFld (f := R.BND_LP_STAT_LAST p) status point
  unfold Dev.bndOutcome
  refine ite (fun _ => (last.setFld _ point).count ?_) fun _ => count (setFld last _ point) ?_
  · unfold R.CAN_STAT R.BND_FIRED_CNT
    omega
  · unfold R.CAN_STAT R.BND_FAIL_CNT
    omega

theorem outcome (h : CanQuiet n d e) (x : Entry) (status detail : Nat) (failed : Bool) : CanQuiet n d (e.outcome x status detail failed) := by
  have dropped : CanQuiet n d (e.dropEntry x.ins) := h.of_same rfl rfl rfl
  unfold Dev.outcome Dev.report
  split
  · exact dropped.complete ..
  · exact dropped.pushNotice ..
  · exact dropped.bndOutcome ..
  · exact ite (fun _ => dropped) fun _ => dropped.canEvent ..

theorem finishCancel (h : CanQuiet n d e) (c : WaitCancel) : CanQuiet n d (e.finishCancel c) := by
  unfold Dev.finishCancel
  split <;> exact h.complete ..

theorem resolveCancel (h : CanQuiet n d e) (k m : Nat) (sent : Option Nat) : CanQuiet n d (e.resolveCancel k m sent) :=
  foldl (fun _ c g => g.finishCancel c) _ (h.of_same rfl rfl rfl)

/-! #### Withdrawals (14 R420) -/

theorem clearReq (h : CanQuiet n d e) (k m : Nat) : CanQuiet n d (e.clearReq k m) :=
  (h.clearFlag (Nat.mod_lt m (by decide))).clearFlag (Nat.mod_lt m (by decide))

theorem updateBarriers (h : CanQuiet n d e) (t : Nat) : CanQuiet n d (e.updateBarriers t) := h.of_same rfl rfl rfl

theorem settle (h : CanQuiet n d e) (fid t : Nat) : CanQuiet n d (e.settle fid t) := by
  have left (l : List SwFrame) : CanQuiet n d { e with sw := { e.sw with frames := l } } := h.of_same rfl rfl rfl
  unfold Dev.settle
  refine ite (fun _ => h) fun _ => ?_
  split
  · dsimp only
    split
    · split <;> exact updateBarriers ((left _).complete ..) t
    · exact (left _).updateBarriers t
  · exact h

theorem setSwQueue (h : CanQuiet n d e) (p q : Nat) (l : List SwElem) : CanQuiet n d (e.setSwQueue p q l) := h.of_same rfl rfl rfl

theorem dropCanHead (h : CanQuiet n d e) (k : Nat) : CanQuiet n d (e.dropCanHead k) := by
  unfold Dev.dropCanHead
  split
  · refine settle (count (h.setSwQueue ..) ?_) _ _
    unfold R.CAN_STAT R.SW_CAN_DROP_CNT
    omega
  · exact h

theorem withdrawFailed (h : CanQuiet n d e) (p : CanPend) : CanQuiet n d (e.withdrawCan n p .fail) := by
  have dropped : CanQuiet n d (e.dropPend n p) := h.setCanc _ h.att
  unfold Dev.withdrawCan
  cases p.src with
  | req m => exact (dropped.canEvent ..).clearReq n m
  | sched m x => exact ((dropped.canEvent ..).outcome ..).resolveCancel ..
  | ref x => exact dropped.outcome ..
  | sw q fid => exact dropped.dropCanHead n

theorem endAttempt (h : CanQuiet n d e) : e.endAttempt n = e := by
  unfold Dev.endAttempt
  rw [h.att]

theorem withdrawFrames (h : CanQuiet n d e) : CanQuiet n d (e.withdrawFrames n) := by
  unfold Dev.withdrawFrames
  rw [h.endAttempt]
  exact (foldl (fun _ p g => g.withdrawFailed p) _ h).dropCanHead n

theorem streamLost (h : CanQuiet n d e) (k : Nat) : CanQuiet n d (e.streamLost k) := by
  refine ite (fun _ => ?_) fun _ => h
  have stopped : CanQuiet n d { e with acc := { e.acc with next := none, wait := false } } := h.of_same rfl rfl rfl
  have told := ((stopped.setFlag (f := R.ACC_STAT_STREAM) false (canStat_below n (by decide))).setFld (f := R.ACC_STAT_STOP_WHY) 7
    (canStat_below n (by decide))).event (evt := R.ACC_EVT) R.ACC_EVT_STREAM_STOP.lo R.ACC_IEN R.ACC_VEC (canStat_below n (by decide))
  exact told.raiseFault _ _

/-! #### The error counters (14 R424) -/

theorem updateErr (h : CanQuiet n d e) (tec rec : Nat) : CanQuiet n d (e.updateErr n tec rec) := by
  have counters : R.CAN_STAT n ≠ R.CAN_ERRCNT n := by
    unfold R.CAN_STAT R.CAN_ERRCNT
    omega
  have counted := (h.setFld (f := R.CAN_ERRCNT_TEC n) (min tec 511) counters).setFld (f := R.CAN_ERRCNT_REC n) (min rec 255) counters
  have state (x : Nat) := counted.setBits (f := R.CAN_STAT_ERR_STATE n) x (Nat.le_of_ble_eq_true rfl)
    (.inr (.inl (Nat.le_of_ble_eq_true rfl)))
  unfold Dev.updateErr
  dsimp only
  refine ite (fun _ => counted) fun _ => ite (fun _ => ?_) fun _ => ite (fun _ => ite (fun _ => (state 1).canEvent ..) fun _ => state 1)
    fun _ => state 0
  have off := (((state 2).canEvent n (R.CAN_EVT_BUS_OFF n)).count (o := R.CAN_BUSOFF_CNT n)
    (by unfold R.CAN_STAT R.CAN_BUSOFF_CNT; omega)).clearFlag (f := R.CAN_STAT_SYNCED n) (Nat.le_of_ble_eq_true rfl)
  refine streamLost (raiseFault (withdrawFrames (off.setCanc _ ?_)) _ _) n
  exact off.att

/-- A quiet controller is not in mode 3. -/
theorem mode_ne_three (h : CanQuiet n d e) : e.canMode n ≠ 3 := by
  intro three
  have bit : (e.canMode n).testBit 1 = (e.reg (R.CAN_STAT n)).getLsbD 1 := (R.CAN_STAT_MODE_NOW n).testBit_ext _ 1
  rw [three, h.mode] at bit
  exact absurd bit (by decide)

end CanQuiet

/-! ### A frame sent (14 R415, R419, R424) -/

/-- The attempt of a sent frame ends: the frame leaves the controller and is counted. -/
def Dev.attemptSent (d : Dev) (n : Fin 16) (p : CanPend) (tdcv : BitVec 7) : Dev :=
  let d := (d.setCanc n { d.canc n with att := none }).setFlag (R.CAN_STAT_TX_ACTIVE n) false
  let d := (d.dropPend n p).count (R.CAN_TX_CNT n)
  if d.flag (R.CAN_CTRL_TDC_EN n) && p.frame.fdf then d.setFld (R.CAN_TDC_TDCV n) tdcv.toNat else d

/-- The error counters after a sent frame. -/
def Dev.sentCounts (d : Dev) (n : Fin 16) : Dev := d.updateErr n (d.fld (R.CAN_ERRCNT_TEC n) - 1) (d.fld (R.CAN_ERRCNT_REC n))

/-- What a sent frame leaves in its buffer. -/
def Dev.bufferSent (d : Dev) (n : Fin 16) (m sof : Nat) : Dev :=
  ((d.setReg (mbOff n m 3) (BitVec.ofNat 32 sof)).setFlag (mbBit (R.CAN_TXDONE_LO n) m) true).canEvent n (R.CAN_EVT_TXDONE n)

theorem mbOff_above (n : Fin 16) {m : Nat} (w : Nat) (h : m < 64) :
    0xB0200 + 0x1000 * n.val ≤ mbOff n m w ∧ mbOff n m w < 0xB1000 + 0x1000 * n.val + 4 * w := by
  unfold mbOff R.CAN_MB_W0 R.CAN_MBH_W0
  split <;> omega

theorem Dev.attemptSent_quiet {d : Dev} {n : Fin 16} (normal : d.canMode n = 1) (p : CanPend) (tdcv : BitVec 7) :
    CanQuiet n d (d.attemptSent n p tdcv) := by
  have mode : (d.reg (R.CAN_STAT n)).getLsbD 1 = false := by
    have bit : (d.canMode n).testBit 1 = (d.reg (R.CAN_STAT n)).getLsbD 1 := (R.CAN_STAT_MODE_NOW n).testBit_ext _ 1
    rw [← bit, normal]
    decide
  have ended : CanQuiet n d (d.setCanc n { d.canc n with att := none }) := ⟨rfl, congrArg CanHid.att (sparseGet_put_same ..), mode⟩
  have idle := ended.clearFlag (f := R.CAN_STAT_TX_ACTIVE n) (Nat.le_of_ble_eq_true rfl)
  refine CanQuiet.setFldIf (CanQuiet.count (idle.setCanc _ ?_) ?_) _ ?_
  · exact idle.att
  · unfold R.CAN_STAT R.CAN_TX_CNT
    omega
  · dsimp only [R.CAN_STAT, R.CAN_TDC_TDCV, R.CAN_TDC]
    omega

theorem CanQuiet.bufferSent {n : Fin 16} {d e : Dev} (h : CanQuiet n d e) {m : Nat} (sof : Nat) (buffer : m < 64) :
    CanQuiet n d (e.bufferSent n m sof) := by
  have above := mbOff_above n 3 buffer
  refine ((h.setReg _ ?_).setFlag _ ?_).canEvent n _
  · unfold R.CAN_STAT
    omega
  · dsimp only [R.CAN_STAT, mbBit, R.CAN_TXDONE_LO]
    omega

/-- What a sent frame leaves, its request aside. -/
theorem Dev.sent_quiet {d : Dev} {n : Fin 16} (normal : d.canMode n = 1) (p : CanPend) (tdcv : BitVec 7) {m : Nat} (sof : Nat)
    (buffer : m < 64) : CanQuiet n d (((d.attemptSent n p tdcv).sentCounts n).bufferSent n m sof) :=
  ((d.attemptSent_quiet normal p tdcv).updateErr _ _).bufferSent sof buffer

theorem Dev.bufferSent_stamp (d : Dev) (n : Fin 16) {m : Nat} (sof : Nat) (buffer : m < 64) :
    (d.bufferSent n m sof).reg (mbOff n m 3) = BitVec.ofNat 32 sof := by
  have above := mbOff_above n 3 buffer
  refine (Dev.reg_event_other _ _ _ _ ?_).trans ((Dev.reg_setFld_other _ _ _ ?_).trans (Dev.reg_setReg_same ..))
  · unfold R.CAN_EVT
    omega
  · dsimp only [mbBit, R.CAN_TXDONE_LO]
    omega

theorem becomes_canTxDone {d : Dev} {n : Fin 16} {p : CanPend} {t m : Nat} {b : Bool} (att : (d.canc n).att = some (p, t, b))
    (req : p.src = .req m) (buffer : m < 64) (normal : d.canMode n = 1) :
    Becomes (.canTxDone n 0) d ((((d.attemptSent n p 0).sentCounts n).bufferSent n m t).clearReq n m) := by
  have quiet := (Dev.sent_quiet normal p 0 t buffer).clearReq n m
  refine becomes_of_onDev _ (fun s => (rfl : execCanTxDone n 0 s = _)) ?_
  simp only [att, req, CanSrc.buffer]
  exact if_neg quiet.mode_ne_three

/-! ### Bus-off left (14 R424) -/

/-- A controller leaves bus-off, before its event. -/
def Dev.busJoined (d : Dev) (n : Fin 16) : Dev :=
  let e := d.setCanc n { d.canc n with recover := none }
  ((e.setReg (R.CAN_ERRCNT n) 0).setFld (R.CAN_STAT_ERR_STATE n) 0).setFlag (R.CAN_STAT_SYNCED n)
    (decide (d.canMode n = 1 ∨ d.canMode n = 2))

theorem Dev.busJoined_errcnt (d : Dev) (n : Fin 16) : (d.busJoined n).reg (R.CAN_ERRCNT n) = 0 := by
  have apart : R.CAN_ERRCNT n ≠ R.CAN_STAT n := by
    unfold R.CAN_ERRCNT R.CAN_STAT
    omega
  exact (Dev.reg_setFld_other _ _ _ apart).trans ((Dev.reg_setFld_other _ _ _ apart).trans (Dev.reg_setReg_same ..))

end Sys2Proof.Machine

section
open Sys2Proof Sys2Proof.Machine

/-- Settles O47: each command by the case of its premises; a sent frame by what its error counting leaves alone. -/
theorem canCommandsComplete : Obligations.CanCommandsComplete := by
  refine ⟨fun d n v rx on => ?_, fun d n m pend idle => ?_, fun d n f t det tab mode synced idle rec => ?_, fun d n hi v on => ⟨?_, ?_⟩,
    fun d n t p mode synced on idle stay winner => ?_, fun d n p t m b att req buffer normal => ?_, fun d n att => ?_,
    fun d n err mode on dom exempt idle phase => ?_, fun d n t recover off due => ?_, fun d n k v on pop => ?_,
    fun d n mode synced on due => ?_⟩
  · exact becomes_of_access 9 (fun s => (rfl : execCanModeWrite n v rx s = _)) on (by revert n; decide) rfl
  · refine becomes_of_onDev _ (fun s => (rfl : execModeDone n s = _)) ?_
    simp only [pend, idle, Option.isNone_none, if_true]
  · refine ⟨_, rfl, becomes_of_onDev _ (fun s => (rfl : execCanFrameReceive n (.frame f t det tab) s = _)) ?_⟩
    simp only [mode, synced, idle, Option.isNone_none, decide_true, Bool.and_self, if_true, if_neg (Nat.not_lt.mpr rec)]
  · exact becomes_of_access 9 (fun s => (rfl : execTxreq n hi v false s = _)) on (by revert n; decide) rfl
  · exact becomes_of_access 9 (fun s => (rfl : execTxcxl n hi v s = _)) on (by revert n; decide) rfl
  · refine becomes_of_onDev _ (fun s => (rfl : execCanSof n t s = _)) ?_
    simp only [mode, synced, on, idle, stay, winner, decide_true, Bool.not_false, Bool.and_self, Bool.true_or, Option.isNone_none, if_true]
  · exact ⟨_, becomes_canTxDone att req buffer normal, Dev.bufferSent_stamp _ n t buffer,
      (Dev.sent_quiet normal p 0 t buffer).mt, (Dev.sent_quiet normal p 0 t buffer).att⟩
  · exact becomes_of_onDev _ (fun s => (rfl : execArbitrationLoss n s = _)) (if_pos att)
  · refine becomes_of_onDev _ (fun s => (rfl : execCanError n err s = _)) ?_
    simp [mode, on, dom, exempt, idle, phase]
    rfl
  · refine ⟨d.busJoined n, ?_, ?_, ?_, ?_, ?_, ?_, rfl⟩
    · refine becomes_of_onDev _ (fun s => (rfl : execBusOffRecovery n s = _)) ?_
      simp only [recover, off, due, decide_true, Bool.and_self, if_true]
      rfl
    · exact (congrArg (R.CAN_ERRCNT_TEC n).ext (d.busJoined_errcnt n)).trans (Fld.ext_none _)
    · exact (congrArg (R.CAN_ERRCNT_REC n).ext (d.busJoined_errcnt n)).trans (Fld.ext_none _)
    · exact (Dev.fld_setFld_apart _ _ _ _ (Nat.le_of_ble_eq_true rfl) (.inr (Nat.le_of_ble_eq_true rfl))).trans
        (Dev.fld_setFld_same _ _ _ (Nat.le_of_ble_eq_true rfl))
    · exact congrArg CanHid.recover (sparseGet_put_same ..)
    · exact (((RegsBut.refl d).of_regs rfl).setReg (by exact .head _)).setFld (by exact .tail _ (.head _))
        |>.setFlag (by exact .tail _ (.head _))
  · exact becomes_of_access 9 (fun s => (rfl : execFifoPop n k v s = _)) on (by revert n k; decide) (if_pos pop)
  · refine becomes_of_onDev _ (fun s => (rfl : execBusIntegration n s = _)) (if_pos ?_)
    simp only [mode, synced, on, due, decide_true, Bool.not_false, Bool.and_self]

end
end

section
/-! PROOFS (15). The lighting unit: its commands, each at its own condition. -/

namespace Sys2Proof.Machine

/-! ### The word port and the frame descriptor (15 R438, R442) -/

theorem Dev.writeLtCmd_seal {d : Dev} {v : Word} (h : v &&& 3#32 = 1#32) : d.writeLtCmd v = d.doSeal := by
  have sealing : v.getLsbD 0 = true := getLsbD_of_masked h rfl
  have keeping : v.getLsbD 1 = false := getLsbD_of_masked h rfl
  simp only [Dev.writeLtCmd, sealing, keeping, if_true, Bool.false_eq_true, if_false]

theorem Dev.writeLtCmd_unseal {d : Dev} {v : Word} (h : v &&& 3#32 = 2#32) : d.writeLtCmd v = d.doUnseal := by
  have keeping : v.getLsbD 0 = false := getLsbD_of_masked h rfl
  have unsealing : v.getLsbD 1 = true := getLsbD_of_masked h rfl
  simp only [Dev.writeLtCmd, unsealing, keeping, if_true, Bool.false_eq_true, if_false]

theorem Dev.writeLtWdata_back {d : Dev} {v : Word} (front : d.flag R.LT_WADDR_FRONT = false) (opened : d.flag R.LT_STAT_SEALED = false) :
    d.writeLtWdata v = (d.setLt { d.lt with back := sparsePut (fun _ => 0) d.lt.back (d.fld R.LT_WADDR_ADDR) v }).setFld R.LT_WADDR_ADDR
      (d.fld R.LT_WADDR_ADDR + 1) := by
  simp only [Dev.writeLtWdata, front, opened, Bool.false_eq_true, if_false]

/-! ### Enable (15 R447) -/

theorem Dev.flag_writeLtCtrl_en (d : Dev) (v : Word) : (d.writeByCode R.LT_CTRL v).flag R.LT_CTRL_EN = v.getLsbD 0 :=
  d.flag_writeByCode_rw (off := R.LT_CTRL) v rfl rfl rfl rfl (by decide)

theorem Dev.writeLtCtrl_enables {d : Dev} {v : Word} (off : d.flag R.LT_CTRL_EN = false) (on : v.getLsbD 0 = true) :
    d.writeLtCtrl v = (d.writeByCode R.LT_CTRL v).startShift .zero d.now := by
  simp only [Dev.writeLtCtrl, off, d.flag_writeLtCtrl_en, on, Bool.not_false, Bool.and_self, if_true]
  rfl

/-! ### The page step (15 R437) -/

/-- A page is latched and counted, before the next shift. -/
def Dev.pageLatched (e : Dev) (p t : Nat) : Dev :=
  let d := (e.latchChain.setFld R.LT_STAT_PAGE p).count R.LT_STEP_CNT
  d.setLt { d.lt with pageAt := d.periodCount t, steps := d.lt.steps + 1 }

/-- The period start that ends the dwell of the latched page. -/
def Dev.dwellEnd (e : Dev) : Nat := max (e.periodStart (e.lt.pageAt + max 1 e.lt.per)) (e.firstStart e.lt.loadAt)

theorem Dev.pageStep_steps {d e : Dev} {p : Nat} (sync : d.syncGrid = e) (en : e.flag R.LT_CTRL_EN = true)
    (grid : e.lt.grid.isSome = true) (loaded : e.lt.loaded = some (.page p)) (run : e.flag R.LT_STAT_SUSPENDED = false)
    (due : e.dwellEnd ≤ e.now) : d.pageStep = (e.pageLatched p e.dwellEnd).nextShift e.dwellEnd := by
  unfold Dev.dwellEnd at due
  have gridded : e.lt.grid.isNone = false := by rw [← Option.not_isSome, grid]; rfl
  simp only [Dev.pageStep, sync, en, gridded, loaded, run, Nat.not_lt.mpr due, Bool.not_true, Bool.or_self, decide_false,
    Bool.false_eq_true, if_false]
  rfl

end Sys2Proof.Machine

section
open Sys2Proof Sys2Proof.Machine

/-- Settles O48: each command by the case of its premises. -/
theorem lightingCommandsComplete : Obligations.LightingCommandsComplete := by
  refine ⟨fun d v on => ⟨fun h => ?_, fun h => ?_⟩, fun d a data next master len => ?_, fun d v on front opened => ?_,
    fun d mk o c dets k t fin shift due => ?_, fun d p en grid loaded run due => ?_, fun d en mode ready due => ?_, fun d t up on => ?_,
    fun d v on off en => ?_, fun d f v on clr => ?_⟩
  · exact becomes_of_access 9 (fun s => (rfl : execLtSeal v s = _)) on (by decide) (Dev.writeLtCmd_seal h)
  · exact becomes_of_access 9 (fun s => (rfl : execLtUnseal v s = _)) on (by decide) (Dev.writeLtCmd_unseal h)
  · refine becomes_of_onDev _ (fun s => (rfl : execLightingFrame data s = _)) ?_
    simp only [next, master, len, decide_true, Bool.and_self, Bool.not_true, Bool.and_false, Bool.false_eq_true, if_false]
  · exact becomes_of_access 9 (fun s => (rfl : execLtWdataWrite v s = _)) on (by decide) (Dev.writeLtWdata_back front opened)
  · refine becomes_of_onDev _ (fun s => (rfl : execShiftEnd mk o c dets s = _)) ?_
    simp only [shift, due, if_true]
  · refine ⟨d.syncGrid.pageLatched p _, becomes_of_onDev _ (fun s => (rfl : execPageStep s = _)) ?_, rfl, rfl⟩
    exact Dev.pageStep_steps rfl en grid loaded run due
  · refine becomes_of_onDev _ (fun s => (rfl : execAutoFlip s = _)) (if_pos ?_)
    simp only [en, mode, ready, due, decide_true, Bool.and_self]
  · exact becomes_of_onDev _ (fun s => (rfl : execLsyncEdge t up s = _)) (if_pos on)
  · exact ⟨_, rfl, becomes_of_access 9 (fun s => (rfl : execLtEnable v s = _)) on (by decide) (Dev.writeLtCtrl_enables off en)⟩
  · exact becomes_of_access 9 (fun s => (rfl : execTripClr f v s = _)) on (by revert f; decide) (if_pos clr)

end
end

section
/-! PROOFS (16). Power and Fallow: the power block's commands, each at its own condition. -/

namespace Sys2Proof.Machine

/-! ### The wake inputs (08 R259, R260) -/

theorem find_strobe_none {act strobe : BitVec 16} (none : act &&& strobe = 0) :
    (List.range 16).find? (act &&& strobe).getLsbD = Option.none := by
  rw [none]
  decide

/-! ### The switches of the domains (16 R454, R455) -/

theorem Dev.forAll_congr {f g : Nat → Dev → Dev} {l : List Nat} (h : ∀ k ∈ l, ∀ d, f k d = g k d) (d : Dev) :
    d.forAll l f = d.forAll l g := by
  induction l generalizing d with
  | nil => rfl
  | cons k t ih =>
    refine (ih (fun j hj => h j (.tail _ hj)) (f k d)).trans ?_
    rw [h k (.head _) d]
    rfl

theorem Dev.writeDomCtrl_on (d : Dev) {v : Word} (only : ∀ k ∈ switchable, v.getLsbD (16 + k) = false) :
    d.writeDomCtrl v = d.forAll switchable fun k d => if v.getLsbD k then d.askOn k else d := by
  refine Dev.forAll_congr (fun k hk d => ?_) d
  rw [only k hk]
  cases v.getLsbD k <;> rfl

theorem Dev.writeDomCtrl_off (d : Dev) {v : Word} (only : ∀ k ∈ switchable, v.getLsbD k = false) :
    d.writeDomCtrl v = d.forAll switchable fun k d => if v.getLsbD (16 + k) then d.askOff k else d := by
  refine Dev.forAll_congr (fun k hk d => ?_) d
  rw [only k hk]
  cases v.getLsbD (16 + k) <;> rfl

/-! ### Supplies (16 R452) -/

/-- A main supply has failed: the domains are off, and the next POWER_GOOD of PD2 reports it. -/
def Dev.supplyLost (d : Dev) : Dev :=
  let e := (d.dropAll.pwrEvent R.PWR_EVT_SUPPLY).draw.2
  { e with pwr := { e.pwr with supply := true } }

/-! ### Bookings (16 R460) -/

theorem find_booking_none {d : Dev} {id : Nat} (own : ∀ c, c < 128 → (d.ctx c).booking ≠ some id) :
    (List.range 128).find? (fun c => ((d.endBooking id).ctx c).booking == some id) = none :=
  List.find?_eq_none.mpr fun c hc booked => own c (List.mem_range.mp hc) (beq_iff_eq.mp booked)

end Sys2Proof.Machine

section
open Sys2Proof Sys2Proof.Machine

/-- Settles O49: each command by the case of its premises. -/
theorem powerCommandsComplete : Obligations.PowerCommandsComplete := by
  refine ⟨fun d v on park run => ?_, fun d park idle => ?_, fun d park rec idle => ?_, fun d e src rtc pins vaon => ⟨fun acts => ?_,
    fun k i acts park pend => ?_⟩, fun d e lv rtc vaon park due land => ⟨fun quiet => ?_, fun w found => ?_⟩,
    fun d e n rtc dom act vaon park land => ?_, fun d v on only => ?_, fun d v on only => ?_, fun d k may => ?_,
    fun d nv q k us on good ready settled => ?_, fun d vaon main => ?_, fun d rtc vaon park pend => ?_, fun d pll => ?_, fun d supplied => ?_,
    fun d t on => ⟨fun short => ?_, fun long line => ?_⟩, fun d id k ended burst own => ?_, fun d vaon => ?_, fun d => ?_⟩
  · exact becomes_of_access _ (fun s => (rfl : execParkWrite v s = _)) on rfl rfl
  · refine becomes_of_onDev _ (fun s => (rfl : execFallowCloseOut s = _)) (if_pos ?_)
    rw [park, List.all_eq_true.mpr idle]
    rfl
  · refine becomes_of_onDev _ (fun s => (rfl : execFallowPowerDown s = _)) (if_pos ?_)
    rw [park, rec, List.all_eq_true.mpr idle]
    rfl
  · refine becomes_of_onDev _ (fun s => (rfl : execWake src ⟨rtc, pins⟩ s = _)) ?_
    simp only [vaon, acts, if_true]
  · refine becomes_of_onDev _ (fun s => (rfl : execWake src ⟨rtc, pins⟩ s = _)) ?_
    have waits : e.wakeWaits = true := by rw [Dev.wakeWaits, park, pend]; rfl
    simp only [vaon, acts, waits, pend, if_true, Bool.false_eq_true, if_false]
  · refine becomes_of_onDev _ (fun s => (rfl : execWakeStrobe lv rtc s = _)) ?_
    simp only [vaon, park, due, land, beq_self_eq_true, Bool.and_self, if_true]
    rw [find_strobe_none quiet]
  · refine becomes_of_onDev _ (fun s => (rfl : execWakeStrobe lv rtc s = _)) ?_
    simp only [vaon, park, due, land, beq_self_eq_true, Bool.and_self, if_true]
    rw [found]
  · refine becomes_of_onDev _ (fun s => (rfl : execCanWake ⟨n, dom⟩ rtc s = _)) ?_
    simp only [vaon, bne_iff_ne.mpr park, Bool.and_self, if_true, land]
  · exact becomes_of_access _ (fun s => (rfl : execDomainOn v s = _)) on rfl (d.writeDomCtrl_on only)
  · exact becomes_of_access _ (fun s => (rfl : execDomainOffRequest v s = _)) on rfl (d.writeDomCtrl_off only)
  · exact becomes_of_onDev _ (fun s => (rfl : execDomainSwitchOff k s = _)) (if_pos may)
  · have go : (d.pwr.on.getLsbD k && !d.pwr.good.getLsbD k && d.domReady k && d.refSettled k us.toNat) = true := by
      rw [on, good, ready, settled]
      rfl
    exact congrArg (fun e => Host.Outcome.next (State.mk e nv q)) (if_pos go)
  · refine ⟨d.supplyLost, (d.dropAll.pwrEvent R.PWR_EVT_SUPPLY).draw.1.toNat % 2 ^ 48,
      becomes_of_onDev _ (fun s => (rfl : execSupplyRestart s = _)) (if_pos ?_), rfl, rfl⟩
    rw [vaon, main]
    rfl
  · refine becomes_of_onDev _ (fun s => (rfl : execColdStart rtc s = _)) ?_
    simp only [vaon, if_true, park, pend, beq_self_eq_true, Bool.and_self]
  · exact becomes_of_onDev _ (fun s => (rfl : execPllLockLoss s = _)) (if_pos pll)
  · exact becomes_of_onDev _ (fun s => (rfl : execXtal32Start s = _)) (if_pos supplied)
  · refine becomes_of_onDev _ (fun s => (rfl : execTherm t s = _)) ((if_pos on).trans (if_neg ?_))
    rw [short]
    exact Bool.false_ne_true
  · refine becomes_of_onDev _ (fun s => (rfl : execTherm t s = _)) ((if_pos on).trans (if_pos ?_))
    rw [long, line]
    rfl
  · refine becomes_of_onDev _ (fun s => (rfl : execBookingEnd id s = _)) ?_
    simp only [ended, beq_iff_eq, if_neg burst, find_booking_none own]
  · exact becomes_of_onDev _ (fun s => (rfl : execVaonLoss s = _)) (if_pos vaon)
  · exact becomes_of_onDev _ (fun s => (rfl : execVbatLoss s = _)) rfl

end
end
